-- ==== Sys2Proof/Word.lean ====
section
/-! DEFINITION. The word types of the PXG-8192: 32-bit registers (R5) and bytes of memory. -/

namespace Sys2Proof

/-- A register word: every register access is 32 bits wide (R5). -/
abbrev Word := BitVec 32

/-- One byte of memory. -/
abbrev Byte := BitVec 8

/-- The low 32 bits of a number, as a register holds it. -/
def w32 (n : Nat) : Word := BitVec.ofNat 32 n

end Sys2Proof
end

