-- ==== Sys2Proof/Syntax.lean ====
section
/-! DEFINITION. The commands of the block: one constructor per row of the opcode table, with the row's operands. -/

namespace Sys2Proof

/-- The three register windows (BARs) of the host (R341, R353). -/
inductive Win where
  | operator
  | installer
  | maker
  deriving DecidableEq, Repr

/-- Which host command a command row carries out: its command queue 0–15, its TAG, the window it was written through. -/
structure CmdRef where
  q : Nat
  tag : Nat
  win : Win
  deriving DecidableEq, Repr

/-- The LDI frame bits as 768 bytes; byte `i` holds frame bits 8i to 8i + 7, first bit highest (R43, R44). -/
abbrev FrameBytes := List Nat

/-- Echo fields of CTX_OPEN and ECE_ATTACH (R103): KIND 0 LINE, 1 PACKET; RATE 0 8 kHz, 1 16 kHz, for PACKET only. -/
structure EchoFields where
  kind : Nat
  rate : Nat
  tlen : Nat
  bulk : Nat
  prof : Nat
  deriving DecidableEq, Repr

/-- What ECE_MODIFY changes (R102, R103): a field that is `none` is clear in the mask. -/
structure EchoChange where
  kind : Option Nat := none
  tlen : Option Nat := none
  bulk : Option Nat := none
  prof : Option Nat := none
  freeze : Option Bool := none
  bypass : Option Bool := none
  deriving DecidableEq, Repr

/-- Sage fields of CTX_OPEN and SAGE_ATTACH (R124): the profiles; RATE 0 8 kHz, 1 16 kHz, for packet contexts. -/
structure SageFields where
  prof0 : Nat
  prof1 : Nat
  rate : Nat
  deriving DecidableEq, Repr

/-- What SAGE_MODIFY changes (R124). -/
structure SageChange where
  prof0 : Option Nat := none
  prof1 : Option Nat := none
  mask0 : Option Nat := none
  mask1 : Option Nat := none
  deriving DecidableEq, Repr

/-- Fields of THYME_SET (R164). -/
structure JournalFields where
  on : Bool
  preset : Nat
  table : Nat
  depth : Nat
  enc : Bool
  deriving DecidableEq, Repr

/-- Fields of THYME_CODE (R167): DIR 0 encodes, 1 decodes; RATE 0 8 kHz, 1 16 kHz; lengths in bytes. -/
structure CoderFields where
  decode : Bool
  rate : Nat
  table : Nat
  inp : Nat
  inLen : Nat
  out : Nat
  outLen : Nat
  state : Nat
  start : Bool
  deriving DecidableEq, Repr

/-- Fields of CTX_OPEN (R129); 0xFFFF stands for "none" or "default" where the row says so. -/
structure OpenFields where
  id : Nat
  line : Nat
  home : Nat
  evq : Nat
  codec : Nat
  rxpt : Nat
  txpt : Nat
  nslot : Nat
  minLead : Nat
  maxLead : Nat
  bph : Nat
  pkph : Nat
  txph : Nat
  net : Bool
  vpt : Nat
  evPt : Nat
  cnPt : Nat
  evtMode : Nat
  srtp : Option Nat
  echo : Option EchoFields
  sage : Option SageFields
  deriving DecidableEq, Repr

/-- Fields of CTX_MODIFY (R129): a field that is `none` is clear in the field mask. -/
structure ModifyFields where
  codec : Option Nat := none
  rxpt : Option Nat := none
  nslot : Option Nat := none
  minLead : Option Nat := none
  maxLead : Option Nat := none
  pkph : Option Nat := none
  txph : Option Nat := none
  data : Option Bool := none
  evtMode : Option Nat := none
  latch : Option Nat := none
  flush : Bool := false
  deriving DecidableEq, Repr

/-- An SRTP master key for one direction (R241, R247): byte strings for MKI, key and salt. -/
structure SrtpKey where
  suite : Nat
  mkiLen : Nat
  mki : List Nat
  key : List Nat
  salt : List Nat
  roc : Nat
  ssrc : Option Nat
  deriving DecidableEq, Repr

/-- Fields of CTX_SET_TEMPLATE (R145, R247, R272). -/
structure TemplateFields where
  mac : Nat
  dstMac : Nat
  srcMac : Nat
  tags : List Nat
  v6 : Bool
  srcAddr : Nat
  dstAddr : Nat
  dscp : Nat
  ttl : Nat
  flow : Nat
  srcPort : Nat
  dstPort : Nat
  rtcpMux : Bool
  ssrc : Option Nat
  txTs : Option Nat
  seq : Option Nat
  rxKey : Option SrtpKey
  /-- A fault of the engine's check while it installs the key (R259). -/
  fault : Bool
  deriving DecidableEq, Repr

/-- Fields of NET_ENTRY_ADD (R286): ring 0–3, or none for DROP. -/
structure EntryFields where
  v6 : Bool
  addr : Nat
  port : Nat
  ring : Option Nat
  deriving DecidableEq, Repr

/-- A frame as it comes from the wire (R266, R283): its bytes from the destination address to the FCS, RS-FEC codewords
corrected and uncorrectable, and the time of its first bit in ns from the start of the frame in progress. -/
structure WireFrame where
  bytes : List Nat
  corr : Nat
  uncorr : Nat
  at_ : Int
  deriving DecidableEq, Repr

/-- What the check of a line read from a die finds (R299, R300): codewords corrected, 0–2, and an uncorrectable one. -/
structure LineErr where
  ce : Nat
  ue : Bool
  deriving DecidableEq, Repr

/-- A training sweep of a lane (R305): KIND 0 read delay, 1 write delay, 2 write Vref; which steps passed, lowest first. -/
structure Sweep where
  lane : Nat
  kind : Nat
  pass : List Bool
  deriving DecidableEq, Repr

/-- How an XIO access ends (R314). -/
inductive XioEnd where
  | ok (data : Word)
  | unsupported
  | abort
  | timeout
  deriving DecidableEq, Repr

/-- One command or event of the device; each is a row of the opcode table. -/
inductive Instr where
  /-- FRAME_TICK (R26). -/
  | frameTick
  /-- PPSOUT_FALL (R33). -/
  | ppsoutFall
  /-- PPSIN_EDGE (R33). -/
  | ppsinEdge (ph : Nat)
  /-- PPSIN_MISS (R33). -/
  | ppsinMiss
  /-- PTP_OFFSET_WRITE (R28). -/
  | ptpOffsetWrite (w : Win) (v : Word)
  /-- SOURCE_QUALIFY (R29). -/
  | sourceQualify (src : Nat)
  /-- SOURCE_LOST (R30). -/
  | sourceLost (src : Nat)
  /-- REVERTIVE_SELECT (R29). -/
  | revertiveSelect (src : Nat)
  /-- DPLL_LOCK (R30). -/
  | dpllLock
  /-- HO_QUAL_SET (R30). -/
  | hoQualSet
  /-- DPLL_STEP (R31): the phase error in ns that it removes, as PHASE_ERR shows it. -/
  | dpllStep (err : Int)
  /-- PTPT_SET_ARM (R32). -/
  | ptptSetArm (w : Win) (v : Word)
  /-- SYNC_CTRL_NOW (R34). -/
  | syncCtrlNow (w : Win) (v : Word)
  /-- AT_ARM (R35). -/
  | atArm (w : Win) (v : Word)
  /-- LSYNC_EDGE (R34). -/
  | lsyncEdge (ph : Nat)
  /-- DSYNCI_PULSE (R36): SCLK into the frame, width of 3 SCLK, and the alignment error in SCLK that follows. -/
  | dsynciPulse (ph : Nat) (wide : Bool) (err : Int)
  /-- DSYNC_ERR (R36). -/
  | dsyncErr
  /-- TIME_RST (R31). -/
  | timeRst (w : Win)
  /-- LDI_FRAME (R48). -/
  | ldiFrame (link ph : Nat) (bytes : FrameBytes)
  /-- LDO_FRAME_START (R45). -/
  | ldoFrameStart (link : Nat)
  /-- LINK_EN_SET (R46). -/
  | linkEnSet (w : Win) (link : Nat)
  /-- LINK_EN_CLEAR (R46). -/
  | linkEnClear (w : Win) (link : Nat)
  /-- TAP_SCAN_STEP (R46). -/
  | tapScanStep (link : Nat)
  /-- LINK_UP (R46). -/
  | linkUp (link : Nat)
  /-- CONFIRM_TIMEOUT (R46). -/
  | confirmTimeout (link : Nat)
  /-- CLK_LOSS (R47). -/
  | clkLoss (bank : Nat)
  /-- FS_ERR (R47). -/
  | fsErr (bank : Nat)
  /-- SYNC_LOSS (R47). -/
  | syncLoss (link : Nat)
  /-- CRC_LIMIT (R47). -/
  | crcLimit (link : Nat)
  /-- CLOCK_REGULAR_RETRAIN (R47). -/
  | clockRegularRetrain (bank : Nat)
  /-- NO_EYE_RETRY (R47). -/
  | noEyeRetry (link : Nat)
  /-- LNK_CTRL_RETRAIN (R46). -/
  | lnkCtrlRetrain (w : Win) (link : Nat) (v : Word)
  /-- TAP_MAN_WRITE (R46). -/
  | tapManWrite (w : Win) (link : Nat) (v : Word)
  /-- STATUS_DEBOUNCE (R51). -/
  | statusDebounce (line bit : Nat)
  /-- CADENCE_STEP (R402). -/
  | cadenceStep (line : Nat)
  /-- LINE_SET (R56). -/
  | lineSet (r : CmdRef) (line mode ilim ringSel polSoft testRly feOpt : Nat)
  /-- LINE_RING (R56). -/
  | lineRing (r : CmdRef) (line profile ringSel cycles : Nat)
  /-- LINE_RING_STOP (R402). -/
  | lineRingStop (r : CmdRef) (line : Nat)
  /-- LINK_MGMT_SEND (R56). -/
  | linkMgmtSend (r : CmdRef) (link len : Nat) (payload : List Nat)
  /-- LINK_RETRAIN (R56). -/
  | linkRetrain (r : CmdRef) (link : Nat) (fast : Bool)
  /-- LINK_RST (R364). -/
  | linkRst (w : Win) (bank : Nat)
  /-- LINE_ENABLE (R68). -/
  | lineEnable (w : Win) (line : Nat) (v : Word)
  /-- LINE_DISABLE (R68). -/
  | lineDisable (w : Win) (line : Nat)
  /-- LINE_SET_CHANGE (R68). -/
  | lineSetChange (w : Win) (line set : Nat)
  /-- LINE_PHASE_WRITE (R68). -/
  | linePhaseWrite (w : Win) (line phase : Nat)
  /-- LINE_BPH_WRITE (R68). -/
  | lineBphWrite (w : Win) (line bph : Nat)
  /-- LDC_LINK_SYNC (R34). -/
  | ldcLinkSync (w : Win) (bank mask : Nat)
  /-- LDC_BANK_SYNC (R34). -/
  | ldcBankSync (w : Win) (bank : Nat)
  /-- SWAP_REQUEST (R73). -/
  | swapRequest (w : Win) (bank set : Nat) (v : Word)
  /-- FADE_END (R73). -/
  | fadeEnd (bank set : Nat)
  /-- COEF_DATA_WRITE (R72). -/
  | coefDataWrite (w : Win) (bank : Nat) (v : Word)
  /-- COEF_DATA_READ (R72). -/
  | coefDataRead (w : Win) (bank : Nat)
  /-- LINE_MEAS (R75). -/
  | lineMeas (r : CmdRef) (line start len freq dest : Nat)
  /-- LINE_MEAS_DONE (R76). -/
  | lineMeasDone (line : Nat)
  /-- LDC_RST (R78). -/
  | ldcRst (w : Win) (bank : Nat)
  /-- ECE_SUBMIT (R81). -/
  | eceSubmit (g : Nat) (v : Word)
  /-- PACKET_BLOCK_DONE (R81). -/
  | packetBlockDone (cluster : Nat)
  /-- FOCUS_PLACE (R88). -/
  | focusPlace (cluster unit : Nat)
  /-- DT_HANG_END (R91). -/
  | dtHangEnd (cluster unit : Nat)
  /-- TONE_REENABLE (R94). -/
  | toneReenable (cluster unit : Nat)
  /-- ERLE_DROP (R96). -/
  | erleDrop (cluster unit : Nat)
  /-- DT_LONG (R96). -/
  | dtLong (cluster unit : Nat)
  /-- REPLAY_START (R97). -/
  | replayStart (cluster : Nat)
  /-- REPLAY_FALLBACK (R98). -/
  | replayFallback (cluster unit : Nat)
  /-- REPLAY_CATCH_UP (R98). -/
  | replayCatchUp (cluster unit : Nat)
  /-- COMPARISON_END (R100). -/
  | comparisonEnd (cluster unit : Nat)
  /-- ECE_FADE_END (R101). -/
  | eceFadeEnd (cluster unit : Nat)
  /-- ECE_ATTACH (R103). -/
  | eceAttach (r : CmdRef) (ctx : Nat) (f : EchoFields)
  /-- ECE_MODIFY (R103). -/
  | eceModify (r : CmdRef) (ctx : Nat) (f : EchoChange)
  /-- ECE_DETACH (R103). -/
  | eceDetach (r : CmdRef) (ctx : Nat)
  /-- ECE_QUERY (R103). -/
  | eceQuery (r : CmdRef) (ctx : Nat)
  /-- ECE_RECONVERGE (R103). -/
  | eceReconverge (r : CmdRef) (ctx len : Nat)
  /-- ECE_LOAD (R103). -/
  | eceLoad (r : CmdRef) (ctx addr : Nat)
  /-- ECE_SWAP (R103). -/
  | eceSwap (r : CmdRef) (ctx : Nat)
  /-- ECE_READ (R103). -/
  | eceRead (r : CmdRef) (ctx addr : Nat) (background : Bool)
  /-- ECE_RST (R104). -/
  | eceRst (w : Win) (cluster : Nat)
  /-- SAGE_SUBMIT (R107). -/
  | sageSubmit (g : Nat) (v : Word)
  /-- SAGE_BLOCK_READ (R107). -/
  | sageBlockRead (cluster stream : Nat)
  /-- SAGE_ATTACH (R124). -/
  | sageAttach (r : CmdRef) (ctx : Nat) (f : SageFields)
  /-- SAGE_MODIFY (R124). -/
  | sageModify (r : CmdRef) (ctx : Nat) (f : SageChange)
  /-- SAGE_DETACH (R124). -/
  | sageDetach (r : CmdRef) (ctx : Nat)
  /-- SAGE_QUERY (R124). -/
  | sageQuery (r : CmdRef) (ctx : Nat)
  /-- SAGE_RST (R125). -/
  | sageRst (w : Win) (cluster : Nat)
  /-- CTX_OPEN (R128). -/
  | ctxOpen (r : CmdRef) (f : OpenFields)
  /-- CTX_MODIFY (R129). -/
  | ctxModify (r : CmdRef) (ctx : Nat) (f : ModifyFields)
  /-- CTX_CLOSE (R22). -/
  | ctxClose (r : CmdRef) (ctx : Nat)
  /-- CTX_QUERY (R129). -/
  | ctxQuery (r : CmdRef) (ctx : Nat)
  /-- CTX_BIND_LINE (R129). -/
  | ctxBindLine (r : CmdRef) (ctx line : Nat)
  /-- CTX_UNBIND_LINE (R129). -/
  | ctxUnbindLine (r : CmdRef) (ctx : Nat)
  /-- CTX_JOIN (R134). -/
  | ctxJoin (r : CmdRef) (ctx partner mode : Nat)
  /-- CTX_SPLIT (R129). -/
  | ctxSplit (r : CmdRef) (ctx : Nat)
  /-- CTX_SET_TEMPLATE (R145). -/
  | ctxSetTemplate (r : CmdRef) (ctx : Nat) (f : TemplateFields)
  /-- CTX_SEND_EVENT (R140). -/
  | ctxSendEvent (r : CmdRef) (ctx code vol dur : Nat)
  /-- CTX_STATS (R129). -/
  | ctxStats (r : CmdRef) (ctx : Nat) (clear : Bool)
  /-- RX_PACKET_JUDGE (R137). -/
  | rxPacketJudge (ctx : Nat)
  /-- ADAPT_WINDOW_END (R139). -/
  | adaptWindowEnd (ctx : Nat)
  /-- RX_EVENT_TIMEOUT (R140). -/
  | rxEventTimeout (ctx : Nat)
  /-- RING_APPLY (R144). -/
  | ringApply (ctx : Nat)
  /-- PRE_TX_TAKE (R279). -/
  | preTxTake (cluster : Nat)
  /-- JNL_SUBMIT (R150). -/
  | jnlSubmit (g : Nat) (v : Word)
  /-- THYME_BLOCK_CODE (R152). -/
  | thymeBlockCode (ctx : Nat)
  /-- THYME_SLOT_WRITE (R152). -/
  | thymeSlotWrite
  /-- THYME_SET (R164). -/
  | thymeSet (r : CmdRef) (ctx : Nat) (f : JournalFields)
  /-- THYME_READ (R164). -/
  | thymeRead (r : CmdRef) (ctx mask first count : Nat) (decode : Bool) (dest : Nat)
  /-- THYME_COPY (R166). -/
  | thymeCopy (r : CmdRef) (ctx mask first : Nat) (last : Option Nat) (dest len : Nat)
  /-- THYME_STOP (R164). -/
  | thymeStop (r : CmdRef) (ctx : Nat)
  /-- THYME_QUERY (R164). -/
  | thymeQuery (r : CmdRef) (ctx : Nat)
  /-- THYME_CODE (R167). -/
  | thymeCode (r : CmdRef) (f : CoderFields)
  /-- THYME_CODE_DONE (R167). -/
  | thymeCodeDone
  /-- THYME_KEY (R164). -/
  | thymeKey (r : CmdRef) (gen : Nat)
  /-- THYME_ENABLE (R155). -/
  | thymeEnable (w : Win) (v : Word)
  /-- THYME_DISABLE (R170). -/
  | thymeDisable (w : Win) (v : Word)
  /-- THYME_RST (R171). -/
  | thymeRst (w : Win)
  /-- MPY (R180). -/
  | mpy (g : Nat)
  /-- MAC (R180). -/
  | mac (g : Nat)
  /-- MSU (R180). -/
  | msu (g : Nat)
  /-- ADD (R182). -/
  | add (g : Nat)
  /-- SUB (R182). -/
  | sub (g : Nat)
  /-- ADDS (R182). -/
  | adds (g : Nat)
  /-- SUBS (R182). -/
  | subs (g : Nat)
  /-- ADD2 (R182). -/
  | add2 (g : Nat)
  /-- SUB2 (R182). -/
  | sub2 (g : Nat)
  /-- ADDS2 (R182). -/
  | adds2 (g : Nat)
  /-- SUBS2 (R182). -/
  | subs2 (g : Nat)
  /-- AND (R182). -/
  | and (g : Nat)
  /-- OR (R182). -/
  | or (g : Nat)
  /-- XOR (R182). -/
  | xor (g : Nat)
  /-- ANDN (R182). -/
  | andn (g : Nat)
  /-- MIN (R182). -/
  | min (g : Nat)
  /-- MAX (R182). -/
  | max (g : Nat)
  /-- ABS (R182). -/
  | abs (g : Nat)
  /-- NEG (R182). -/
  | neg (g : Nat)
  /-- CMP (R182). -/
  | cmp (g : Nat)
  /-- AADD (R182). -/
  | aadd (g : Nat)
  /-- ASUB (R182). -/
  | asub (g : Nat)
  /-- ANEG (R182). -/
  | aneg (g : Nat)
  /-- AABS (R182). -/
  | aabs (g : Nat)
  /-- ACLR (R182). -/
  | aclr (g : Nat)
  /-- ALD (R182). -/
  | ald (g : Nat)
  /-- ALDH (R182). -/
  | aldh (g : Nat)
  /-- AMOV (R182). -/
  | amov (g : Nat)
  /-- ASH (R183). -/
  | ash (g : Nat)
  /-- LSH (R183). -/
  | lsh (g : Nat)
  /-- ROT (R183). -/
  | rot (g : Nat)
  /-- ASHS (R183). -/
  | ashs (g : Nat)
  /-- ASH2 (R183). -/
  | ash2 (g : Nat)
  /-- AASH (R183). -/
  | aash (g : Nat)
  /-- EXP (R183). -/
  | exp (g : Nat)
  /-- EXP16 (R183). -/
  | exp16 (g : Nat)
  /-- EXPB (R183). -/
  | expb (g : Nat)
  /-- EXPB2 (R183). -/
  | expb2 (g : Nat)
  /-- NORM (R183). -/
  | norm (g : Nat)
  /-- AEXP (R183). -/
  | aexp (g : Nat)
  /-- ANORM (R183). -/
  | anorm (g : Nat)
  /-- ASAT (R183). -/
  | asat (g : Nat)
  /-- ARND (R183). -/
  | arnd (g : Nat)
  /-- AMV (R184). -/
  | amv (g : Nat)
  /-- DMOV (R185). -/
  | dmov (g : Nat)
  /-- LD (R186). -/
  | ld (g : Nat)
  /-- ST (R186). -/
  | st (g : Nat)
  /-- STA (R184). -/
  | sta (g : Nat)
  /-- LEA (R186). -/
  | lea (g : Nat)
  /-- PUSH (R186). -/
  | push (g : Nat)
  /-- POP (R186). -/
  | pop (g : Nat)
  /-- MOV (R187). -/
  | mov (g : Nat)
  /-- LDI (R187). -/
  | ldi (g : Nat)
  /-- LDIH (R187). -/
  | ldih (g : Nat)
  /-- BR (R188). -/
  | br (g : Nat)
  /-- CALL (R188). -/
  | call (g : Nat)
  /-- JMP (R188). -/
  | jmp (g : Nat)
  /-- CALLI (R188). -/
  | calli (g : Nat)
  /-- RTS (R188). -/
  | rts (g : Nat)
  /-- RTI (R192). -/
  | rti (g : Nat)
  /-- LOOP (R189). -/
  | loop (g : Nat)
  /-- LOOP_END_ACTION (R189). -/
  | loopEndAction (g : Nat)
  /-- TAKE (R195). -/
  | take (g : Nat)
  /-- WAIT (R196). -/
  | wait (g : Nat)
  /-- TRAP (R193). -/
  | trap (g : Nat)
  /-- HALT (R193). -/
  | halt (g : Nat)
  /-- NOP (R187). -/
  | nop (g : Nat)
  /-- INTERRUPT_ENTRY (R192). -/
  | interruptEntry (g : Nat)
  /-- CORE_TIMER_EXPIRE (R199). -/
  | coreTimerExpire (g : Nat)
  /-- WDOG (R198). -/
  | wdog (g : Nat)
  /-- DB_SEND (R199). -/
  | dbSend (g : Nat) (v : Word)
  /-- DONE (R197). -/
  | done (g : Nat) (v : Word)
  /-- DMA_GO (R203). -/
  | dmaGo (g : Nat) (v : Word)
  /-- DMA_TRANSFER_DONE (R203). -/
  | dmaTransferDone (g : Nat)
  /-- CODE_LOAD (R200). -/
  | codeLoad (r : CmdRef) (addr clusters cores : Nat)
  /-- CORE_START (R204). -/
  | coreStart (w : Win) (g : Nat)
  /-- CORE_STOP (R204). -/
  | coreStop (w : Win) (g : Nat)
  /-- CORE_DRAIN (R204). -/
  | coreDrain (w : Win) (g : Nat)
  /-- CLUS_RST (R22). -/
  | clusRst (w : Win) (c : Nat)
  /-- OPERAND_ACCEPT (R207). -/
  | operandAccept
  /-- DISPATCH_PERIOD (R213). -/
  | dispatchPeriod (dus : Nat)
  /-- MOVE_PROMOTION (R211). -/
  | movePromotion (dus : Nat)
  /-- HOURGLASS_FIRE (R216). -/
  | hourglassFire (ph : Nat)
  /-- POST (R218). -/
  | post
  /-- TIMER_SET (R218). -/
  | timerSet
  /-- TIMER_CANCEL (R218). -/
  | timerCancel
  /-- SYS_POST (R218). -/
  | sysPost (w : Win) (idx : Nat)
  /-- SYSFLOW_DISABLE (R219). -/
  | sysflowDisable (w : Win) (n : Nat)
  /-- TURN_RST (R219). -/
  | turnRst (w : Win)
  /-- QUEUE_DATA_WRITE (R223). -/
  | queueDataWrite (w : Win) (q : Nat) (v : Word)
  /-- COMMIT (R223). -/
  | commit (w : Win) (q : Nat) (v : Word)
  /-- ABORT (R224). -/
  | abort (w : Win) (q : Nat) (v : Word)
  /-- RESERVATION_TIMEOUT (R224). -/
  | reservationTimeout (q : Nat)
  /-- QUEUE_DATA_READ (R227). -/
  | queueDataRead (w : Win) (q : Nat)
  /-- QP_COMMIT (R234). -/
  | qpCommit (g : Nat) (v : Word)
  /-- COMMIT_ACCEPT (R225). -/
  | commitAccept (q : Nat)
  /-- QP_POP (R234). -/
  | qpPop (g : Nat)
  /-- QFLUSH (R230). -/
  | qflush (w : Win) (q : Nat)
  /-- QCFG_ENABLE (R232). -/
  | qcfgEnable (w : Win) (q size base : Nat)
  /-- QCFG_DISABLE (R232). -/
  | qcfgDisable (w : Win) (q : Nat) (v : Word)
  /-- QCFG_RESIZE (R231). -/
  | qcfgResize (w : Win) (q size base : Nat)
  /-- QUEUE_RESIZE_APPLY (R231). -/
  | queueResizeApply (q : Nat)
  /-- COMMAND_TAKE (R20). -/
  | commandTake (q : Nat)
  /-- RESPONSE_WRITE (R226). -/
  | responseWrite (q : Nat)
  /-- EVENT_POST (R21). -/
  | eventPost (q : Nat)
  /-- QM_RST (R235). -/
  | qmRst (w : Win)
  /-- SRTP_RX_PACKET (R243). -/
  | srtpRxPacket (cluster : Nat) (fault : Bool)
  /-- SRTP_TX_PACKET (R246). -/
  | srtpTxPacket (cluster : Nat) (fault : Bool)
  /-- CIPH_JOURNAL_SLOT (R163). -/
  | ciphJournalSlot (cluster : Nat) (fault : Bool)
  /-- CIPH_JOB_TAKE (R255). -/
  | ciphJobTake (cluster : Nat)
  /-- CIPH_JOB_DONE (R258). -/
  | ciphJobDone (cluster : Nat) (fault : Bool)
  /-- KEY_SRTP (R247). -/
  | keySrtp (r : CmdRef) (ctx dir : Nat) (k : SrtpKey) (fault : Bool)
  /-- KEY_SRTP_CLEAR (R247). -/
  | keySrtpClear (r : CmdRef) (ctx dir : Nat)
  /-- KEY_SLOT_LOAD (R252). -/
  | keySlotLoad (r : CmdRef) (cluster slot addr : Nat)
  /-- KEY_SLOT_GEN (R253). -/
  | keySlotGen (r : CmdRef) (cluster slot alg usage fixed addr : Nat)
  /-- KEY_SLOT_CLEAR (R251). -/
  | keySlotClear (r : CmdRef) (cluster slot : Nat)
  /-- KEY_SLOT_QUERY (R262). -/
  | keySlotQuery (r : CmdRef) (cluster slot : Nat)
  /-- SRTP_QUERY (R262). -/
  | srtpQuery (r : CmdRef) (ctx dir : Nat)
  /-- CIPH_LOCK_SET (R240). -/
  | ciphLockSet (w : Win) (cluster : Nat)
  /-- CIPH_RST (R261). -/
  | ciphRst (w : Win) (cluster : Nat)
  /-- CIPH_REBUILT (R261). -/
  | ciphRebuilt (cluster : Nat)
  /-- MAC_RX_FRAME (R266). -/
  | macRxFrame (mac : Nat) (f : WireFrame)
  /-- PAUSE_EXPIRE (R268). -/
  | pauseExpire (mac : Nat)
  /-- PAUSE_SEND (R269). -/
  | pauseSend (mac : Nat)
  /-- PAUSE_XON (R269). -/
  | pauseXon (mac : Nat)
  /-- PRE_CLASSIFY (R271). -/
  | preClassify (mac : Nat)
  /-- RX_RING_DMA (R277). -/
  | rxRingDma (mac ring : Nat)
  /-- RXR_TAIL_WRITE (R275). -/
  | rxrTailWrite (w : Win) (mac ring : Nat) (v : Word)
  /-- TXR_TAIL_WRITE (R278). -/
  | txrTailWrite (w : Win) (mac ring : Nat) (v : Word)
  /-- RX_RING_DISABLE (R275). -/
  | rxRingDisable (w : Win) (mac ring : Nat)
  /-- MAC_TX_START (R281). -/
  | macTxStart (mac : Nat) (at_ : Int)
  /-- MAC_TX_DONE (R278). -/
  | macTxDone (mac : Nat)
  /-- TX_STALE (R281). -/
  | txStale (mac : Nat)
  /-- NET_LINK (R265). -/
  | netLink (mac : Nat) (up : Bool) (fault : Nat)
  /-- NET_ENTRY_ADD (R286). -/
  | netEntryAdd (r : CmdRef) (f : EntryFields)
  /-- NET_ENTRY_DEL (R286). -/
  | netEntryDel (r : CmdRef) (v6 : Bool) (addr port : Nat)
  /-- NET_QUERY (R286). -/
  | netQuery (r : CmdRef)
  /-- MAC_RST (R287). -/
  | macRst (w : Win) (mac : Nat)
  /-- PRE_RST (R287). -/
  | preRst (w : Win)
  /-- NM_PORT_REQUEST (R291). -/
  | nmPortRequest (port : Nat) (write : Bool) (addr len : Nat) (data : List Nat) (t : Nat)
  /-- NM_COMMAND_SLOT (R293). -/
  | nmCommandSlot (ch t : Nat) (e : LineErr)
  /-- REFRESH_DUE (R296). -/
  | refreshDue (slot : Nat)
  /-- REFRESH_RATE_READ (R296). -/
  | refreshRateRead (slot rate : Nat)
  /-- SCRUB_READ (R301). -/
  | scrubRead (ce ue : List Nat)
  /-- CE_HOUR_WINDOW (R299). -/
  | ceHourWindow (slot : Nat)
  /-- MIGRATION_START (R302). -/
  | migrationStart
  /-- PAGE_COPY (R303). -/
  | pageCopy (ce ue : List Nat)
  /-- RETRAIN_DUE (R306). -/
  | retrainDue (slot trigger : Nat)
  /-- RETRAIN_STEP (R306). -/
  | retrainStep (slot : Nat) (sweeps : Option (List Sweep)) (temp : Int)
  /-- MAINT_RETIRE (R302). -/
  | maintRetire (w : Win) (slot : Nat)
  /-- MAINT_RETRAIN (R306). -/
  | maintRetrain (w : Win) (slot : Nat)
  /-- TRN_GO (R306). -/
  | trnGo (w : Win) (errs : List Nat)
  /-- TRN_APPLY (R305). -/
  | trnApply (w : Win) (slot : Nat)
  /-- SELF_REFRESH_ENTRY (R308). -/
  | selfRefreshEntry (ch : Nat)
  /-- NMC_RST (R310). -/
  | nmcRst (w : Win)
  /-- CXL_PORT_ENABLE (R313). -/
  | cxlPortEnable (w : Win) (p : Nat)
  /-- CXL_PORT_DISABLE (R313). -/
  | cxlPortDisable (w : Win) (p lost : Nat)
  /-- CXL_TRAIN_DONE (R313). -/
  | cxlTrainDone (p width speed cause : Nat)
  /-- ACTIVATE (R318). -/
  | activate (w : Win) (p : Nat) (active : Bool)
  /-- XIO_GO (R314). -/
  | xioGo (w : Win) (v : Word)
  /-- XIO_COMPLETE (R314). -/
  | xioComplete (e : XioEnd)
  /-- DEC_COMMIT (R316). -/
  | decCommit (w : Win) (d : Nat) (v : Word)
  /-- DEC_UNCOMMIT (R316). -/
  | decUncommit (w : Win) (d : Nat)
  /-- CXL_MEM_READ_DONE (R319). -/
  | cxlMemReadDone (p addr : Nat) (poison : Bool)
  /-- CXL_RECOVERY (R319). -/
  | cxlRecovery (p : Nat)
  /-- CXL_L0_RETURN (R319). -/
  | cxlL0Return (p : Nat)
  /-- RECOV_TIMEOUT (R320). -/
  | recovTimeout (p lost : Nat)
  /-- MEM_TIMEOUT (R320). -/
  | memTimeout (p lost : Nat)
  /-- CXL_VIRAL (R320). -/
  | cxlViral (p lost : Nat)
  /-- CXL_RST (R323). -/
  | cxlRst (w : Win)
  /-- ROOK_LIFECYCLE (R325). -/
  | rookLifecycle (r : CmdRef) (target : Nat) (vdd : Bool)
  /-- ROOK_RMA_CONSENT (R326). -/
  | rookRmaConsent (r : CmdRef)
  /-- RMA_CONSENT_END (R326). -/
  | rmaConsentEnd
  /-- OTP_GEN_WRITE (R329). -/
  | otpGenWrite (r : CmdRef) (addr : Nat) (vdd : Bool)
  /-- ROLLBACK_SET (R334). -/
  | rollbackSet (r : CmdRef) (n : Nat) (vdd : Bool)
  /-- JNL_GRANT (R340). -/
  | jnlGrant (r : CmdRef) (on : Bool)
  /-- ATTEST (R349). -/
  | attest (r : CmdRef) (challenge : List Nat) (dest : Nat)
  /-- AUDIT_MIRROR (R347). -/
  | auditMirror (r : CmdRef) (base k : Nat)
  /-- OTP_IDENTITY (R328). -/
  | otpIdentity (r : CmdRef) (serial part root : List Nat) (vdd : Bool)
  /-- OTP_ROOT_WRITE (R350). -/
  | otpRootWrite (r : CmdRef) (hash : List Nat) (vdd : Bool)
  /-- CHALLENGE (R336). -/
  | challenge (w : Win)
  /-- MBOX_RESET (R336). -/
  | mboxReset (w : Win)
  /-- MBOX_DATA (R336). -/
  | mboxData (w : Win) (v : Word)
  /-- SESSION_OPEN (R336). -/
  | sessionOpen (w : Win) (key : Nat)
  /-- SESSION_VERIFY_DONE (R337). -/
  | sessionVerifyDone (w : Win)
  /-- SESSION_CLOSE (R338). -/
  | sessionClose (w : Win)
  /-- SESSION_IDLE_TIMEOUT (R338). -/
  | sessionIdleTimeout (w : Win)
  /-- PROT_COMMIT (R343). -/
  | protCommit (w : Win)
  /-- PROT_LOAD (R343). -/
  | protLoad (w : Win)
  /-- AUDIT_BASE_FIX (R346). -/
  | auditBaseFix
  /-- TRNG_BLOCK (R335). -/
  | trngBlock (samples : List Bool)
  /-- TRNG_RETEST (R335). -/
  | trngRetest (samples : List Bool)
  /-- BOOT_DATA (R331). -/
  | bootData (w : Win) (v : Word)
  /-- BOOT_CTL_START (R331). -/
  | bootCtlStart (w : Win)
  /-- BOOT_DONE (R331). -/
  | bootDone (fails : List Nat)
  /-- ROOK_RST (R352). -/
  | rookRst (w : Win) (page : Nat)
  /-- COLD_RESET (R363). -/
  | coldReset
  /-- WARM_RESET (R363). -/
  | warmReset
  /-- SW_WARM (R362). -/
  | swWarm (w : Win) (v : Word)
  /-- PCIE_HOT_RESET (R363). -/
  | pcieHotReset
  /-- HOST_DMA_DESCRIPTOR (R359). -/
  | hostDmaDescriptor (k st n : Nat) (bad : List (Nat × Nat))
  /-- DMA_TAIL_WRITE (R357). -/
  | dmaTailWrite (w : Win) (k : Nat) (v : Word)
  /-- RING_CFG_ENABLE (R357). -/
  | ringCfgEnable (w : Win) (k : Nat) (v : Word)
  /-- DMA_STAT_READ (R359). -/
  | dmaStatRead (w : Win) (k : Nat)
  /-- VECTOR_FIRE (R356). -/
  | vectorFire (v dus : Nat)
  /-- VEC_REARM (R356). -/
  | vecRearm (w : Win) (v : Word)
  /-- MSIX_TABLE_WRITE (R354). -/
  | msixTableWrite (w : Win) (a : Nat) (v : Word)
  /-- BLOCK_SLEEP (R367). -/
  | blockSleep (page state : Nat)
  /-- BLOCK_WAKE (R368). -/
  | blockWake (page : Nat)
  /-- TEMP_SAMPLE (R370). -/
  | tempSample (readings : List Int)
  /-- THERMTRIP (R371). -/
  | thermtrip
  /-- TOP_RST (R364). -/
  | topRst (w : Win)
  /-- JBE_RST (R364). -/
  | jbeRst (w : Win)
  /-- HOST_RST (R364). -/
  | hostRst (w : Win)
  /-- PWR_RST (R364). -/
  | pwrRst (w : Win)
  /-- MISC_RST (R364). -/
  | miscRst (w : Win)
  /-- IRQ_FORCE (R376). -/
  | irqForce (w : Win) (page : Nat) (v : Word)
  /-- WRONG_WIDTH_ACCESS (R5). -/
  | wrongWidthAccess (w : Win) (write : Bool) (be a : Nat)
  /-- CLEAR_ON_READ (R7). -/
  | clearOnRead (w : Win) (a : Nat)
  /-- COUNTER_LOW_READ (R8). -/
  | counterLowRead (w : Win) (a : Nat)
  /-- REGISTER_WRITE (R7). -/
  | registerWrite (w : Win) (a : Nat) (v : Word)
  /-- SPI_READ (R379). -/
  | spiRead (w : Win) (v : Word)
  /-- SPI_PROGRAM (R379). -/
  | spiProgram (w : Win) (v : Word)
  /-- SPI_ERASE (R379). -/
  | spiErase (w : Win) (v : Word)
  /-- SPI_REGISTER_READ (R379). -/
  | spiRegisterRead (w : Win) (v : Word)
  /-- SPI_DONE (R379). -/
  | spiDone (st : Nat) (data : List Nat)
  /-- UART_TX (R379). -/
  | uartTx (w : Win) (v : Word)
  /-- UART_RX (R379). -/
  | uartRx (w : Win)
  /-- UART_RX_BYTE (R379). -/
  | uartRxByte (byte : Nat) (framing : Bool)
  /-- UART_TX_BYTE (R379). -/
  | uartTxByte
  /-- I2C_READ (R379). -/
  | i2cRead (w : Win) (i : Nat) (v : Word)
  /-- I2C_WRITE (R379). -/
  | i2cWrite (w : Win) (i : Nat) (v : Word)
  /-- I2C_DONE (R379). -/
  | i2cDone (i st n : Nat) (data : List Nat)
  /-- GPIO_EDGE (R379). -/
  | gpioEdge (levels : Nat)
  /-- RESET_RELEASE (R331). -/
  | resetRelease (bootsel : Nat) (slotA slotB : List Nat) (samples : List Bool)
  /-- PCIE_LINK_UP (R353). -/
  | pcieLinkUp (gen width : Nat)
  /-- CONFIG_SPACE_WRITE (R356). -/
  | configSpaceWrite (msixEn msixMask d3 : Bool)
  /-- DENIED_READ (R342). -/
  | deniedRead (w : Win) (a : Nat)
  deriving DecidableEq, Repr

end Sys2Proof
end

