-- ==== Sys2Proof/WellFormed.lean ====
section
/-! DEFINITION. Which commands are well formed: every index names something the device has, every register offset lies in the
16 MiB register space, every byte is a byte. A host command's fields only have to fit their payload words: what the device
says to a value out of its range is the command's meaning. -/

namespace Sys2Proof

/-- A number below a bound. -/
def inRange (n bound : Nat) : Bool := decide (n < bound)

/-- Every element is a byte. -/
def octets (l : List Nat) : Bool := l.all (fun b => inRange b 256)

/-- Every number fits a 32-bit payload word. -/
def words (l : List Nat) : Bool := l.all (fun n => inRange n (2 ^ 32))

/-- Every number is a 40-bit device address. -/
def addrs (l : List Nat) : Bool := l.all (fun n => inRange n (2 ^ 40))

/-- A command's origin: command queue 0–15 and a 16-bit TAG (R19). -/
def CmdRef.wf (r : CmdRef) : Bool := inRange r.q 16 && inRange r.tag 0x10000

/-- A well-formed command. -/
def wellFormed (i : Instr) : Bool :=
  match i with
  | .frameTick | .ppsoutFall | .ppsinMiss | .ptpOffsetWrite _ _ | .dpllLock | .hoQualSet
  | .ptptSetArm _ _ | .syncCtrlNow _ _ | .atArm _ _ | .dsyncErr | .timeRst _ | .thymeSlotWrite | .thymeCodeDone
  | .thymeEnable _ _ | .thymeDisable _ _ | .thymeRst _ | .operandAccept | .dispatchPeriod _ | .movePromotion _ | .post
  | .timerSet | .timerCancel | .turnRst _ | .qmRst _ | .preRst _ | .scrubRead _ _ | .migrationStart | .pageCopy _ _
  | .trnGo _ _ | .nmcRst _ | .xioGo _ _ | .xioComplete _ | .cxlRst _ | .rmaConsentEnd | .challenge _ | .mboxReset _
  | .mboxData _ _ | .sessionVerifyDone _ | .sessionClose _ | .sessionIdleTimeout _ | .protCommit _ | .protLoad _
  | .auditBaseFix | .trngBlock _ | .trngRetest _ | .bootData _ _ | .bootCtlStart _ | .bootDone _ | .coldReset
  | .warmReset | .swWarm _ _ | .pcieHotReset | .vecRearm _ _ | .tempSample _ | .thermtrip | .topRst _ | .jbeRst _
  | .hostRst _ | .pwrRst _ | .miscRst _ | .spiRead _ _ | .spiProgram _ _ | .spiErase _ _ | .spiRegisterRead _ _
  | .uartTx _ _ | .uartRx _ | .uartTxByte | .pcieLinkUp _ _ | .configSpaceWrite _ _ _ => true
  | .ppsinEdge ph | .lsyncEdge ph | .hourglassFire ph => inRange ph 6145
  | .dsynciPulse ph _ err => inRange ph 6145 && inRange err.natAbs 3073
  | .dpllStep err => inRange err.natAbs (2 ^ 31 + 1)
  | .sourceQualify src | .sourceLost src | .revertiveSelect src => inRange src 5
  | .ldiFrame link ph bytes =>
    inRange link 128 && inRange ph 6145 && octets bytes && inRange 767 bytes.length && inRange bytes.length 769
  | .ldoFrameStart link | .linkEnSet _ link | .linkEnClear _ link | .tapScanStep link | .linkUp link
  | .confirmTimeout link | .syncLoss link | .crcLimit link | .noEyeRetry link | .lnkCtrlRetrain _ link _
  | .tapManWrite _ link _ => inRange link 128
  | .clkLoss bank | .fsErr bank | .clockRegularRetrain bank | .linkRst _ bank | .ldcLinkSync _ bank _
  | .ldcBankSync _ bank | .coefDataWrite _ bank _ | .coefDataRead _ bank | .ldcRst _ bank => inRange bank 16
  | .statusDebounce line bit => inRange line 2048 && inRange bit 16
  | .cadenceStep line | .lineEnable _ line _ | .lineDisable _ line | .linePhaseWrite _ line _ | .lineBphWrite _ line _
  | .lineMeasDone line => inRange line 2048
  | .lineSet r line mode ilim ringSel polSoft testRly feOpt =>
    r.wf && words [line, mode, ilim, ringSel, polSoft, testRly, feOpt]
  | .lineRing r line profile ringSel cycles => r.wf && words [line, profile, ringSel, cycles]
  | .lineRingStop r line => r.wf && words [line]
  | .linkMgmtSend r link len payload => r.wf && octets payload && words [link, len]
  | .linkRetrain r link _ => r.wf && words [link]
  | .lineSetChange _ line set => inRange line 2048 && inRange set 8
  | .swapRequest _ bank set _ | .fadeEnd bank set => inRange bank 16 && inRange set 8
  | .lineMeas r line start len freq dest => r.wf && words [line, start, len, freq] && addrs [dest]
  | .eceSubmit g _ | .sageSubmit g _ | .jnlSubmit g _ | .mpy g | .mac g | .msu g | .add g | .sub g | .adds g | .subs g
  | .add2 g | .sub2 g | .adds2 g | .subs2 g | .and g | .or g | .xor g | .andn g | .min g | .max g | .abs g | .neg g
  | .cmp g | .aadd g | .asub g | .aneg g | .aabs g | .aclr g | .ald g | .aldh g | .amov g | .ash g | .lsh g | .rot g
  | .ashs g | .ash2 g | .aash g | .exp g | .exp16 g | .expb g | .expb2 g | .norm g | .aexp g | .anorm g | .asat g
  | .arnd g | .amv g | .dmov g | .ld g | .st g | .sta g | .lea g | .push g | .pop g | .mov g | .ldi g | .ldih g
  | .br g | .call g | .jmp g | .calli g | .rts g | .rti g | .loop g | .loopEndAction g | .take g | .wait g | .trap g
  | .halt g | .nop g | .interruptEntry g | .coreTimerExpire g | .wdog g | .dbSend g _ | .done g _ | .dmaGo g _
  | .dmaTransferDone g | .coreStart _ g | .coreStop _ g | .coreDrain _ g | .qpCommit g _ | .qpPop g => inRange g 128
  | .packetBlockDone cluster | .replayStart cluster | .eceRst _ cluster | .sageRst _ cluster | .preTxTake cluster
  | .srtpRxPacket cluster _ | .srtpTxPacket cluster _ | .ciphJournalSlot cluster _ | .ciphJobTake cluster
  | .ciphJobDone cluster _ | .ciphLockSet _ cluster | .ciphRst _ cluster | .ciphRebuilt cluster =>
    inRange cluster 16
  | .focusPlace cluster unit | .dtHangEnd cluster unit | .toneReenable cluster unit | .erleDrop cluster unit
  | .dtLong cluster unit | .replayFallback cluster unit | .replayCatchUp cluster unit | .comparisonEnd cluster unit
  | .eceFadeEnd cluster unit => inRange cluster 16 && inRange unit 256
  | .eceAttach r ctx _ | .eceModify r ctx _ | .eceDetach r ctx | .eceQuery r ctx | .eceSwap r ctx
  | .sageAttach r ctx _ | .sageModify r ctx _ | .sageDetach r ctx | .sageQuery r ctx | .ctxModify r ctx _
  | .ctxClose r ctx | .ctxQuery r ctx | .ctxUnbindLine r ctx | .ctxSplit r ctx | .ctxStats r ctx _ | .thymeSet r ctx _
  | .thymeStop r ctx | .thymeQuery r ctx => r.wf && words [ctx]
  | .eceReconverge r ctx len => r.wf && words [ctx, len]
  | .eceLoad r ctx addr | .eceRead r ctx addr _ => r.wf && words [ctx] && addrs [addr]
  | .sageBlockRead cluster stream => inRange cluster 16 && inRange stream 1024
  | .ctxOpen r _ | .thymeCode r _ | .netEntryAdd r _ | .netQuery r | .rookRmaConsent r | .jnlGrant r _ => r.wf
  | .ctxBindLine r ctx line => r.wf && words [ctx, line]
  | .ctxJoin r ctx partner mode => r.wf && words [ctx, partner, mode]
  | .ctxSetTemplate r ctx f => r.wf && f.tags.all (fun t => inRange t 0x10000) && words [ctx]
  | .ctxSendEvent r ctx code vol dur => r.wf && words [ctx, code, vol, dur]
  | .rxPacketJudge ctx | .adaptWindowEnd ctx | .rxEventTimeout ctx | .ringApply ctx | .thymeBlockCode ctx =>
    inRange ctx 8192
  | .thymeRead r ctx mask first count _ dest => r.wf && words [ctx, mask, first, count] && addrs [dest]
  | .thymeCopy r ctx mask first _ dest len => r.wf && words [ctx, mask, first, len] && addrs [dest]
  | .thymeKey r gen => r.wf && words [gen]
  | .codeLoad r addr clusters cores => r.wf && words [clusters, cores] && addrs [addr]
  | .clusRst _ c => inRange c 16
  | .sysPost _ idx => inRange idx 64
  | .sysflowDisable _ n => inRange n 64
  | .queueDataWrite _ q _ | .commit _ q _ | .abort _ q _ | .reservationTimeout q | .queueDataRead _ q
  | .commitAccept q | .qflush _ q | .qcfgEnable _ q _ _ | .qcfgDisable _ q _ | .qcfgResize _ q _ _
  | .queueResizeApply q | .commandTake q | .responseWrite q | .eventPost q => inRange q 512
  | .keySrtp r ctx dir k _ => r.wf && octets k.key && octets k.salt && octets k.mki && words [ctx, dir]
  | .keySrtpClear r ctx dir | .srtpQuery r ctx dir => r.wf && words [ctx, dir]
  | .keySlotLoad r cluster slot addr => r.wf && words [cluster, slot] && addrs [addr]
  | .keySlotGen r cluster slot alg usage fixed addr =>
    r.wf && words [cluster, slot, alg, usage, fixed] && addrs [addr]
  | .keySlotClear r cluster slot | .keySlotQuery r cluster slot => r.wf && words [cluster, slot]
  | .macRxFrame m f => inRange m 4 && octets f.bytes
  | .pauseExpire m | .pauseSend m | .pauseXon m | .preClassify m | .macTxStart m _ | .macTxDone m | .txStale m
  | .netLink m _ _ | .macRst _ m => inRange m 4
  | .rxRingDma m ring | .rxrTailWrite _ m ring _ | .rxRingDisable _ m ring => inRange m 4 && inRange ring 4
  | .txrTailWrite _ m ring _ => inRange m 4 && inRange ring 2
  | .netEntryDel r _ addr port => r.wf && inRange addr (2 ^ 128) && words [port]
  | .nmPortRequest port _ _ _ data _ => inRange port 22 && octets data
  | .nmCommandSlot ch _ _ | .selfRefreshEntry ch => inRange ch 5
  | .refreshDue slot | .refreshRateRead slot _ | .ceHourWindow slot | .retrainDue slot _ | .retrainStep slot _ _ =>
    inRange slot 10
  | .maintRetire _ slot | .maintRetrain _ slot | .trnApply _ slot => inRange slot 16
  | .cxlPortEnable _ p | .cxlPortDisable _ p _ | .cxlTrainDone p _ _ _ | .activate _ p _ | .cxlMemReadDone p _ _
  | .cxlRecovery p | .cxlL0Return p | .recovTimeout p _ | .memTimeout p _ | .cxlViral p _ => inRange p 2
  | .decCommit _ d _ | .decUncommit _ d => inRange d 4
  | .rookLifecycle r target _ => r.wf && words [target]
  | .otpGenWrite r addr _ => r.wf && addrs [addr]
  | .rollbackSet r n _ => r.wf && words [n]
  | .attest r challenge dest => r.wf && octets challenge && addrs [dest]
  | .auditMirror r base k => r.wf && words [k] && addrs [base]
  | .otpIdentity r serial part root _ => r.wf && octets serial && octets part && octets root
  | .otpRootWrite r hash _ => r.wf && octets hash
  | .sessionOpen _ key => inRange key 4
  | .rookRst _ page | .blockWake page | .irqForce _ page _ => inRange page 4096
  | .hostDmaDescriptor k _ _ _ | .dmaTailWrite _ k _ | .ringCfgEnable _ k _ | .dmaStatRead _ k => inRange k 8
  | .vectorFire v _ => inRange v 64
  | .msixTableWrite _ a _ | .clearOnRead _ a | .counterLowRead _ a | .registerWrite _ a _ | .deniedRead _ a =>
    inRange a (2 ^ 24)
  | .blockSleep page state => inRange page 4096 && inRange state 4
  | .wrongWidthAccess _ _ be a => inRange be 16 && inRange a (2 ^ 24)
  | .spiDone _ data => octets data
  | .uartRxByte byte _ => inRange byte 256
  | .i2cRead _ i _ | .i2cWrite _ i _ => inRange i 2
  | .i2cDone i _ _ data => inRange i 2 && octets data
  | .gpioEdge levels => inRange levels 0x10000
  | .resetRelease bootsel slotA slotB _ => inRange bootsel 4 && octets slotA && octets slotB

end Sys2Proof
end

