-- ==== Sys2Proof/Machine/Bits.lean ====
section
/-! DEFINITION. Bit fields, byte order and signed readings of words. A bit range is written high:low in the spec; here a
field is its low bit and its width. -/

namespace Sys2Proof.Machine
open Sys2Proof

/-- The field of `n` with low bit `lo` and width `w`. -/
def fieldOf (n lo w : Nat) : Nat := n / 2 ^ lo % 2 ^ w

/-- `n` with its field at `lo`, `w` bits wide, replaced by the low `w` bits of `v`. -/
def putField (n lo w v : Nat) : Nat :=
  n - (n / 2 ^ lo % 2 ^ w) * 2 ^ lo + (v % 2 ^ w) * 2 ^ lo

/-- Bit `i` of `n`. -/
def bitOf (n i : Nat) : Bool := n / 2 ^ i % 2 == 1

/-- `n` with bit `i` set. -/
def bitSet (n i : Nat) : Nat := if bitOf n i then n else n + 2 ^ i

/-- `n` with bit `i` clear. -/
def bitClear (n i : Nat) : Nat := if bitOf n i then n - 2 ^ i else n

/-- `b` as a number. -/
def b2n (b : Bool) : Nat := if b then 1 else 0

/-- The signed reading of the low `w` bits of `n`. -/
def signed (w n : Nat) : Int :=
  let m := n % 2 ^ w
  if m < 2 ^ (w - 1) then (m : Int) else (m : Int) - (2 ^ w : Nat)

/-- The `w`-bit two's complement code of an integer. -/
def unsigned (w : Nat) (i : Int) : Nat := (i % ((2 ^ w : Nat) : Int)).toNat

/-- Saturation to a range. -/
def satTo (lo hi x : Int) : Int := if x < lo then lo else if x > hi then hi else x

/-- Arithmetic right shift: rounds down. -/
def sra (x : Int) (k : Nat) : Int := x / ((2 ^ k : Nat) : Int)

/-- Little-endian bytes of a number, `n` of them. -/
def leBytes : Nat → Nat → List Nat
  | 0, _ => []
  | n + 1, v => v % 256 :: leBytes n (v / 256)

/-- The number that little-endian bytes spell. -/
def leNat : List Nat → Nat
  | [] => 0
  | b :: r => b + 256 * leNat r

/-- Big-endian bytes of a number, `n` of them. -/
def beBytes (n v : Nat) : List Nat := (leBytes n v).reverse

/-- The number that big-endian bytes spell. -/
def beNat (l : List Nat) : Nat := leNat l.reverse

/-- Bytes of a list of 32-bit words, each little-endian. -/
def wordsToBytes (l : List Nat) : List Nat := l.flatMap (leBytes 4)

/-- Bytes `i` to `i + n - 1` of a list; missing bytes read as zero. -/
def slice (l : List Nat) (i n : Nat) : List Nat :=
  let t := (l.drop i).take n
  t ++ List.replicate (n - t.length) 0

/-- Overwrite the bytes from place `i` on. -/
def patch (b : List Nat) (i : Nat) (v : List Nat) : List Nat := b.take i ++ v ++ b.drop (i + v.length)

/-- The first of `n` numbers from `k` on that `p` holds of. -/
def firstFrom (p : Nat → Bool) : Nat → Nat → Option Nat
  | 0, _ => none
  | n + 1, k => if p k then some k else firstFrom p n (k + 1)

/-- Ceiling of a quotient. -/
def ceilDiv (a b : Nat) : Nat := (a + b - 1) / b

/-- Counters of 32 bits wrap. -/
def wrap32 (n : Nat) : Nat := n % 2 ^ 32

/-- Whether 32-bit frame count `a` lies at or before `b`, modulo 2^32. -/
def notAfter32 (a b : Nat) : Bool := (b + 2 ^ 32 - a % 2 ^ 32) % 2 ^ 32 < 2 ^ 31

/-- The frame count nearest to `n` whose low 32 bits are those of `t`. -/
def near32 (n t : Nat) : Nat :=
  let d := (t + 2 ^ 32 - n % 2 ^ 32) % 2 ^ 32
  if d < 2 ^ 31 then n + d else n + d - 2 ^ 32

/-- A quotient rounded half away from zero. -/
def roundAway (a : Int) (b : Nat) : Int :=
  if a < 0 then -((2 * (-a) + b) / (2 * (b : Int))) else (2 * a + b) / (2 * (b : Int))

/-- The bits of a number, most significant first. -/
def bitsOf : Nat → Nat → List Bool
  | 0, _ => []
  | n + 1, v => bitOf v n :: bitsOf n v

/-- The number that bits spell, most significant first. -/
def bitsNat (l : List Bool) : Nat := l.foldl (fun a b => 2 * a + b2n b) 0

/-- Bits as bytes, most significant bit first; the last byte is filled with zeros. -/
def bitsBytes (l : List Bool) : List Nat :=
  (List.range (ceilDiv l.length 8)).map (fun i =>
    let b := (l.drop (8 * i)).take 8
    bitsNat (b ++ List.replicate (8 - b.length) false))

/-- Bytes as bits. -/
def bytesBits (l : List Nat) : List Bool := l.flatMap (bitsOf 8)

/-- The bit-wise exclusive or of two byte strings. -/
def xorBytes (a b : List Nat) : List Nat := (a.zip b).map (fun p => p.1 ^^^ p.2)

/-- One bit of the reflected CRC-32C. -/
def crcBit (c : Nat) : Nat := if c % 2 = 1 then c / 2 ^^^ 0x82F63B78 else c / 2

/-- One byte of the reflected CRC-32C. -/
def crcByte (c b : Nat) : Nat :=
  crcBit (crcBit (crcBit (crcBit (crcBit (crcBit (crcBit (crcBit (c ^^^ b))))))))

/-- CRC-32C over bytes in order (R44). -/
def crc32c (l : List Nat) : Nat := l.foldl crcByte 0xFFFFFFFF ^^^ 0xFFFFFFFF

end Sys2Proof.Machine
end

