-- ==== Sys2Proof/Machine/Crypto.lean ====
section
/-! DEFINITION. The standard algorithms that the spec names: AES (FIPS 197), GCM (SP 800-38D), AES-KWP (RFC 5649), SHA-1 and
SHA-256 (FIPS 180-4), HMAC (FIPS 198-1), SHAKE256 (FIPS 202) and the key derivation of SRTP (RFC 3711, RFC 6188, RFC 7714).
Bytes are numbers below 256, first byte first. -/

namespace Sys2Proof.Machine
open Sys2Proof

/-! ### AES -/

/-- The S-box, entry `i` in bits 8i to 8i + 7. -/
def sboxTable : Nat :=
  0xC072A49CAFA2D4ADF04759FA7DC982CA76ABD7FE2B670130C56F6BF27B777C63 +
  0x75B227EBE28012079A059618C323C7041531D871F1E5A534CCF73F362693FDB7 * 2 ^ 256 +
  0xCF584C4A39BECB6A5BB1FC20ED00D153842FE329B3D63B52A05A6E1B1A2C8309 * 2 ^ 512 +
  0xD2F3FF1021DAB6BCF5389D928F40A351A89F3C507F02F94585334D43FBAAEFD0 * 2 ^ 768 +
  0xDB0B5EDE14B8EE4688902A22DC4F816073195D643D7EA7C41744975FEC130CCD * 2 ^ 1024 +
  0x08AE7A65EAF4566CA94ED58D6D37C8E779E4959162ACD3C25C2406490A3A32E0 * 2 ^ 1280 +
  0x9E1DC186B95735610EF6034866B53E708A8BBD4B1F74DDE8C6B4A61C2E2578BA * 2 ^ 1536 +
  0x16BB54B00F2D99416842E6BF0D89A18CDF2855CEE9871E9B948ED9691198F8E1 * 2 ^ 1792

/-- Its inverse. -/
def invSboxTable : Nat :=
  0xCBE9DEC444438E3487FF2F9B8239E37CFBD7F3819EA340BF38A53630D56A0952 +
  0x25D18B6D49A25B76B224D92866A12E084EC3FA420B954CEE3D23C2A632947B54 * 2 ^ 256 +
  0x849D8DA75746155EDAB9EDFD5048706C92B6655DCC5CA4D41698688664F6F872 * 2 ^ 512 +
  0x6B8A130103BDAFC1020F3FCA8F1E2CD00645B3B80558E4F70AD3BC8C00ABD890 * 2 ^ 768 +
  0x6EDF751CE837F9E28535ADE72274AC9673E6B4F0CECFF297EADC674F4111913A * 2 ^ 1024 +
  0xF45ACD78FEC0DB9A2079D2C64B3E56FC1BBE18AA0E62B76F89C5291D711AF147 * 2 ^ 1280 +
  0xEF9CC9939F7AE52D0D4AB519A97F51605FEC8027591012B131C7078833A8DD1F * 2 ^ 1536 +
  0x7D0C2155631469E126D677BA7E042B17619953833CBBEBC8B0F52AAE4D3BE0A0 * 2 ^ 1792

/-- Entry `i` of a table of bytes. -/
def byteAt (t i : Nat) : Nat := t / 2 ^ (8 * i) % 256

/-- Multiplication by x in the field of AES. -/
def xtime (b : Nat) : Nat := if b < 128 then 2 * b else (2 * b) ^^^ 0x11B

/-- Multiplication of a byte by `k` in the field of AES, `n` bits of `k`. -/
def gfMul : Nat → Nat → Nat → Nat
  | 0, _, _ => 0
  | n + 1, k, b => (if k % 2 = 1 then b else 0) ^^^ gfMul n (k / 2) (xtime b)

/-- The bytes of a block in another order: byte `i` of the result is byte `f i`. -/
def reorder (f : Nat → Nat) (b : List Nat) : List Nat := (List.range 16).map (fun i => b.getD (f i) 0)

/-- Each column of a block times a circulant matrix whose first row is `m`. -/
def mixColumns (m : List Nat) (b : List Nat) : List Nat :=
  (List.range 16).map (fun i =>
    (List.range 4).foldl (fun a j => a ^^^ gfMul 4 (m.getD ((j + 4 - i % 4) % 4) 0) (b.getD (4 * (i / 4) + j) 0)) 0)

/-- The next word of the key schedule: `i` its number, `nk` the words of the key, `l` the words so far, newest first. -/
def nextKeyWord (nk i : Nat) (l : List (List Nat)) : List Nat :=
  let t := l.headD []
  let t := if i % nk = 0 then
      xorBytes ((t.drop 1 ++ t.take 1).map (byteAt sboxTable))
        [(List.range (i / nk - 1)).foldl (fun a _ => xtime a) 1, 0, 0, 0]
    else if 6 < nk ∧ i % nk = 4 then t.map (byteAt sboxTable) else t
  xorBytes (l.getD (nk - 1) []) t

/-- The key schedule's words, newest first, from the words of the key. -/
def keyWords (nk : Nat) : Nat → List (List Nat) → List (List Nat)
  | 0, l => l
  | n + 1, l => keyWords nk n (nextKeyWord nk l.length l :: l)

/-- Round keys of 16 bytes, first round first. -/
def roundKeys (key : List Nat) : List (List Nat) :=
  let nk := key.length / 4
  let ws := ((keyWords nk (4 * (nk + 7) - nk) ((List.range nk).map (fun i => slice key (4 * i) 4)).reverse).reverse)
  (List.range (nk + 7)).map (fun r => ((ws.drop (4 * r)).take 4).flatten)

/-- One block enciphered under round keys. -/
def aesEncrypt (ks : List (List Nat)) (b : List Nat) : List Nat :=
  let sub := fun (b : List Nat) => reorder (fun i => (i + 4 * (i % 4)) % 16) (b.map (byteAt sboxTable))
  let mid := (ks.drop 1).dropLast.foldl (fun b k => xorBytes (mixColumns [2, 3, 1, 1] (sub b)) k) (xorBytes b (ks.headD []))
  xorBytes (sub mid) (ks.getLastD [])

/-- One block deciphered. -/
def aesDecrypt (ks : List (List Nat)) (b : List Nat) : List Nat :=
  let sub := fun (b : List Nat) => (reorder (fun i => (i + 12 * (i % 4)) % 16) b).map (byteAt invSboxTable)
  let mid := (ks.drop 1).dropLast.reverse.foldl (fun b k => mixColumns [14, 11, 13, 9] (xorBytes (sub b) k))
    (xorBytes b (ks.getLastD []))
  xorBytes (sub mid) (ks.headD [])

/-- One block of AES: key bits, key, block, all numbers whose first byte lies highest (R163, R236). [PRESUMED, log 74] -/
@[irreducible] def aes (kb key x : Nat) : Nat := beNat (aesEncrypt (roundKeys (beBytes (kb / 8) key)) (beBytes 16 x))

/-! ### GCM -/

/-- Multiplication in the field of GHASH: `n` more bits of `x`, from the highest. -/
def ghashMul : Nat → Nat → Nat → Nat → Nat
  | 0, _, _, z => z
  | n + 1, x, v, z =>
    ghashMul n x (if v % 2 = 1 then (v / 2) ^^^ (0xE1 * 2 ^ 120) else v / 2) (if x / 2 ^ n % 2 = 1 then z ^^^ v else z)

/-- Bytes in blocks of 16, the last one filled with zeros, each as a number. -/
def blocks16 (b : List Nat) : List Nat :=
  (List.range (ceilDiv b.length 16)).map (fun i => beNat ((slice b (16 * i) 16 ++ List.replicate 16 0).take 16))

/-- The GCM tag: key bits, key, 96-bit IV, authenticated-only bytes, ciphertext. [PRESUMED, log 74] -/
@[irreducible] def gcmTag (kb key iv : Nat) (aad ct : List Nat) : Nat :=
  let h := aes kb key 0
  let l := blocks16 aad ++ blocks16 ct ++ [aad.length * 8 * 2 ^ 64 + ct.length * 8]
  let y := l.foldl (fun y x => ghashMul 128 (y ^^^ x) h 0) 0
  y ^^^ aes kb key (iv * 2 ^ 32 + 1)

/-! ### AES-KWP -/

/-- One pass of the wrap over its 64-bit parts: the register, the parts, and the step count of the first. -/
def wrapPass (ks : List (List Nat)) : List (List Nat) → List Nat × List (List Nat) → Nat → List Nat × List (List Nat)
  | [], p, _ => p
  | r :: l, p, t =>
    let b := aesEncrypt ks (p.1 ++ r)
    wrapPass ks l (xorBytes (b.take 8) (beBytes 8 t), p.2 ++ [b.drop 8]) (t + 1)

/-- One pass of the unwrap, from the last part back. -/
def unwrapPass (ks : List (List Nat)) : List (List Nat) → List Nat × List (List Nat) → Nat → List Nat × List (List Nat)
  | [], p, _ => p
  | r :: l, p, t =>
    let b := aesDecrypt ks (xorBytes p.1 (beBytes 8 t) ++ r)
    unwrapPass ks l (b.take 8, b.drop 8 :: p.2) (t - 1)

/-- Bytes in parts of eight. -/
def parts8 (b : List Nat) : List (List Nat) := (List.range (b.length / 8)).map (fun i => slice b (8 * i) 8)

/-- AES-KWP of bytes under a 256-bit key (R242, R252). [PRESUMED, log 74] -/
@[irreducible] def kwpWrap (key : Nat) (b : List Nat) : List Nat :=
  let ks := roundKeys (beBytes 32 key)
  let padded := b ++ List.replicate ((8 - b.length % 8) % 8) 0
  let n := padded.length / 8
  let start := ([0xA6, 0x59, 0x59, 0xA6] ++ beBytes 4 b.length, parts8 padded)
  if n = 1 then aesEncrypt ks (start.1 ++ padded)
  else
    let p := (List.range 6).foldl (fun p j => wrapPass ks p.2 (p.1, []) (n * j + 1)) start
    p.1 ++ p.2.flatten

/-- The inverse, with its integrity check: none where it fails. [PRESUMED, log 74] -/
@[irreducible] def kwpUnwrap (key : Nat) (c : List Nat) : Option (List Nat) :=
  let ks := roundKeys (beBytes 32 key)
  let n := c.length / 8 - 1
  let p := if n = 1 then ((aesDecrypt ks c).take 8, [(aesDecrypt ks c).drop 8])
    else (List.range 6).foldl (fun p j => unwrapPass ks p.2.reverse (p.1, []) (n * (6 - j))) (c.take 8, (parts8 c).drop 1)
  let len := beNat (p.1.drop 4)
  let b := p.2.flatten
  if n = 0 ∨ c.length % 8 ≠ 0 ∨ p.1.take 4 ≠ [0xA6, 0x59, 0x59, 0xA6] ∨ len ≤ 8 * (n - 1) ∨ 8 * n < len ∨
      (b.drop len).any (· != 0) then none
  else some (b.take len)

/-! ### SHA-1, SHA-256 and HMAC -/

/-- A 32-bit word rotated left. -/
def rotl32 (x n : Nat) : Nat := x * 2 ^ n % 2 ^ 32 + x / 2 ^ (32 - n)

/-- A 32-bit word rotated right. -/
def rotr32 (x n : Nat) : Nat := rotl32 x (32 - n)

/-- The complement of a 32-bit word. -/
def not32 (x : Nat) : Nat := 2 ^ 32 - 1 - x

/-- A message with its padding, in blocks of 16 words. -/
def shaBlocks (m : List Nat) : List (List Nat) :=
  let p := m ++ [0x80] ++ List.replicate ((119 - m.length % 64) % 64) 0 ++ beBytes 8 (8 * m.length)
  (List.range (p.length / 64)).map (fun i => (List.range 16).map (fun j => beNat (slice p (64 * i + 4 * j) 4)))

/-- A block's schedule of `16 + n` words, from its words newest first. -/
def schedule (next : List Nat → Nat) : Nat → List Nat → List Nat
  | 0, l => l.reverse
  | n + 1, l => schedule next n (next l :: l)

/-- The words of a hash with a block's result added. -/
def addWords (a b : List Nat) : List Nat := (a.zip b).map (fun p => (p.1 + p.2) % 2 ^ 32)

/-- SHA-1: the five words of the hash. -/
def sha1 (m : List Nat) : List Nat :=
  (shaBlocks m).foldl (fun h b =>
    let w := schedule (fun l => rotl32 (l.getD 2 0 ^^^ l.getD 7 0 ^^^ l.getD 13 0 ^^^ l.getD 15 0) 1) 64 b.reverse
    let r := (w.zip (List.range 80)).foldl (fun (v : Nat × Nat × Nat × Nat × Nat) e =>
      let (a, b, c, d, x) := v
      let f := if e.2 < 20 then ((b &&& c) ||| (not32 b &&& d), 0x5A827999)
        else if e.2 < 40 then (b ^^^ c ^^^ d, 0x6ED9EBA1)
        else if e.2 < 60 then ((b &&& c) ||| (b &&& d) ||| (c &&& d), 0x8F1BBCDC)
        else (b ^^^ c ^^^ d, 0xCA62C1D6)
      ((rotl32 a 5 + f.1 + x + f.2 + e.1) % 2 ^ 32, a, rotl32 b 30, c, d))
      (h.getD 0 0, h.getD 1 0, h.getD 2 0, h.getD 3 0, h.getD 4 0)
    addWords h [r.1, r.2.1, r.2.2.1, r.2.2.2.1, r.2.2.2.2])
    [0x67452301, 0xEFCDAB89, 0x98BADCFE, 0x10325476, 0xC3D2E1F0]

/-- The round constants of SHA-256, number `i` in bits 32i to 32i + 31. -/
def sha256Table : Nat :=
  0xAB1C5ED5923F82A459F111F13956C25BE9B5DBA5B5C0FBCF71374491428A2F98 +
  0xC19BF1749BDC06A780DEB1FE72BE5D74550C7DC3243185BE12835B01D807AA98 * 2 ^ 256 +
  0x76F988DA5CB0A9DC4A7484AA2DE92C6F240CA1CC0FC19DC6EFBE4786E49B69C1 * 2 ^ 512 +
  0x1429296706CA6351D5A79147C6E00BF3BF597FC7B00327C8A831C66D983E5152 * 2 ^ 768 +
  0x92722C8581C2C92E766A0ABB650A735453380D134D2C6DFC2E1B213827B70A85 * 2 ^ 1024 +
  0x106AA070F40E3585D6990624D192E819C76C51A3C24B8B70A81A664BA2BFE8A1 * 2 ^ 1280 +
  0x682E6FF35B9CCA4F4ED8AA4A391C0CB334B0BCB52748774C1E376C0819A4C116 * 2 ^ 1536 +
  0xC67178F2BEF9A3F7A4506CEB90BEFFFA8CC7020884C8781478A5636F748F82EE * 2 ^ 1792

/-- SHA-256: the eight words of the hash. -/
def sha256 (m : List Nat) : List Nat :=
  (shaBlocks m).foldl (fun h b =>
    let w := schedule (fun l =>
      let x := l.getD 14 0
      let y := l.getD 1 0
      ((rotr32 y 17 ^^^ rotr32 y 19 ^^^ y / 2 ^ 10) + l.getD 6 0 + (rotr32 x 7 ^^^ rotr32 x 18 ^^^ x / 2 ^ 3) + l.getD 15 0) % 2 ^ 32)
      48 b.reverse
    let r := (w.zip (List.range 64)).foldl (fun (v : List Nat) e =>
      let a := v.getD 0 0
      let x := v.getD 4 0
      let t1 := v.getD 7 0 + (rotr32 x 6 ^^^ rotr32 x 11 ^^^ rotr32 x 25) + ((x &&& v.getD 5 0) ^^^ (not32 x &&& v.getD 6 0)) +
        sha256Table / 2 ^ (32 * e.2) % 2 ^ 32 + e.1
      let t2 := (rotr32 a 2 ^^^ rotr32 a 13 ^^^ rotr32 a 22) +
        ((a &&& v.getD 1 0) ^^^ (a &&& v.getD 2 0) ^^^ (v.getD 1 0 &&& v.getD 2 0))
      [(t1 + t2) % 2 ^ 32, a, v.getD 1 0, v.getD 2 0, (v.getD 3 0 + t1) % 2 ^ 32, x, v.getD 5 0, v.getD 6 0]) h
    addWords h r)
    [0x6A09E667, 0xBB67AE85, 0x3C6EF372, 0xA54FF53A, 0x510E527F, 0x9B05688C, 0x1F83D9AB, 0x5BE0CD19]

/-- A hash's bytes: 1 SHA-1, 2 SHA-256. -/
def shaBytes (kind : Nat) (m : List Nat) : List Nat := (if kind = 1 then sha1 m else sha256 m).flatMap (beBytes 4)

/-- HMAC: 1 SHA-1, 2 SHA-256; key of at most 64 bytes, message (R241, R254). [PRESUMED, log 74] -/
@[irreducible] def hmac (kind : Nat) (key msg : List Nat) : List Nat :=
  let k := key ++ List.replicate (64 - key.length) 0
  shaBytes kind (k.map (· ^^^ 0x5C) ++ shaBytes kind (k.map (· ^^^ 0x36) ++ msg))

/-! ### SHAKE256 -/

/-- The round constants of Keccak, number `i` in bits 64i to 64i + 63. -/
def keccakRound : Nat :=
  0x8000000080008000800000000000808A00000000000080820000000000000001 +
  0x800000000000800980000000800080810000000080000001000000000000808B * 2 ^ 256 +
  0x000000008000000A00000000800080090000000000000088000000000000008A * 2 ^ 512 +
  0x80000000000080038000000000008089800000000000008B000000008000808B * 2 ^ 768 +
  0x800000008000000A000000000000800A80000000000000808000000000008002 * 2 ^ 1024 +
  0x8000000080008008000000008000000180000000000080808000000080008081 * 2 ^ 1280

/-- The rotation of each lane of Keccak, lane x + 5y. -/
def keccakRot : List Nat :=
  [0, 1, 62, 28, 27, 36, 44, 6, 55, 20, 3, 10, 43, 25, 39, 41, 45, 15, 21, 8, 18, 2, 61, 56, 14]

/-- A 64-bit lane rotated left. -/
def rotl64 (x n : Nat) : Nat := x * 2 ^ n % 2 ^ 64 + x / 2 ^ (64 - n)

/-- Round `i` of Keccak on 25 lanes. -/
def keccakStep (a : List Nat) (i : Nat) : List Nat :=
  let l := fun (a : List Nat) k => a.getD k 0
  let c := (List.range 5).map (fun x => l a x ^^^ l a (x + 5) ^^^ l a (x + 10) ^^^ l a (x + 15) ^^^ l a (x + 20))
  let t := (a.zip (List.range 25)).map (fun e => e.1 ^^^ l c ((e.2 + 4) % 5) ^^^ rotl64 (l c ((e.2 + 1) % 5)) 1)
  let b := (List.range 25).map (fun k =>
    let x := (k % 5 + 3 * (k / 5)) % 5
    let src := x + 5 * (k % 5)
    rotl64 (l t src) (l keccakRot src))
  let r := (b.zip (List.range 25)).map (fun e =>
    let y := 5 * (e.2 / 5)
    e.1 ^^^ ((2 ^ 64 - 1 - l b (y + (e.2 + 1) % 5)) &&& l b (y + (e.2 + 2) % 5)))
  (l r 0 ^^^ keccakRound / 2 ^ (64 * i) % 2 ^ 64) :: r.drop 1

/-- The first 32 bytes of SHAKE256 over bytes (R248, R327, R345). [PRESUMED, log 74] -/
@[irreducible] def shake (m : List Nat) : List Nat :=
  let fill := 136 - m.length % 136
  let p := m ++ (if fill = 1 then [0x9F] else [0x1F] ++ List.replicate (fill - 2) 0 ++ [0x80])
  let s := (List.range (p.length / 136)).foldl (fun a i =>
    (List.range 24).foldl keccakStep ((a.zip (List.range 25)).map (fun e =>
      if e.2 < 17 then e.1 ^^^ leNat (slice p (136 * i + 8 * e.2) 8) else e.1))) (List.replicate 25 0)
  (s.take 4).flatMap (leBytes 8)

/-! ### SRTP -/

/-- A session key of SRTP (R241): master key, master salt and label, as `n` bytes. A 12-byte salt is followed by two
zero bytes. [PRESUMED, log 74] -/
@[irreducible] def srtpSession (key salt : List Nat) (label n : Nat) : List Nat :=
  let x := beNat ((salt ++ [0, 0]).take 14) ^^^ (label * 2 ^ 48)
  let ks := roundKeys key
  ((List.range (ceilDiv n 16)).flatMap (fun i => aesEncrypt ks (beBytes 16 (x * 2 ^ 16 + i)))).take n

end Sys2Proof.Machine
end

