-- ==== Sys2Proof/Config.lean ====
section
/-! DEFINITION. What the spec leaves open or to an implementation: free values and functions with no body, so that no
proof can rest on a value of them. -/

namespace Sys2Proof

/-- A free value, one per draw: a result the spec does not state. -/
opaque Config.freeValue : Nat → BitVec 64

/-- Stage-3 coefficient `i` of preset `set`, 20-bit Q1.19 code, from ROM (R63). -/
opaque Config.presetCoef : Nat → Nat → BitVec 20

/-- Half-band coefficient `i` of HB_COEF, 18-bit Q1.17 code (R60). -/
opaque Config.hbCoef : Nat → BitVec 18

/-- A coefficient of LINK's interpolator to 32 kHz (R45), by input class (true is 16 kHz) and distance from the centre tap. -/
opaque Config.ldoCoef : Bool → Nat → Int

/-- The 16-bit sample that LINK makes of the interpolator's exact sum (R45). -/
opaque Config.ldoRound : Int → BitVec 16

/-- Device address of the line transmit ring entry of a line for a frame; the spec gives the ring no layout (R11). -/
opaque Config.txRingAddr : Nat → Nat → Nat

/-- Whether a value that the spec defines exactly, and whose rounding it leaves open, rounds up where it is not exact: the
place, and what the value is computed from. -/
opaque Config.roundUp : Nat → Int → Nat → Bool

/-- The NLP's move from e to its output (R92): sample 1–15 of the 16, e, target. -/
opaque Config.nlpRamp : Nat → Int → Int → BitVec 16

/-- One step of the comfort noise LFSR, and the 16-bit sample taken from it (R93). -/
opaque Config.lfsrStep : BitVec 32 → BitVec 32
opaque Config.lfsrSample : BitVec 32 → BitVec 16

/-- How far Pn rises in a sample, before its bound (R93): Pn and short e average. -/
opaque Config.noiseRise : Nat → Nat → Nat

/-- A coefficient of Sage's half-band filter by distance from the centre tap, in units of 2 ^ -17 (R108). -/
opaque Config.sageHalf : Nat → Int

/-- The outcome of a window whose tone lies between the accept and the reject band (R111): class and samples. -/
opaque Config.sageBetween : Nat → List Int → Bool

/-- CK of each reset, from the TRNG (R249). -/
opaque Config.contextKey : Nat → Nat

/-- ML-DSA-65 (R333, R336, R349): verification of a signature under a public key; byte `i` of the identity public key and
of a signature from a seed. -/
opaque Config.mldsaVerify : List Nat → List Nat → List Nat → Bool
opaque Config.mldsaPub : List Nat → Nat → BitVec 8
opaque Config.mldsaSign : List Nat → List Nat → Nat → BitVec 8

/-- The order in which the fields of a record lie in its bytes, for the records that the spec gives no layout (R127, R167): 0 a coder
job's saved state, 1 the playout record, 2 the template region, 3 the RFC 4733 record, 4 the latch record. -/
opaque Config.layout : Nat → List Nat

/-- The source word of CTX_DATA when the host asked for data mode; the spec names it HOST and gives no value (R147). -/
opaque Config.hostSource : BitVec 32

end Sys2Proof
end

