-- ==== Sys2Proof/Machine/Addr.lean ====
section
/-! DEFINITION. Names for the register addresses of the chapters' tables (R372): block, register, and where a register
repeats, the index of its page or group and its index within it. -/

namespace Sys2Proof.Machine.Reg

/-- TOP TOP_ERR (17_host_startup). -/
def TOP_TOP_ERR : Nat := 0x100
/-- TOP RST_CAUSE (17_host_startup). -/
def TOP_RST_CAUSE : Nat := 0x104
/-- TOP SW_WARM (17_host_startup). -/
def TOP_SW_WARM : Nat := 0x108
/-- TOP GRADE (17_host_startup). -/
def TOP_GRADE : Nat := 0x10C
/-- ROOK LC_STAT (16_rook_security). -/
def ROOK_LC_STAT : Nat := 0x1100
/-- ROOK BOOT_STAT (16_rook_security). -/
def ROOK_BOOT_STAT : Nat := 0x1104
/-- ROOK SESS_CTL (16_rook_security). -/
def ROOK_SESS_CTL : Nat := 0x1108
/-- ROOK SESS_STAT (16_rook_security). -/
def ROOK_SESS_STAT : Nat := 0x110C
/-- ROOK CHAL (16_rook_security). -/
def ROOK_CHAL (j : Nat) : Nat := 0x1110 + j * 0x4
/-- ROOK MBOX_DATA (16_rook_security). -/
def ROOK_MBOX_DATA : Nat := 0x1130
/-- ROOK MBOX_LEN (16_rook_security). -/
def ROOK_MBOX_LEN : Nat := 0x1134
/-- ROOK SESS_IDLE (16_rook_security). -/
def ROOK_SESS_IDLE : Nat := 0x1138
/-- ROOK ROLE_CFG (16_rook_security). -/
def ROOK_ROLE_CFG : Nat := 0x113C
/-- ROOK EVQ (16_rook_security). -/
def ROOK_EVQ : Nat := 0x1140
/-- ROOK TRNG_STAT (16_rook_security). -/
def ROOK_TRNG_STAT : Nat := 0x1144
/-- ROOK TRNG_FAIL (16_rook_security). -/
def ROOK_TRNG_FAIL : Nat := 0x1148
/-- ROOK BOOT_DATA (16_rook_security). -/
def ROOK_BOOT_DATA : Nat := 0x114C
/-- ROOK BOOT_CTL (16_rook_security). -/
def ROOK_BOOT_CTL : Nat := 0x1150
/-- ROOK AUTH_FAIL (16_rook_security). -/
def ROOK_AUTH_FAIL : Nat := 0x1154
/-- ROOK RMA_STAT (16_rook_security). -/
def ROOK_RMA_STAT : Nat := 0x1158
/-- ROOK MEAS (16_rook_security). -/
def ROOK_MEAS (j : Nat) : Nat := 0x1200 + j * 0x4
/-- OTP OTP_STAT (16_rook_security). -/
def OTP_OTP_STAT : Nat := 0x2100
/-- OTP EPOCH (16_rook_security). -/
def OTP_EPOCH : Nat := 0x2104
/-- OTP OTP_RD (16_rook_security). -/
def OTP_OTP_RD (j : Nat) : Nat := 0x2800 + j * 0x4
/-- PROT PROT_CTL (16_rook_security). -/
def PROT_PROT_CTL : Nat := 0x3100
/-- PROT PROT_GEN (16_rook_security). -/
def PROT_PROT_GEN : Nat := 0x3104
/-- PROT PROT_VIOL (16_rook_security). -/
def PROT_PROT_VIOL : Nat := 0x3108
/-- PROT VIOL_INFO (16_rook_security). -/
def PROT_VIOL_INFO : Nat := 0x310C
/-- PROT PROT_HASH (16_rook_security). -/
def PROT_PROT_HASH (j : Nat) : Nat := 0x3110 + j * 0x4
/-- PROT PROT_STAGE (16_rook_security). -/
def PROT_PROT_STAGE (j : Nat) : Nat := 0x3200 + j * 0x4
/-- PROT PROT_LIVE (16_rook_security). -/
def PROT_PROT_LIVE (j : Nat) : Nat := 0x3400 + j * 0x4
/-- AUDIT AUDIT_STAT (16_rook_security). -/
def AUDIT_AUDIT_STAT : Nat := 0x4100
/-- AUDIT HEAD_SEQ_LO (16_rook_security). -/
def AUDIT_HEAD_SEQ_LO : Nat := 0x4104
/-- AUDIT HEAD_SEQ_HI (16_rook_security). -/
def AUDIT_HEAD_SEQ_HI : Nat := 0x4108
/-- AUDIT AUDIT_LOST (16_rook_security). -/
def AUDIT_AUDIT_LOST : Nat := 0x410C
/-- AUDIT MIRROR_LAG (16_rook_security). -/
def AUDIT_MIRROR_LAG : Nat := 0x4110
/-- AUDIT RD_IDX (16_rook_security). -/
def AUDIT_RD_IDX : Nat := 0x4114
/-- AUDIT RD_REC (16_rook_security). -/
def AUDIT_RD_REC (j : Nat) : Nat := 0x4140 + j * 0x4
/-- TIME SRC_CFG (02_timebase). -/
def TIME_SRC_CFG : Nat := 0x8100
/-- TIME DPLL_CFG (02_timebase). -/
def TIME_DPLL_CFG : Nat := 0x8104
/-- TIME DPLL_STAT (02_timebase). -/
def TIME_DPLL_STAT : Nat := 0x8108
/-- TIME FREQ_OFFSET (02_timebase). -/
def TIME_FREQ_OFFSET : Nat := 0x810C
/-- TIME PHASE_ERR (02_timebase). -/
def TIME_PHASE_ERR : Nat := 0x8110
/-- TIME PTP_OFFSET (02_timebase). -/
def TIME_PTP_OFFSET : Nat := 0x8114
/-- TIME PTP_TIMEOUT (02_timebase). -/
def TIME_PTP_TIMEOUT : Nat := 0x8118
/-- TIME FTIME_LO (02_timebase). -/
def TIME_FTIME_LO : Nat := 0x8120
/-- TIME FTIME_HI (02_timebase). -/
def TIME_FTIME_HI : Nat := 0x8124
/-- TIME FPHASE (02_timebase). -/
def TIME_FPHASE : Nat := 0x8128
/-- TIME SEC_OFS (02_timebase). -/
def TIME_SEC_OFS : Nat := 0x812C
/-- TIME PTPT_SEC_LO (02_timebase). -/
def TIME_PTPT_SEC_LO : Nat := 0x8130
/-- TIME PTPT_SEC_HI (02_timebase). -/
def TIME_PTPT_SEC_HI : Nat := 0x8134
/-- TIME PTPT_SET_LO (02_timebase). -/
def TIME_PTPT_SET_LO : Nat := 0x8138
/-- TIME PTPT_SET_HI (02_timebase). -/
def TIME_PTPT_SET_HI : Nat := 0x813C
/-- TIME PPSIN_STAMP (02_timebase). -/
def TIME_PPSIN_STAMP : Nat := 0x8140
/-- TIME PPSOUT_CFG (02_timebase). -/
def TIME_PPSOUT_CFG : Nat := 0x8144
/-- TIME SYNC_CTRL (02_timebase). -/
def TIME_SYNC_CTRL : Nat := 0x8150
/-- TIME SYNC_AT_LO (02_timebase). -/
def TIME_SYNC_AT_LO : Nat := 0x8154
/-- TIME SYNC_AT_HI (02_timebase). -/
def TIME_SYNC_AT_HI : Nat := 0x8158
/-- TIME SYNC_STAT (02_timebase). -/
def TIME_SYNC_STAT : Nat := 0x815C
/-- TIME SYNC_LAST (02_timebase). -/
def TIME_SYNC_LAST : Nat := 0x8160
/-- TIME DSYNC_CFG (02_timebase). -/
def TIME_DSYNC_CFG : Nat := 0x8170
/-- TIME DSYNC_STAT (02_timebase). -/
def TIME_DSYNC_STAT : Nat := 0x8174
/-- TIME DSYNC_EPOCH_LO (02_timebase). -/
def TIME_DSYNC_EPOCH_LO : Nat := 0x8178
/-- TIME DSYNC_EPOCH_HI (02_timebase). -/
def TIME_DSYNC_EPOCH_HI : Nat := 0x817C
/-- TIME HO_FREQ (02_timebase). -/
def TIME_HO_FREQ : Nat := 0x8180
/-- TIME EVQ (02_timebase). -/
def TIME_EVQ : Nat := 0x8184
/-- LINK BANK_CFG (03_line_links). -/
def LINK_BANK_CFG (i : Nat) : Nat := 0x10100 + i * 0x1000
/-- LINK BANK_STAT (03_line_links). -/
def LINK_BANK_STAT (i : Nat) : Nat := 0x10104 + i * 0x1000
/-- LINK EVQ (03_line_links). -/
def LINK_EVQ (i : Nat) : Nat := 0x10108 + i * 0x1000
/-- LINK CRC_LIMIT (03_line_links). -/
def LINK_CRC_LIMIT (i : Nat) : Nat := 0x1010C + i * 0x1000
/-- LINK PHASE_GUARD (03_line_links). -/
def LINK_PHASE_GUARD (i : Nat) : Nat := 0x10110 + i * 0x1000
/-- LINK DEB_CFG (03_line_links). -/
def LINK_DEB_CFG (i : Nat) : Nat := 0x10114 + i * 0x1000
/-- LINK FLASH_CFG (03_line_links). -/
def LINK_FLASH_CFG (i : Nat) : Nat := 0x10118 + i * 0x1000
/-- LINK RX_SLIP (03_line_links). -/
def LINK_RX_SLIP (i : Nat) : Nat := 0x1011C + i * 0x1000
/-- LINK TX_SLIP (03_line_links). -/
def LINK_TX_SLIP (i : Nat) : Nat := 0x10120 + i * 0x1000
/-- LINK TX_UNDERRUN (03_line_links). -/
def LINK_TX_UNDERRUN (i : Nat) : Nat := 0x10124 + i * 0x1000
/-- LINK LFPH (03_line_links). -/
def LINK_LFPH (i : Nat) : Nat := 0x10128 + i * 0x1000
/-- LINK LNK_CTRL (03_line_links). -/
def LINK_LNK_CTRL (i : Nat) (j : Nat) : Nat := 0x10200 + i * 0x1000 + j * 0x20
/-- LINK LNK_STAT (03_line_links). -/
def LINK_LNK_STAT (i : Nat) (j : Nat) : Nat := 0x10204 + i * 0x1000 + j * 0x20
/-- LINK CRC_ERR (03_line_links). -/
def LINK_CRC_ERR (i : Nat) (j : Nat) : Nat := 0x10208 + i * 0x1000 + j * 0x20
/-- LINK SYNC_ERR (03_line_links). -/
def LINK_SYNC_ERR (i : Nat) (j : Nat) : Nat := 0x1020C + i * 0x1000 + j * 0x20
/-- LINK CNT_ERR (03_line_links). -/
def LINK_CNT_ERR (i : Nat) (j : Nat) : Nat := 0x10210 + i * 0x1000 + j * 0x20
/-- LINK TAP_MAP_LO (03_line_links). -/
def LINK_TAP_MAP_LO (i : Nat) (j : Nat) : Nat := 0x10214 + i * 0x1000 + j * 0x20
/-- LINK TAP_MAP_HI (03_line_links). -/
def LINK_TAP_MAP_HI (i : Nat) (j : Nat) : Nat := 0x10218 + i * 0x1000 + j * 0x20
/-- LINK MGMT_STAT (03_line_links). -/
def LINK_MGMT_STAT (i : Nat) (j : Nat) : Nat := 0x1021C + i * 0x1000 + j * 0x20
/-- LINK LINE_STAT (03_line_links). -/
def LINK_LINE_STAT (i : Nat) (j : Nat) : Nat := 0x10400 + i * 0x1000 + j * 0x4
/-- LINK LINE_CTL (03_line_links). -/
def LINK_LINE_CTL (i : Nat) (j : Nat) : Nat := 0x10600 + i * 0x1000 + j * 0x4
/-- LINK CAD (03_line_links). -/
def LINK_CAD (i : Nat) (j : Nat) : Nat := 0x10800 + i * 0x1000 + j * 0x4
/-- LDC LB_BASE (04_decimation). -/
def LDC_LB_BASE (i : Nat) : Nat := 0x20100 + i * 0x1000
/-- LDC LDC_SYNC (04_decimation). -/
def LDC_LDC_SYNC (i : Nat) : Nat := 0x20104 + i * 0x1000
/-- LDC SYNC_LAST (04_decimation). -/
def LDC_SYNC_LAST (i : Nat) : Nat := 0x20108 + i * 0x1000
/-- LDC SAT_CNT (04_decimation). -/
def LDC_SAT_CNT (i : Nat) : Nat := 0x2010C + i * 0x1000
/-- LDC MEAS_STAT (04_decimation). -/
def LDC_MEAS_STAT (i : Nat) : Nat := 0x20110 + i * 0x1000
/-- LDC HB_COEF (04_decimation). -/
def LDC_HB_COEF (i : Nat) (j : Nat) : Nat := 0x20180 + i * 0x1000 + j * 0x4
/-- LDC SET_CFG (04_decimation). -/
def LDC_SET_CFG (i : Nat) (j : Nat) : Nat := 0x20200 + i * 0x1000 + j * 0x20
/-- LDC SET_GD (04_decimation). -/
def LDC_SET_GD (i : Nat) (j : Nat) : Nat := 0x20204 + i * 0x1000 + j * 0x20
/-- LDC SET_CTRL (04_decimation). -/
def LDC_SET_CTRL (i : Nat) (j : Nat) : Nat := 0x20208 + i * 0x1000 + j * 0x20
/-- LDC SET_STAT (04_decimation). -/
def LDC_SET_STAT (i : Nat) (j : Nat) : Nat := 0x2020C + i * 0x1000 + j * 0x20
/-- LDC SET_MAR (04_decimation). -/
def LDC_SET_MAR (i : Nat) (j : Nat) : Nat := 0x20210 + i * 0x1000 + j * 0x20
/-- LDC COEF_SEL (04_decimation). -/
def LDC_COEF_SEL (i : Nat) : Nat := 0x20300 + i * 0x1000
/-- LDC COEF_DATA (04_decimation). -/
def LDC_COEF_DATA (i : Nat) : Nat := 0x20304 + i * 0x1000
/-- LDC LINE_CFG (04_decimation). -/
def LDC_LINE_CFG (i : Nat) (j : Nat) : Nat := 0x20400 + i * 0x1000 + j * 0x4
/-- ECE ECE_CFG (05_echo_canceller). -/
def ECE_ECE_CFG (i : Nat) : Nat := 0x30100 + i * 0x1000
/-- ECE PB_BASE (05_echo_canceller). -/
def ECE_PB_BASE (i : Nat) : Nat := 0x30104 + i * 0x1000
/-- ECE UNITS (05_echo_canceller). -/
def ECE_UNITS (i : Nat) : Nat := 0x30108 + i * 0x1000
/-- ECE TRIG_DROP (05_echo_canceller). -/
def ECE_TRIG_DROP (i : Nat) : Nat := 0x3010C + i * 0x1000
/-- ECE FALLBACK_CNT (05_echo_canceller). -/
def ECE_FALLBACK_CNT (i : Nat) : Nat := 0x30110 + i * 0x1000
/-- ECE SWAP_CNT (05_echo_canceller). -/
def ECE_SWAP_CNT (i : Nat) : Nat := 0x30114 + i * 0x1000
/-- ECE PKT_LATE (05_echo_canceller). -/
def ECE_PKT_LATE (i : Nat) : Nat := 0x30118 + i * 0x1000
/-- ECE SUBMIT_OVR (05_echo_canceller). -/
def ECE_SUBMIT_OVR (i : Nat) : Nat := 0x3011C + i * 0x1000
/-- ECE SWAP_STAT (05_echo_canceller). -/
def ECE_SWAP_STAT (i : Nat) : Nat := 0x30120 + i * 0x1000
/-- ECE PRF_ADAPT (05_echo_canceller). -/
def ECE_PRF_ADAPT (i : Nat) (j : Nat) : Nat := 0x30200 + i * 0x1000 + j * 0x20
/-- ECE PRF_FOCUS (05_echo_canceller). -/
def ECE_PRF_FOCUS (i : Nat) (j : Nat) : Nat := 0x30204 + i * 0x1000 + j * 0x20
/-- ECE PRF_DTD (05_echo_canceller). -/
def ECE_PRF_DTD (i : Nat) (j : Nat) : Nat := 0x30208 + i * 0x1000 + j * 0x20
/-- ECE PRF_NLP (05_echo_canceller). -/
def ECE_PRF_NLP (i : Nat) (j : Nat) : Nat := 0x3020C + i * 0x1000 + j * 0x20
/-- ECE PRF_EPC (05_echo_canceller). -/
def ECE_PRF_EPC (i : Nat) (j : Nat) : Nat := 0x30210 + i * 0x1000 + j * 0x20
/-- ECE PRF_TONE (05_echo_canceller). -/
def ECE_PRF_TONE (i : Nat) (j : Nat) : Nat := 0x30214 + i * 0x1000 + j * 0x20
/-- ECE INST_STAT (05_echo_canceller). -/
def ECE_INST_STAT (i : Nat) (j : Nat) : Nat := 0x30800 + i * 0x1000 + j * 0x4
/-- SAGE SB_BASE (06_sage_tones). -/
def SAGE_SB_BASE (i : Nat) : Nat := 0x40100 + i * 0x1000
/-- SAGE SE_BASE (06_sage_tones). -/
def SAGE_SE_BASE (i : Nat) : Nat := 0x40104 + i * 0x1000
/-- SAGE SLOTS (06_sage_tones). -/
def SAGE_SLOTS (i : Nat) : Nat := 0x40108 + i * 0x1000
/-- SAGE EV_DROP (06_sage_tones). -/
def SAGE_EV_DROP (i : Nat) : Nat := 0x4010C + i * 0x1000
/-- SAGE SUBMIT_OVR (06_sage_tones). -/
def SAGE_SUBMIT_OVR (i : Nat) : Nat := 0x40110 + i * 0x1000
/-- SAGE GAP_CNT (06_sage_tones). -/
def SAGE_GAP_CNT (i : Nat) : Nat := 0x40114 + i * 0x1000
/-- SAGE DETECT_CNT (06_sage_tones). -/
def SAGE_DETECT_CNT (i : Nat) : Nat := 0x40118 + i * 0x1000
/-- SAGE PRF_DET (06_sage_tones). -/
def SAGE_PRF_DET (i : Nat) (j : Nat) : Nat := 0x40200 + i * 0x1000 + j * 0x20
/-- SAGE PRF_ROUTE (06_sage_tones). -/
def SAGE_PRF_ROUTE (i : Nat) (j : Nat) : Nat := 0x40204 + i * 0x1000 + j * 0x20
/-- SAGE PRF_DTMF (06_sage_tones). -/
def SAGE_PRF_DTMF (i : Nat) (j : Nat) : Nat := 0x40208 + i * 0x1000 + j * 0x20
/-- SAGE PRF_FAX (06_sage_tones). -/
def SAGE_PRF_FAX (i : Nat) (j : Nat) : Nat := 0x4020C + i * 0x1000 + j * 0x20
/-- SAGE PRF_CID (06_sage_tones). -/
def SAGE_PRF_CID (i : Nat) (j : Nat) : Nat := 0x40210 + i * 0x1000 + j * 0x20
/-- SAGE PRF_LEVEL (06_sage_tones). -/
def SAGE_PRF_LEVEL (i : Nat) (j : Nat) : Nat := 0x40214 + i * 0x1000 + j * 0x20
/-- SAGE CPT_FREQ (06_sage_tones). -/
def SAGE_CPT_FREQ (i : Nat) (j : Nat) : Nat := 0x40400 + i * 0x1000 + j * 0x10
/-- SAGE CPT_LVL (06_sage_tones). -/
def SAGE_CPT_LVL (i : Nat) (j : Nat) : Nat := 0x40404 + i * 0x1000 + j * 0x10
/-- SAGE CPT_CAD0 (06_sage_tones). -/
def SAGE_CPT_CAD0 (i : Nat) (j : Nat) : Nat := 0x40408 + i * 0x1000 + j * 0x10
/-- SAGE CPT_CAD1 (06_sage_tones). -/
def SAGE_CPT_CAD1 (i : Nat) (j : Nat) : Nat := 0x4040C + i * 0x1000 + j * 0x10
/-- SAGE STREAM_STAT (06_sage_tones). -/
def SAGE_STREAM_STAT (i : Nat) (j : Nat) : Nat := 0x40800 + i * 0x1000 + j * 0x4
/-- CIPH CIPH_CFG (12_cipher). -/
def CIPH_CIPH_CFG (i : Nat) : Nat := 0x50100 + i * 0x1000
/-- CIPH LOCK (12_cipher). -/
def CIPH_LOCK (i : Nat) : Nat := 0x50104 + i * 0x1000
/-- CIPH ENGINE_STAT (12_cipher). -/
def CIPH_ENGINE_STAT (i : Nat) : Nat := 0x50108 + i * 0x1000
/-- CIPH KEYS_USED (12_cipher). -/
def CIPH_KEYS_USED (i : Nat) : Nat := 0x5010C + i * 0x1000
/-- CIPH EVQ (12_cipher). -/
def CIPH_EVQ (i : Nat) : Nat := 0x50110 + i * 0x1000
/-- CIPH BUSY_CYC (12_cipher). -/
def CIPH_BUSY_CYC (i : Nat) : Nat := 0x50114 + i * 0x1000
/-- CIPH RX_PKTS (12_cipher). -/
def CIPH_RX_PKTS (i : Nat) : Nat := 0x50118 + i * 0x1000
/-- CIPH TX_PKTS (12_cipher). -/
def CIPH_TX_PKTS (i : Nat) : Nat := 0x5011C + i * 0x1000
/-- CIPH TAG_FAIL_CNT (12_cipher). -/
def CIPH_TAG_FAIL_CNT (i : Nat) : Nat := 0x50120 + i * 0x1000
/-- CIPH REPLAY_CNT (12_cipher). -/
def CIPH_REPLAY_CNT (i : Nat) : Nat := 0x50124 + i * 0x1000
/-- CIPH NOKEY_CNT (12_cipher). -/
def CIPH_NOKEY_CNT (i : Nat) : Nat := 0x50128 + i * 0x1000
/-- CIPH EXH_CNT (12_cipher). -/
def CIPH_EXH_CNT (i : Nat) : Nat := 0x5012C + i * 0x1000
/-- CIPH MALFORMED (12_cipher). -/
def CIPH_MALFORMED (i : Nat) : Nat := 0x50130 + i * 0x1000
/-- CIPH SSRC_CHG (12_cipher). -/
def CIPH_SSRC_CHG (i : Nat) : Nat := 0x50134 + i * 0x1000
/-- CIPH DROP_CNT (12_cipher). -/
def CIPH_DROP_CNT (i : Nat) : Nat := 0x50138 + i * 0x1000
/-- CIPH JNL_CNT (12_cipher). -/
def CIPH_JNL_CNT (i : Nat) : Nat := 0x5013C + i * 0x1000
/-- CIPH JOB_CNT (12_cipher). -/
def CIPH_JOB_CNT (i : Nat) : Nat := 0x50140 + i * 0x1000
/-- CIPH JOB_ERR (12_cipher). -/
def CIPH_JOB_ERR (i : Nat) : Nat := 0x50144 + i * 0x1000
/-- CIPH FAULT_CNT (12_cipher). -/
def CIPH_FAULT_CNT (i : Nat) : Nat := 0x50148 + i * 0x1000
/-- CIPH SLOT_ATTR (12_cipher). -/
def CIPH_SLOT_ATTR (i : Nat) (j : Nat) : Nat := 0x50200 + i * 0x1000 + j * 0x8
/-- CIPH SLOT_FIXED (12_cipher). -/
def CIPH_SLOT_FIXED (i : Nat) (j : Nat) : Nat := 0x50204 + i * 0x1000 + j * 0x8
/-- CLUS CORE_CTL (10_turn_scheduler). -/
def CLUS_CORE_CTL (i : Nat) (j : Nat) : Nat := 0x60100 + i * 0x1000 + j * 0x4
/-- CLUS CORE_STAT (10_turn_scheduler). -/
def CLUS_CORE_STAT (i : Nat) (j : Nat) : Nat := 0x60120 + i * 0x1000 + j * 0x4
/-- CLUS HALT_INFO (10_turn_scheduler). -/
def CLUS_HALT_INFO (i : Nat) (j : Nat) : Nat := 0x60140 + i * 0x1000 + j * 0x4
/-- CLUS CORE_BUSY (10_turn_scheduler). -/
def CLUS_CORE_BUSY (i : Nat) (j : Nat) : Nat := 0x60160 + i * 0x1000 + j * 0x4
/-- CLUS EVQ (10_turn_scheduler). -/
def CLUS_EVQ (i : Nat) : Nat := 0x60180 + i * 0x1000
/-- CLUS DMA_ERR_CNT (10_turn_scheduler). -/
def CLUS_DMA_ERR_CNT (i : Nat) : Nat := 0x60184 + i * 0x1000
/-- CLUS DMA_BYTES_LO (10_turn_scheduler). -/
def CLUS_DMA_BYTES_LO (i : Nat) : Nat := 0x60188 + i * 0x1000
/-- CLUS DMA_BYTES_HI (10_turn_scheduler). -/
def CLUS_DMA_BYTES_HI (i : Nat) : Nat := 0x6018C + i * 0x1000
/-- CLUS MOVES (10_turn_scheduler). -/
def CLUS_MOVES (i : Nat) : Nat := 0x60190 + i * 0x1000
/-- CLUS ABANDON (10_turn_scheduler). -/
def CLUS_ABANDON (i : Nat) : Nat := 0x60194 + i * 0x1000
/-- TURN TURN_CFG (10_turn_scheduler). -/
def TURN_TURN_CFG : Nat := 0x70100
/-- TURN AFF_CFG (10_turn_scheduler). -/
def TURN_AFF_CFG : Nat := 0x70104
/-- TURN AGE_CFG0 (10_turn_scheduler). -/
def TURN_AGE_CFG0 : Nat := 0x70108
/-- TURN AGE_CFG1 (10_turn_scheduler). -/
def TURN_AGE_CFG1 : Nat := 0x7010C
/-- TURN TYPE_LVL (10_turn_scheduler). -/
def TURN_TYPE_LVL : Nat := 0x70110
/-- TURN STORE_STAT (10_turn_scheduler). -/
def TURN_STORE_STAT : Nat := 0x70114
/-- TURN READY_CNT (10_turn_scheduler). -/
def TURN_READY_CNT (j : Nat) : Nat := 0x70118 + j * 0x4
/-- TURN HELD (10_turn_scheduler). -/
def TURN_HELD : Nat := 0x70128
/-- TURN DISP_LO (10_turn_scheduler). -/
def TURN_DISP_LO : Nat := 0x70130
/-- TURN DISP_HI (10_turn_scheduler). -/
def TURN_DISP_HI : Nat := 0x70134
/-- TURN PROMO3 (10_turn_scheduler). -/
def TURN_PROMO3 : Nat := 0x70138
/-- TURN PROMO2 (10_turn_scheduler). -/
def TURN_PROMO2 : Nat := 0x7013C
/-- TURN PROMO1 (10_turn_scheduler). -/
def TURN_PROMO1 : Nat := 0x70140
/-- TURN UNMATCHED (10_turn_scheduler). -/
def TURN_UNMATCHED : Nat := 0x70144
/-- TURN STALE_OP (10_turn_scheduler). -/
def TURN_STALE_OP : Nat := 0x70148
/-- TURN REFUSED (10_turn_scheduler). -/
def TURN_REFUSED : Nat := 0x7014C
/-- TURN OP_DROP (10_turn_scheduler). -/
def TURN_OP_DROP : Nat := 0x70150
/-- TURN BADFLOW (10_turn_scheduler). -/
def TURN_BADFLOW : Nat := 0x70154
/-- TURN DONE_ERR (10_turn_scheduler). -/
def TURN_DONE_ERR : Nat := 0x70158
/-- TURN TREQ_ERR (10_turn_scheduler). -/
def TURN_TREQ_ERR : Nat := 0x7015C
/-- TURN AGE_MAX (10_turn_scheduler). -/
def TURN_AGE_MAX (j : Nat) : Nat := 0x70160 + j * 0x4
/-- TURN SYS_POST_D0 (10_turn_scheduler). -/
def TURN_SYS_POST_D0 : Nat := 0x70170
/-- TURN SYS_POST_D1 (10_turn_scheduler). -/
def TURN_SYS_POST_D1 : Nat := 0x70174
/-- TURN SYS_POST (10_turn_scheduler). -/
def TURN_SYS_POST : Nat := 0x70178
/-- TURN SYS_POST_STAT (10_turn_scheduler). -/
def TURN_SYS_POST_STAT : Nat := 0x7017C
/-- TURN BG_BLOCK (10_turn_scheduler). -/
def TURN_BG_BLOCK : Nat := 0x70180
/-- TURN PROMO1_V (10_turn_scheduler). -/
def TURN_PROMO1_V : Nat := 0x70184
/-- TURN SYSFLOW_CFG (10_turn_scheduler). -/
def TURN_SYSFLOW_CFG (j : Nat) : Nat := 0x71100 + j * 0x4
/-- TURN HG_ARMED (10_turn_scheduler). -/
def TURN_HG_ARMED : Nat := 0x72100
/-- TURN HG_FIRED (10_turn_scheduler). -/
def TURN_HG_FIRED : Nat := 0x72104
/-- TURN HG_PAST (10_turn_scheduler). -/
def TURN_HG_PAST : Nat := 0x72108
/-- TURN HG_MAXFIRE (10_turn_scheduler). -/
def TURN_HG_MAXFIRE : Nat := 0x7210C
/-- TURN FLOW_SEL (10_turn_scheduler). -/
def TURN_FLOW_SEL : Nat := 0x73100
/-- TURN FLOW_STAT (10_turn_scheduler). -/
def TURN_FLOW_STAT : Nat := 0x73104
/-- QM QM_CFG (11_queues). -/
def QM_QM_CFG : Nat := 0x78100
/-- QM QFLUSH (11_queues). -/
def QM_QFLUSH : Nat := 0x78104
/-- QM WORDS_USED (11_queues). -/
def QM_WORDS_USED : Nat := 0x78108
/-- QM FLUSH_ITEMS (11_queues). -/
def QM_FLUSH_ITEMS : Nat := 0x7810C
/-- QM ABORTS (11_queues). -/
def QM_ABORTS : Nat := 0x78110
/-- QM BAD_COMMIT (11_queues). -/
def QM_BAD_COMMIT : Nat := 0x78114
/-- QM QNE (11_queues). -/
def QM_QNE (j : Nat) : Nat := 0x78200 + j * 0x4
/-- QM QCFG (11_queues). -/
def QM_QCFG (j : Nat) : Nat := 0x79100 + j * 0x4
/-- QM QSTAT (11_queues). -/
def QM_QSTAT (j : Nat) : Nat := 0x7A100 + j * 0x4
/-- QM QDROP (11_queues). -/
def QM_QDROP (j : Nat) : Nat := 0x7B100 + j * 0x4
/-- QM QRESV (11_queues). -/
def QM_QRESV (j : Nat) : Nat := 0x7C100 + j * 0x4
/-- QM QRD (11_queues). -/
def QM_QRD (j : Nat) : Nat := 0x7D100 + j * 0x4
/-- QM QWR (11_queues). -/
def QM_QWR (j : Nat) : Nat := 0x7E100 + j * 0x4
/-- JBE CLU_LIMIT (07_media_contexts). -/
def JBE_CLU_LIMIT : Nat := 0x80100
/-- JBE CLU_USED (07_media_contexts). -/
def JBE_CLU_USED : Nat := 0x80104
/-- JBE CTX_CNT (07_media_contexts). -/
def JBE_CTX_CNT : Nat := 0x80108
/-- JBE ADAPT_CFG (07_media_contexts). -/
def JBE_ADAPT_CFG : Nat := 0x8010C
/-- JBE DATA_CFG (07_media_contexts). -/
def JBE_DATA_CFG : Nat := 0x80110
/-- JBE LATCH_CFG (07_media_contexts). -/
def JBE_LATCH_CFG : Nat := 0x80114
/-- JBE PIPE_MAX (07_media_contexts). -/
def JBE_PIPE_MAX : Nat := 0x80118
/-- JBE RX_CNT (07_media_contexts). -/
def JBE_RX_CNT : Nat := 0x80120
/-- JBE LATE_CNT (07_media_contexts). -/
def JBE_LATE_CNT : Nat := 0x80124
/-- JBE LOST_CNT (07_media_contexts). -/
def JBE_LOST_CNT : Nat := 0x80128
/-- JBE DUP_CNT (07_media_contexts). -/
def JBE_DUP_CNT : Nat := 0x8012C
/-- JBE EARLY_CNT (07_media_contexts). -/
def JBE_EARLY_CNT : Nat := 0x80130
/-- JBE RESYNC_CNT (07_media_contexts). -/
def JBE_RESYNC_CNT : Nat := 0x80134
/-- JBE DISCARD_CNT (07_media_contexts). -/
def JBE_DISCARD_CNT : Nat := 0x80138
/-- JBE TX_DROP (07_media_contexts). -/
def JBE_TX_DROP : Nat := 0x8013C
/-- JBE CODEC_TBL (07_media_contexts). -/
def JBE_CODEC_TBL (j : Nat) : Nat := 0x81100 + j * 0x4
/-- JBE CLUS_LOAD (07_media_contexts). -/
def JBE_CLUS_LOAD (j : Nat) : Nat := 0x81200 + j * 0x4
/-- PRE PRE_CFG (13_ethernet). -/
def PRE_PRE_CFG : Nat := 0x88100
/-- PRE POOL_BASE (13_ethernet). -/
def PRE_POOL_BASE : Nat := 0x88104
/-- PRE POOL_CNT (13_ethernet). -/
def PRE_POOL_CNT : Nat := 0x88108
/-- PRE POOL_FREE (13_ethernet). -/
def PRE_POOL_FREE : Nat := 0x8810C
/-- PRE EXACT_USED (13_ethernet). -/
def PRE_EXACT_USED : Nat := 0x88110
/-- PRE RX_MATCH (13_ethernet). -/
def PRE_RX_MATCH : Nat := 0x88120
/-- PRE RX_HOST (13_ethernet). -/
def PRE_RX_HOST : Nat := 0x88124
/-- PRE RX_DROP_RULE (13_ethernet). -/
def PRE_RX_DROP_RULE : Nat := 0x88128
/-- PRE POOL_DROP (13_ethernet). -/
def PRE_POOL_DROP : Nat := 0x8812C
/-- PRE MEDIA_OVERSIZE (13_ethernet). -/
def PRE_MEDIA_OVERSIZE : Nat := 0x88130
/-- PRE IP_CSUM_ERR (13_ethernet). -/
def PRE_IP_CSUM_ERR : Nat := 0x88134
/-- PRE UDP_CSUM_ERR (13_ethernet). -/
def PRE_UDP_CSUM_ERR : Nat := 0x88138
/-- PRE TX_PKTS (13_ethernet). -/
def PRE_TX_PKTS : Nat := 0x8813C
/-- PRE LATE_TX (13_ethernet). -/
def PRE_LATE_TX (j : Nat) : Nat := 0x89100 + j * 0x10
/-- PRE REL_TX (13_ethernet). -/
def PRE_REL_TX (j : Nat) : Nat := 0x89104 + j * 0x10
/-- PRE RULE_CTL (13_ethernet). -/
def PRE_RULE_CTL (i : Nat) (j : Nat) : Nat := 0x8A100 + i * 0x1000 + j * 0x18
/-- PRE RULE_ADDR0 (13_ethernet). -/
def PRE_RULE_ADDR0 (i : Nat) (j : Nat) : Nat := 0x8A104 + i * 0x1000 + j * 0x18
/-- PRE RULE_ADDR1 (13_ethernet). -/
def PRE_RULE_ADDR1 (i : Nat) (j : Nat) : Nat := 0x8A108 + i * 0x1000 + j * 0x18
/-- PRE RULE_ADDR2 (13_ethernet). -/
def PRE_RULE_ADDR2 (i : Nat) (j : Nat) : Nat := 0x8A10C + i * 0x1000 + j * 0x18
/-- PRE RULE_ADDR3 (13_ethernet). -/
def PRE_RULE_ADDR3 (i : Nat) (j : Nat) : Nat := 0x8A110 + i * 0x1000 + j * 0x18
/-- PRE RULE_PORT (13_ethernet). -/
def PRE_RULE_PORT (i : Nat) (j : Nat) : Nat := 0x8A114 + i * 0x1000 + j * 0x18
/-- MAC MAC_CFG (13_ethernet). -/
def MAC_MAC_CFG (i : Nat) : Nat := 0x90100 + i * 0x1000
/-- MAC MAC_STAT (13_ethernet). -/
def MAC_MAC_STAT (i : Nat) : Nat := 0x90104 + i * 0x1000
/-- MAC MAX_LEN (13_ethernet). -/
def MAC_MAX_LEN (i : Nat) : Nat := 0x90108 + i * 0x1000
/-- MAC MAC_ADDR_LO (13_ethernet). -/
def MAC_MAC_ADDR_LO (i : Nat) : Nat := 0x9010C + i * 0x1000
/-- MAC MAC_ADDR_HI (13_ethernet). -/
def MAC_MAC_ADDR_HI (i : Nat) : Nat := 0x90110 + i * 0x1000
/-- MAC PAUSE_CFG (13_ethernet). -/
def MAC_PAUSE_CFG (i : Nat) : Nat := 0x90114 + i * 0x1000
/-- MAC FIFO_STAT (13_ethernet). -/
def MAC_FIFO_STAT (i : Nat) : Nat := 0x90118 + i * 0x1000
/-- MAC TS_CFG (13_ethernet). -/
def MAC_TS_CFG (i : Nat) : Nat := 0x9011C + i * 0x1000
/-- MAC TS_RX_ADJ (13_ethernet). -/
def MAC_TS_RX_ADJ (i : Nat) : Nat := 0x90120 + i * 0x1000
/-- MAC TS_TX_ADJ (13_ethernet). -/
def MAC_TS_TX_ADJ (i : Nat) : Nat := 0x90124 + i * 0x1000
/-- MAC EVQ (13_ethernet). -/
def MAC_EVQ (i : Nat) : Nat := 0x90128 + i * 0x1000
/-- MAC STALE_LIM (13_ethernet). -/
def MAC_STALE_LIM (i : Nat) : Nat := 0x9012C + i * 0x1000
/-- MAC RXR_BASE_LO (13_ethernet). -/
def MAC_RXR_BASE_LO (i : Nat) (j : Nat) : Nat := 0x90200 + i * 0x1000 + j * 0x20
/-- MAC RXR_BASE_HI (13_ethernet). -/
def MAC_RXR_BASE_HI (i : Nat) (j : Nat) : Nat := 0x90204 + i * 0x1000 + j * 0x20
/-- MAC RXR_CFG (13_ethernet). -/
def MAC_RXR_CFG (i : Nat) (j : Nat) : Nat := 0x90208 + i * 0x1000 + j * 0x20
/-- MAC RXR_HEAD (13_ethernet). -/
def MAC_RXR_HEAD (i : Nat) (j : Nat) : Nat := 0x9020C + i * 0x1000 + j * 0x20
/-- MAC RXR_TAIL (13_ethernet). -/
def MAC_RXR_TAIL (i : Nat) (j : Nat) : Nat := 0x90210 + i * 0x1000 + j * 0x20
/-- MAC RXR_DROP (13_ethernet). -/
def MAC_RXR_DROP (i : Nat) (j : Nat) : Nat := 0x90214 + i * 0x1000 + j * 0x20
/-- MAC TXR_BASE_LO (13_ethernet). -/
def MAC_TXR_BASE_LO (i : Nat) (j : Nat) : Nat := 0x90300 + i * 0x1000 + j * 0x20
/-- MAC TXR_BASE_HI (13_ethernet). -/
def MAC_TXR_BASE_HI (i : Nat) (j : Nat) : Nat := 0x90304 + i * 0x1000 + j * 0x20
/-- MAC TXR_CFG (13_ethernet). -/
def MAC_TXR_CFG (i : Nat) (j : Nat) : Nat := 0x90308 + i * 0x1000 + j * 0x20
/-- MAC TXR_HEAD (13_ethernet). -/
def MAC_TXR_HEAD (i : Nat) (j : Nat) : Nat := 0x9030C + i * 0x1000 + j * 0x20
/-- MAC TXR_TAIL (13_ethernet). -/
def MAC_TXR_TAIL (i : Nat) (j : Nat) : Nat := 0x90310 + i * 0x1000 + j * 0x20
/-- MAC RX_OCTETS (13_ethernet). -/
def MAC_RX_OCTETS (i : Nat) : Nat := 0x90400 + i * 0x1000
/-- MAC RX_OCTETS_H (13_ethernet). -/
def MAC_RX_OCTETS_H (i : Nat) : Nat := 0x90404 + i * 0x1000
/-- MAC RX_FRAMES (13_ethernet). -/
def MAC_RX_FRAMES (i : Nat) : Nat := 0x90408 + i * 0x1000
/-- MAC RX_FRAMES_H (13_ethernet). -/
def MAC_RX_FRAMES_H (i : Nat) : Nat := 0x9040C + i * 0x1000
/-- MAC RX_FCS_ERR (13_ethernet). -/
def MAC_RX_FCS_ERR (i : Nat) : Nat := 0x90410 + i * 0x1000
/-- MAC RX_FCS_ERR_H (13_ethernet). -/
def MAC_RX_FCS_ERR_H (i : Nat) : Nat := 0x90414 + i * 0x1000
/-- MAC RX_RUNT (13_ethernet). -/
def MAC_RX_RUNT (i : Nat) : Nat := 0x90418 + i * 0x1000
/-- MAC RX_RUNT_H (13_ethernet). -/
def MAC_RX_RUNT_H (i : Nat) : Nat := 0x9041C + i * 0x1000
/-- MAC RX_OVERSIZE (13_ethernet). -/
def MAC_RX_OVERSIZE (i : Nat) : Nat := 0x90420 + i * 0x1000
/-- MAC RX_OVERSIZE_H (13_ethernet). -/
def MAC_RX_OVERSIZE_H (i : Nat) : Nat := 0x90424 + i * 0x1000
/-- MAC RX_FIFO_DROP (13_ethernet). -/
def MAC_RX_FIFO_DROP (i : Nat) : Nat := 0x90428 + i * 0x1000
/-- MAC RX_FIFO_DROP_H (13_ethernet). -/
def MAC_RX_FIFO_DROP_H (i : Nat) : Nat := 0x9042C + i * 0x1000
/-- MAC RX_PAUSE (13_ethernet). -/
def MAC_RX_PAUSE (i : Nat) : Nat := 0x90430 + i * 0x1000
/-- MAC RX_PAUSE_H (13_ethernet). -/
def MAC_RX_PAUSE_H (i : Nat) : Nat := 0x90434 + i * 0x1000
/-- MAC RX_CTRL_DROP (13_ethernet). -/
def MAC_RX_CTRL_DROP (i : Nat) : Nat := 0x90438 + i * 0x1000
/-- MAC RX_CTRL_DROP_H (13_ethernet). -/
def MAC_RX_CTRL_DROP_H (i : Nat) : Nat := 0x9043C + i * 0x1000
/-- MAC RX_FILTERED (13_ethernet). -/
def MAC_RX_FILTERED (i : Nat) : Nat := 0x90440 + i * 0x1000
/-- MAC RX_FILTERED_H (13_ethernet). -/
def MAC_RX_FILTERED_H (i : Nat) : Nat := 0x90444 + i * 0x1000
/-- MAC RX_FEC_CORR (13_ethernet). -/
def MAC_RX_FEC_CORR (i : Nat) : Nat := 0x90448 + i * 0x1000
/-- MAC RX_FEC_CORR_H (13_ethernet). -/
def MAC_RX_FEC_CORR_H (i : Nat) : Nat := 0x9044C + i * 0x1000
/-- MAC RX_FEC_UNCORR (13_ethernet). -/
def MAC_RX_FEC_UNCORR (i : Nat) : Nat := 0x90450 + i * 0x1000
/-- MAC RX_FEC_UNCORR_H (13_ethernet). -/
def MAC_RX_FEC_UNCORR_H (i : Nat) : Nat := 0x90454 + i * 0x1000
/-- MAC TX_OCTETS (13_ethernet). -/
def MAC_TX_OCTETS (i : Nat) : Nat := 0x90458 + i * 0x1000
/-- MAC TX_OCTETS_H (13_ethernet). -/
def MAC_TX_OCTETS_H (i : Nat) : Nat := 0x9045C + i * 0x1000
/-- MAC TX_FRAMES (13_ethernet). -/
def MAC_TX_FRAMES (i : Nat) : Nat := 0x90460 + i * 0x1000
/-- MAC TX_FRAMES_H (13_ethernet). -/
def MAC_TX_FRAMES_H (i : Nat) : Nat := 0x90464 + i * 0x1000
/-- MAC TX_PAUSE (13_ethernet). -/
def MAC_TX_PAUSE (i : Nat) : Nat := 0x90468 + i * 0x1000
/-- MAC TX_PAUSE_H (13_ethernet). -/
def MAC_TX_PAUSE_H (i : Nat) : Nat := 0x9046C + i * 0x1000
/-- MAC TX_STALE (13_ethernet). -/
def MAC_TX_STALE (i : Nat) : Nat := 0x90470 + i * 0x1000
/-- MAC TX_STALE_H (13_ethernet). -/
def MAC_TX_STALE_H (i : Nat) : Nat := 0x90474 + i * 0x1000
/-- MAC TX_LINKDOWN (13_ethernet). -/
def MAC_TX_LINKDOWN (i : Nat) : Nat := 0x90478 + i * 0x1000
/-- MAC TX_LINKDOWN_H (13_ethernet). -/
def MAC_TX_LINKDOWN_H (i : Nat) : Nat := 0x9047C + i * 0x1000
/-- THYME THYME_CFG (08_thyme_journal). -/
def THYME_THYME_CFG : Nat := 0x98100
/-- THYME THYME_STAT (08_thyme_journal). -/
def THYME_THYME_STAT : Nat := 0x98104
/-- THYME JNL_BASE_LO (08_thyme_journal). -/
def THYME_JNL_BASE_LO : Nat := 0x98108
/-- THYME JNL_BASE_HI (08_thyme_journal). -/
def THYME_JNL_BASE_HI : Nat := 0x9810C
/-- THYME JDIR_BASE_LO (08_thyme_journal). -/
def THYME_JDIR_BASE_LO : Nat := 0x98110
/-- THYME JDIR_BASE_HI (08_thyme_journal). -/
def THYME_JDIR_BASE_HI : Nat := 0x98114
/-- THYME CREG (08_thyme_journal). -/
def THYME_CREG : Nat := 0x98118
/-- THYME JSTAGE_BASE (08_thyme_journal). -/
def THYME_JSTAGE_BASE : Nat := 0x9811C
/-- THYME JS_BASE (08_thyme_journal). -/
def THYME_JS_BASE : Nat := 0x98120
/-- THYME SEQ_LO (08_thyme_journal). -/
def THYME_SEQ_LO : Nat := 0x98124
/-- THYME SEQ_HI (08_thyme_journal). -/
def THYME_SEQ_HI : Nat := 0x98128
/-- THYME KGEN (08_thyme_journal). -/
def THYME_KGEN : Nat := 0x9812C
/-- THYME BLK_CNT (08_thyme_journal). -/
def THYME_BLK_CNT : Nat := 0x98130
/-- THYME REDUCED_CNT (08_thyme_journal). -/
def THYME_REDUCED_CNT : Nat := 0x98134
/-- THYME GAP_CNT (08_thyme_journal). -/
def THYME_GAP_CNT : Nat := 0x98138
/-- THYME FILL_CNT (08_thyme_journal). -/
def THYME_FILL_CNT : Nat := 0x9813C
/-- THYME SUBMIT_OVR (08_thyme_journal). -/
def THYME_SUBMIT_OVR : Nat := 0x98140
/-- THYME LAT_MAX (08_thyme_journal). -/
def THYME_LAT_MAX : Nat := 0x98144
/-- THYME EVQ (08_thyme_journal). -/
def THYME_EVQ : Nat := 0x98148
/-- THYME JOB_CNT (08_thyme_journal). -/
def THYME_JOB_CNT : Nat := 0x99100
/-- THYME JOB_Q (08_thyme_journal). -/
def THYME_JOB_Q : Nat := 0x99104
/-- NMC NMC_CFG (14_near_memory). -/
def NMC_NMC_CFG : Nat := 0xA0100
/-- NMC NM_STAT (14_near_memory). -/
def NMC_NM_STAT : Nat := 0xA0104
/-- NMC EVQ (14_near_memory). -/
def NMC_EVQ : Nat := 0xA0108
/-- NMC CE_LIMIT (14_near_memory). -/
def NMC_CE_LIMIT : Nat := 0xA010C
/-- NMC RH_CFG (14_near_memory). -/
def NMC_RH_CFG : Nat := 0xA0110
/-- NMC MIG_CFG (14_near_memory). -/
def NMC_MIG_CFG : Nat := 0xA0114
/-- NMC SCRUB_CFG (14_near_memory). -/
def NMC_SCRUB_CFG : Nat := 0xA0118
/-- NMC TRN_CFG (14_near_memory). -/
def NMC_TRN_CFG : Nat := 0xA011C
/-- NMC MAINT_CMD (14_near_memory). -/
def NMC_MAINT_CMD : Nat := 0xA0120
/-- NMC MAINT_STAT (14_near_memory). -/
def NMC_MAINT_STAT : Nat := 0xA0124
/-- NMC MIG_STAT (14_near_memory). -/
def NMC_MIG_STAT : Nat := 0xA0128
/-- NMC REF_STAT (14_near_memory). -/
def NMC_REF_STAT : Nat := 0xA012C
/-- NMC CE_TOTAL (14_near_memory). -/
def NMC_CE_TOTAL : Nat := 0xA0130
/-- NMC UE_TOTAL (14_near_memory). -/
def NMC_UE_TOTAL : Nat := 0xA0134
/-- NMC POISON_RD (14_near_memory). -/
def NMC_POISON_RD : Nat := 0xA0138
/-- NMC POISON_WR (14_near_memory). -/
def NMC_POISON_WR : Nat := 0xA013C
/-- NMC RAW_FWD (14_near_memory). -/
def NMC_RAW_FWD : Nat := 0xA0140
/-- NMC RAW_WAIT (14_near_memory). -/
def NMC_RAW_WAIT : Nat := 0xA0144
/-- NMC RMW_CNT (14_near_memory). -/
def NMC_RMW_CNT : Nat := 0xA0148
/-- NMC SR_ABORT (14_near_memory). -/
def NMC_SR_ABORT : Nat := 0xA014C
/-- NMC SR_LATE (14_near_memory). -/
def NMC_SR_LATE : Nat := 0xA0150
/-- NMC REF_BURST (14_near_memory). -/
def NMC_REF_BURST : Nat := 0xA0154
/-- NMC SCRUB_PASS (14_near_memory). -/
def NMC_SCRUB_PASS : Nat := 0xA0158
/-- NMC RH_EVENTS (14_near_memory). -/
def NMC_RH_EVENTS : Nat := 0xA015C
/-- NMC PORT_CFG (14_near_memory). -/
def NMC_PORT_CFG (j : Nat) : Nat := 0xA1100 + j * 0x4
/-- NMC LAT_MAX (14_near_memory). -/
def NMC_LAT_MAX (j : Nat) : Nat := 0xA1200 + j * 0x4
/-- NMC URG3 (14_near_memory). -/
def NMC_URG3 (j : Nat) : Nat := 0xA1300 + j * 0x4
/-- NMC THROTTLE (14_near_memory). -/
def NMC_THROTTLE (j : Nat) : Nat := 0xA1400 + j * 0x4
/-- NMC RANK_STAT (14_near_memory). -/
def NMC_RANK_STAT (j : Nat) : Nat := 0xA2100 + j * 0x10
/-- NMC RANK_CE (14_near_memory). -/
def NMC_RANK_CE (j : Nat) : Nat := 0xA2104 + j * 0x10
/-- NMC RANK_CE_TOT (14_near_memory). -/
def NMC_RANK_CE_TOT (j : Nat) : Nat := 0xA2108 + j * 0x10
/-- NMC RANK_UE (14_near_memory). -/
def NMC_RANK_UE (j : Nat) : Nat := 0xA210C + j * 0x10
/-- NMC TRN_CTL (14_near_memory). -/
def NMC_TRN_CTL : Nat := 0xA3100
/-- NMC TRN_SET (14_near_memory). -/
def NMC_TRN_SET : Nat := 0xA3104
/-- NMC TRN_GO (14_near_memory). -/
def NMC_TRN_GO : Nat := 0xA3108
/-- NMC TRN_STAT (14_near_memory). -/
def NMC_TRN_STAT : Nat := 0xA310C
/-- NMC TRN_APPLY (14_near_memory). -/
def NMC_TRN_APPLY : Nat := 0xA3110
/-- NMC TRN_PAT (14_near_memory). -/
def NMC_TRN_PAT (j : Nat) : Nat := 0xA3140 + j * 0x4
/-- NMC TRN_ERR (14_near_memory). -/
def NMC_TRN_ERR (j : Nat) : Nat := 0xA3200 + j * 0x4
/-- NMC TRN_STAGE (14_near_memory). -/
def NMC_TRN_STAGE (j : Nat) : Nat := 0xA3300 + j * 0x4
/-- NMC SETTING (14_near_memory). -/
def NMC_SETTING (i : Nat) (j : Nat) : Nat := 0xA4100 + i * 0x80 + j * 0x4
/-- CXL CXL_CFG (15_far_memory). -/
def CXL_CXL_CFG : Nat := 0xB0100
/-- CXL CXL_STAT (15_far_memory). -/
def CXL_CXL_STAT : Nat := 0xB0104
/-- CXL EVQ (15_far_memory). -/
def CXL_EVQ : Nat := 0xB0108
/-- CXL PORT_CTL (15_far_memory). -/
def CXL_PORT_CTL (j : Nat) : Nat := 0xB1100 + j * 0x40
/-- CXL PORT_STAT (15_far_memory). -/
def CXL_PORT_STAT (j : Nat) : Nat := 0xB1104 + j * 0x40
/-- CXL LINK_CE (15_far_memory). -/
def CXL_LINK_CE (j : Nat) : Nat := 0xB1108 + j * 0x40
/-- CXL LINK_RECOV (15_far_memory). -/
def CXL_LINK_RECOV (j : Nat) : Nat := 0xB110C + j * 0x40
/-- CXL POISON_RD (15_far_memory). -/
def CXL_POISON_RD (j : Nat) : Nat := 0xB1110 + j * 0x40
/-- CXL WR_LOST (15_far_memory). -/
def CXL_WR_LOST (j : Nat) : Nat := 0xB1114 + j * 0x40
/-- CXL RD_BYTES_LO (15_far_memory). -/
def CXL_RD_BYTES_LO (j : Nat) : Nat := 0xB1118 + j * 0x40
/-- CXL RD_BYTES_HI (15_far_memory). -/
def CXL_RD_BYTES_HI (j : Nat) : Nat := 0xB111C + j * 0x40
/-- CXL WR_BYTES_LO (15_far_memory). -/
def CXL_WR_BYTES_LO (j : Nat) : Nat := 0xB1120 + j * 0x40
/-- CXL WR_BYTES_HI (15_far_memory). -/
def CXL_WR_BYTES_HI (j : Nat) : Nat := 0xB1124 + j * 0x40
/-- CXL DEC_BASE (15_far_memory). -/
def CXL_DEC_BASE (j : Nat) : Nat := 0xB2100 + j * 0x20
/-- CXL DEC_SIZE (15_far_memory). -/
def CXL_DEC_SIZE (j : Nat) : Nat := 0xB2104 + j * 0x20
/-- CXL DEC_CTL (15_far_memory). -/
def CXL_DEC_CTL (j : Nat) : Nat := 0xB2108 + j * 0x20
/-- CXL XIO_ADDR_LO (15_far_memory). -/
def CXL_XIO_ADDR_LO : Nat := 0xB3100
/-- CXL XIO_ADDR_HI (15_far_memory). -/
def CXL_XIO_ADDR_HI : Nat := 0xB3104
/-- CXL XIO_DATA (15_far_memory). -/
def CXL_XIO_DATA : Nat := 0xB3108
/-- CXL XIO_CTL (15_far_memory). -/
def CXL_XIO_CTL : Nat := 0xB310C
/-- CXL XIO_STAT (15_far_memory). -/
def CXL_XIO_STAT : Nat := 0xB3110
/-- HOST HOST_STAT (17_host_startup). -/
def HOST_HOST_STAT : Nat := 0xC0100
/-- HOST EVQ (17_host_startup). -/
def HOST_EVQ : Nat := 0xC0104
/-- HOST SRC_EN_LO (17_host_startup). -/
def HOST_SRC_EN_LO : Nat := 0xC0108
/-- HOST SRC_EN_HI (17_host_startup). -/
def HOST_SRC_EN_HI : Nat := 0xC010C
/-- HOST SRC_STAT_LO (17_host_startup). -/
def HOST_SRC_STAT_LO : Nat := 0xC0110
/-- HOST SRC_STAT_HI (17_host_startup). -/
def HOST_SRC_STAT_HI : Nat := 0xC0114
/-- HOST VEC_REARM (17_host_startup). -/
def HOST_VEC_REARM : Nat := 0xC0118
/-- HOST VEC_FIRED_LO (17_host_startup). -/
def HOST_VEC_FIRED_LO : Nat := 0xC011C
/-- HOST VEC_FIRED_HI (17_host_startup). -/
def HOST_VEC_FIRED_HI : Nat := 0xC0120
/-- HOST HOLDOFF (17_host_startup). -/
def HOST_HOLDOFF : Nat := 0xC0124
/-- HOST HOT_RST_CNT (17_host_startup). -/
def HOST_HOT_RST_CNT : Nat := 0xC0128
/-- HOST SRC_MAP (17_host_startup). -/
def HOST_SRC_MAP (j : Nat) : Nat := 0xC0200 + j * 0x4
/-- HOST IRQ_BLK (17_host_startup). -/
def HOST_IRQ_BLK (j : Nat) : Nat := 0xC0300 + j * 0x4
/-- HOST MSIX_TABLE (17_host_startup). -/
def HOST_MSIX_TABLE (j : Nat) : Nat := 0xC1400 + j * 0x4
/-- HOST MSIX_PBA (17_host_startup). -/
def HOST_MSIX_PBA (j : Nat) : Nat := 0xC1800 + j * 0x4
/-- HOST RING_LO (17_host_startup). -/
def HOST_RING_LO (j : Nat) : Nat := 0xC2100 + j * 0x40
/-- HOST RING_HI (17_host_startup). -/
def HOST_RING_HI (j : Nat) : Nat := 0xC2104 + j * 0x40
/-- HOST RING_CFG (17_host_startup). -/
def HOST_RING_CFG (j : Nat) : Nat := 0xC2108 + j * 0x40
/-- HOST HEAD (17_host_startup). -/
def HOST_HEAD (j : Nat) : Nat := 0xC210C + j * 0x40
/-- HOST TAIL (17_host_startup). -/
def HOST_TAIL (j : Nat) : Nat := 0xC2110 + j * 0x40
/-- HOST STAT (17_host_startup). -/
def HOST_STAT (j : Nat) : Nat := 0xC2114 + j * 0x40
/-- HOST ERR_CNT (17_host_startup). -/
def HOST_ERR_CNT (j : Nat) : Nat := 0xC2118 + j * 0x40
/-- HOST BYTES_LO (17_host_startup). -/
def HOST_BYTES_LO (j : Nat) : Nat := 0xC211C + j * 0x40
/-- HOST BYTES_HI (17_host_startup). -/
def HOST_BYTES_HI (j : Nat) : Nat := 0xC2120 + j * 0x40
/-- HOST CE_CNT (17_host_startup). -/
def HOST_CE_CNT : Nat := 0xC3100
/-- HOST UE_CNT (17_host_startup). -/
def HOST_UE_CNT : Nat := 0xC3104
/-- HOST CPL_TO_CNT (17_host_startup). -/
def HOST_CPL_TO_CNT : Nat := 0xC3108
/-- HOST UR_CNT (17_host_startup). -/
def HOST_UR_CNT : Nat := 0xC310C
/-- HOST POISON_CNT (17_host_startup). -/
def HOST_POISON_CNT : Nat := 0xC3110
/-- PWR PWR_CFG (17_host_startup). -/
def PWR_PWR_CFG : Nat := 0xD0100
/-- PWR TEMP_MAX (17_host_startup). -/
def PWR_TEMP_MAX : Nat := 0xD0104
/-- PWR TEMP_PEAK (17_host_startup). -/
def PWR_TEMP_PEAK : Nat := 0xD0108
/-- PWR TEMP (17_host_startup). -/
def PWR_TEMP (j : Nat) : Nat := 0xD0110 + j * 0x4
/-- PWR ENERGY_TOT_LO (17_host_startup). -/
def PWR_ENERGY_TOT_LO : Nat := 0xD0130
/-- PWR ENERGY_TOT_HI (17_host_startup). -/
def PWR_ENERGY_TOT_HI : Nat := 0xD0134
/-- PWR POWER_AVG (17_host_startup). -/
def PWR_POWER_AVG : Nat := 0xD0138
/-- PWR OFF_MAP (17_host_startup). -/
def PWR_OFF_MAP : Nat := 0xD0140
/-- PWR NAP_MAP (17_host_startup). -/
def PWR_NAP_MAP : Nat := 0xD0144
/-- PWR EVQ (17_host_startup). -/
def PWR_EVQ : Nat := 0xD0148
/-- MISC SPI_CFG (18_register_pages). -/
def MISC_SPI_CFG : Nat := 0xE0100
/-- MISC SPI_ADDR (18_register_pages). -/
def MISC_SPI_ADDR : Nat := 0xE0104
/-- MISC SPI_CMD (18_register_pages). -/
def MISC_SPI_CMD : Nat := 0xE0108
/-- MISC SPI_LEN (18_register_pages). -/
def MISC_SPI_LEN : Nat := 0xE010C
/-- MISC SPI_STAT (18_register_pages). -/
def MISC_SPI_STAT : Nat := 0xE0110
/-- MISC SPI_BUF (18_register_pages). -/
def MISC_SPI_BUF (j : Nat) : Nat := 0xE0200 + j * 0x4
/-- MISC UART_CFG (18_register_pages). -/
def MISC_UART_CFG : Nat := 0xE0300
/-- MISC UART_TX (18_register_pages). -/
def MISC_UART_TX : Nat := 0xE0304
/-- MISC UART_RX (18_register_pages). -/
def MISC_UART_RX : Nat := 0xE0308
/-- MISC UART_STAT (18_register_pages). -/
def MISC_UART_STAT : Nat := 0xE030C
/-- MISC I2C_CFG (18_register_pages). -/
def MISC_I2C_CFG (i : Nat) : Nat := 0xE1100 + i * 0x40
/-- MISC I2C_CMD (18_register_pages). -/
def MISC_I2C_CMD (i : Nat) : Nat := 0xE1104 + i * 0x40
/-- MISC I2C_STAT (18_register_pages). -/
def MISC_I2C_STAT (i : Nat) : Nat := 0xE1108 + i * 0x40
/-- MISC I2C_BUF (18_register_pages). -/
def MISC_I2C_BUF (i : Nat) (j : Nat) : Nat := 0xE1120 + i * 0x40 + j * 0x4
/-- MISC GPIO_DIR (18_register_pages). -/
def MISC_GPIO_DIR : Nat := 0xE1200
/-- MISC GPIO_OUT (18_register_pages). -/
def MISC_GPIO_OUT : Nat := 0xE1204
/-- MISC GPIO_IN (18_register_pages). -/
def MISC_GPIO_IN : Nat := 0xE1208
/-- MISC GPIO_EDGE (18_register_pages). -/
def MISC_GPIO_EDGE : Nat := 0xE120C
/-- MISC GPIO_HIT (18_register_pages). -/
def MISC_GPIO_HIT : Nat := 0xE1210

end Sys2Proof.Machine.Reg
end

