-- ==== Sys2Proof/Machine/RegTable.lean ====
section
/-! DEFINITION. The register space as data: one row per register of the chapters' tables (R372, R373), with the bits a
write stores (R6, R7), the bits a written 1 clears, the reset value, and the value ranges a write must meet. The addresses
have names in the namespace Reg; a row of several registers has the address base + i * ps + j * st. -/

namespace Sys2Proof.Machine

/-- One row of a register table. `w`: bits stored by a write; `c`: bits cleared by writing 1; `rc`: cleared by a read;
`wo`: reads as zero; `chk`: fields (low bit, width, least, greatest) whose value is otherwise refused. -/
structure RegRow where
  base : Nat
  ps : Nat := 0
  pc : Nat := 1
  st : Nat := 0
  n : Nat := 1
  w : Nat := 0
  c : Nat := 0
  rst : Nat := 0
  rc : Bool := false
  wo : Bool := false
  chk : List (Nat × Nat × Nat × Nat) := []
  deriving DecidableEq, Repr

/-- Whether the row holds the register at address `a`. -/
def RegRow.holds (r : RegRow) (a : Nat) : Bool :=
  if a < r.base then false else
  let d := a - r.base
  let i := if r.ps = 0 then 0 else d / r.ps
  let e := d - i * r.ps
  let j := if r.st = 0 then 0 else e / r.st
  decide (i < r.pc) && decide (j < r.n) && decide (e = j * r.st)

/-- Register rows of the TOP pages. -/
def rowsTop : List RegRow := [
  { base := 0x100, c := 0x80000000 },
  { base := 0x104, c := 0xF, rst := 0x1 },
  { base := 0x108, wo := true },
  { base := 0x10C }]

/-- Register rows of the ROOK pages. -/
def rowsRook : List RegRow := [
  { base := 0x1100 },
  { base := 0x1104 },
  { base := 0x1108, wo := true },
  { base := 0x110C },
  { base := 0x1110, st := 0x4, n := 8 },
  { base := 0x1130, wo := true },
  { base := 0x1134 },
  { base := 0x1138, w := 0xFFFF, rst := 0x384 },
  { base := 0x113C },
  { base := 0x1140, w := 0xF },
  { base := 0x1144 },
  { base := 0x1148, rc := true },
  { base := 0x114C, wo := true },
  { base := 0x1150, wo := true },
  { base := 0x1154, rc := true },
  { base := 0x1158 },
  { base := 0x1200, st := 0x4, n := 136 }]

/-- Register rows of the OTP pages. -/
def rowsOtp : List RegRow := [
  { base := 0x2100 },
  { base := 0x2104 },
  { base := 0x2800, st := 0x4, n := 512 }]

/-- Register rows of the PROT pages. -/
def rowsProt : List RegRow := [
  { base := 0x3100, wo := true },
  { base := 0x3104 },
  { base := 0x3108, rc := true },
  { base := 0x310C },
  { base := 0x3110, st := 0x4, n := 8 },
  { base := 0x3200, st := 0x4, n := 128, w := 0xFFFFFFFF },
  { base := 0x3400, st := 0x4, n := 128 }]

/-- Register rows of the AUDIT pages. -/
def rowsAudit : List RegRow := [
  { base := 0x4100 },
  { base := 0x4104 },
  { base := 0x4108 },
  { base := 0x410C, rc := true },
  { base := 0x4110 },
  { base := 0x4114, w := 0x3FF },
  { base := 0x4140, st := 0x4, n := 16 }]

/-- Register rows of the TIME pages. -/
def rowsTime : List RegRow := [
  { base := 0x8100, w := 0xFFFF173, rst := 0x2, chk := [(4, 3, 0, 4)] },
  { base := 0x8104, w := 0xFFFFF13, rst := 0x640A12, chk := [(8, 8, 1, 100)] },
  { base := 0x8108, rst := 0x10000 },
  { base := 0x810C },
  { base := 0x8110 },
  { base := 0x8114, wo := true },
  { base := 0x8118, w := 0xFF, rst := 0x4, chk := [(0, 8, 1, 60)] },
  { base := 0x8120 },
  { base := 0x8124 },
  { base := 0x8128 },
  { base := 0x812C },
  { base := 0x8130 },
  { base := 0x8134 },
  { base := 0x8138, w := 0xFFFFFFFF },
  { base := 0x813C, w := 0x8000FFFF },
  { base := 0x8140 },
  { base := 0x8144, w := 0x101FF, rst := 0x64, chk := [(0, 9, 1, 500)] },
  { base := 0x8150, w := 0x1FFFF, rst := 0xFFFF },
  { base := 0x8154, w := 0xFFFFFFFF },
  { base := 0x8158, w := 0xFFFF },
  { base := 0x815C, c := 0x4 },
  { base := 0x8160 },
  { base := 0x8170, w := 0x3F07 },
  { base := 0x8174, c := 0x2 },
  { base := 0x8178, w := 0xFFFFFFFF },
  { base := 0x817C, w := 0xFFFF },
  { base := 0x8180 },
  { base := 0x8184, w := 0xF }]

/-- Register rows of the LINK pages. -/
def rowsLink : List RegRow := [
  { base := 0x10100, ps := 0x1000, pc := 16, w := 0xFFF00EFF, rst := 0x8800E00 },
  { base := 0x10104, ps := 0x1000, pc := 16 },
  { base := 0x10108, ps := 0x1000, pc := 16, w := 0xF },
  { base := 0x1010C, ps := 0x1000, pc := 16, w := 0xFF, rst := 0x10, chk := [(0, 8, 1, 255)] },
  { base := 0x10110, ps := 0x1000, pc := 16, w := 0x1FFF, rst := 0x100, chk := [(0, 13, 0, 3071)] },
  { base := 0x10114, ps := 0x1000, pc := 16, w := 0xFFFFFFFF, rst := 0x8105050 },
  { base := 0x10118, ps := 0x1000, pc := 16, w := 0xFFFFFFFF, rst := 0x1C200280 },
  { base := 0x1011C, ps := 0x1000, pc := 16, rc := true },
  { base := 0x10120, ps := 0x1000, pc := 16, rc := true },
  { base := 0x10124, ps := 0x1000, pc := 16, rc := true },
  { base := 0x10128, ps := 0x1000, pc := 16 },
  { base := 0x10200, ps := 0x1000, pc := 16, st := 0x20, n := 8, w := 0x303F, rst := 0x20 },
  { base := 0x10204, ps := 0x1000, pc := 16, st := 0x20, n := 8 },
  { base := 0x10208, ps := 0x1000, pc := 16, st := 0x20, n := 8, rc := true },
  { base := 0x1020C, ps := 0x1000, pc := 16, st := 0x20, n := 8, rc := true },
  { base := 0x10210, ps := 0x1000, pc := 16, st := 0x20, n := 8, rc := true },
  { base := 0x10214, ps := 0x1000, pc := 16, st := 0x20, n := 8 },
  { base := 0x10218, ps := 0x1000, pc := 16, st := 0x20, n := 8 },
  { base := 0x1021C, ps := 0x1000, pc := 16, st := 0x20, n := 8 },
  { base := 0x10400, ps := 0x1000, pc := 16, st := 0x4, n := 128 },
  { base := 0x10600, ps := 0x1000, pc := 16, st := 0x4, n := 128 },
  { base := 0x10800, ps := 0x1000, pc := 16, st := 0x4, n := 32, w := 0xFFFFFFFF }]

/-- Register rows of the LDC pages. -/
def rowsLdc : List RegRow := [
  { base := 0x20100, ps := 0x1000, pc := 16, w := 0xFFF00, chk := [(8, 12, 0, 3712)] },
  { base := 0x20104, ps := 0x1000, pc := 16, wo := true },
  { base := 0x20108, ps := 0x1000, pc := 16 },
  { base := 0x2010C, ps := 0x1000, pc := 16, rc := true },
  { base := 0x20110, ps := 0x1000, pc := 16 },
  { base := 0x20180, ps := 0x1000, pc := 16, st := 0x4, n := 8 },
  { base := 0x20200, ps := 0x1000, pc := 16, st := 0x20, n := 8, w := 0x3E03FFFF },
  { base := 0x20204, ps := 0x1000, pc := 16, st := 0x20, n := 8, w := 0xFF7FFF },
  { base := 0x20208, ps := 0x1000, pc := 16, st := 0x20, n := 8, w := 0xF07, rst := 0x4 },
  { base := 0x2020C, ps := 0x1000, pc := 16, st := 0x20, n := 8 },
  { base := 0x20210, ps := 0x1000, pc := 16, st := 0x20, n := 8, w := 0x1FFFFFF },
  { base := 0x20300, ps := 0x1000, pc := 16, w := 0x1000FFF, rst := 0x1000000 },
  { base := 0x20304, ps := 0x1000, pc := 16, w := 0xFFFFF },
  { base := 0x20400, ps := 0x1000, pc := 16, st := 0x4, n := 128, w := 0x873F7F00 }]

/-- Register rows of the ECE pages. -/
def rowsEce : List RegRow := [
  { base := 0x30100, ps := 0x1000, pc := 16, w := 0x1F, rst := 0x10, chk := [(0, 5, 0, 16)] },
  { base := 0x30104, ps := 0x1000, pc := 16, w := 0xFF000, chk := [(12, 8, 0, 224)] },
  { base := 0x30108, ps := 0x1000, pc := 16 },
  { base := 0x3010C, ps := 0x1000, pc := 16, rc := true },
  { base := 0x30110, ps := 0x1000, pc := 16, rc := true },
  { base := 0x30114, ps := 0x1000, pc := 16, rc := true },
  { base := 0x30118, ps := 0x1000, pc := 16, rc := true },
  { base := 0x3011C, ps := 0x1000, pc := 16, rc := true },
  { base := 0x30120, ps := 0x1000, pc := 16 },
  { base := 0x30200, ps := 0x1000, pc := 16, st := 0x20, n := 4, w := 0xFFFFFE3F, rst := 0x80208412, chk := [(24, 8, 1, 255), (16, 8, 1, 255)] },
  { base := 0x30204, ps := 0x1000, pc := 16, st := 0x20, n := 4, w := 0xFFFFF000, rst := 0x2036C000 },
  { base := 0x30208, ps := 0x1000, pc := 16, st := 0x20, n := 4, w := 0xFFFFFF3F, rst := 0x66F07D2A },
  { base := 0x3020C, ps := 0x1000, pc := 16, st := 0x20, n := 4, w := 0xFFFFFC00, rst := 0x9228B400 },
  { base := 0x30210, ps := 0x1000, pc := 16, st := 0x20, n := 4, w := 0xFFFFFFF8, rst := 0x30C200E8 },
  { base := 0x30214, ps := 0x1000, pc := 16, st := 0x20, n := 4, w := 0xFFFFFF00, rst := 0xE47D6400, chk := [(8, 8, 25, 200)] },
  { base := 0x30800, ps := 0x1000, pc := 16, st := 0x4, n := 256 }]

/-- Register rows of the SAGE pages. -/
def rowsSage : List RegRow := [
  { base := 0x40100, ps := 0x1000, pc := 16, w := 0xFF000, chk := [(12, 8, 0, 216)] },
  { base := 0x40104, ps := 0x1000, pc := 16, w := 0xFF000, chk := [(12, 8, 0, 255)] },
  { base := 0x40108, ps := 0x1000, pc := 16 },
  { base := 0x4010C, ps := 0x1000, pc := 16, rc := true },
  { base := 0x40110, ps := 0x1000, pc := 16, rc := true },
  { base := 0x40114, ps := 0x1000, pc := 16, rc := true },
  { base := 0x40118, ps := 0x1000, pc := 16, rc := true },
  { base := 0x40200, ps := 0x1000, pc := 16, st := 0x20, n := 8, w := 0xFFFF81FF, rst := 0xFFFF81FF },
  { base := 0x40204, ps := 0x1000, pc := 16, st := 0x20, n := 8, w := 0x1FF01FF, rst := 0x1FF },
  { base := 0x40208, ps := 0x1000, pc := 16, st := 0x20, n := 8, w := 0xFFFFFFFF, rst := 0x7A10F810, chk := [(6, 6, 1, 63), (0, 6, 1, 63)] },
  { base := 0x4020C, ps := 0x1000, pc := 16, st := 0x20, n := 8, w := 0xFFFFFFFF, rst := 0xAF212846, chk := [(18, 8, 64, 255), (14, 4, 1, 15)] },
  { base := 0x40210, ps := 0x1000, pc := 16, st := 0x20, n := 8, w := 0xFFFFFF00, rst := 0xE83C2800, chk := [(8, 8, 1, 255)] },
  { base := 0x40214, ps := 0x1000, pc := 16, st := 0x20, n := 8, w := 0xFFFFF03F, rst := 0xC8DF4000, chk := [(12, 10, 1, 1023)] },
  { base := 0x40400, ps := 0x1000, pc := 16, st := 0x10, n := 16, w := 0xFFFFFFF0, rst := 0x20, chk := [(4, 4, 1, 15)] },
  { base := 0x40404, ps := 0x1000, pc := 16, st := 0x10, n := 16, w := 0xFFC00000, rst := 0x80400000 },
  { base := 0x40408, ps := 0x1000, pc := 16, st := 0x10, n := 16, w := 0xFFFFFFFF },
  { base := 0x4040C, ps := 0x1000, pc := 16, st := 0x10, n := 16, w := 0xFFFFFFFF },
  { base := 0x40800, ps := 0x1000, pc := 16, st := 0x4, n := 512 }]

/-- Register rows of the CIPH pages. -/
def rowsCiph : List RegRow := [
  { base := 0x50100, ps := 0x1000, pc := 16, w := 0x8F0001FF, rst := 0x4000000, chk := [(24, 4, 1, 15), (0, 9, 32, 511)] },
  { base := 0x50104, ps := 0x1000, pc := 16, w := 0x1 },
  { base := 0x50108, ps := 0x1000, pc := 16 },
  { base := 0x5010C, ps := 0x1000, pc := 16 },
  { base := 0x50110, ps := 0x1000, pc := 16, w := 0xF },
  { base := 0x50114, ps := 0x1000, pc := 16, rc := true },
  { base := 0x50118, ps := 0x1000, pc := 16, rc := true },
  { base := 0x5011C, ps := 0x1000, pc := 16, rc := true },
  { base := 0x50120, ps := 0x1000, pc := 16, rc := true },
  { base := 0x50124, ps := 0x1000, pc := 16, rc := true },
  { base := 0x50128, ps := 0x1000, pc := 16, rc := true },
  { base := 0x5012C, ps := 0x1000, pc := 16, rc := true },
  { base := 0x50130, ps := 0x1000, pc := 16, rc := true },
  { base := 0x50134, ps := 0x1000, pc := 16, rc := true },
  { base := 0x50138, ps := 0x1000, pc := 16, rc := true },
  { base := 0x5013C, ps := 0x1000, pc := 16, rc := true },
  { base := 0x50140, ps := 0x1000, pc := 16, rc := true },
  { base := 0x50144, ps := 0x1000, pc := 16, rc := true },
  { base := 0x50148, ps := 0x1000, pc := 16, rc := true },
  { base := 0x50200, ps := 0x1000, pc := 16, st := 0x8, n := 32 },
  { base := 0x50204, ps := 0x1000, pc := 16, st := 0x8, n := 32 }]

/-- Register rows of the CLUS pages. -/
def rowsClus : List RegRow := [
  { base := 0x60100, ps := 0x1000, pc := 16, st := 0x4, n := 8, w := 0x100, rst := 0x100 },
  { base := 0x60120, ps := 0x1000, pc := 16, st := 0x4, n := 8 },
  { base := 0x60140, ps := 0x1000, pc := 16, st := 0x4, n := 8 },
  { base := 0x60160, ps := 0x1000, pc := 16, st := 0x4, n := 8, rc := true },
  { base := 0x60180, ps := 0x1000, pc := 16, w := 0xF },
  { base := 0x60184, ps := 0x1000, pc := 16, rc := true },
  { base := 0x60188, ps := 0x1000, pc := 16, rc := true },
  { base := 0x6018C, ps := 0x1000, pc := 16, rc := true },
  { base := 0x60190, ps := 0x1000, pc := 16, rc := true },
  { base := 0x60194, ps := 0x1000, pc := 16, rc := true }]

/-- Register rows of the TURN pages. -/
def rowsTurn : List RegRow := [
  { base := 0x70100, w := 0x7F01FF, rst := 0xC0020, chk := [(16, 7, 1, 127), (0, 9, 32, 511)] },
  { base := 0x70104, w := 0xFFFF, rst := 0x802 },
  { base := 0x70108, w := 0xFFFF, rst := 0x7D, chk := [(0, 16, 1, 65535)] },
  { base := 0x7010C, w := 0xFFFFFFFF, rst := 0x7D001F4, chk := [(16, 16, 1, 65535), (0, 16, 1, 65535)] },
  { base := 0x70110, w := 0x3FFFF, rst := 0x35A95 },
  { base := 0x70114 },
  { base := 0x70118, st := 0x4, n := 4 },
  { base := 0x70128 },
  { base := 0x70130, rc := true },
  { base := 0x70134, rc := true },
  { base := 0x70138, rc := true },
  { base := 0x7013C, rc := true },
  { base := 0x70140, rc := true },
  { base := 0x70144, rc := true },
  { base := 0x70148, rc := true },
  { base := 0x7014C, rc := true },
  { base := 0x70150, rc := true },
  { base := 0x70154, rc := true },
  { base := 0x70158, rc := true },
  { base := 0x7015C, rc := true },
  { base := 0x70160, st := 0x4, n := 4, rc := true },
  { base := 0x70170, w := 0xFFFFFFFF },
  { base := 0x70174, w := 0xFFFFFFFF },
  { base := 0x70178, wo := true },
  { base := 0x7017C, c := 0x1 },
  { base := 0x70180, rc := true },
  { base := 0x70184, rc := true },
  { base := 0x71100, st := 0x4, n := 64, w := 0x800F0000 },
  { base := 0x72100 },
  { base := 0x72104, rc := true },
  { base := 0x72108, rc := true },
  { base := 0x7210C, rc := true },
  { base := 0x73100, w := 0x3FFF },
  { base := 0x73104 }]

/-- Register rows of the QM pages. -/
def rowsQm : List RegRow := [
  { base := 0x78100, w := 0xFF, rst := 0x14, chk := [(0, 8, 1, 255)] },
  { base := 0x78104, wo := true },
  { base := 0x78108 },
  { base := 0x7810C, rc := true },
  { base := 0x78110, rc := true },
  { base := 0x78114, rc := true },
  { base := 0x78200, st := 0x4, n := 16 },
  { base := 0x79100, st := 0x4, n := 512, w := 0x800F07FF },
  { base := 0x7A100, st := 0x4, n := 512, c := 0x40000000 },
  { base := 0x7B100, st := 0x4, n := 512, rc := true },
  { base := 0x7C100, st := 0x4, n := 512 },
  { base := 0x7D100, st := 0x4, n := 512 },
  { base := 0x7E100, st := 0x4, n := 512 }]

/-- Register rows of the JBE pages. -/
def rowsJbe : List RegRow := [
  { base := 0x80100, w := 0x3FFFF, rst := 0x21B10 },
  { base := 0x80104 },
  { base := 0x80108 },
  { base := 0x8010C, w := 0xFFFFFF07, rst := 0x19185003, chk := [(22, 10, 10, 1000), (16, 6, 8, 63), (0, 3, 2, 5)] },
  { base := 0x80110, w := 0x3FF, rst := 0x3C, chk := [(0, 10, 20, 640)] },
  { base := 0x80114, w := 0xFFFF, rst := 0x804, chk := [(8, 8, 2, 255), (0, 8, 1, 255)] },
  { base := 0x80118, rc := true },
  { base := 0x80120, rc := true },
  { base := 0x80124, rc := true },
  { base := 0x80128, rc := true },
  { base := 0x8012C, rc := true },
  { base := 0x80130, rc := true },
  { base := 0x80134, rc := true },
  { base := 0x80138, rc := true },
  { base := 0x8013C, rc := true },
  { base := 0x81100, st := 0x4, n := 64, w := 0xFF0000FF },
  { base := 0x81200, st := 0x4, n := 16 }]

/-- Register rows of the PRE pages. -/
def rowsPre : List RegRow := [
  { base := 0x88100, w := 0x1FFFF03, rst := 0x502700, chk := [(16, 9, 32, 496), (12, 3, 0, 4)] },
  { base := 0x88104, w := 0x3FFF, rst := 0x680 },
  { base := 0x88108, w := 0xFFFF, rst := 0x2000, chk := [(0, 16, 256, 32768)] },
  { base := 0x8810C },
  { base := 0x88110 },
  { base := 0x88120, rc := true },
  { base := 0x88124, rc := true },
  { base := 0x88128, rc := true },
  { base := 0x8812C, rc := true },
  { base := 0x88130, rc := true },
  { base := 0x88134, rc := true },
  { base := 0x88138, rc := true },
  { base := 0x8813C, rc := true },
  { base := 0x89100, st := 0x10, n := 4, rc := true },
  { base := 0x89104, st := 0x10, n := 4, rc := true },
  { base := 0x8A100, ps := 0x1000, pc := 2, st := 0x18, n := 128, w := 0xFFFC00FF, rst := 0x3C00000, chk := [(18, 4, 0, 7), (0, 8, 0, 128)] },
  { base := 0x8A104, ps := 0x1000, pc := 2, st := 0x18, n := 128, w := 0xFFFFFFFF },
  { base := 0x8A108, ps := 0x1000, pc := 2, st := 0x18, n := 128, w := 0xFFFFFFFF },
  { base := 0x8A10C, ps := 0x1000, pc := 2, st := 0x18, n := 128, w := 0xFFFFFFFF },
  { base := 0x8A110, ps := 0x1000, pc := 2, st := 0x18, n := 128, w := 0xFFFFFFFF },
  { base := 0x8A114, ps := 0x1000, pc := 2, st := 0x18, n := 128, w := 0xFFFFFFFF }]

/-- Register rows of the MAC pages. -/
def rowsMac0 : List RegRow := [
  { base := 0x90100, ps := 0x1000, pc := 4, w := 0x39B, rst := 0x82, chk := [(0, 2, 0, 2)] },
  { base := 0x90104, ps := 0x1000, pc := 4 },
  { base := 0x90108, ps := 0x1000, pc := 4, w := 0x3FFF, rst := 0x5F2, chk := [(0, 14, 64, 9600)] },
  { base := 0x9010C, ps := 0x1000, pc := 4, w := 0xFFFFFFFF },
  { base := 0x90110, ps := 0x1000, pc := 4, w := 0xFFFF },
  { base := 0x90114, ps := 0x1000, pc := 4, w := 0xFFFFFFFF, rst := 0xFFFFC080, chk := [(16, 16, 1, 65535)] },
  { base := 0x90118, ps := 0x1000, pc := 4 },
  { base := 0x9011C, ps := 0x1000, pc := 4, w := 0x1 },
  { base := 0x90120, ps := 0x1000, pc := 4, w := 0xFFFFFFFF },
  { base := 0x90124, ps := 0x1000, pc := 4, w := 0xFFFFFFFF },
  { base := 0x90128, ps := 0x1000, pc := 4, w := 0xF },
  { base := 0x9012C, ps := 0x1000, pc := 4, w := 0xFF, rst := 0x8, chk := [(0, 8, 1, 255)] },
  { base := 0x90200, ps := 0x1000, pc := 4, st := 0x20, n := 4, w := 0xFFFFFFE0 },
  { base := 0x90204, ps := 0x1000, pc := 4, st := 0x20, n := 4, w := 0xFF },
  { base := 0x90208, ps := 0x1000, pc := 4, st := 0x20, n := 4, w := 0x800F00FF, rst := 0x1F, chk := [(16, 4, 0, 8)] },
  { base := 0x9020C, ps := 0x1000, pc := 4, st := 0x20, n := 4 },
  { base := 0x90210, ps := 0x1000, pc := 4, st := 0x20, n := 4, w := 0xFFF },
  { base := 0x90214, ps := 0x1000, pc := 4, st := 0x20, n := 4, rc := true },
  { base := 0x90300, ps := 0x1000, pc := 4, st := 0x20, n := 2, w := 0xFFFFFFE0 },
  { base := 0x90304, ps := 0x1000, pc := 4, st := 0x20, n := 2, w := 0xFF },
  { base := 0x90308, ps := 0x1000, pc := 4, st := 0x20, n := 2, w := 0x800F0000, chk := [(16, 4, 0, 8)] },
  { base := 0x9030C, ps := 0x1000, pc := 4, st := 0x20, n := 2 },
  { base := 0x90310, ps := 0x1000, pc := 4, st := 0x20, n := 2, w := 0xFFF },
  { base := 0x90400, ps := 0x1000, pc := 4, rc := true },
  { base := 0x90404, ps := 0x1000, pc := 4, rc := true },
  { base := 0x90408, ps := 0x1000, pc := 4, rc := true },
  { base := 0x9040C, ps := 0x1000, pc := 4, rc := true },
  { base := 0x90410, ps := 0x1000, pc := 4, rc := true },
  { base := 0x90414, ps := 0x1000, pc := 4, rc := true },
  { base := 0x90418, ps := 0x1000, pc := 4, rc := true },
  { base := 0x9041C, ps := 0x1000, pc := 4, rc := true },
  { base := 0x90420, ps := 0x1000, pc := 4, rc := true },
  { base := 0x90424, ps := 0x1000, pc := 4, rc := true },
  { base := 0x90428, ps := 0x1000, pc := 4, rc := true },
  { base := 0x9042C, ps := 0x1000, pc := 4, rc := true },
  { base := 0x90430, ps := 0x1000, pc := 4, rc := true },
  { base := 0x90434, ps := 0x1000, pc := 4, rc := true },
  { base := 0x90438, ps := 0x1000, pc := 4, rc := true },
  { base := 0x9043C, ps := 0x1000, pc := 4, rc := true },
  { base := 0x90440, ps := 0x1000, pc := 4, rc := true }]

/-- Register rows of the MAC pages. -/
def rowsMac1 : List RegRow := [
  { base := 0x90444, ps := 0x1000, pc := 4, rc := true },
  { base := 0x90448, ps := 0x1000, pc := 4, rc := true },
  { base := 0x9044C, ps := 0x1000, pc := 4, rc := true },
  { base := 0x90450, ps := 0x1000, pc := 4, rc := true },
  { base := 0x90454, ps := 0x1000, pc := 4, rc := true },
  { base := 0x90458, ps := 0x1000, pc := 4, rc := true },
  { base := 0x9045C, ps := 0x1000, pc := 4, rc := true },
  { base := 0x90460, ps := 0x1000, pc := 4, rc := true },
  { base := 0x90464, ps := 0x1000, pc := 4, rc := true },
  { base := 0x90468, ps := 0x1000, pc := 4, rc := true },
  { base := 0x9046C, ps := 0x1000, pc := 4, rc := true },
  { base := 0x90470, ps := 0x1000, pc := 4, rc := true },
  { base := 0x90474, ps := 0x1000, pc := 4, rc := true },
  { base := 0x90478, ps := 0x1000, pc := 4, rc := true },
  { base := 0x9047C, ps := 0x1000, pc := 4, rc := true }]

/-- Register rows of the MAC pages. -/
def rowsMac : List RegRow := rowsMac0 ++ rowsMac1

/-- Register rows of the THYME pages. -/
def rowsThyme : List RegRow := [
  { base := 0x98100, w := 0xFF1FF1FF, rst := 0x4812C12C, chk := [(12, 9, 1, 300), (0, 9, 1, 300)] },
  { base := 0x98104 },
  { base := 0x98108, w := 0xFFFF0000 },
  { base := 0x9810C, w := 0xFF },
  { base := 0x98110, w := 0xFFFFF000 },
  { base := 0x98114, w := 0xFF },
  { base := 0x98118, w := 0xFFFF, rst := 0x9A, chk := [(0, 16, 1, 65535)] },
  { base := 0x9811C, w := 0x3FFF, rst := 0x660 },
  { base := 0x98120, w := 0xFF000, chk := [(12, 8, 0, 250)] },
  { base := 0x98124 },
  { base := 0x98128 },
  { base := 0x9812C },
  { base := 0x98130, rc := true },
  { base := 0x98134, rc := true },
  { base := 0x98138, rc := true },
  { base := 0x9813C, rc := true },
  { base := 0x98140, rc := true },
  { base := 0x98144, rc := true },
  { base := 0x98148, w := 0xF },
  { base := 0x99100, rc := true },
  { base := 0x99104 }]

/-- Register rows of the NMC pages. -/
def rowsNmc0 : List RegRow := [
  { base := 0xA0100, w := 0x801EFF00, rst := 0xE0A00, chk := [(8, 8, 1, 255)] },
  { base := 0xA0104 },
  { base := 0xA0108, w := 0xF },
  { base := 0xA010C, w := 0xFFFF, rst := 0x40, chk := [(0, 16, 1, 65535)] },
  { base := 0xA0110, w := 0xFFFFFFFF, rst := 0x80003E8, chk := [(16, 16, 64, 65535), (0, 16, 100, 65535)] },
  { base := 0xA0114, w := 0xFF, rst := 0x4, chk := [(0, 8, 2, 255)] },
  { base := 0xA0118, w := 0x800000FF, rst := 0x80000018, chk := [(0, 8, 1, 168)] },
  { base := 0xA011C, w := 0xFFFFFFFF, rst := 0x18200A0A, chk := [(0, 8, 1, 255)] },
  { base := 0xA0120, wo := true },
  { base := 0xA0124 },
  { base := 0xA0128 },
  { base := 0xA012C },
  { base := 0xA0130, rc := true },
  { base := 0xA0134, rc := true },
  { base := 0xA0138, rc := true },
  { base := 0xA013C, rc := true },
  { base := 0xA0140, rc := true },
  { base := 0xA0144, rc := true },
  { base := 0xA0148, rc := true },
  { base := 0xA014C, rc := true },
  { base := 0xA0150, rc := true },
  { base := 0xA0154, rc := true },
  { base := 0xA0158, rc := true },
  { base := 0xA015C, rc := true },
  { base := 0xA1100, st := 0x4, n := 22, w := 0x8000FFFF, chk := [(0, 16, 50, 65535)] },
  { base := 0xA1200, st := 0x4, n := 22, rc := true },
  { base := 0xA1300, st := 0x4, n := 22, rc := true },
  { base := 0xA1400, st := 0x4, n := 22, rc := true },
  { base := 0xA2100, st := 0x10, n := 10 },
  { base := 0xA2104, st := 0x10, n := 10 },
  { base := 0xA2108, st := 0x10, n := 10, rc := true },
  { base := 0xA210C, st := 0x10, n := 10, rc := true },
  { base := 0xA3100, w := 0xFFBFFFF, rst := 0x3FFFF, chk := [(24, 4, 0, 9), (20, 2, 0, 2)] },
  { base := 0xA3104, w := 0xFF },
  { base := 0xA3108, wo := true },
  { base := 0xA310C },
  { base := 0xA3110, wo := true },
  { base := 0xA3140, st := 0x4, n := 16, w := 0xFFFFFFFF },
  { base := 0xA3200, st := 0x4, n := 18 },
  { base := 0xA3300, st := 0x4, n := 18, w := 0xFFFFFFFF }]

/-- Register rows of the NMC pages. -/
def rowsNmc1 : List RegRow := [
  { base := 0xA4100, ps := 0x80, pc := 10, st := 0x4, n := 18 }]

/-- Register rows of the NMC pages. -/
def rowsNmc : List RegRow := rowsNmc0 ++ rowsNmc1

/-- Register rows of the CXL pages. -/
def rowsCxl : List RegRow := [
  { base := 0xB0100, w := 0xFFFF0031, rst := 0x320C0020, chk := [(24, 8, 1, 255), (16, 8, 1, 255), (4, 2, 0, 2)] },
  { base := 0xB0104 },
  { base := 0xB0108, w := 0xF },
  { base := 0xB1100, st := 0x40, n := 2, w := 0x1 },
  { base := 0xB1104, st := 0x40, n := 2 },
  { base := 0xB1108, st := 0x40, n := 2, rc := true },
  { base := 0xB110C, st := 0x40, n := 2, rc := true },
  { base := 0xB1110, st := 0x40, n := 2, rc := true },
  { base := 0xB1114, st := 0x40, n := 2, rc := true },
  { base := 0xB1118, st := 0x40, n := 2, rc := true },
  { base := 0xB111C, st := 0x40, n := 2, rc := true },
  { base := 0xB1120, st := 0x40, n := 2, rc := true },
  { base := 0xB1124, st := 0x40, n := 2, rc := true },
  { base := 0xB2100, st := 0x20, n := 4, w := 0xFFF },
  { base := 0xB2104, st := 0x20, n := 4, w := 0x7FF, chk := [(0, 11, 1, 1024)] },
  { base := 0xB2108, st := 0x20, n := 4, w := 0xF11, chk := [(8, 4, 0, 6)] },
  { base := 0xB3100, w := 0xFFFFFFFF },
  { base := 0xB3104, w := 0xFFFFFFFF },
  { base := 0xB3108, w := 0xFFFFFFFF },
  { base := 0xB310C, w := 0x3100000F, rst := 0xF },
  { base := 0xB3110 }]

/-- Register rows of the HOST pages. -/
def rowsHost : List RegRow := [
  { base := 0xC0100 },
  { base := 0xC0104, w := 0xF },
  { base := 0xC0108, w := 0xFFFFFFFF },
  { base := 0xC010C, w := 0xFFF },
  { base := 0xC0110 },
  { base := 0xC0114 },
  { base := 0xC0118, wo := true },
  { base := 0xC011C },
  { base := 0xC0120 },
  { base := 0xC0124, w := 0xFFFF },
  { base := 0xC0128, rc := true },
  { base := 0xC0200, st := 0x4, n := 44, w := 0x3F },
  { base := 0xC0300, st := 0x4, n := 20 },
  { base := 0xC1400, st := 0x4, n := 256, w := 0xFFFFFFFF },
  { base := 0xC1800, st := 0x4, n := 2 },
  { base := 0xC2100, st := 0x40, n := 8, w := 0xFFFFFFE0 },
  { base := 0xC2104, st := 0x40, n := 8, w := 0xFFFFFFFF },
  { base := 0xC2108, st := 0x40, n := 8, w := 0xC00F0000, chk := [(16, 4, 0, 8)] },
  { base := 0xC210C, st := 0x40, n := 8 },
  { base := 0xC2110, st := 0x40, n := 8, w := 0xFFF },
  { base := 0xC2114, st := 0x40, n := 8, rc := true },
  { base := 0xC2118, st := 0x40, n := 8, rc := true },
  { base := 0xC211C, st := 0x40, n := 8, rc := true },
  { base := 0xC2120, st := 0x40, n := 8, rc := true },
  { base := 0xC3100, rc := true },
  { base := 0xC3104, rc := true },
  { base := 0xC3108, rc := true },
  { base := 0xC310C, rc := true },
  { base := 0xC3110, rc := true }]

/-- Register rows of the PWR pages. -/
def rowsPwr : List RegRow := [
  { base := 0xD0100, w := 0x8FFFFFFF, rst := 0x83693264, chk := [(24, 4, 1, 15), (16, 8, 60, 120), (8, 8, 1, 255), (0, 8, 1, 255)] },
  { base := 0xD0104 },
  { base := 0xD0108, rc := true },
  { base := 0xD0110, st := 0x4, n := 8 },
  { base := 0xD0130 },
  { base := 0xD0134 },
  { base := 0xD0138 },
  { base := 0xD0140 },
  { base := 0xD0144 },
  { base := 0xD0148, w := 0xF }]

/-- Register rows of the MISC pages. -/
def rowsMisc : List RegRow := [
  { base := 0xE0100, w := 0x1FFFF, rst := 0x11403 },
  { base := 0xE0104, w := 0x7FFFFFF },
  { base := 0xE0108, wo := true },
  { base := 0xE010C, w := 0x1FF },
  { base := 0xE0110 },
  { base := 0xE0200, st := 0x4, n := 64, w := 0xFFFFFFFF },
  { base := 0xE0300, w := 0x800FFFFF, rst := 0x1B },
  { base := 0xE0304, wo := true },
  { base := 0xE0308 },
  { base := 0xE030C },
  { base := 0xE1100, ps := 0x40, pc := 2, w := 0x80000001 },
  { base := 0xE1104, ps := 0x40, pc := 2, wo := true },
  { base := 0xE1108, ps := 0x40, pc := 2 },
  { base := 0xE1120, ps := 0x40, pc := 2, st := 0x4, n := 8, w := 0xFFFFFFFF },
  { base := 0xE1200, w := 0xFFFF },
  { base := 0xE1204, w := 0xFFFF },
  { base := 0xE1208 },
  { base := 0xE120C, w := 0xFFFFFFFF },
  { base := 0xE1210, c := 0xFFFF }]

/-- The rows that may hold address `a`. -/
def rowsAt (a : Nat) : List RegRow :=
  if 0xE0000 ≤ a then rowsMisc else
  if 0xD0000 ≤ a then rowsPwr else
  if 0xC0000 ≤ a then rowsHost else
  if 0xB0000 ≤ a then rowsCxl else
  if 0xA0000 ≤ a then rowsNmc else
  if 0x98000 ≤ a then rowsThyme else
  if 0x90000 ≤ a then rowsMac else
  if 0x88000 ≤ a then rowsPre else
  if 0x80000 ≤ a then rowsJbe else
  if 0x78000 ≤ a then rowsQm else
  if 0x70000 ≤ a then rowsTurn else
  if 0x60000 ≤ a then rowsClus else
  if 0x50000 ≤ a then rowsCiph else
  if 0x40000 ≤ a then rowsSage else
  if 0x30000 ≤ a then rowsEce else
  if 0x20000 ≤ a then rowsLdc else
  if 0x10000 ≤ a then rowsLink else
  if 0x8000 ≤ a then rowsTime else
  if 0x4000 ≤ a then rowsAudit else
  if 0x3000 ≤ a then rowsProt else
  if 0x2000 ≤ a then rowsOtp else
  if 0x1000 ≤ a then rowsRook else
  rowsTop

/-- The row of the register at address `a`, if a table assigns one. -/
def rowAt (a : Nat) : Option RegRow := (rowsAt a).find? (fun r => r.holds a)

end Sys2Proof.Machine
end

