-- ==== Sys2Proof/Machine/Regs.lean ====
section
/-! DEFINITION. Reset values of the registers, the page map and the header values that a page's address fixes. -/

namespace Sys2Proof.Machine
open Sys2Proof

/-- A block of the page map: first page base, TYPE, instance, pages (R372). -/
structure PageInfo where
  first : Nat
  type : Nat
  inst : Nat
  pageNo : Nat
  pages : Nat
  insts : Nat
  deriving DecidableEq, Repr

/-- The page map (R372) for the 4 KiB page `p` = offset / 0x1000. -/
def pageInfo (p : Nat) : Option PageInfo :=
  if p = 0 then some ⟨0, 0, 0, 0, 1, 1⟩
  else if p ≤ 4 then some ⟨p * 0x1000, 1, p - 1, 0, 1, 4⟩
  else if p = 8 then some ⟨0x8000, 2, 0, 0, 1, 1⟩
  else if 0x10 ≤ p ∧ p < 0x70 then some ⟨p * 0x1000, p / 16 + 2, p % 16, 0, 1, 16⟩
  else if 0x70 ≤ p ∧ p < 0x74 then some ⟨0x70000, 9, 0, p - 0x70, 4, 1⟩
  else if 0x78 ≤ p ∧ p < 0x80 then some ⟨0x78000, 10, 0, p - 0x78, 8, 1⟩
  else if 0x80 ≤ p ∧ p < 0x84 then some ⟨0x80000, 11, 0, p - 0x80, 4, 1⟩
  else if 0x88 ≤ p ∧ p < 0x8C then some ⟨0x88000, 12, 0, p - 0x88, 4, 1⟩
  else if 0x90 ≤ p ∧ p < 0x94 then some ⟨p * 0x1000, 13, p - 0x90, 0, 1, 4⟩
  else if 0x98 ≤ p ∧ p < 0x9C then some ⟨0x98000, 14, 0, p - 0x98, 4, 1⟩
  else if 0xA0 ≤ p ∧ p < 0xA8 then some ⟨0xA0000, 15, 0, p - 0xA0, 8, 1⟩
  else if 0xB0 ≤ p ∧ p < 0xB4 then some ⟨0xB0000, 16, 0, p - 0xB0, 4, 1⟩
  else if 0xC0 ≤ p ∧ p < 0xC4 then some ⟨0xC0000, 17, 0, p - 0xC0, 4, 1⟩
  else if p = 0xD0 then some ⟨0xD0000, 18, 0, 0, 1, 1⟩
  else if 0xE0 ≤ p ∧ p < 0xE2 then some ⟨0xE0000, 19, 0, p - 0xE0, 2, 1⟩
  else none

/-- ID of a page (R375). -/
def pageId (i : PageInfo) : Nat :=
  i.type * 2 ^ 24 + (if i.pageNo = 0 then i.inst else 0x80 + i.pageNo) * 2 ^ 16 + 0x0100

/-- CAP of a page (R375). -/
def pageCap (i : PageInfo) : Nat := i.pages * 2 ^ 24 + i.insts * 2 ^ 16

/-- SET_CFG of filter set `s` (R63); sets 6 and 7 take the structure of NBF. -/
def setCfgReset (s : Nat) : Nat :=
  match s with
  | 1 => 0x0200008F
  | 2 => 0x0000004F
  | 3 => 0x000000FF
  | 4 => 0x20000000
  | 5 => 0x1E000F00
  | _ => 0x0200002F

/-- SET_GD of filter set `s` (R63). -/
def setGdReset (s : Nat) : Nat :=
  match s with
  | 0 => 8 * 2 ^ 16 + 1022
  | 1 => 20 * 2 ^ 16 + 2558
  | 2 => 12 * 2 ^ 16 + 766
  | 3 => 29 * 2 ^ 16 + 1846
  | 4 => 9 * 2 ^ 16 + 134
  | 5 => 510
  | _ => 0

/-- CODEC_TBL of the codecs Kyotar firmware provides (R130, R403). -/
def codecReset (i : Nat) : Nat :=
  match i with
  | 0 => 0xB1000006
  | 1 => 0x8100000C
  | 2 => 0x8100000C
  | 3 => 0xC1000010
  | 4 => 0x81000016
  | 5 => 0x82000015
  | 6 => 0xD4000036
  | 7 => 0xA4000026
  | 8 => 0xE4000033
  | 9 => 0xB1000078
  | _ => 0

/-- Latency target of NMC port `p` (R291). -/
def portTgtReset (p : Nat) : Nat :=
  if p < 16 then 400
  else match p with
  | 16 => 600
  | 17 => 300
  | 18 => 250
  | 19 => 2000
  | 20 => 5000
  | _ => 1000

/-- Words of the default protection table (R344): FIRST, LAST and RIGHTS of entries 0–12. -/
def protDefault (e : Nat) : Option (Nat × Nat × Nat) :=
  match e with
  | 0 => some (0x000, 0x000, 0x3D)
  | 1 => some (0x001, 0x001, 0x15)
  | 2 => some (0x002, 0x004, 0x15)
  | 3 => some (0x008, 0x008, 0x3D)
  | 4 => some (0x010, 0x02F, 0x3D)
  | 5 => some (0x030, 0x06F, 0x3F)
  | 6 => some (0x070, 0x087, 0x3F)
  | 7 => some (0x088, 0x09B, 0x3D)
  | 8 => some (0x0A0, 0x0B3, 0x3D)
  | 9 => some (0x0C0, 0x0E1, 0x3D)
  | 10 => some (0x400, 0x40F, 0x3F)
  | 11 => some (0x410, 0x4FF, 0x3D)
  | 12 => some (0x500, 0xFFF, 0x00)
  | _ => none

/-- Word `j` of the default table: two words an entry. -/
def protWord (j : Nat) : Nat :=
  match protDefault (j / 2) with
  | some (f, l, r) => if j % 2 = 0 then 2 ^ 31 + l * 2 ^ 16 + f else r
  | none => 0

/-- Reset value of the register at offset `a` where it depends on an index, else that of its row.
[DESIGN CHOICE, log 9, 11; DEDUCED, log 172] -/
def regResetN (a : Nat) : Nat :=
  if 0x3200 ≤ a ∧ a < 0x3400 then protWord ((a - 0x3200) / 4)
  else if 0x3400 ≤ a ∧ a < 0x3600 then protWord ((a - 0x3400) / 4)
  else if a % 0x1000 = 0x008 then (if 0x90000 ≤ a ∧ a < 0x94000 then 2 else 3)
  else if 0x20000 ≤ a ∧ a < 0x30000 then
    let o := a % 0x1000
    if 0x400 ≤ o then (o - 0x400) / 4 % 40 * 2 ^ 16
    else if 0x200 ≤ o ∧ o < 0x300 then
      let s := (o - 0x200) / 0x20
      match (o - 0x200) % 0x20 with
      | 0 => setCfgReset s
      | 4 => setGdReset s
      | 8 => 4
      | 0x10 => if s = 5 then 0x100000 else 0
      | _ => 0
    else if o = 0x300 then 0x1000000 else 0
  else if 0x81100 ≤ a ∧ a < 0x81200 then codecReset ((a - 0x81100) / 4)
  else if 0x71100 ≤ a ∧ a < 0x71200 then (a - 0x71100) / 4 % 16 * 2 ^ 16
  else if 0x50000 ≤ a ∧ a < 0x60000 ∧ a % 0x1000 = 0x100 then 0x4000000 + 64 + (a / 0x1000 - 0x50)
  else if 0xA1100 ≤ a ∧ a < 0xA1158 then portTgtReset ((a - 0xA1100) / 4)
  else if 0xA2100 ≤ a ∧ a < 0xA21A0 ∧ a % 0x10 = 0 then
    let i := (a - 0xA2100) / 0x10
    (if i < 8 then i else 0xF) * 2 ^ 24
  else if 0xC1400 ≤ a ∧ a < 0xC1800 then (if (a - 0xC1400) % 16 = 12 then 1 else 0)
  else if 0xC0200 ≤ a ∧ a < 0xC02B0 then (a - 0xC0200) / 4
  else match rowAt a with
    | some r => r.rst
    | none => 0

/-- Reset value of the register at offset `a`. [DESIGN CHOICE, log 9] -/
def regReset (a : Nat) : Word := w32 (regResetN a)

end Sys2Proof.Machine
end

