-- ==== Sys2Proof/Machine/State.lean ====
section
/-! DEFINITION. The state of the PXG-8192 as plain data: every register by its register space offset, the memories, and the
state of each block that its registers do not show. INVENTORY.md lists each piece with its rule. -/

namespace Sys2Proof.Machine
open Sys2Proof

/-- Faults: the machine stops. No command of this block does so: for every one the spec names a status, an event or an
effect. The type has no constructor. -/
inductive Fault where
  deriving DecidableEq, Repr

/-- Refusals: the model gives no meaning. -/
inductive Refusal where
  /-- Raised by `exec` for a command the model gives no meaning to; safe. -/
  | notModelled (mnemonic : String)
  deriving DecidableEq, Repr

/-- The TIME block beyond its registers (R26–R37). -/
structure TimeSt where
  /-- FTIME, the 48-bit frame count (R26). -/
  ftime : Nat := 0
  /-- FPHASE, 0–6143, of the latest stamp in the frame (R26, R27). -/
  fphase : Nat := 0
  /-- The 1 µs tick count that ages and waits are measured in (R207, R211); the model's own origin, 0 at reset. -/
  us : Nat := 0
  /-- The armed SYNC_AT: its frame and its latched mask (R34, R35). -/
  armed : Option (Nat × Nat) := none
  /-- NOW and LSYNC triggers taken and not yet in force: sync frame and latched mask (R34). -/
  trig : List (Nat × Nat) := []
  /-- Pin PPSOUT is high, since the frame given (R33). -/
  ppsOut : Option Nat := none
  /-- Width in SCLK of the DSYNCO pulse of this frame, 0 for none (R36). -/
  dsyncOut : Nat := 0
  /-- Last PPSIN edge, in SCLK since reset, for the spacing check of source 2. -/
  ppsLast : Option Nat := none
  /-- Consecutive good PPSIN edges (source 2). -/
  ppsGood : Nat := 0
  /-- PPSIN_MISS has been reported and no edge has come since (R33). -/
  ppsMiss : Bool := false
  /-- PTP samples within LOCK_THRESH × 100 (source 3), and the frame of the last sample. -/
  ptpGood : Nat := 0
  ptpAt : Option Nat := none
  /-- Consecutive good DSYNCI pulses (source 4), and the last pulse in SCLK since reset. -/
  dsyncGood : Nat := 0
  dsyncAt : Option Nat := none
  /-- The frame that the last 3-SCLK pulse of DSYNCI opened (R36). -/
  wideAt : Option Nat := none
  /-- Consecutive frames with an alignment error beyond ±2 SCLK (R36). -/
  dsyncBad : Nat := 0
  /-- The frame in which each source last qualified (R29). -/
  qualAt : Tab Nat := []
  /-- The last phase error of each time source, ns (R38). -/
  phErr : Tab Int := []
  /-- The frame since which nothing has broken the lock criteria of the selected source (R30). -/
  critAt : Nat := 0
  /-- The frame in which the DPLL entered LOCKED (R30). -/
  lockAt : Nat := 0
  deriving DecidableEq, Repr

/-- A management message: SEQ and payload (R55). -/
structure Mgmt where
  seq : Nat
  payload : List Nat
  deriving DecidableEq, Repr

/-- An LDI frame that has completed and waits to be processed in the next SCLK frame (R10, R48). -/
structure LdiRx where
  /-- The sync word and the CRC were right. -/
  good : Bool
  fcnt : Nat
  flags : Nat
  /-- The 764 checked bytes of the frame. -/
  bytes : List Nat
  deriving DecidableEq, Repr

/-- An LDO frame as LINK closes it (R43, R45). -/
structure LdoFrame where
  fcnt : Nat
  underrun : Bool
  slip : Bool
  /-- Four 32 kHz samples per slot. -/
  pcm : List (List Int)
  /-- The 16 control words. -/
  ctl : List Nat
  mgmt : Option Mgmt
  deriving DecidableEq, Repr

/-- The training of a link: a scan over taps or a confirmation at one tap (R46). -/
inductive Training where
  /-- Scan of taps `lo`–`hi`: tap under trial, its frames and good frames so far, the pass map. -/
  | scan (fast : Bool) (lo hi tap frames good map : Nat)
  /-- Confirmation at the chosen tap: frames and consecutive good frames. -/
  | confirm (fast : Bool) (frames good : Nat)
  deriving DecidableEq, Repr

/-- One line link beyond LNK_STAT, its counters and its tap map (R45–R49, R55). -/
structure Link where
  training : Option Training := none
  /-- LINK_EN was cleared: DISABLED at the next frame boundary. -/
  disabling : Bool := false
  /-- The frame received in this SCLK frame. -/
  rx : Option LdiRx := none
  /-- Consecutive frames without the sync word. -/
  noSync : Nat := 0
  /-- Frames of the CRC errors of the last second (R47). -/
  crcAt : List Nat := []
  /-- FE_ALARM of the last good frame. -/
  feAlarm : Bool := false
  /-- The frame in which the link went DOWN. -/
  downAt : Nat := 0
  /-- Messages waiting, oldest first, and the next SEQ. -/
  mgmt : List Mgmt := []
  mgmtSeq : Nat := 0
  /-- The LDO frame closed at FPHASE 0 of this frame, until it leaves. -/
  closed : Option LdoFrame := none
  /-- Link frames started in this SCLK frame. -/
  started : Nat := 0
  /-- The last LDO frame that left on the lane. -/
  sent : Option LdoFrame := none
  deriving DecidableEq, Repr

/-- One bank's clock inputs (R47, R49, R50). -/
structure Bank where
  /-- Frames for which clock and frame pulses have been regular since the last fault. -/
  regular : Nat := 0
  /-- The kinds of slip posted in this frame, 2 × transmit + kind: the bank posts none of them twice. -/
  slipPosted : List Nat := []
  deriving DecidableEq, Repr

/-- A debounce count in progress: the new value, the good frames it has held, the frame that first showed it (R51). -/
structure Deb where
  value : Bool := false
  count : Nat := 0
  stamp : Nat := 0
  deriving DecidableEq, Repr

/-- A cadence on a line (R53, R402). -/
structure Cadence where
  /-- The latched (ON, OFF) counts of the four segments. -/
  segs : List (Nat × Nat)
  seg : Nat
  /-- RING_ON of the current part of the segment. -/
  on : Bool
  /-- The frame at whose close the current part ends. -/
  due : Nat
  cycles : Nat
  done : Nat
  /-- MODE and RING_ON before LINE_RING. -/
  prevMode : Nat
  prevOn : Nat
  deriving DecidableEq, Repr

/-- One line's status and control (R51–R54). -/
structure Line where
  /-- Debounce counts of status bits 15–11, keyed by bit. -/
  deb : Tab Deb := []
  /-- Stamp of the previous OFFHOOK change. -/
  hookAt : Option Nat := none
  /-- The control word in force for the next LDO close. -/
  ctl : Nat := 0
  cadence : Option Cadence := none
  /-- The part of the cadence in progress ends at the next close (R53). -/
  stepDue : Bool := false
  /-- A debounced ring trip whose action falls at the next close (R54). -/
  trip : Option Nat := none
  /-- LINE_RING_DONE events due at the next close: cycles completed. -/
  doneDue : List Nat := []
  /-- First playout instant after CTX_BIND_LINE plus 2: TX_UNDERRUN counts from this frame (R11). -/
  underrunFrom : Option Nat := none
  /-- The last input samples of the transmit interpolator, newest first (R45). -/
  txHist : List Int := []
  /-- The last samples as LINK sent them, newest first: the ECE's reference (R84). -/
  ref : List Int := []
  deriving DecidableEq, Repr

/-- The LINK blocks beyond their registers. -/
structure LinkSt where
  links : Tab Link := []
  banks : Tab Bank := []
  lines : Tab Line := []
  deriving DecidableEq, Repr

/-- A measurement in progress (R75). -/
structure Meas where
  /-- First frame of the window. -/
  start : Nat
  len : Nat
  freq : Nat
  dest : Nat
  /-- Output rate of the line's set, Hz. -/
  rate : Nat
  /-- FTIME of the first output, once there is one. -/
  first : Option Nat := none
  /-- Outputs taken. -/
  count : Nat := 0
  skip : Nat := 0
  /-- Outputs that count: index in the window and value, newest first. -/
  vals : List (Nat × Int) := []
  deriving DecidableEq, Repr

/-- The line block in progress (R69, R70). -/
structure Blk where
  t : Nat
  nsamp : Nat
  flags : Nat := 0
  unset : Nat := 0
  fault : Nat := 0
  deriving DecidableEq, Repr

/-- The decimator of one line (R58–R67). -/
structure LdcLine where
  /-- LINE_CFG as it is in force (R68). -/
  cfg : Nat := 0
  /-- Phase delay line, newest first; `none` is a replaced sample (R58). -/
  delay : List (Option Int) := []
  /-- Integrators and combs of stage 1, modulo 2^24 (R59). -/
  integ : List Nat := [0, 0, 0, 0]
  comb : List Nat := [0, 0, 0, 0]
  /-- Delay lines of stages 2 and 3, newest first. -/
  st2 : List Int := []
  st3 : List Int := []
  /-- Modulator samples since the last reset (R65). -/
  cnt : Nat := 0
  /-- The last reset was a full clear (R68). -/
  full : Bool := true
  /-- Frames still to carry the link-fault mark (R71). -/
  tail : Nat := 0
  /-- Stage 2 has saturated since the last output (R77). -/
  sat2 : Bool := false
  blk : Option Blk := none
  meas : Option Meas := none
  deriving DecidableEq, Repr

/-- A filter set's cross-fade (R73, R74). -/
structure SetSt where
  /-- The running fade: outputs computed and the length exponent latched at its start. -/
  fade : Option (Nat × Nat) := none
  /-- A requested fade starts at the next frame. -/
  starting : Bool := false
  /-- The pending swap starts at the next frame: the fade before it has ended. -/
  owed : Bool := false
  deriving DecidableEq, Repr

/-- The LDC blocks beyond their registers. -/
structure LdcSt where
  lines : Tab LdcLine := []
  /-- Filter sets, keyed 8 × bank + set. -/
  sets : Tab SetSt := []
  /-- Coefficients, 20-bit codes, keyed by `coefKey`. -/
  coefs : Tab Nat := []
  /-- Link and bank sync triggers: bank, sync frame, link mask (R34). -/
  trig : List (Nat × Nat × Nat) := []
  /-- Banks whose LDC.RST takes effect at the next frame (R78). -/
  rst : List Nat := []
  /-- Lines whose LINE_CFG has been written since the last frame began (R68). -/
  dirty : List Nat := []
  deriving DecidableEq, Repr

/-- A recorded sample pair with the live residual and the FLAGS of R85. -/
structure EceEntry where
  x : Int
  y : Int
  e : Int
  flags : Nat
  deriving DecidableEq, Repr

/-- The background filter of an echo instance (R97–R101): a slot, or two for wideband. -/
structure EceBg where
  /-- 0 loaded by ECE_LOAD; 1 replay or real time before the comparison; 2 comparison; 3 decided. -/
  phase : Nat
  h : List Int
  /-- It belongs to a retro-convergence. -/
  retro : Bool := true
  /-- Frame T0 and replay length R in frames. -/
  t0 : Nat := 0
  r : Nat := 0
  /-- Sample time of the next sample to read. -/
  pos : Nat := 0
  /-- Its reference delay line, newest first. -/
  xs : List Int := []
  journal : Bool := false
  fallback : Bool := false
  /-- A journal read failed; the replay waits for its restart. -/
  failed : Bool := false
  /-- Oldest ring entries taken at the grant, before the frame that overwrites them (R98). -/
  held : List EceEntry := []
  /-- Short power average of the reference it reads. -/
  sx : Nat := 0
  /-- Comparison window: samples seen, samples with the far end active, residual energies. -/
  seen : Nat := 0
  far : Nat := 0
  eLive : Nat := 0
  eBg : Nat := 0
  /-- Energy of y over the same samples. -/
  eY : Nat := 0
  deriving DecidableEq, Repr

/-- A fade between the live and the background filter (R101): outputs computed, exponent, and whether it is a fade that
was pending. -/
structure EceFade where
  m : Nat
  k : Nat
  pending : Bool
  deriving DecidableEq, Repr

/-- Changes that take effect at the next frame boundary (R103). -/
structure EceNext where
  kind : Option Bool := none
  tlen : Option Nat := none
  bulk : Option Nat := none
  prof : Option Nat := none
  freeze : Option Bool := none
  bypass : Option Bool := none
  deriving DecidableEq, Repr

/-- An echo canceller instance (R79–R102), held at its unit. -/
structure Ece where
  ctx : Nat
  packet : Bool
  wide : Bool
  tlen : Nat
  bulk : Nat
  prof : Nat
  freeze : Bool := false
  bypass : Bool := false
  /-- Attached and not yet in force: its filter is set to zero at the next frame boundary. -/
  fresh : Bool := true
  next : Option EceNext := none
  /-- Answer-tone indication to act on at the next frame: true with phase reversals (R122). -/
  toneInd : Option Bool := none
  /-- 0 none; 1 NLP-off; 2 bypass by tone (R94). -/
  tone : Nat := 0
  /-- Frame since which both short averages have been below REEN_LEVEL. -/
  lowSince : Option Nat := none
  /-- Live coefficients, Q2.22 codes, tap 0 first. -/
  h : List Int := []
  /-- Focus window start / 16 and whether a placement is due (R88). -/
  focus : Nat := 0
  focusDue : Bool := false
  /-- Reference and input samples, newest first. -/
  xs : List Int := []
  ys : List Int := []
  /-- Short and long power averages of x, y, e; the short averages of y and e in single talk (R82, R95). -/
  sx : Nat := 0
  sy : Nat := 0
  se : Nat := 0
  lx : Nat := 0
  ly : Nat := 0
  le : Nat := 0
  ty : Nat := 0
  te : Nat := 0
  /-- The long averages have been updated, so ERL is no longer GEIGEL. -/
  measured : Bool := false
  /-- MU_FAST is in use. -/
  fast : Bool := true
  align : Nat := 0
  /-- ALIGN changed; the trigger waits for the first settled output (R96). -/
  alignTrig : Bool := false
  dt : Bool := false
  /-- Sample time of the last sample that met a test, and the frame since which DT has held with the far end active. -/
  dtAt : Nat := 0
  dtSince : Option Nat := none
  dropSince : Option Nat := none
  /-- Last frame with the far end active. -/
  farAt : Option Nat := none
  /-- Samples since the NLP engaged, 0 while it is released, at most 16. -/
  nlp : Nat := 0
  /-- Noise level Pn, in units of 2 ^ -20 of a power. -/
  pn : Nat := 0
  /-- Comfort noise (R93): the LFSR, the filter's last output, and the averages of e² and of e times the e before it while the
  far end was inactive. -/
  lfsr : BitVec 32 := 1#32
  cnv : Int := 0
  ac0 : Nat := 0
  ac1 : Int := 0
  ePrev : Int := 0
  /-- The last sample of y carried the link-fault mark. -/
  faulted : Bool := false
  /-- Sample time of the next sample. -/
  cnt : Nat := 0
  /-- Journal sample time minus sample time (PACKET). -/
  jofs : Int := 0
  adapted : Nat := 0
  dtSamples : Nat := 0
  triggers : Nat := 0
  swaps : Nat := 0
  bg : Option EceBg := none
  fade : Option EceFade := none
  /-- A fade that has reached 2^XF_K, whose event is due (R101). -/
  ended : Option EceFade := none
  /-- A fade starts at the next frame boundary. -/
  starting : Bool := false
  /-- A swap is pending until its fade starts. -/
  pend : Bool := false
  deriving DecidableEq, Repr

/-- A submitted PACKET block (R81): instance, tag, frame of the submit, JNL_TIME. -/
structure EceBlock where
  inst : Nat
  tag : Nat
  frame : Nat
  jtime : Nat
  deriving DecidableEq, Repr

/-- An accepted trigger waiting for slots (R97): instance, R in frames. -/
structure EceTrig where
  inst : Nat
  r : Nat
  deriving DecidableEq, Repr

/-- The ECEs beyond their registers. -/
structure EceSt where
  /-- Instances, keyed 256 × cluster + unit. -/
  insts : Tab (Option Ece) := []
  blocks : List EceBlock := []
  trigs : List EceTrig := []
  /-- Profile registers written since the frame began, with the values still in force (R104). -/
  old : List (Nat × Word) := []
  /-- Clusters whose ECE.RST takes effect at the next frame. -/
  rst : List Nat := []
  deriving DecidableEq, Repr

/-- A run of a tone detector (R109): its start, its last passing step, whether it has been declared, and the level at the last
passing step. -/
structure Run where
  t0 : Nat
  t1 : Nat
  declared : Bool := false
  lv : Nat := 0
  deriving DecidableEq, Repr

/-- A CPT entry on a stream (R113): the run in progress, the last ON interval, the segment expected next, the matched
cycles and the start of the first of them, and whether it is declared. -/
structure Cpt where
  run : Option Run := none
  last : Option (Nat × Nat) := none
  seg : Nat := 0
  cycles : Nat := 0
  first : Nat := 0
  declared : Bool := false
  /-- Level of the last window that passed. -/
  lv : Nat := 0
  deriving DecidableEq, Repr

/-- The ANS detector (R115): run, code declared, time of the last reversal, and whether a valid one was posted. -/
structure Ans where
  run : Option Run := none
  code : Nat := 0
  rev : Option Nat := none
  posted : Bool := false
  deriving DecidableEq, Repr

/-- An FSK receiver (R116, R117): last bits with their start times, newest first; flags or seizure and mark counts;
character in progress and bytes held. -/
structure Fsk where
  bits : List (Nat × Bool) := []
  count : Nat := 0
  marks : Nat := 0
  first : Nat := 0
  declared : Bool := false
  t0 : Nat := 0
  t1 : Nat := 0
  /-- Pair in use in mode 3: true is 1,300/2,100 Hz. -/
  pair : Option Bool := none
  /-- Bits of the character in progress after its start bit. -/
  char : Option (List Bool) := none
  /-- Bytes held with their framing flags, and the start time of the first. -/
  held : List (Nat × Bool) := []
  heldAt : Nat := 0
  idle : Nat := 0
  /-- The discriminator's sign, the time of the next bit decision in thirds of a sample (0 for none), and the carrier's level. -/
  sign : Bool := false
  due : Nat := 0
  lv : Nat := 0
  deriving DecidableEq, Repr

/-- A level detector (R118). -/
structure Lvl where
  since : Option Nat := none
  on : Bool := false
  at_ : Nat := 0
  deriving DecidableEq, Repr

/-- The detectors of a stream. -/
structure Dets where
  /-- DTMF runs: digit, run, due but waiting for the old digit's OFF record. -/
  dtmf : List (Nat × Run × Bool) := []
  cpt : Tab Cpt := []
  cng : Option Run := none
  ans : Ans := {}
  t2225 : Option Run := none
  v21 : Fsk := {}
  cid : Fsk := {}
  sil : Lvl := {}
  high : Lvl := {}
  deriving DecidableEq, Repr

/-- One stream of a Sage slot (R105–R118). -/
structure Stream where
  prof : Nat := 0
  mask : Nat := 0
  det : Dets := {}
  /-- 8 kHz samples, newest first; `none` is a marked sample. -/
  hist : List (Option Int) := []
  /-- 16 kHz input waiting for decimation, newest first. -/
  raw : List (Option Int) := []
  /-- Sample time of the next 8 kHz sample, and the earliest t0 a detector may take: of all, and by class. -/
  time : Nat := 0
  floor : Nat := 0
  floors : Tab Nat := []
  avg : Nat := 0
  /-- Line stream: the samples of the previous frame. -/
  inbox : List (Option Int) := []
  /-- Packet stream: a block submitted and not read: frame of the submit and SAGE_TIME. -/
  block : Option (Nat × Nat) := none
  /-- Packet stream: the end of the previous block. -/
  blockEnd : Option Nat := none
  lost : Bool := false
  records : Nat := 0
  drops : Nat := 0
  deriving DecidableEq, Repr

/-- A Sage slot. -/
structure SageSlot where
  ctx : Nat
  wide : Bool
  s0 : Stream
  s1 : Stream
  /-- Attached, in force at the next frame boundary. -/
  fresh : Bool := true
  /-- Changes of SAGE_MODIFY for the next frame boundary: profiles and masks. -/
  next : Option (Option Nat × Option Nat × Option Nat × Option Nat) := none
  /-- Detached at the next frame boundary. -/
  leaving : Bool := false
  deriving DecidableEq, Repr

/-- An entry of an event ring in use (R121): cluster, index, context. -/
structure SageEnt where
  cluster : Nat
  idx : Nat
  ctx : Nat
  deriving DecidableEq, Repr

/-- The Sages beyond their registers. -/
structure SageSt where
  /-- Slots, keyed 512 × cluster + slot. -/
  slots : Tab (Option SageSlot) := []
  ring : List SageEnt := []
  /-- Next index of each cluster's event ring. -/
  next : Tab Nat := []
  /-- Profile and CPT registers written since the frame began, with the values still in force. -/
  old : List (Nat × Word) := []
  rst : List Nat := []
  /-- Contexts whose JBE enters data mode at the next frame, with the class of the record (R123). -/
  data : List (Nat × Nat) := []
  deriving DecidableEq, Repr

/-- A network address and port with the MAC it was seen on (R146). -/
structure Peer where
  addr : Nat
  port : Nat
  mac : Nat
  deriving DecidableEq, Repr

/-- The transmit template (R145). -/
structure Template where
  mac : Nat
  dstMac : Nat
  srcMac : Nat
  tags : List Nat
  v6 : Bool
  srcAddr : Nat
  dstAddr : Nat
  dscp : Nat
  ttl : Nat
  flow : Nat
  srcPort : Nat
  dstPort : Nat
  ssrc : Option Nat
  txTs : Option Nat
  seq : Option Nat
  deriving DecidableEq, Repr

/-- A received RFC 4733 event (R140). -/
structure RxEvent where
  ts : Nat
  code : Nat
  vol : Nat
  dur : Nat
  last : Nat
  active : Bool
  deriving DecidableEq, Repr

/-- What a CTX_MODIFY changes at the next playout instant (R129). -/
structure CtxMod where
  codec : Option Nat := none
  minLead : Option Nat := none
  maxLead : Option Nat := none
  data : Option Bool := none
  evtMode : Option Nat := none
  latch : Option Nat := none
  deriving DecidableEq, Repr

/-- Reception and transmission counts of a context (R127, R137, R147). -/
structure CtxCnt where
  rx : Nat := 0
  late : Nat := 0
  early : Nat := 0
  dup : Nat := 0
  discard : Nat := 0
  lost : Nat := 0
  pkts : Nat := 0
  octets : Nat := 0
  /-- First sequence number since the statistics were cleared, and the extended highest. -/
  base : Option Nat := none
  extSeq : Nat := 0
  /-- Interarrival jitter, sixteenths of a frame (RFC 3550). -/
  jit : Nat := 0
  txPkts : Nat := 0
  txOctets : Nat := 0
  lastTs : Nat := 0
  lastTime : Nat := 0
  deriving DecidableEq, Repr

/-- One context (R126, R127, R135–R146). -/
structure Ctx where
  /-- 0 FREE; 1 OPEN; 2 CLOSING. -/
  state : Nat := 0
  home : Nat := 0
  evq : Nat := 16
  line : Option Nat := none
  /-- A CTX_BIND_LINE (true) or CTX_UNBIND_LINE (false) takes effect at the line's next block boundary (R129). -/
  bindDue : Option Bool := none
  net : Bool := false
  data : Bool := false
  partner : Option Nat := none
  hairpin : Bool := false
  /-- A join takes effect at the next playout instant: partner and HAIRPIN (R129). -/
  joinDue : Option (Nat × Bool) := none
  /-- A split takes effect at the next playout instant; true posts CTX_PARTNER_LOST. -/
  splitDue : Option Bool := none
  ringPend : Option (Nat × Nat) := none
  /-- SRTP suite, or none. -/
  srtp : Option Nat := none
  codec : Nat := 0
  /-- NONE at 16 kHz (R403). -/
  wide : Bool := false
  rxpt : Nat := 0
  txpt : Nat := 0
  nslot : Nat := 0
  bph : Nat := 0
  latch : Nat := 0
  pkph : Nat := 0
  txph : Nat := 0
  /-- PKPH and TXPH to take at the next packet boundary. -/
  phPend : Option (Nat × Nat) := none
  minLead : Nat := 0
  maxLead : Nat := 0
  /-- TARGET in frames. -/
  target : Nat := 0
  clu : Nat := 0
  vpt : Nat := 0
  evPt : Nat := 0
  cnPt : Nat := 0
  evtMode : Nat := 0
  /-- JBSTATE: true is PLAY. -/
  play : Bool := false
  mod : CtxMod := {}
  b : Nat := 0
  /-- The last operand word (R127). -/
  word : Nat := 0
  /-- Ticks claimed since B: PPOS = B + pos (R135). -/
  pos : Nat := 0
  /-- Playout starts at the first instant at or after this frame (R138). -/
  playFrom : Nat := 0
  /-- The next operand carries RESYNC. -/
  resync : Bool := false
  /-- Consecutive packets judged LATE or EARLY (R138). -/
  run : Nat := 0
  ssrc : Option Nat := none
  /-- A packet was discarded for its duration since the last stored one. -/
  ptimeRun : Bool := false
  /-- Adaptation: window start, least lead in ticks, whether a LATE came, packets stored, adjustment left (R139). -/
  winStart : Nat := 0
  leadMin : Option Int := none
  winLate : Bool := false
  winCount : Nat := 0
  adj : Int := 0
  /-- Arrival frame and timestamp of the last packet, for the jitter (RFC 3550). -/
  transit : Option (Nat × Nat) := none
  /-- Lead of the packet last stored, in frames. -/
  lead : Option Int := none
  /-- The last packet number counted as lost. -/
  lostN : Option Nat := none
  /-- A comfort-noise interval is open (R141). -/
  cn : Bool := false
  event : Option RxEvent := none
  /-- Event of CTX_SEND_EVENT: code, volume, duration (R129). -/
  sending : Option (Nat × Nat × Nat) := none
  /-- End packets of it released. -/
  sentEnds : Nat := 0
  /-- Instants still held in data mode (R142). -/
  hold : Nat := 0
  cur : Option Peer := none
  cand : Option (Peer × Nat) := none
  template : Option Template := none
  txTs : Nat := 0
  txSeq : Nat := 0
  txSsrc : Nat := 0
  cnt : CtxCnt := {}
  deriving DecidableEq, Repr

/-- An RTP packet or UDPTL packet that waits for the JBE (R137, R143): context, pool buffer, arrival frame, source and MAC,
the RTP header fields and the payload. -/
structure RtpPacket where
  ctx : Nat
  buf : Nat
  arrival : Nat
  srcAddr : Nat
  srcPort : Nat
  mac : Nat
  pt : Nat
  marker : Bool
  seq : Nat
  ts : Nat
  ssrc : Nat
  payload : List Nat
  deriving DecidableEq, Repr

/-- The JBE beyond its registers. -/
structure JbeSt where
  /-- Packets handed to the JBE and not yet judged, oldest first. -/
  inbox : List RtpPacket := []
  ctxs : Tab Ctx := []
  deriving DecidableEq, Repr

/-- The journal settings of a context (R164). -/
structure JCfg where
  on : Bool
  preset : Nat
  table : Nat
  depth : Nat
  enc : Bool
  deriving DecidableEq, Repr

/-- The journal stream state of one stream (R161): seeds, the sub-blocks held by absolute number, the one being filled. -/
structure JStream where
  x1 : Int := 0
  x2 : Int := 0
  subs : Tab (List Int) := []
  cur : List Int := []
  deriving DecidableEq, Repr

/-- An epoch of a journalled context (R155, R156). -/
structure Epoch where
  preset : Nat
  wide : Bool
  enc : Bool
  table : Nat
  /-- A changed code table and the block from which it is in force (R155). -/
  tableNext : Option (Nat × Nat) := none
  bph : Nat
  stride : Nat
  nblk : Nat
  /-- First block, the next block to code and the last block written. -/
  ep : Nat
  next : Nat
  last : Option Nat := none
  kgenEp : Nat
  kgenW : Nat
  tOpen : Nat
  s0 : JStream := {}
  s1 : JStream := {}
  /-- The last block was a gap of the run in progress. -/
  gapRun : Bool := false
  /-- Blocks written since the directory record was rewritten. -/
  since : Nat := 0
  deriving DecidableEq, Repr

/-- The journal of a context. -/
structure JCtx where
  cfg : JCfg
  /-- An epoch begins, or the epoch ends, at the next block boundary; a code table to take there. -/
  begin_ : Bool := false
  end_ : Bool := false
  table : Option Nat := none
  epoch : Option Epoch := none
  deriving DecidableEq, Repr

/-- A coded slot on its way to far memory (R152). -/
structure JSlot where
  ctx : Nat
  stream : Nat
  block : Nat
  addr : Nat
  bytes : List Nat
  kgen : Nat
  /-- It waits for the home CIPH to encrypt it. -/
  plain : Bool
  endFrame : Nat
  gap : Bool := false
  deriving DecidableEq, Repr

/-- A running THYME_COPY (R166). -/
structure JCopy where
  ctx : Nat
  mask : Nat
  next : Nat
  last : Option Nat
  dest : Nat
  len : Nat
  used : Nat := 0
  copied : Nat := 0
  deriving DecidableEq, Repr

/-- A queued THYME_CODE job (R167). -/
structure JJob where
  r : CmdRef
  decode : Bool
  wide : Bool
  table : Nat
  inp : Nat
  inLen : Nat
  out : Nat
  outLen : Nat
  state : Nat
  start : Bool
  deriving DecidableEq, Repr

/-- What a coder job saves (R167): pending bits, position in the block, predictor and seeds, partition k, table in use. -/
structure JSave where
  bits : List Bool := []
  pos : Nat := 0
  x1 : Int := 0
  x2 : Int := 0
  k : Nat := 0
  table : Nat := 0
  /-- Bits of the word in progress that are consumed (decoding), and the SEQ field of the headers (encoding). -/
  al : Nat := 0
  seq : Nat := 0
  deriving DecidableEq, Repr

/-- Thyme beyond its registers. -/
structure ThymeSt where
  ctxs : Tab (Option JCtx) := []
  slots : List JSlot := []
  copies : List JCopy := []
  jobs : List JJob := []
  /-- Journal keys held: generation and key, current first (R162). -/
  keys : List (Nat × Nat) := []
  /-- Submit ring entries not yet read: cluster and entry (R150). -/
  subs : List (Nat × Nat) := []
  /-- SEQ of the next slot; 2^48 makes it rotate (R162). -/
  seq : Nat := 0
  /-- The link was lost since Thyme was last enabled (R170). -/
  lost : Bool := false
  deriving DecidableEq, Repr

/-- An operand (R206). -/
structure Operand where
  type : Nat
  flow : Nat
  stamp : Nat
  d0 : Nat
  d1 : Nat
  deriving DecidableEq, Repr

/-- Who posts an operand, and so how it reacts to a refusal (R215). -/
inductive Producer where
  /-- LINE_BLOCK and PLAYOUT: again at frame boundaries, dropped at the next block boundary, the frame given. -/
  | boundary (until_ : Nat)
  /-- Again at each frame boundary, never dropped (PKT_IN, ECE_NOTE, TIMER, HOST_CMD). -/
  | keep
  /-- Sage: again in each following frame (R121). -/
  | sage
  /-- A Turn request of a core: stays at the head of the request queue. -/
  | core
  /-- SYS_POST. -/
  | host
  deriving DecidableEq, Repr

/-- A move: ready, in a slot or in service (R207, R209). -/
structure Move where
  type : Nat
  flow : Nat
  level : Nat
  rlevel : Nat
  solo : Bool
  miss : Bool
  stamp : Nat
  /-- Ready time, µs (MV2.WAIT counts from it). -/
  ready : Nat
  /-- When it entered its level, µs (R211); in a slot, the age it had at placement. -/
  levelAt : Nat
  wait : Nat
  d0 : Nat
  d1 : Nat
  d2 : Nat
  d3 : Nat
  /-- Reserved and shared store entries it carries (R215). -/
  res : Nat
  shr : Nat
  deriving DecidableEq, Repr

/-- An unmatched boundary operand and whether it took a shared entry. -/
structure Held where
  op : Operand
  shared : Bool
  deriving DecidableEq, Repr

/-- A flow of Turn (R207–R213). -/
structure Flow where
  unmatched : List Held := []
  /-- The latest boundary a move was readied for (R208). -/
  lastF : Option Nat := none
  /-- A move of the flow is held. -/
  held : Bool := false
  lastCore : Option Nat := none
  deriving DecidableEq, Repr

/-- An armed Hourglass timer (R216). -/
structure Timer where
  flow : Nat
  due : Nat
  period : Nat
  user : Nat
  /-- The frame in which it was armed. -/
  armed : Nat
  deriving DecidableEq, Repr

/-- Turn beyond its registers. -/
structure TurnSt where
  /-- Operands posted and not yet judged, oldest first. -/
  posted : List (Operand × Producer) := []
  /-- Refused operands, posted again at the next frame boundary. -/
  retry : List (Operand × Producer) := []
  flows : Tab Flow := []
  /-- Every ready move, oldest ready time first. -/
  ready : List Move := []
  timers : Tab (Option Timer) := []
  /-- The last core placed. -/
  lastPlaced : Nat := 127
  /-- The request at the head of the request queue has been refused, until the next frame boundary (R215). -/
  reqHeld : Bool := false
  deriving DecidableEq, Repr

/-- A register write in flight (R176, R177): the bundle that sees it first, and the one from which a MAC accumulating
into the same accumulator sees it; the bits written and the bundle that wrote them. -/
structure PendW where
  reg : Nat
  mask : Nat
  val : Nat
  due : Nat
  dueMac : Nat
  issued : Nat
  deriving DecidableEq, Repr

/-- A transfer whose delay slots are issuing (R188): target, bundles still to issue, and whether it is RTI. -/
structure Branch where
  /-- Where the transfer goes; none when it is not taken. -/
  target : Option Nat
  slots : Nat
  rti : Bool
  deriving DecidableEq, Repr

/-- A cluster DMA transfer (R203). -/
structure CDma where
  src : Nat
  dst : Nat
  len : Nat
  tag : Nat
  irq : Bool
  deriving DecidableEq, Repr

/-- The queue port of a core (R234). -/
structure QPort where
  txbuf : Tab Word := []
  rxbuf : Tab Word := []
  txq : Nat := 0
  txBusy : Bool := false
  txStat : Nat := 0
  rxq : Nat := 0
  rxHdr : Nat := 0
  rxTrunc : Bool := false
  rxStat : Nat := 0
  deriving DecidableEq, Repr

/-- A Yathar core (R172–R199). -/
structure Core where
  /-- 0 STOPPED; 1 RUNNING; 2 HALTED; 3 DRAINING (CORE_STAT.STATE). -/
  state : Nat := 0
  /-- Registers by code of R187; 0x48–0x4D and 0x4E, 0x4F hold LC, LB, LE and LA as they govern the loop-end action. -/
  regs : Tab Nat := []
  pend : List PendW := []
  pc : Nat := 0
  /-- Bundles issued. -/
  bundle : Nat := 0
  /-- Address of the first word of the bundle being issued, after its first word. -/
  inBundle : Option Nat := none
  branch : Option Branch := none
  /-- The bundle at an active loop end has issued, with its first and last word; its loop-end action comes next (R189). -/
  loopEnd : Option (Nat × Nat) := none
  /-- TRAP number to be taken after the bundle. -/
  trap : Option Nat := none
  /-- HALT word in the bundle. -/
  halting : Bool := false
  waiting : Bool := false
  /-- Special registers by offset from 0xFF_F000 (R199, R203). -/
  spr : Tab Nat := []
  slot : Option Move := none
  insv : Option Move := none
  mv : List Nat := []
  /-- When the move in service was taken, µs (CORE_BUSY). -/
  takenAt : Nat := 0
  /-- Bundle of the last DONE store: TAKE returns 0 in it and in the next (R197). -/
  doneAt : Option Nat := none
  /-- MOVE_CYC as it stopped at the last DONE (R197). -/
  moveCyc : Nat := 0
  /-- WDOG has been raised for the move (R198). -/
  wdog : Bool := false
  dma : List CDma := []
  port : QPort := {}
  deriving DecidableEq, Repr

/-- Cores and clusters. -/
structure CoreSt where
  cores : Tab Core := []
  /-- PRAM words, keyed 0x3000 × core + word (R173). -/
  pram : Tab Word := []
  deriving DecidableEq, Repr

/-- A host reservation in a queue (R223). -/
structure Resv where
  win : Win
  /-- WR at the header slot. -/
  at_ : Nat
  /-- Payload words written. -/
  n : Nat
  deriving DecidableEq, Repr

/-- What a window sees of a queue: PSTAT and whether its writes are being dropped, with the status the next COMMIT
reports (R224). -/
structure WinQ where
  pstat : Nat := 0
  drop : Option Nat := none
  deriving DecidableEq, Repr

/-- One hardware queue (R220–R232). -/
structure Queue where
  en : Bool := false
  size : Nat := 0
  base : Nat := 0
  rd : Nat := 0
  wr : Nat := 0
  rsv : Nat := 0
  resv : Option Resv := none
  /-- Committed items not yet begun by a consumer: length in words, the window that committed it (none: device), and the
  frame of the commit (R279). -/
  items : List (Nat × Option Win × Nat) := []
  /-- Payload words still to be read of the item being read (CSTAT). -/
  left : Nat := 0
  /-- Pending SIZE and BASE (R231). -/
  pend : Option (Nat × Nat) := none
  evseq : Nat := 0
  wins : Tab WinQ := []
  deriving DecidableEq, Repr

/-- Who hands over an atomic commit, and so learns its outcome (R225). -/
inductive Committer where
  | core (g : Nat)
  | ciph (c id : Nat)
  deriving DecidableEq, Repr

/-- An atomic commit that waits to be accepted (R224, R225). -/
structure Commit where
  q : Nat
  by_ : Committer
  hdr : Nat
  words : List Word
  deriving DecidableEq, Repr

/-- A response or an event on its way to its event queue (R19, R21). -/
structure Out where
  /-- A response, with the status and the command's TAG; otherwise an event. -/
  resp : Option (Nat × Nat)
  /-- Event queue, 16–31. -/
  q : Nat
  /-- Opcode or event code. -/
  op : Nat
  words : List Word
  /-- A response whose event queue has been disabled since its command was taken (R20, R232). -/
  lost : Bool := false
  deriving DecidableEq, Repr

/-- A command that has been taken and has not been answered (R20, R226). -/
structure Taken where
  q : Nat
  tag : Nat
  op : Nat
  win : Option Win
  fields : List Word
  /-- Its block has begun to carry it out. -/
  begun : Bool := false
  /-- Its event queue has been disabled since it was taken (R20, R232). -/
  orphan : Bool := false
  deriving DecidableEq, Repr

/-- The queue manager and the command processor. -/
structure QmSt where
  queues : Tab Queue := []
  /-- QM SRAM, by word (R220). -/
  sram : Tab Word := []
  commits : List Commit := []
  outbox : List Out := []
  taken : List Taken := []
  /-- The command queue served last, in the round of R227. -/
  served : Nat := 15
  /-- Command queues whose head command Turn has refused, until the next frame boundary (R215). -/
  stalled : List Nat := []
  deriving DecidableEq, Repr

/-- An in-line packet that waits for a cipher engine: a receive packet in its pool buffer, or a released transmit packet
(R238, R274, R280). -/
structure CiphRx where
  ctx : Nat
  buf : Nat
  len : Nat
  arrival : Nat
  srcAddr : Nat
  srcPort : Nat
  mac : Nat
  deriving DecidableEq, Repr

structure CiphTx where
  ctx : Nat
  /-- The template in force at release and the slot frame. -/
  tmpl : Template
  slot : Nat
  rtp : List Nat
  deriving DecidableEq, Repr

/-- An entry of the session key store (R250): keys of one direction; and what R245 and R246 remember. -/
structure SKey where
  suite : Nat
  ke : Nat
  ka : Nat
  ks : Nat
  /-- KEY_EXHAUSTED with DIR 0 has been posted under this key. -/
  exh : Bool := false
  deriving DecidableEq, Repr

/-- A key slot (R251): state 0 EMPTY, 1 LOADED, 2 GENERATED, 3 LOCKED. -/
structure KeySlot where
  state : Nat := 0
  alg : Nat := 0
  usage : Nat := 0
  fixed : Nat := 0
  counter : Nat := 0
  key : List Nat := []
  deriving DecidableEq, Repr

/-- A core job (R254) and its result once it has ended: status, bytes kept, IV. -/
structure CiphJob where
  /-- Number of the job among those its engine has taken. -/
  id : Nat
  w : List Word
  /-- The first failing check of R255, or 0. -/
  st : Nat
  /-- The slot as it stood when the job's turn came; none before. -/
  key : Option KeySlot := none
  /-- Bytes that a streaming open has released (R257). -/
  released : Nat := 0
  result : Option (Nat × Nat × Nat) := none
  /-- The result is on its way to its queue (R258). -/
  offered : Bool := false
  deriving DecidableEq, Repr

/-- One cipher engine beyond its registers. -/
structure Ciph where
  rx : List CiphRx := []
  tx : List CiphTx := []
  slots : Tab KeySlot := []
  jobs : List CiphJob := []
  /-- Jobs taken since reset. -/
  taken : Nat := 0
  /-- Frames of the faults of the last 8,000 frames (R260). -/
  faults : List Nat := []
  deriving DecidableEq, Repr

/-- The cipher engines. -/
structure CiphSt where
  engines : Tab Ciph := []
  /-- Session keys, keyed 2 × context + direction (0 receive, 1 transmit). -/
  store : Tab (Option SKey) := []
  /-- Tag failures: context, frame of the last SRTP_TAG_FAIL and failures since (R245). -/
  tagf : Tab (Option (Nat × Nat)) := []
  /-- Which context key is in force: CK is drawn at every cold and warm reset (R249). -/
  ckGen : Nat := 0
  deriving DecidableEq, Repr

/-- What an exact-table entry does (R272). -/
inductive EntryAct where
  | media (ctx : Nat)
  | rtcp (ctx : Nat)
  | host (ring : Nat)
  | drop
  deriving DecidableEq, Repr

/-- An entry of the exact table; context entries have no key before CTX_SET_TEMPLATE. -/
structure NetEntry where
  key : Option (Bool × Nat × Nat)
  act : EntryAct
  mux : Bool := false
  deriving DecidableEq, Repr

/-- A received frame without its FCS, with its arrival frame and PTP time (R266, R283). -/
structure RxFrame where
  bytes : List Nat
  arrival : Nat
  sec : Nat
  ns : Nat
  deriving DecidableEq, Repr

/-- A classified host-bound frame that waits for descriptors (R267, R277). -/
structure HostFrame where
  ring : Nat
  frame : RxFrame
  reason : Nat
  info : Nat
  deriving DecidableEq, Repr

/-- A voice frame released by PRE: its slot frame and bytes (R280, R281). -/
structure VoiceFrame where
  slot : Nat
  bytes : List Nat
  deriving DecidableEq, Repr

/-- The frame a MAC is transmitting, without its FCS (R281). -/
inductive TxCur where
  /-- A pause frame and its time (R269). -/
  | pause (q : Nat)
  | voice (bytes : List Nat)
  /-- Ring, descriptors, timestamp requested, PTP seconds and nanoseconds, frame of the first bit. -/
  | ring (r n : Nat) (ts : Bool) (sec ns tft : Nat) (bytes : List Nat)
  deriving DecidableEq, Repr

/-- One MAC beyond its registers. -/
structure Mac where
  inp : List RxFrame := []
  hostq : List HostFrame := []
  /-- Rings whose first waiting frame has been reported (R277). -/
  waiting : List Nat := []
  /-- Tail drops since the last NET_FIFO_DROP and its frame. -/
  drops : Nat := 0
  dropAt : Option Nat := none
  /-- The received pause in force, in quanta, and one that takes effect when the frame in progress ends (R268). -/
  pause : Option Nat := none
  /-- The frame in which that pause took effect. -/
  pauseAt : Nat := 0
  pauseNext : Option Nat := none
  /-- XOFF has been sent; pause frames waiting to be sent, with their times (R269). -/
  xoff : Bool := false
  /-- The frame of the pause frame asked for last. -/
  xoffAt : Nat := 0
  pauseOut : List Nat := []
  voice : List VoiceFrame := []
  cur : Option TxCur := none
  deriving DecidableEq, Repr

/-- A transmit item in a pool buffer (R145, R279): its slot frame, and whether it is late. -/
structure TxItem where
  ctx : Nat
  buf : Nat
  marker : Bool
  ptsel : Nat
  tsOfs : Nat
  payload : List Nat
  slot : Nat
  late : Bool
  deriving DecidableEq, Repr

/-- The MACs and PRE beyond their registers. -/
structure NetSt where
  macs : Tab Mac := []
  entries : List NetEntry := []
  /-- Pool buffers in use. -/
  pool : List Nat := []
  items : List TxItem := []
  deriving DecidableEq, Repr

/-- A request to one line of near memory that waits in a port queue (R291). -/
structure NmReq where
  port : Nat
  write : Bool
  line : Nat
  off : Nat
  n : Nat
  data : List Nat
  /-- When it entered the port queue, ns. -/
  at_ : Nat
  /-- It has reached urgency 3; R298 has held it; R294 has held it; a self-refresh exit gave it urgency 3. -/
  urg3 : Bool := false
  held : Bool := false
  waited : Bool := false
  hot : Bool := false
  deriving DecidableEq, Repr

/-- A write queue entry (R294): line, byte mask, the line's bytes before it, the port of its youngest write. -/
structure NmEntry where
  line : Nat
  mask : Nat
  before : List Nat
  port : Nat
  /-- The writes in it, oldest first: port, first byte, data (R295). -/
  parts : List (Nat × Nat × List Nat) := []
  deriving DecidableEq, Repr

/-- A row tracker (R297). -/
structure NmTracker where
  row : Nat
  count : Nat
  hp : Nat
  hc : Nat
  deriving DecidableEq, Repr

/-- A row that reached RH_LIMIT in this window: its port may activate it once per RH_GAP (R298). -/
structure NmHot where
  slot : Nat
  bank : Nat
  row : Nat
  port : Nat
  last : Nat
  deriving DecidableEq, Repr

/-- The migration in progress (R303): rank, source and target slots, start frame. -/
structure NmMig where
  rank : Nat
  src : Nat
  tgt : Nat
  start : Nat
  /-- Frame in which the last page copy started (R303). -/
  last : Option Nat := none
  deriving DecidableEq, Repr

/-- The near memory controller beyond its registers. -/
structure NmcSt where
  reqs : List NmReq := []
  wq : Tab (List NmEntry) := []
  drain : Tab Bool := []
  /-- Open rows, by slot × 16 + bank. -/
  open_ : Tab (Option Nat) := []
  track : Tab (List NmTracker) := []
  hot : List NmHot := []
  /-- Rows that have posted NM_RH in this window. -/
  seen : List (Nat × Nat × Nat) := []
  /-- The row-hammer window in force (R297). -/
  rhWin : Nat := 0
  /-- The latest time that a port request or a command slot brought, ns. -/
  clock : Nat := 0
  /-- Owed refreshes, refreshes issued ahead and refresh rate of each slot (R296). -/
  debt : Tab Nat := []
  credit : Tab Nat := []
  rate : Tab Nat := []
  /-- Ranks waiting for a migration, with the cause (R302). -/
  migq : List (Nat × Nat) := []
  mig : Option NmMig := none
  /-- The rank whose retirement MAINT_CMD waits for (R302). -/
  maint : Option Nat := none
  /-- The frame that the CE hour windows count from, and each slot's window in force (R299, R310). -/
  hourBase : Nat := 0
  hour : Tab Nat := []
  /-- Ranks whose NM_NO_SPARE has been posted in this hour window (R304). -/
  noSpare : List Nat := []
  /-- Channels in self-refresh (R308). -/
  sleep : Tab Bool := []
  /-- Frame of each channel's last request, scrub, copy or training step (R308). -/
  active : Tab (Option Nat) := []
  /-- The next scrub group: slot and group (R301). -/
  scrub : Nat × Nat := (0, 0)
  /-- Slots being retrained, with the trigger (R306), and the frame of each slot's last training. -/
  train : List (Nat × Nat) := []
  trained : Tab Nat := []
  /-- The last answer of a port: port, status, bytes read. -/
  answer : Option (Nat × Nat × List Nat) := none
  deriving DecidableEq, Repr

/-- The CXL port beyond its registers. -/
structure CxlSt where
  /-- State that a port in RECOVERY returns to (R319). -/
  prior : Tab Nat := []
  /-- Last CXL_POISON of a port: frame, lines since (R319). -/
  poison : Tab (Option (Nat × Nat)) := []
  /-- Frame in which a port entered RECOVERY (R319). -/
  recovAt : Tab Nat := []
  /-- The XIO access under way: the frame of its GO, and whether it writes (R314). -/
  xioAt : Nat := 0
  xioWr : Bool := false
  deriving DecidableEq, Repr

/-- What a window's banked session registers hold (R336–R338). -/
structure Sess where
  open_ : Bool := false
  key : Nat := 0
  /-- An OPEN being verified: its key, its first failing check or 0, and whether it came during a lock. -/
  pend : Option (Nat × Nat × Bool) := none
  /-- CHAL0–7 as bytes, and the frame of a challenge that is still unused. -/
  chal : List Nat := []
  fresh : Option Nat := none
  mbox : List Word := []
  lockAt : Option Nat := none
  fails : Nat := 0
  status : Nat := 0
  /-- Frame of the last access through the window. -/
  seen : Nat := 0
  deriving DecidableEq, Repr

/-- An audit record (R345); `seq` and `chain` once it is numbered. -/
structure AuditRec where
  seq : Option Nat
  ftime : Nat
  role : Nat
  status : Nat
  action : Nat
  detail : List Nat
  chain : List Nat
  deriving DecidableEq, Repr

/-- Rook beyond its registers. -/
structure RookSt where
  /-- The 2,048 OTP bytes (R327). -/
  otp : Tab Byte := []
  /-- Lifecycle state in force, 0–5, and the generation in force (R324, R329). -/
  lc : Nat := 0
  gen : Option Nat := none
  sess : Tab Sess := []
  consent : Option Nat := none
  /-- Denials of a window: frame of the last audited one, and denials since (R342). -/
  viol : Tab (Option (Nat × Nat)) := []
  /-- On-chip audit records, newest first. -/
  log : List AuditRec := []
  base : Bool := false
  nextSeq : Nat := 0
  prevChain : List Nat := []
  /-- Mirror: base, k, index of the next record (R347). -/
  mirror : Option (Nat × Nat × Nat) := none
  lag : Nat := 0
  bootAt : Nat := 0
  /-- Rook has read the OTP since the reset; before that the BARs answer nothing (R353). -/
  otpRead : Bool := false
  /-- Health tests (R335): frames of the last failures, last bit and its run. -/
  trngFails : List Nat := []
  rep : Bool × Nat := (false, 0)
  /-- Frame of the last start-up test, or of the halt (R335). -/
  testAt : Nat := 0
  bootsel : Nat := 0
  /-- Rook waits for a host download; the words of BOOT_DATA; the image that runs (R331). -/
  waiting : Bool := false
  dl : List Word := []
  image : List Nat := []
  deriving DecidableEq, Repr

/-- HOST, PWR and MISC beyond their registers. -/
structure HostSt where
  /-- The function is in D3hot (R353). -/
  d3 : Bool := false
  /-- MSI-X Enable and Function Mask of configuration space (R356). -/
  msixEn : Bool := false
  msixMask : Bool := false
  /-- FIRED vectors and pending bits, by vector (R356). -/
  fired : Nat := 0
  pba : Nat := 0
  /-- The last message of a vector: µs tick, address, data (R356). -/
  lastMsg : Tab (Option (Nat × Nat × Nat)) := []
  /-- High words held by a read of the low word (R8), by the high word's offset. -/
  snap : Tab (Option Nat) := []
  /-- ALARM (R370) and THERMTRIP_L low (R371). -/
  alarm : Bool := false
  trip : Bool := false
  /-- Highest reading since TEMP_PEAK was read. -/
  peak : Option Int := none
  /-- The SPI transfer that runs: OP and flash opcode (R379). -/
  spi : Option (Nat × Nat) := none
  /-- UART FIFOs, oldest first, and the sticky receive errors. -/
  uartTx : List Nat := []
  uartRx : List Nat := []
  uartOvr : Bool := false
  uartFrm : Bool := false
  /-- The transfer that an I²C controller runs: READ, device address, bytes. -/
  i2c : Tab (Option (Bool × Nat × Nat)) := []
  /-- Levels that the board drives on the GPIO pins. -/
  gpioIn : Nat := 0
  deriving DecidableEq, Repr

/-- The whole device. -/
structure State where
  /-- Registers, by register space offset; an unlisted one holds its reset value. -/
  regs : Tab Word := []
  /-- Near memory, far memory, cluster SRAM, XRAM and YRAM by 40-bit device address (R17, R202); unlisted bytes are 0. -/
  mem : List Host.Cell := []
  /-- Poisoned 64-byte lines, by device address / 64 (R300). -/
  poison : Tab Bool := []
  /-- Host memory as the host's PCIe addresses show it (R357); the environment's. -/
  hostMem : List Host.Cell := []
  /-- What the last register read returned; the model's own. -/
  rdata : Word := 0
  /-- Free values drawn so far; the model's own. -/
  draws : Nat := 0
  time : TimeSt := {}
  link : LinkSt := {}
  ldc : LdcSt := {}
  ece : EceSt := {}
  sage : SageSt := {}
  jbe : JbeSt := {}
  thyme : ThymeSt := {}
  ciph : CiphSt := {}
  net : NetSt := {}
  nmc : NmcSt := {}
  cxl : CxlSt := {}
  rook : RookSt := {}
  host : HostSt := {}
  core : CoreSt := {}
  turn : TurnSt := {}
  qm : QmSt := {}
  /-- Commands waiting, oldest first. -/
  pending : List Instr := []
  deriving DecidableEq, Repr

/-- The device right after reset: every register at its reset value (an unlisted register reads as `regReset` of its
address), FTIME 0, the DPLL in FREERUN, no context, every queue disabled, every core STOPPED (R26, R30, R363). -/
def State.reset : State := {}

end Sys2Proof.Machine
end

