-- ==== Sys2Proof/Machine/Ops.lean ====
section
/-! DEFINITION. The named operations that every family's meanings share: registers and their fields, memory, errors and
interrupts of a page, responses and events, the tables of links, lines, queues, flows, cores and contexts. -/

namespace Sys2Proof.Machine
open Sys2Proof

/-- What a command answers. -/
abbrev Res := Host.Outcome State Fault Refusal

/-! ### Registers -/

/-- The register at offset `a`. -/
def State.reg (s : State) (a : Nat) : Word := Tab.get regReset s.regs a

/-- The register as a number. -/
def State.rn (s : State) (a : Nat) : Nat := (s.reg a).toNat

/-- Set the register at offset `a`. -/
def State.setReg (s : State) (a : Nat) (v : Word) : State := { s with regs := Tab.put regReset s.regs a v }

/-- Set the register to the low 32 bits of a number. -/
def State.setN (s : State) (a n : Nat) : State := s.setReg a (w32 n)

/-- A field of a register. -/
def State.fld (s : State) (a lo w : Nat) : Nat := fieldOf (s.rn a) lo w

/-- A bit of a register. -/
def State.bit (s : State) (a i : Nat) : Bool := bitOf (s.rn a) i

/-- Replace a field of a register. -/
def State.setFld (s : State) (a lo w v : Nat) : State := s.setN a (putField (s.rn a) lo w v)

/-- Add to a counter; 32-bit counters wrap. -/
def State.addN (s : State) (a k : Nat) : State := s.setN a (s.rn a + k)

/-- Count one. -/
def State.bump (s : State) (a : Nat) : State := s.addN a 1

/-- Count `k` in a 64-bit counter whose high word is at `a + 4` (R8). -/
def State.add64 (s : State) (a k : Nat) : State :=
  let v := s.rn a + 2 ^ 32 * s.rn (a + 4) + k
  (s.setN a v).setN (a + 4) (v / 2 ^ 32)

/-- Raise a register to `v` if it is lower (a recorded maximum). -/
def State.maxN (s : State) (a v : Nat) : State := if s.rn a < v then s.setN a v else s

/-- Return the registers that `p` holds of to their reset values. -/
def State.resetRegs (s : State) (p : Nat → Bool) : State := { s with regs := Tab.drop p s.regs }

/-! ### The common page header (R374–R378) -/

/-- Set a bit of IRQ_RAW of the page. -/
def State.irq (s : State) (page bit : Nat) : State :=
  s.setN (page + 0x10) (bitSet (s.rn (page + 0x10)) bit)

/-- Record an error (R377): the first one in ERR_INFO and ERR_ADDR, all of them in ERR_COUNT, which saturates.
[DESIGN CHOICE, log 159] -/
def State.err (s : State) (page st detail addr : Nat) : State :=
  let s := if s.rn (page + 0x20) = 0 then (s.setN (page + 0x20) (st + detail * 256)).setN (page + 0x24) addr else s
  if s.rn (page + 0x28) = 2 ^ 32 - 1 then s else s.bump (page + 0x28)

/-- A refused register write: the status and the offset from the page recorded, and CFG_ERR set where the block has the
bit. -/
def State.cfgErr (s : State) (page : Nat) (bit : Option Nat) (st addr : Nat) : State :=
  let s := s.err page st (addr - page) addr
  match bit with
  | some b => s.irq page b
  | none => s

/-- The common header of a page at its reset values, as an accepted block reset leaves it (R378). ENERGY keeps
counting; RST_STAT shows DONE. -/
def State.headerReset (s : State) (page : Nat) : State :=
  (s.resetRegs (fun a => decide (page ≤ a ∧ a < page + 0x2C))).setN (page + 0x34) 1

/-- A refused block reset (R364, R378). -/
def State.rstRefused (s : State) (page st : Nat) : State :=
  (s.err page st 0x30 (page + 0x30)).setN (page + 0x34) 2

/-- An access or command that needs a sleeping block wakes it (R368); the memories of a cluster that was off are zeroed,
PRAM apart (R367). [DEDUCED, log 174, 183] -/
def State.wake (s : State) (page : Nat) : State :=
  let off := s.fld (page + 0x0C) 4 2 == 3
  let s := s.setFld (page + 0x0C) 4 2 0
  if off ∧ 0x60000 ≤ page ∧ page < 0x70000 then
    let c := (page - 0x60000) / 0x1000
    { s with mem := Tab.drop (fun a =>
        decide (0xFF00000000 + c * 0x100000 ≤ a ∧ a < 0xFF00000000 + (c + 1) * 0x100000) ||
        decide (0xFF10000000 + c * 0x100000 ≤ a ∧ a < 0xFF10000000 + (c + 1) * 0x100000)) s.mem }
  else s

/-- The registers at 0x100 and above of the pages from `lo` to below `hi` at their reset values. -/
def State.pageReset (s : State) (lo hi : Nat) : State :=
  s.resetRegs (fun a => decide (lo ≤ a ∧ a < hi ∧ 0x100 ≤ a % 0x1000))

/-! ### Memory -/

/-- Unlisted bytes of every memory read as zero. [DESIGN CHOICE, log 8] -/
def byte0 : Nat → Byte := fun _ => 0

/-- One byte of device memory. [DESIGN CHOICE, log 8] -/
def State.rd8 (s : State) (a : Nat) : Nat := (Tab.get byte0 s.mem a).toNat

/-- Write one byte of device memory. [DESIGN CHOICE, log 106] -/
def State.wr8 (s : State) (a v : Nat) : State := { s with mem := Tab.put byte0 s.mem a (BitVec.ofNat 8 v) }

/-- `n` bytes from address `a` up. -/
def rdList (mem : List Host.Cell) (a : Nat) : Nat → List Nat
  | 0 => []
  | n + 1 => (Tab.get byte0 mem a).toNat :: rdList mem (a + 1) n

/-- Write bytes from address `a` up. -/
def wrList (mem : List Host.Cell) (a : Nat) : List Nat → List Host.Cell
  | [] => mem
  | b :: r => wrList (Tab.put byte0 mem a (BitVec.ofNat 8 b)) (a + 1) r

/-- `n` bytes of device memory. -/
def State.rdBytes (s : State) (a n : Nat) : List Nat := rdList s.mem a n

/-- Write bytes to device memory; a line written whole loses its poison mark (R300). -/
def State.wrBytes (s : State) (a : Nat) (l : List Nat) : State :=
  { s with
    mem := wrList s.mem a l
    poison := Tab.drop (fun k => decide (a ≤ 64 * k ∧ 64 * k + 64 ≤ a + l.length)) s.poison }

/-- A little-endian number of `n` bytes. -/
def State.rdLE (s : State) (a n : Nat) : Nat := leNat (s.rdBytes a n)

/-- Write a little-endian number of `n` bytes. -/
def State.wrLE (s : State) (a n v : Nat) : State := s.wrBytes a (leBytes n v)

/-- Cluster SRAM of cluster `c` (R202). -/
def sramBase (c : Nat) : Nat := 0xFF00000000 + c * 0x100000

/-- XRAM of core `g`; its YRAM is 0x1_0000 above (R202). -/
def xramBase (g : Nat) : Nat := 0xFF10000000 + g * 0x20000

/-- Usable near memory in bytes: NM_STAT.NM_SIZE gives it in GiB once training has run; 15 GiB of address space (R17). -/
def nearTop : Nat := 0x3C0000000

/-- `n` bytes from `a` lie within near memory. [DEDUCED, log 91] -/
def inNear (a n : Nat) : Bool := decide (a + n ≤ nearTop)

/-- `n` bytes from `a` lie within the far memory window. -/
def inFar (a n : Nat) : Bool := decide (0x1000000000 ≤ a ∧ a + n ≤ 0x5000000000)

/-- `n` bytes from `a` lie within one cluster's SRAM. -/
def inSram (a n : Nat) : Bool :=
  decide (0xFF00000000 ≤ a ∧ a + n ≤ 0xFF01000000 ∧ (a - 0xFF00000000) % 0x100000 + n ≤ 0x100000)

/-- Some 64-byte line of `[a, a + n)` is poisoned. -/
def State.poisoned (s : State) (a n : Nat) : Bool :=
  s.poison.any (fun e => decide (a / 64 ≤ e.1 ∧ e.1 * 64 < a + n))

/-- Mark or clear the poison of the 64-byte line at `a`. -/
def State.setPoison (s : State) (a : Nat) (b : Bool) : State :=
  { s with poison := Tab.put (fun _ => false) s.poison (a / 64) b }

/-! ### Free values -/

/-- The next free value: a value the spec leaves open, different at every draw. [DESIGN CHOICE, log 12] -/
def State.free (s : State) : Nat := (Config.freeValue s.draws).toNat

/-- Draw the next free value. -/
def State.drawn (s : State) : State := { s with draws := s.draws + 1 }

/-! ### Events and responses (R19, R21) -/

/-- Raise an event for event queue 16 + `evq`. -/
def State.event (s : State) (evq code : Nat) (payload : List Nat) : State :=
  { s with qm := { s.qm with outbox := s.qm.outbox ++ [⟨none, 16 + evq % 16, code, payload.map w32, false⟩] } }

/-- A system event: code 0x80 with its number in the first payload word (R24). -/
def State.sysEvent (s : State) (evq num : Nat) (payload : List Nat) : State := s.event evq 0x80 (num :: payload)

/-- The first result of a response to a command that names no object (R233). -/
def noObject : Nat := 0xFFFFFFFF

/-- A response goes to event queue q + 16 (R19); `lost` when that queue has been disabled since. -/
def State.answer (s : State) (r : CmdRef) (op st : Nat) (results : List Nat) (lost : Bool := false) : State :=
  { s with qm := { s.qm with outbox := s.qm.outbox ++ [⟨some (st, r.tag), 16 + r.q % 16, op, results.map w32, lost⟩] } }

/-- `t` is the command that reference `r` and an opcode name. -/
def Taken.is (t : Taken) (r : CmdRef) (op : Nat) : Bool := t.q == r.q && t.tag == r.tag && t.op == op

/-- Answer a command in progress, which ends (R19). One that is no longer in progress, after a QM reset, receives no
response (R235). [DEDUCED, log 15] -/
def State.respond (s : State) (r : CmdRef) (op st : Nat) (results : List Nat) : State :=
  match s.qm.taken.find? (·.is r op) with
  | none => s
  | some t => ({ s with qm := { s.qm with taken := s.qm.taken.eraseP (·.is r op) } }).answer r op st results t.orphan

/-- Opcodes whose command names a context in its first field (R129, R103, R125, R164, Cipher engines). -/
def ofContext (op : Nat) : Bool :=
  (0x02 ≤ op && op ≤ 0x0B) || (0x20 ≤ op && op ≤ 0x27) || (0x30 ≤ op && op ≤ 0x33) || (0x40 ≤ op && op ≤ 0x44) ||
  op == 0x50 || op == 0x51 || op == 0x56

/-- What a command is addressed to: a context, or else the block of its opcode (R22). [DESIGN CHOICE, log 209] -/
def Taken.subject (t : Taken) : Bool × Nat :=
  if ofContext t.op then (true, (t.fields.headD 0).toNat) else (false, t.op / 16)

/-- The first command in progress that its block may begin, of those that `r` and `op` name: no earlier command addressed to
the same context or block waits before it (R22). [DESIGN CHOICE, log 209] -/
def State.cmdDue (s : State) (r : CmdRef) (op : Nat) : Bool :=
  match s.qm.taken.find? (fun t => !t.begun && t.is r op) with
  | none => false
  | some t => decide (t.win = some r.win) &&
      decide (s.qm.taken.find? (fun x => !x.begun && decide (x.subject = t.subject)) = some t)

/-- Field `i` of the command in progress that `r` and `op` name, counted from 0 after word 1 (R233); 0 when it is absent.
[DEDUCED, log 215] -/
def State.cmdField (s : State) (r : CmdRef) (op i : Nat) : Nat :=
  match s.qm.taken.find? (·.is r op) with
  | some t => (t.fields.getD i 0).toNat
  | none => 0

/-- The command is begun. -/
def beginFirst (r : CmdRef) (op : Nat) : List Taken → List Taken
  | [] => []
  | t :: l => if !t.begun && t.is r op then { t with begun := true } :: l else t :: beginFirst r op l

/-- Carry out a command that has been taken, in the order in which the commands of its context or block were taken (R20,
R22); any other reference names no command, and nothing happens. [DESIGN CHOICE, log 209] -/
def State.carryOut (s : State) (r : CmdRef) (op : Nat) (f : State → State) : State :=
  if s.cmdDue r op then f { s with qm := { s.qm with taken := beginFirst r op s.qm.taken } } else s

/-! ### Tables -/

def State.link_ (s : State) (l : Nat) : Link := Tab.get (fun _ => {}) s.link.links l
def State.setLink (s : State) (l : Nat) (x : Link) : State :=
  { s with link := { s.link with links := Tab.put (fun _ => {}) s.link.links l x } }
def State.bank_ (s : State) (b : Nat) : Bank := Tab.get (fun _ => {}) s.link.banks b
def State.setBank (s : State) (b : Nat) (x : Bank) : State :=
  { s with link := { s.link with banks := Tab.put (fun _ => {}) s.link.banks b x } }
def State.line_ (s : State) (l : Nat) : Line := Tab.get (fun _ => {}) s.link.lines l
def State.setLine (s : State) (l : Nat) (x : Line) : State :=
  { s with link := { s.link with lines := Tab.put (fun _ => {}) s.link.lines l x } }
def State.dec_ (s : State) (l : Nat) : LdcLine := Tab.get (fun _ => {}) s.ldc.lines l
def State.setDec (s : State) (l : Nat) (x : LdcLine) : State :=
  { s with ldc := { s.ldc with lines := Tab.put (fun _ => {}) s.ldc.lines l x } }
def State.set_ (s : State) (k : Nat) : SetSt := Tab.get (fun _ => {}) s.ldc.sets k
def State.setSet (s : State) (k : Nat) (x : SetSt) : State :=
  { s with ldc := { s.ldc with sets := Tab.put (fun _ => {}) s.ldc.sets k x } }
def State.ctx_ (s : State) (c : Nat) : Ctx := Tab.get (fun _ => {}) s.jbe.ctxs c
def State.setCtx (s : State) (c : Nat) (x : Ctx) : State :=
  { s with jbe := { s.jbe with ctxs := Tab.put (fun _ => {}) s.jbe.ctxs c x } }
def State.core_ (s : State) (g : Nat) : Core := Tab.get (fun _ => {}) s.core.cores g
def State.setCore (s : State) (g : Nat) (x : Core) : State :=
  { s with core := { s.core with cores := Tab.put (fun _ => {}) s.core.cores g x } }
def State.que (s : State) (q : Nat) : Queue := Tab.get (fun _ => {}) s.qm.queues q
def State.setQue (s : State) (q : Nat) (x : Queue) : State :=
  { s with qm := { s.qm with queues := Tab.put (fun _ => {}) s.qm.queues q x } }
def State.flow_ (s : State) (f : Nat) : Flow := Tab.get (fun _ => {}) s.turn.flows f
def State.setFlow (s : State) (f : Nat) (x : Flow) : State :=
  { s with turn := { s.turn with flows := Tab.put (fun _ => {}) s.turn.flows f x } }

/-- The line that is bound and in force (R129). -/
def Ctx.lineNow (x : Ctx) : Option Nat := if x.bindDue = some true then none else x.line

/-- FTIME. [DEDUCED, log 7] -/
def State.now (s : State) : Nat := s.time.ftime

/-- FPHASE of a stamp made `ph` SCLK into the frame (R27). The frames of State are those of the blocks' synchronised copy:
`ph` = 6144 is the 3 FCLK cycles in which SCLK has begun the next frame and the copy has not. [DEDUCED, log 7] -/
def copyPhase (ph : Nat) : Nat := min ph 6143

/-- Post an operand to Turn; OPERAND_ACCEPT judges it (R206, R207). -/
def State.post (s : State) (o : Operand) (p : Producer) : State :=
  { s with turn := { s.turn with posted := s.turn.posted ++ [(o, p)] } }

/-- Fold a state transformer over a list. -/
def State.each {α : Type} (s : State) (l : List α) (f : State → α → State) : State := l.foldl f s

/-- Number of a window: 0 operator; 1 installer; 2 maker. -/
def winNum : Win → Nat
  | .operator => 0
  | .installer => 1
  | .maker => 2

/-- The value that starts a block reset (R362, R378). -/
def rstKey : Word := 0x5A5A0001

/-! ### Records without a layout (R127, R167) -/

/-- The order of the `n` bytes of a record: what Config gives, when it names each byte once. [DESIGN CHOICE, log 87] -/
def recordOrder (kind n : Nat) : List Nat :=
  let l := Config.layout kind
  if (List.range n).all (fun i => l.contains i) ∧ l.length = n then l else List.range n

/-- The bytes of a record as they lie: field byte `i` at place `order i`. -/
def recordBytes (kind n : Nat) (b : List Nat) : List Nat :=
  let o := recordOrder kind n
  (List.range n).map (fun i => b.getD (o.idxOf i) 0)

/-- The field bytes of a record that lies at `a`. [DESIGN CHOICE, log 55] -/
def State.readRecord (s : State) (kind a n : Nat) : List Nat :=
  let b := s.rdBytes a n
  let o := recordOrder kind n
  (List.range n).map (fun i => b.getD (o.getD i 0) 0)

/-- Write a record. -/
def State.writeRecord (s : State) (kind a n : Nat) (b : List Nat) : State := s.wrBytes a (recordBytes kind n b)

end Sys2Proof.Machine
end

