-- ==== Sys2Proof/Machine/Far.lean ====
section
/-! DEFINITION. Far memory as its requesters see it (R315–R318): the committed decoders, readiness, and the status of a
request. -/

namespace Sys2Proof.Machine
open Sys2Proof

/-- The cipher engine of cluster `c` is locked out or rebuilding (R260, R261). -/
def State.cipherDown (s : State) (c : Nat) : Bool :=
  s.bit (Reg.CIPH_ENGINE_STAT c) 31 || s.bit (Reg.CIPH_ENGINE_STAT c) 30

/-- STATE of a CXL port (R313). -/
def State.cxlState (s : State) (p : Nat) : Nat := s.fld (Reg.CXL_PORT_STAT p) 28 4

/-- A decoder is committed. -/
def State.decOn (s : State) (d : Nat) : Bool := s.bit (Reg.CXL_DEC_CTL d) 30

/-- The committed decoder that covers a 256 MiB unit of device addresses (R315). -/
def State.decOf (s : State) (unit : Nat) : Option Nat :=
  (List.range 4).find? (fun d => s.decOn d && decide (s.rn (Reg.CXL_DEC_BASE d) ≤ unit) &&
    decide (unit < s.rn (Reg.CXL_DEC_BASE d) + s.rn (Reg.CXL_DEC_SIZE d)))

/-- Units that `[a, a + n)` touches. -/
def farUnits (a n : Nat) : List Nat := (List.range ((a + n - 1) / 2 ^ 28 + 1 - a / 2 ^ 28)).map (a / 2 ^ 28 + ·)

/-- Ports that a decoder sends requests to. -/
def State.decPorts (s : State) (d : Nat) : List Nat :=
  if s.bit (Reg.CXL_DEC_CTL d) 4 then [0, 1] else [s.fld (Reg.CXL_DEC_CTL d) 0 1]

/-- Every unit of a range is covered by a committed decoder. -/
def State.farCovered (s : State) (a n : Nat) : Bool := n == 0 || (farUnits a n).all (fun u => (s.decOf u).isSome)

/-- Far memory is ready for a range (R318): covered, and all target ports READY. -/
def State.farReady (s : State) (a n : Nat) : Bool :=
  n == 0 || (farUnits a n).all (fun u => match s.decOf u with
    | some d => (s.decPorts d).all (fun p => s.cxlState p == 4)
    | none => false)

/-- Ports that a request of `n` bytes at `a` reaches (R315). -/
def State.farPorts (s : State) (a n : Nat) : List Nat :=
  (farUnits a n).flatMap (fun u => match s.decOf u with
    | some d =>
      let g := 8 + s.fld (Reg.CXL_DEC_CTL d) 8 4
      if s.bit (Reg.CXL_DEC_CTL d) 4 ∧ a / 2 ^ g = (a + n - 1) / 2 ^ g then [a / 2 ^ g % 2] else s.decPorts d
    | none => [])

/-- The status of a request to far memory: none while a port in RECOVERY holds it (R313), BAD_PARAM outside the committed
decoders (R316), TIMEOUT at a port that does not serve CXL.mem (R320). [DEDUCED, log 102] -/
def State.farStatus (s : State) (a n : Nat) : Option Nat :=
  if !s.farCovered a n then some 3
  else
    let ps := (s.farPorts a n).map s.cxlState
    if ps.any (fun x => x != 4 && x != 5) then some 0x0C else if ps.contains 5 then none else some 0

/-- `n` bytes from `a` lie in near memory, in covered far memory or in a cluster SRAM. -/
def State.devMapped (s : State) (a n : Nat) : Bool := inNear a n || (inFar a n && s.farCovered a n) || inSram a n

/-- A request reaches a far memory port that does not serve it: the request ends with TIMEOUT (R320). -/
def State.farDown (s : State) (a n : Nat) : Bool := inFar a n && decide (n ≠ 0) && s.farStatus a n == some 0x0C

/-- Of the first `y` bytes of the device addresses, how many go to port 1 in two ways with granularity `g`. -/
def oddBytes (g y : Nat) : Nat := y / (2 * g) * g + (y % (2 * g) - g)

/-- `n` bytes written at a far address count in WR_BYTES of the ports they go to (R315). -/
def State.farWrote (s : State) (a n : Nat) : State :=
  if !inFar a n then s
  else match s.decOf (a / 2 ^ 28) with
    | none => s
    | some d =>
      if s.bit (Reg.CXL_DEC_CTL d) 4 then
        let g := 2 ^ (8 + s.fld (Reg.CXL_DEC_CTL d) 8 4)
        let one := oddBytes g (a + n) - oddBytes g a
        (s.add64 (Reg.CXL_WR_BYTES_LO 0) (n - one)).add64 (Reg.CXL_WR_BYTES_LO 1) one
      else s.add64 (Reg.CXL_WR_BYTES_LO (s.fld (Reg.CXL_DEC_CTL d) 0 1)) n

/-- A block writes bytes to device memory, near or far. -/
def State.wrDev (s : State) (a : Nat) (l : List Nat) : State := (s.wrBytes a l).farWrote a l.length

end Sys2Proof.Machine
end

