-- ==== Sys2Proof/Machine/Guard.lean ====
section
/-! DEFINITION. Rook as the gate of the host (R324–R347): the OTP, the lifecycle, sessions, the rights of commands, the
protection table, and the audit log with its mirror. -/

namespace Sys2Proof.Machine
open Sys2Proof

/-! ### OTP and lifecycle (R324, R327, R329) -/

/-- OTP byte. [DESIGN CHOICE, log 19] -/
def State.otpB (s : State) (a : Nat) : Nat := (Tab.get byte0 s.rook.otp a).toNat

/-- OTP bytes. -/
def State.otpBytes (s : State) (a n : Nat) : List Nat := (List.range n).map (fun i => s.otpB (a + i))

/-- Program OTP bytes: bits become 1 and never return to 0. -/
def State.burn (s : State) (a : Nat) (l : List Nat) : State :=
  s.each (l.zip (List.range l.length)) (fun s e =>
    { s with rook := { s.rook with
      otp := Tab.put byte0 s.rook.otp (a + e.2) (BitVec.ofNat 8 (s.otpB (a + e.2) ||| e.1)) } })

/-- Bits set in a number of `n` bits. -/
def popCount (n v : Nat) : Nat := ((List.range n).filter (bitOf v)).length

/-- Bits set in OTP bytes. -/
def State.otpOnes (s : State) (a n : Nat) : Nat := ((s.otpBytes a n).map (popCount 8)).sum

/-- Lifecycle group `g` is burned: at least 9 of its 16 bits. -/
def State.burned (s : State) (g : Nat) : Bool := decide (9 ≤ s.otpOnes (2 * g) 2)

/-- The lifecycle state that the OTP gives: 0 BLANK; 1 MANUFACTURE; 2 PROVISIONED; 3 DEPLOYED; 4 RETIRED; 5 RMA. -/
def State.otpState (s : State) : Nat :=
  if s.burned 3 || s.burned 5 then 4
  else if s.burned 4 then 5
  else if s.burned 2 then 3 else if s.burned 1 then 2 else if s.burned 0 then 1 else 0

/-- The rollback step. -/
def State.rollback (s : State) : Nat := s.otpOnes 0x10 16

/-- An area of `n` bytes before its CRC and SEAL is sealed (R328). -/
def State.sealed (s : State) (a n word : Nat) : Bool :=
  leNat (s.otpBytes (a + n) 4) == crc32c (s.otpBytes a n) && leNat (s.otpBytes (a + n + 4) 4) == word

/-- Generation `g` is sealed. -/
def State.genSealed (s : State) (g : Nat) : Bool := s.sealed (0x100 + 0x160 * g) 344 (0x5EA10000 + g)

/-- The identity area and the installer root are sealed. -/
def State.idSealed (s : State) : Bool := s.sealed 0x20 120 0x5EA11D00
def State.rootSealed (s : State) : Bool := s.sealed 0xA0 32 0x5EA11500

/-- Generation `g` is consumed. -/
def State.genUsed (s : State) (g : Nat) : Bool := decide (s.otpOnes (0x100 + 0x160 * g) 0x160 ≠ 0)

/-- The generation that the OTP puts in force: the highest sealed one. -/
def State.otpGen (s : State) : Option Nat := [3, 2, 1, 0].find? s.genSealed

/-- Bytes of the generation in force; zeros without one. -/
def State.genBytes (s : State) (i n : Nat) : List Nat :=
  match s.rook.gen with
  | some g => s.otpBytes (0x100 + 0x160 * g + i) n
  | none => List.replicate n 0

/-- The export seed: none while BLANK, MANUFACTURE, RMA or RETIRED gives no KX (R324, R248). -/
def State.exportSeed (s : State) : List Nat :=
  if s.rook.lc = 2 ∨ s.rook.lc = 3 then s.genBytes 8 32 else List.replicate 32 0

/-- SERIAL. -/
def State.serial (s : State) : List Nat := s.otpBytes 0x20 16

/-- The TRNG is halted (R335). -/
def State.trngHalted (s : State) : Bool := s.bit Reg.ROOK_TRNG_STAT 31

/-! ### Sessions (R326, R338) -/

/-- A window's banked registers. -/
def State.sess_ (s : State) (w : Win) : Sess := Tab.get (fun _ => {}) s.rook.sess (winNum w)

/-- Replace them. -/
def State.setSess (s : State) (w : Win) (x : Sess) : State :=
  { s with rook := { s.rook with sess := Tab.put (fun _ => {}) s.rook.sess (winNum w) x } }

/-- The window has its role's rights: an open session, or the maker window in BLANK (R324). -/
def State.hasRole (s : State) (w : Win) : Bool := (s.sess_ w).open_ || (w == .maker && s.rook.lc == 0)

/-- An RMA consent is open (R326). -/
def State.consentOpen (s : State) : Bool := s.rook.consent.any (fun t => decide (s.now < t + 28800000))

/-! ### Audit log (R345–R347) -/

/-- The first 32 bytes of a record. -/
def AuditRec.head (r : AuditRec) (seq : Nat) : List Nat :=
  leBytes 8 seq ++ leBytes 6 r.ftime ++ [r.role, r.status] ++ leBytes 2 r.action ++ slice r.detail 0 14

/-- Its 64 bytes. -/
def AuditRec.bytes (r : AuditRec) : List Nat := r.head (r.seq.getD 0) ++ slice r.chain 0 32

/-- SEQ of the newest numbered record. -/
def State.headSeq (s : State) : Nat := ((s.rook.log.find? (fun r => r.seq.isSome)).bind (·.seq)).getD 0

/-- CHAIN of the newest numbered record. -/
def State.headChain (s : State) : List Nat := ((s.rook.log.find? (fun r => r.seq.isSome)).map (·.chain)).getD (List.replicate 32 0)

/-- System event ROOK_AUDIT: mirror off or on. -/
def State.auditEvent (s : State) (on : Bool) : State :=
  (s.irq 0x4000 1).sysEvent (s.rn Reg.ROOK_EVQ) 0x52
    [b2n on, s.rn Reg.AUDIT_AUDIT_LOST, s.headSeq % 2 ^ 32, s.headSeq / 2 ^ 32]

/-- Mirroring stops when far memory is lost (R18, R347). -/
def State.mirrorCheck (s : State) : State :=
  match s.rook.mirror with
  | some (b, k, _) =>
    if s.farReady b (64 + 64 * 2 ^ k) then s
    else { s with rook := { s.rook with mirror := none } }.auditEvent false
  | none => s

/-- The mirror header (R347). -/
def State.mirrorHead (s : State) (k i : Nat) : List Nat :=
  let b := [0x52, 0x4B, 0x41, 0x4D] ++ s.serial ++ [k, 0, 0, 0] ++ leBytes 8 i ++ leBytes 8 s.headSeq ++ slice s.headChain 0 32
  b ++ leBytes 4 (crc32c b)

/-- A numbered record goes to the mirror, or waits on chip (R347). -/
def State.toMirror (s : State) (r : AuditRec) : State :=
  let s := s.mirrorCheck
  match s.rook.mirror with
  | some (b, k, i) =>
    let s := s.wrDev (b + 64 + 64 * (i % 2 ^ k)) r.bytes
    let s := s.wrDev b (s.mirrorHead k i)
    { s with rook := { s.rook with mirror := some (b, k, i + 1) } }
  | none => { s with rook := { s.rook with lag := s.rook.lag + 1 } }

/-- A record is lost on chip. -/
def State.auditLost (s : State) : State := (s.bump Reg.AUDIT_AUDIT_LOST).irq 0x4000 0

/-- Keep the 1,024 newest records on chip; overwriting one that is unnumbered or has not reached the mirror loses it (R346,
R347). [DESIGN CHOICE, log 108] -/
def State.trimLog (s : State) : State :=
  if s.rook.log.length ≤ 1024 then s
  else
    let lost := !s.rook.base || decide (1024 < s.rook.lag)
    let s := { s with rook := { s.rook with log := s.rook.log.take 1024, lag := min 1024 s.rook.lag } }
    if lost then s.auditLost else s

/-- A record takes the next SEQ and its CHAIN (R345). -/
def State.numbered (s : State) (r : AuditRec) : State × AuditRec :=
  let q := s.rook.nextSeq
  let r := { r with seq := some q, chain := shake (s.rook.prevChain ++ r.head q) }
  ({ s with rook := { s.rook with nextSeq := q + 1, prevChain := r.chain } }, r)

/-- Make a record (R345): role 0 none, 1–3 the windows' roles, 4 device. [DESIGN CHOICE, log 108] -/
def State.audit (s : State) (role st action : Nat) (detail : List Nat) : State :=
  let r : AuditRec := { seq := none, ftime := s.now % 2 ^ 48, role := role, status := st, action := action
                        detail := slice detail 0 14, chain := [] }
  let p := if s.rook.base then s.numbered r else (s, r)
  let s := { p.1 with rook := { p.1.rook with log := p.2 :: p.1.rook.log } }
  (if s.rook.base then s.toMirror p.2 else s).trimLog

/-- Role of a window in audit records. -/
def roleOf (w : Win) : Nat := winNum w + 1

/-- A command refused with NO_RIGHTS is audited (R339). [DEDUCED, log 111] -/
def State.noRights (s : State) (w : Win) (op : Nat) : State := s.audit (roleOf w) 4 0x0D [op]

/-- ACTION of an audited command (R345). -/
def actionOf (op : Nat) : Option Nat :=
  match op with
  | 0x41 | 0x42 => some 0x0F
  | 0x46 => some 0x0C
  | 0x52 | 0x53 | 0x54 => some 0x0B
  | 0xF0 => some 0x06
  | 0xF1 => some 0x10
  | 0xF2 | 0xF7 | 0xF9 => some 0x07
  | 0xF3 => some 0x08
  | 0xF4 => some 0x09
  | 0xF8 => some 0x0A
  | _ => none

/-- Answer an audited command; a refusal with NO_RIGHTS has its own record. [DESIGN CHOICE, log 108; DEDUCED, log 111] -/
def State.respondA (s : State) (r : CmdRef) (op st : Nat) (results : List Nat) : State :=
  let s := match actionOf op with
    | some a => if st = 4 then s else s.audit (roleOf r.win) st a [op, st]
    | none => s
  s.respond r op st results

/-! ### Rights of commands (R165, R339) -/

/-- The operator's journal right, the installer's, and none of the maker's (R165). -/
def State.journalRight (s : State) (w : Win) : Bool :=
  match w with
  | .installer => true
  | .operator => s.bit Reg.ROOK_ROLE_CFG 0
  | .maker => false

/-- A role may give a command (R339). -/
def State.roleRight (s : State) (w : Win) (op : Nat) : Bool :=
  let op_ := w == .operator
  let inst := w == .installer
  let mk := w == .maker
  let lc := s.rook.lc
  if op < 0x40 then true
  else if op = 0x40 then inst || mk
  else if op ≤ 0x44 then s.journalRight w
  else if op = 0x45 then true
  else if op = 0x46 then inst
  else if op = 0x52 ∨ op = 0x53 ∨ op = 0x54 then inst
  else if op ≤ 0x56 then op_ || inst
  else if op ≤ 0x6F then true
  else if op ≤ 0x7F then inst || mk
  else if op = 0xF5 then inst || mk || (op_ && bitOf ((s.genBytes 1 1).headD 0) 1)
  else if op = 0xF8 ∨ op = 0xF0 then inst || mk
  else if op = 0xF3 then (inst && (lc == 2 || lc == 3)) || (mk && lc == 1)
  else if op = 0xF7 ∨ op = 0xF9 then mk
  else inst

/-- The window may give the command now (R326, R338, R339). -/
def State.commandRight (s : State) (w : Win) (op : Nat) : Bool :=
  s.hasRole w &&
  (if w == .maker && s.rook.lc == 3 then s.consentOpen && (op == 0xF0 || op == 0xF5) else s.roleRight w op)

/-! ### Protection table (R341–R343) -/

/-- The table's answer for a page through a window. -/
def State.tableAllows (s : State) (w : Win) (page : Nat) (wr : Bool) : Bool :=
  match (List.range 64).find? (fun e =>
      let v := s.rn (Reg.PROT_PROT_LIVE (2 * e))
      bitOf v 31 && decide (v % 2 ^ 12 ≤ page) && decide (page ≤ fieldOf v 16 12)) with
  | some e => bitOf (s.rn (Reg.PROT_PROT_LIVE (2 * e + 1))) (2 * winNum w + b2n wr)
  | none => false

/-- The window's own view of the session and boot registers (R342). -/
def ownView (a : Nat) : Bool :=
  a == Reg.ROOK_BOOT_STAT || (decide (Reg.ROOK_SESS_CTL ≤ a) && decide (a < Reg.ROOK_SESS_IDLE)) ||
  a == Reg.ROOK_BOOT_DATA || a == Reg.ROOK_BOOT_CTL

/-- Who may write PROT_STAGE and PROT_CTL (R342). -/
def State.protWriter (s : State) (w : Win) : Bool :=
  s.hasRole w && (match s.rook.lc with
    | 0 | 1 | 2 | 5 => w == .maker
    | 3 => w == .installer
    | _ => false)

/-- A host access is allowed (R341, R342). -/
def State.allowed (s : State) (w : Win) (a : Nat) (wr : Bool) : Bool :=
  let page := a / 0x1000
  if (a = 0 ∨ a = 4) ∧ !wr then true
  else if ownView a then true
  else if a = Reg.ROOK_SESS_IDLE ∧ wr then w == .installer && (s.sess_ w).open_
  else if !s.hasRole w then false
  else if w = .maker ∧ s.rook.lc = 3 then
    s.consentOpen && ((decide (0x407800 ≤ a) && decide (a < 0x408000)) || (decide (0x40F800 ≤ a) && decide (a < 0x410000)))
  else if wr ∧ (a = Reg.PROT_PROT_CTL ∨ (0x3200 ≤ a ∧ a < 0x3400)) then s.protWriter w
  else if !wr ∧ (page = 3 ∨ page = 4) then true
  else s.tableAllows w page wr

/-- A denied access (R342): a read returns all ones; the denial is counted, shown, and the first of each window in 8,000
frames audited. [DESIGN CHOICE, log 108] -/
def State.denied (s : State) (w : Win) (a : Nat) (wr : Bool) : State :=
  let page := a / 0x1000
  let s := (s.bump Reg.PROT_PROT_VIOL).irq 0x3000 0
  let s := s.setN Reg.PROT_VIOL_INFO (winNum w * 2 ^ 30 + b2n wr * 2 ^ 29 + page)
  let s := if wr then s else { s with rdata := 0xFFFFFFFF }
  let put := fun (s : State) v => { s with rook := { s.rook with viol := Tab.put (fun _ => none) s.rook.viol (winNum w) (some v) } }
  match Tab.get (fun _ => none) s.rook.viol (winNum w) with
  | some (t, n) =>
    if t + 8000 ≤ s.now then put (s.audit (roleOf w) 4 0x0E (leBytes 2 page ++ leBytes 4 (n + 1))) (s.now, 0) else put s (t, n + 1)
  | none => put (s.audit (roleOf w) 4 0x0E (leBytes 2 page ++ leBytes 4 1)) (s.now, 0)

/-- A block reset of the page is running, and a write at this offset waits for nothing: RST and the registers at 0x100 and
above ignore it (R378). [DEDUCED, log 181] -/
def State.rstRunning (s : State) (a : Nat) : Bool :=
  (decide (0x100 ≤ a % 0x1000) || a % 0x1000 == 0x30) && s.rn (a - a % 0x1000 + 0x34) == 4

/-- A host access to register space offset `a` through a window (R341, R342): allowed, it has its effect; otherwise it is
denied. The access restarts the session's idle time (R338). Before Rook has read the OTP, and in D3hot, nothing acts and a
read returns all ones (R353). [DEDUCED, log 18, 167] -/
def State.hostGuard (s : State) (w : Win) (a : Nat) (wr : Bool) (k : State → State) : State :=
  if !s.rook.otpRead || s.host.d3 then (if wr then s else { s with rdata := 0xFFFFFFFF }) else
  let s := s.setSess w { s.sess_ w with seen := s.now }
  if !s.allowed w a wr then s.denied w a wr
  else if wr && s.rstRunning a then s
  else k s

end Sys2Proof.Machine
end

