-- ==== Sys2Proof/Machine/Queue.lean ====
section
/-! DEFINITION. The queue manager (R220–R235): host reservations, atomic commits, consumption, flush, size changes, and the
command processor's taking of commands and writing of responses and events (R19–R22). -/

namespace Sys2Proof.Machine
open Sys2Proof

/-- The first QM page. -/
def qmPage : Nat := 0x78000

/-- Words of the ring (R220). -/
def Queue.S (x : Queue) : Nat := 256 * 2 ^ x.size

/-- Occupancy in words (R221). -/
def Queue.occ (x : Queue) : Nat := (x.wr + 2 * x.S - x.rd) % (2 * x.S)

/-- Space free to a producer (R221). -/
def Queue.free (x : Queue) : Nat := x.S - x.occ - x.rsv

/-- SRAM word of pointer `p` (R221). -/
def Queue.word (x : Queue) (p : Nat) : Nat := x.base * 256 + p % x.S

/-- A pointer moved on by `n` (R221). -/
def Queue.fwd (x : Queue) (p n : Nat) : Nat := (p + n) % (2 * x.S)

/-- The longest payload of an item of the queue (R222). -/
def Queue.maxLen (x : Queue) : Nat := min 1023 (x.S / 4 - 1)

/-- Read a word of QM SRAM. [DESIGN CHOICE, log 8] -/
def State.sram (s : State) (k : Nat) : Word := Tab.get (fun _ => 0) s.qm.sram k

/-- Write words into the ring of a queue from pointer `p`. -/
def State.putWords (s : State) (x : Queue) (p : Nat) (l : List Word) : State :=
  { s with qm := { s.qm with
      sram := (l.zip (List.range l.length)).foldl
        (fun t e => Tab.put (fun _ => 0) t (x.word (x.fwd p e.2)) e.1) s.qm.sram } }

/-- What window `w` sees of the queue. -/
def Queue.winQ (x : Queue) (w : Win) : WinQ := Tab.get (fun _ => {}) x.wins (winNum w)

/-- Change what window `w` sees. -/
def Queue.setWin (x : Queue) (w : Win) (y : WinQ) : Queue :=
  { x with wins := Tab.put (fun _ => {}) x.wins (winNum w) y }

/-- Window `w` drops its writes until its next COMMIT, which reports `st` (R224). -/
def Queue.dropping (x : Queue) (w : Win) (st : Nat) : Queue :=
  x.setWin w { x.winQ w with drop := some st }

/-- End the reservation other than by a commit: WR rolls back, the window drops, ABORTS counts (R224). -/
def State.endResv (s : State) (q st : Nat) : State :=
  let x := s.que q
  match x.resv with
  | none => s
  | some r => (s.setQue q ({ x with wr := r.at_, resv := none }.dropping r.win st)).bump Reg.QM_ABORTS

/-- QDROP of queue `q` counts one. -/
def State.qdrop (s : State) (q : Nat) : State := s.bump (Reg.QM_QDROP q)

/-- A header word is well formed (R222). -/
def hdrOk (v : Word) : Bool := v.toNat / 2 ^ 28 == 0xA && v.toNat / 2 ^ 16 % 256 == 0

/-- LEN of a header. -/
def hdrLen (v : Word) : Nat := v.toNat % 2 ^ 16

/-- A host write of DATA of queue `q` through window `w` (R223, R224). -/
def State.dataWrite (s : State) (w : Win) (q : Nat) (v : Word) : State :=
  let x := s.que q
  if !x.en then (s.setQue q (x.dropping w stNotReadyQ)).qdrop q
  else if (x.winQ w).drop.isSome then s
  else match x.resv with
    | none =>
      if x.free < 2 then (s.setQue q (x.dropping w 1)).bump Reg.QM_ABORTS
      else
        (s.putWords x x.wr [0, v]).setQue q { x with
          resv := some ⟨w, x.wr, 1⟩, wr := x.fwd x.wr 2 }
    | some r =>
      if r.win ≠ w then s.setQue q (x.dropping w 2)
      else if x.maxLen < r.n + 1 then s.endResv q 3
      else if x.free = 0 then s.endResv q 1
      else (s.putWords x x.wr [v]).setQue q { x with
          resv := some { r with n := r.n + 1 }, wr := x.fwd x.wr 1 }
where
  /-- NOT_READY. -/
  stNotReadyQ : Nat := 13

/-- PSTAT of window `w` reports a status, and the window stops dropping. -/
def Queue.report (x : Queue) (w : Win) (st : Nat) : Queue := x.setWin w { pstat := st, drop := none }

/-- A host write of COMMIT of queue `q` through window `w` (R223, R224). [DEDUCED, log 160] -/
def State.commitWrite (s : State) (w : Win) (q : Nat) (v : Word) : State :=
  let x := s.que q
  if !x.en then (s.setQue q (x.report w 13)).qdrop q
  else match (x.winQ w).drop with
  | some st => s.setQue q (x.report w st)
  | none => match x.resv with
    | some r =>
      if r.win ≠ w then s.setQue q (x.report w 2)
      else if hdrOk v && decide (hdrLen v = r.n) then
        (s.putWords x r.at_ [v]).setQue q { x.report w 0 with
          resv := none, items := x.items ++ [(r.n + 1, some w, s.now)] }
      else (s.setQue q { x.report w 3 with resv := none, wr := r.at_ }).bump Reg.QM_BAD_COMMIT
    | none =>
      if !(hdrOk v && decide (hdrLen v = 0)) then (s.setQue q (x.report w 3)).bump Reg.QM_BAD_COMMIT
      else if x.free = 0 then s.setQue q (x.report w 1)
      else (s.putWords x x.wr [v]).setQue q { x.report w 0 with
          wr := x.fwd x.wr 1, items := x.items ++ [(1, some w, s.now)] }

/-- The status of an atomic commit at its acceptance (R225). [DEDUCED, log 160] -/
def Queue.commitStatus (x : Queue) (hdr : Word) (n : Nat) : Nat :=
  if !x.en then 13
  else if !hdrOk hdr || decide (hdrLen hdr ≠ n) || decide (x.maxLen < n) then 3
  else if x.free < n + 1 then 1 else 0

/-- Write an item whole (R225). -/
def State.putItem (s : State) (q : Nat) (hdr : Word) (words : List Word) (win : Option Win) : State :=
  let x := s.que q
  (s.putWords x x.wr (hdr :: words)).setQue q { x with
    wr := x.fwd x.wr (words.length + 1), items := x.items ++ [(words.length + 1, win, s.now)] }

/-- The committer learns the outcome (R225, R234): a core in its queue port; an engine keeps a job whose result was refused,
and drops and counts the refused result of a job that it no longer holds (R258, R261). [DEDUCED, log 73] -/
def State.commitDone (s : State) (c : Committer) (st : Nat) : State :=
  match c with
  | .core g => s.setCore g { s.core_ g with port := { (s.core_ g).port with txBusy := false, txStat := st } }
  | .ciph c id =>
    let x := Tab.get (fun _ => {}) s.ciph.engines c
    let put := fun (jobs : List CiphJob) =>
      { s with ciph := { s.ciph with engines := Tab.put (fun _ => {}) s.ciph.engines c { x with jobs := jobs } } }
    if !x.jobs.any (fun j => j.id == id) then (if st = 0 then s else s.bump (Reg.CIPH_JOB_ERR c))
    else if st = 0 then put (x.jobs.filter (fun j => j.id != id))
    else put (x.jobs.map (fun j => if j.id = id then { j with offered := false } else j))

/-- The QM accepts the oldest atomic commit to queue `q` once no host reservation exists (R225). [DEDUCED, log 165] -/
def State.commitAccept (s : State) (q : Nat) : State :=
  match s.qm.commits.find? (fun c => c.q == q) with
  | none => s
  | some c =>
    let x := s.que q
    if x.resv.isSome then s
    else
      let s := { s with qm := { s.qm with commits := s.qm.commits.eraseP (fun c => c.q == q) } }
      let st := x.commitStatus (w32 c.hdr) c.words.length
      let s := if st = 0 then s.putItem q (w32 c.hdr) c.words none
        else if st = 13 then s.qdrop q
        else if st = 3 then s.bump Reg.QM_BAD_COMMIT else s
      s.commitDone c.by_ st

/-- Hand an item to the QM (R225). -/
def State.handOver (s : State) (c : Commit) : State := { s with qm := { s.qm with commits := s.qm.commits ++ [c] } }

/-- The word a DATA read of queue `q` returns, without moving the pointers (R222, R227). -/
def State.queueHead (s : State) (q : Nat) : Word :=
  let x := s.que q
  if !x.en || decide (x.rd = x.wr) then w32 (0xD1CE0000 + q)
  else if x.resv.any (fun r => r.at_ == x.rd) then 0
  else s.sram (x.word x.rd)

/-- A DATA read of queue `q` (R227). -/
def State.dataRead (s : State) (q : Nat) : State :=
  let x := s.que q
  let v := s.queueHead q
  let s := { s with rdata := v }
  if !x.en || decide (x.rd = x.wr) || x.resv.any (fun r => r.at_ == x.rd) then s
  else if x.left = 0 then
    s.setQue q { x with rd := x.fwd x.rd 1, left := hdrLen v, items := x.items.tail }
  else s.setQue q { x with rd := x.fwd x.rd 1, left := x.left - 1 }

/-- The oldest whole item of a queue that no reader has begun: header and payload, and its window. -/
def State.frontItem (s : State) (q : Nat) : Option (Word × List Word × Option Win) :=
  let x := s.que q
  match x.items with
  | [] => none
  | (n, w, _) :: _ =>
    if !x.en || decide (x.left ≠ 0) then none
    else some (s.sram (x.word x.rd), (List.range (n - 1)).map (fun i => s.sram (x.word (x.fwd x.rd (i + 1)))), w)

/-- Remove the oldest item whole (R227). -/
def State.popItem (s : State) (q : Nat) : State :=
  let x := s.que q
  match x.items with
  | [] => s
  | (n, _, _) :: r => s.setQue q { x with rd := x.fwd x.rd n, items := r }

/-- The frame in which the oldest whole item was committed. -/
def State.frontFrame (s : State) (q : Nat) : Nat := ((s.que q).items.head?.map (·.2.2)).getD s.now

/-- Flush queue `q` (R230): committed items but one being read are discarded, a reservation ends; RSV stays. -/
def State.flush (s : State) (q : Nat) : State :=
  let s := s.endResv q 9
  let x := s.que q
  (s.setQue q { x with items := [], wr := x.fwd x.rd x.left }).addN Reg.QM_FLUSH_ITEMS x.items.length

/-! ### Configuration (R220, R231, R232) -/

/-- The SRAM words of a region overlap those of another. -/
def regionsMeet (b1 z1 b2 z2 : Nat) : Bool :=
  decide (b1 * 256 < b2 * 256 + 256 * 2 ^ z2) && decide (b2 * 256 < b1 * 256 + 256 * 2 ^ z1)

/-- The region of queue `q` fits the SRAM and meets no region, in force or pending, of another enabled queue (R220). -/
def State.regionFree (s : State) (q size base : Nat) : Bool :=
  decide (base * 256 + 256 * 2 ^ size ≤ 524288) &&
  s.qm.queues.all (fun e => e.1 == q || !e.2.en ||
    (!regionsMeet base size e.2.base e.2.size &&
      match e.2.pend with
      | some p => !regionsMeet base size p.2 p.1
      | none => true))

/-- A QCFG write with these fields is refused (R220, R231). -/
def State.qcfgBad (s : State) (q size base : Nat) (en : Bool) : Bool :=
  decide (8 < size) || (en && !s.regionFree q size base) ||
  (en && decide (16 ≤ q) && decide (q < 32) && decide (size < 2))

/-- The responses to commands already taken that event queue `q` had reserved space for are lost (R20, R232). -/
def State.orphans (s : State) (q : Nat) : State :=
  { s with qm := { s.qm with
      outbox := s.qm.outbox.map (fun o => if o.q = q ∧ o.resp.isSome then { o with lost := true } else o)
      taken := s.qm.taken.map (fun t => if t.q + 16 = q then { t with orphan := true } else t) } }

/-- A write of QCFG of queue `q` (R220, R231, R232). [DEDUCED, log 161] -/
def State.writeQcfg (s : State) (q : Nat) (v : Word) : State :=
  let en := bitOf v.toNat 31
  let size := fieldOf v.toNat 16 4
  let base := fieldOf v.toNat 0 11
  let a := Reg.QM_QCFG q
  if s.qcfgBad q size base en then (s.err qmPage 3 q a).irq qmPage 2
  else
    let s := s.setReg a (v &&& 0x800F07FF#32)
    if !en then
      let s := s.flush q
      let x := s.que q
      (s.setQue q { x with en := false, size := size, base := base, rsv := 0, pend := none, left := 0 }).orphans q
    else
      let x := s.que q
      if !x.en then
        s.setQue q { x with en := true, size := size, base := base, rd := 0, wr := 0, items := [], left := 0, pend := none }
      else
        s.setQue q { x with pend := if size = x.size ∧ base = x.base then none else some (size, base) }

/-- A pending size or base takes effect once the ring is empty, with no reservation and no reader (R231). -/
def State.resizeApply (s : State) (q : Nat) : State :=
  let x := s.que q
  match x.pend with
  | none => s
  | some p =>
    if x.rd = x.wr ∧ x.resv.isNone ∧ x.left = 0 then
      s.setQue q { x with size := p.1, base := p.2, rd := 0, wr := 0, pend := none }
    else s

/-! ### Responses and events (R20, R21, R226, R233) -/

/-- Words of the response to an opcode, header, word 1 and the most results it carries: at most 64 (R226).
[DESIGN CHOICE, log 16] -/
def respLen (op : Nat) : Nat :=
  2 + match op with
    | 0x04 => 16
    | 0x0B => 11
    | 0x23 => 12
    | 0x33 => 13
    | 0x41 => 4
    | 0x44 => 17
    | 0x45 => 4
    | 0x46 => 15
    | 0x55 => 8
    | 0x56 => 17
    | 0x72 => 5
    | _ => 2

/-- Write the oldest response for event queue `q` into its reserved space (R226); one whose queue has been disabled since its
command was taken is dropped (R20, R232). [DESIGN CHOICE, log 16] -/
def State.responseWrite (s : State) (q : Nat) : State :=
  match s.qm.outbox.find? (fun o => o.q == q) with
  | some ⟨some (st, tag), _, op, words, lost⟩ =>
    let x := s.que q
    if x.resv.isSome then s
    else
      let s := { s with qm := { s.qm with outbox := s.qm.outbox.eraseP (fun o => o.q == q) } }
      if lost then s.qdrop q
      else
        let body := w32 (op * 2 ^ 24 + st * 2 ^ 16 + tag % 2 ^ 16) :: words
        (s.setQue q { x with rsv := x.rsv - respLen op }).putItem q (w32 (0xA2000000 + body.length)) body none
  | _ => s

/-- Post the oldest event for event queue `q` (R21, R226, R233): it takes the next EVSEQ, and is dropped with QDROP and OVF
when it does not fit. -/
def State.eventPost (s : State) (q : Nat) : State :=
  match s.qm.outbox.find? (fun o => o.q == q) with
  | some ⟨none, _, code, words, _⟩ =>
    let x := s.que q
    if x.resv.isSome then s
    else
      let s := { s with qm := { s.qm with outbox := s.qm.outbox.eraseP (fun o => o.q == q) } }
      let y := { x with evseq := (x.evseq + 1) % 2 ^ 16 }
      let body := w32 (code * 2 ^ 24 + x.evseq) :: words
      if !x.en || decide (x.free < body.length + 1) then
        (((s.setQue q y).qdrop q).setFld (Reg.QM_QSTAT q) 30 1 1).irq qmPage 0
      else (s.setQue q y).putItem q (w32 (0xA3000000 + body.length)) body none
  | _ => s

/-! ### The core queue port (R234) -/

/-- A core hands its buffered payload over with a header (R234). [DEDUCED, log 165] -/
def State.qpCommit (s : State) (g : Nat) (v : Word) : State :=
  let p := (s.core_ g).port
  if p.txBusy then s
  else
    let words := (List.range (min (hdrLen v) 128)).map (fun i => Tab.get (fun _ => 0) p.txbuf i)
    (s.setCore g { s.core_ g with port := { p with txBusy := true } }).handOver ⟨p.txq, .core g, v.toNat, words⟩

/-- A core pops one whole item from QP_RXQ (R234). -/
def State.qpPop (s : State) (g : Nat) : State :=
  let p := (s.core_ g).port
  match s.frontItem p.rxq with
  | none =>
    let c := s.core_ g
    s.setCore g { c with port := { p with rxHdr := (s.queueHead p.rxq).toNat, rxTrunc := false, rxStat := 0 } }
  | some (hdr, words, _) =>
    let buf := ((words.take 64).zip (List.range 64)).foldl (fun t e => Tab.put (fun _ => 0) t e.2 e.1) []
    let long := decide (64 < words.length)
    let s := s.popItem p.rxq
    s.setCore g { s.core_ g with port := { p with
      rxbuf := buf, rxHdr := hdr.toNat, rxTrunc := long, rxStat := if long then 0x0A else 0 } }

/-! ### Meanings -/

/-- Address of an offset in the span of queue `q`. -/
def queueSpan (q off : Nat) : Nat := 0x400000 + q * 0x800 + off

/-- QUEUE_DATA_WRITE (R223). -/
def execQueueDataWrite (w : Win) (q : Nat) (v : Word) (s : State) : Res :=
  .next (s.hostGuard w (queueSpan q 0) true (·.dataWrite w q v))

/-- COMMIT (R223). -/
def execCommit (w : Win) (q : Nat) (v : Word) (s : State) : Res :=
  .next (s.hostGuard w (queueSpan q 0x400) true (·.commitWrite w q v))

/-- ABORT (R224): a write to a disabled queue is dropped and counted; 0x0000_0001 ends the window's reservation; other values are ignored. -/
def execAbort (w : Win) (q : Nat) (v : Word) (s : State) : Res :=
  .next (s.hostGuard w (queueSpan q 0x404) true (fun s =>
    if !(s.que q).en then (s.setQue q ((s.que q).dropping w 13)).qdrop q
    else if v = 1 ∧ (s.que q).resv.any (fun r => r.win == w) then s.endResv q 9 else s))

/-- RESERVATION_TIMEOUT (R224). -/
def execReservationTimeout (q : Nat) (s : State) : Res :=
  .next (if (s.que q).resv.isSome then (s.endResv q 0x0C).irq qmPage 1 else s)

/-- QUEUE_DATA_READ (R227). -/
def execQueueDataRead (w : Win) (q : Nat) (s : State) : Res :=
  .next (s.hostGuard w (queueSpan q 0) false (·.dataRead q))

/-- QP_COMMIT (R234). -/
def execQpCommit (g : Nat) (v : Word) (s : State) : Res := .next (s.qpCommit g v)

/-- COMMIT_ACCEPT (R225). -/
def execCommitAccept (q : Nat) (s : State) : Res := .next (s.commitAccept q)

/-- QP_POP (R234). -/
def execQpPop (g : Nat) (s : State) : Res := .next (s.qpPop g)

/-- QFLUSH (R230). -/
def execQflush (w : Win) (q : Nat) (s : State) : Res :=
  .next (s.hostGuard w Reg.QM_QFLUSH true (·.flush (q % 512)))

/-- QCFG_ENABLE (R232). -/
def execQcfgEnable (w : Win) (q size base : Nat) (s : State) : Res :=
  .next (s.hostGuard w (Reg.QM_QCFG q) true (·.writeQcfg q (w32 (2 ^ 31 + size % 16 * 2 ^ 16 + base % 2048))))

/-- QCFG_DISABLE (R232). -/
def execQcfgDisable (w : Win) (q : Nat) (v : Word) (s : State) : Res :=
  .next (s.hostGuard w (Reg.QM_QCFG q) true (·.writeQcfg q (v &&& 0x7FFFFFFF#32)))

/-- QCFG_RESIZE (R231). -/
def execQcfgResize (w : Win) (q size base : Nat) (s : State) : Res :=
  .next (s.hostGuard w (Reg.QM_QCFG q) true (fun s =>
    s.writeQcfg q (w32 (putField (putField (s.rn (Reg.QM_QCFG q)) 16 4 size) 0 11 base))))

/-- QUEUE_RESIZE_APPLY (R231). -/
def execQueueResizeApply (q : Nat) (s : State) : Res := .next (s.resizeApply q)

/-- RESPONSE_WRITE (R226). -/
def execResponseWrite (q : Nat) (s : State) : Res := .next (s.responseWrite q)

/-- EVENT_POST (R21). -/
def execEventPost (q : Nat) (s : State) : Res := .next (s.eventPost q)

/-- A context is OPEN or CLOSING. -/
def State.anyCtx (s : State) : Bool := s.jbe.ctxs.any (fun e => e.2.state != 0)

/-- Every core of every cluster is STOPPED. -/
def State.allStopped (s : State) : Bool := s.core.cores.all (fun e => e.2.state == 0)

/-- The QM reset (R235). -/
def State.qmRst (s : State) : State :=
  if s.anyCtx || !s.allStopped then s.rstRefused qmPage 2
  else
    let s := (s.headerReset qmPage).pageReset qmPage 0x80000
    { s with qm := { s.qm with queues := [], outbox := [], taken := [], served := 15, stalled := [] } }

/-- QM_RST (R235). -/
def execQmRst (w : Win) (s : State) : Res := .next (s.hostGuard w (qmPage + 0x30) true (·.qmRst))

end Sys2Proof.Machine
end

