-- ==== Sys2Proof/Machine/Link.lean ====
section
/-! DEFINITION. Line links (R39–R57, R402): the LDI and LDO frames, training and link states, slips, debounced line
status, control words, cadences, the management channel. -/

namespace Sys2Proof.Machine
open Sys2Proof

/-! ### Frames (R43, R44) -/

/-- The sync word of every frame (R43). -/
def frameSync : Nat := 0xF6A3

/-- The sync word of a frame is right. -/
def syncOk (f : FrameBytes) : Bool := beNat (slice f 0 2) == frameSync

/-- The CRC of a frame is right: 764 bytes and the 32-bit field after them (R44). -/
def crcOk (f : FrameBytes) : Bool := crc32c (slice f 0 764) == beNat (slice f 764 4)

/-- The line status word of slot `i`: frame bits 4128 + 16i to 4143 + 16i (R43). -/
def ldiStatus (f : FrameBytes) (i : Nat) : Nat := beNat (slice f (516 + 2 * i) 2)

/-- The 128 modulator levels of slot `i`: 2 × code − 3 for the codes of frame bits 32 + 256i on (R39, R43). -/
def ldiLevels (f : FrameBytes) (i : Nat) : List (Option Int) :=
  (slice f (4 + 32 * i) 32).flatMap (fun b =>
    ([b / 64 % 4, b / 16 % 4, b / 4 % 4, b % 4] : List Nat).map (fun c => some (2 * (c : Int) - 3)))

/-- The management message of an LDI frame, if its LEN is 1–62 (R55). -/
def ldiMgmt (f : FrameBytes) : Option Mgmt :=
  let m := slice f 548 64
  let len := m.headD 0
  if 1 ≤ len ∧ len ≤ 62 then some ⟨(m.drop 1).headD 0, slice m 2 len⟩ else none

/-- The 64-byte management field of a message (R55). -/
def Mgmt.field (m : Mgmt) : List Nat := slice ([m.payload.length, m.seq] ++ m.payload) 0 64

/-- The first 764 bytes of an LDO frame (R43): SYNC, FCNT, FLAGS, the PCM of the 16 slots, their control words, the
management field, and idle bits 1010…. [DESIGN CHOICE, log 197] -/
def LdoFrame.body (f : LdoFrame) : List Nat :=
  beBytes 2 frameSync ++ [f.fcnt % 256, b2n f.mgmt.isSome * 128 + b2n f.underrun * 64 + b2n f.slip * 32] ++
  (List.range 16).flatMap (fun i => (List.range 4).flatMap (fun k => beBytes 2 (unsigned 16 ((f.pcm.getD i []).getD k 0)))) ++
  (List.range 16).flatMap (fun i => beBytes 4 (f.ctl.getD i 0)) ++
  (match f.mgmt with | some m => m.field | none => List.replicate 64 0) ++ List.replicate 504 0xAA

/-- The 768 bytes of an LDO frame on the lane, first bit highest: the body and its CRC (R43, R44). -/
def LdoFrame.bytes (f : LdoFrame) : FrameBytes := f.body ++ beBytes 4 (crc32c f.body)

/-! ### States of a link (R46, R47) -/

/-- The LINK page of bank `b`. -/
def linkPage (b : Nat) : Nat := 0x10000 + b * 0x1000

/-- LNK_STAT of global link `l`. -/
def lnkStat (l : Nat) : Nat := Reg.LINK_LNK_STAT (l / 8) (l % 8)

/-- LNK_STAT.STATE: 0 DISABLED; 1 TRAINING; 2 UP; 3 DOWN. -/
def State.linkState (s : State) (l : Nat) : Nat := s.fld (lnkStat l) 30 2

/-- A line event or link event of bank `b` (R57). -/
def State.lineEvent (s : State) (b irqBit code : Nat) (payload : List Nat) : State :=
  (s.irq (linkPage b) irqBit).event (s.rn (Reg.LINK_EVQ b)) code payload

/-- LINK_STATE of link `l`. -/
def State.linkStateEvent (s : State) (l : Nat) : State :=
  let st := s.rn (lnkStat l)
  s.lineEvent (l / 8) 0 0xE4 [l, fieldOf st 30 2, fieldOf st 27 3, fieldOf st 0 6, fieldOf st 8 7, b2n (s.link_ l).feAlarm]

/-- LINE_STAT of line `i`. -/
def lineStat (i : Nat) : Nat := Reg.LINK_LINE_STAT (i / 128) (i % 128)

/-- The 16 lines of link `l` (R2). -/
def linesOf (l : Nat) : List Nat := (List.range 16).map (16 * l + ·)

/-- Change LNK_STAT.STATE and CAUSE and post LINK_STATE; entering or leaving UP sets or clears the validity of its lines'
status and restarts their debounce counts (R46, R47, R51). [DESIGN CHOICE, log 29] -/
def State.setLinkState (s : State) (l st cause : Nat) : State :=
  let s := (s.setFld (lnkStat l) 30 2 st).setFld (lnkStat l) 27 3 cause
  let s := s.setFld (Reg.LINK_BANK_STAT (l / 8)) (16 + l % 8) 1 (if st = 2 then 1 else 0)
  let s := s.each (linesOf l) (fun s i =>
    let s := s.setFld (lineStat i) 31 1 (if st = 2 then 1 else 0)
    if st = 2 then s.setLine i { s.line_ i with deb := [] } else s)
  s.linkStateEvent l

/-- The tap limits of a scan: all taps, or the tap in use ±8 (R46). -/
def State.scanRange (s : State) (l : Nat) (fast : Bool) : Nat × Nat :=
  let t := s.fld (lnkStat l) 0 6
  if fast then (t - 8, min 63 (t + 8)) else (0, 63)

/-- Begin training: a confirmation at TAP with TAP_MAN = 1, otherwise a fast or a full scan (R46). LNK_STAT.TAP keeps the
tap chosen before while a scan tries others. [DESIGN CHOICE, log 29, 195] -/
def State.beginTraining (s : State) (l : Nat) (fast : Bool) : State :=
  let ctl := Reg.LINK_LNK_CTRL (l / 8) (l % 8)
  let cause := s.fld (lnkStat l) 27 3
  let r := s.scanRange l fast
  let man := s.bit ctl 12
  let t : Training := if man then .confirm false 0 0 else .scan fast r.1 r.2 r.1 0 0 0
  let s := if man then (s.setFld (lnkStat l) 0 6 (s.fld ctl 0 6)).setFld (lnkStat l) 8 7 0 else s
  let s := s.setLink l { s.link_ l with training := some t, noSync := 0, crcAt := [] }
  if s.linkState l = 1 then s else s.setLinkState l 1 cause

/-- A link goes DOWN with a cause (R47). -/
def State.linkDown (s : State) (l cause : Nat) : State :=
  let s := s.setLink l { s.link_ l with training := none, downAt := s.now, noSync := 0, crcAt := [] }
  s.setLinkState l 3 cause

/-- BANK_CFG.AUTO_RETRAIN. -/
def State.autoRetrain (s : State) (l : Nat) : Bool := s.bit (Reg.LINK_BANK_CFG (l / 8)) 9

/-- DOWN after SYNC_LOSS or CRC_LIMIT, with the retrain that BANK_CFG asks for (R47). [DEDUCED, log 31] -/
def State.linkFail (s : State) (l cause : Nat) : State :=
  let s := s.linkDown l cause
  if s.autoRetrain l then s.beginTraining l (s.bit (Reg.LINK_BANK_CFG (l / 8)) 10) else s

/-- Length of the run of passing taps that begins at tap `t` (taps to 63). -/
def runFrom (map : Nat) : Nat → Nat → Nat
  | 0, _ => 0
  | n + 1, t => if bitOf map t then runFrom map n (t + 1) + 1 else 0

/-- The longest run of passing taps, the lower of two equals: its first tap and its length (R46). -/
def longestRun (map : Nat) : Nat × Nat :=
  (List.range 64).foldl (fun best t =>
    let n := runFrom map (64 - t) t
    if best.2 < n then (t, n) else best) (0, 0)

/-- The end of a scan: EYE and TAP_MAP record it, and the tap is chosen or the link fails (R46). With MIN_EYE 0 and no
passing tap there is no centre to choose, and the link fails. [DEDUCED, log 30; DESIGN CHOICE, log 195] -/
def State.scanEnd (s : State) (l map : Nat) (fast : Bool) : State :=
  let s := (s.setN (Reg.LINK_TAP_MAP_LO (l / 8) (l % 8)) (map % 2 ^ 32)).setN
    (Reg.LINK_TAP_MAP_HI (l / 8) (l % 8)) (map / 2 ^ 32)
  let r := longestRun map
  let s := s.setFld (lnkStat l) 8 7 r.2
  if r.2 < max 1 (s.fld (Reg.LINK_BANK_CFG (l / 8)) 24 8) then
    if fast then s.beginTraining l false else s.linkDown l 6
  else
    let s := s.setFld (lnkStat l) 0 6 (r.1 + (r.2 - 1) / 2)
    s.setLink l { s.link_ l with training := some (.confirm fast 0 0) }

/-- TRAIN_FRAMES, where 0 is treated as 1. -/
def State.trainFrames (s : State) (l : Nat) : Nat := max 1 (s.fld (Reg.LINK_BANK_CFG (l / 8)) 20 4)

/-! ### Receiving (R48–R50) -/

/-- A slip: counted, and posted once per bank, frame and kind (R49). LINK_SLIP carries 0 for receive and 1 for transmit;
0 for overrun and repeat, 1 for underrun and skip. [DESIGN CHOICE, log 28, 199] -/
def State.slip (s : State) (b : Nat) (tx : Bool) (kind : Nat) : State :=
  let s := s.bump (if tx then Reg.LINK_TX_SLIP b else Reg.LINK_RX_SLIP b)
  let code := 2 * b2n tx + kind
  if (s.bank_ b).slipPosted.contains code then s
  else (s.setBank b { s.bank_ b with slipPosted := code :: (s.bank_ b).slipPosted }).lineEvent b 1 0xE5 [b, b2n tx, kind, s.now]

/-- LFPH and the phase warning, judged on the lowest UP link of the bank (R50). -/
def State.phaseCheck (s : State) (l ph : Nat) : State :=
  let b := l / 8
  let lowest := ((List.range 8).map (8 * b + ·)).find? (fun k => s.linkState k == 2)
  if lowest ≠ some l then s
  else
    let s := s.setN (Reg.LINK_LFPH b) ph
    let g := s.fld (Reg.LINK_PHASE_GUARD b) 0 13
    let inside := decide (ph < g ∨ 6144 - g ≤ ph)
    let was := s.bit (Reg.LINK_BANK_STAT b) 2
    let s := s.setFld (Reg.LINK_BANK_STAT b) 2 1 (b2n inside)
    if inside && !was then s.lineEvent b 2 0xE7 [b, ph] else s

/-- A frame of a link in training counts toward its tap or its confirmation (R46). -/
def Training.count (good : Bool) : Training → Training
  | .scan fast lo hi tap frames g map => .scan fast lo hi tap (frames + 1) (g + b2n good) map
  | .confirm fast frames g => .confirm fast (frames + 1) (if good then g + 1 else 0)

/-- A whole LDI frame completes on link `l`, `ph` SCLK into the frame (R27, R46, R48–R50). Its samples, status and message are taken when it
is processed, in the next frame (R10). [DEDUCED, log 27; DESIGN CHOICE, log 201] -/
def State.ldiFrame (s : State) (l ph : Nat) (f : FrameBytes) : State :=
  let b := l / 8
  let k := l % 8
  let st := s.linkState l
  if st = 0 then s
  else
    let sy := syncOk f
    let good := sy && crcOk f
    let fcnt := (f.drop 2).headD 0
    let x := s.link_ l
    let ph := copyPhase ph
    let s := { s with time := { s.time with fphase := ph } }
    let s := s.setFld (Reg.LINK_BANK_STAT b) 0 2 3
    let r : LdiRx := ⟨good, fcnt, (f.drop 3).headD 0, f⟩
    let s := if st ≠ 2 then s.setLink l { x with training := x.training.map (Training.count good), rx := some r }
      else
        let s := if x.rx.isSome then s.slip b false 0 else s
        let s := if !sy then s.bump (Reg.LINK_SYNC_ERR b k)
          else if !good then s.bump (Reg.LINK_CRC_ERR b k)
          else if fcnt ≠ (s.fld (lnkStat l) 16 8 + 1) % 256 then s.bump (Reg.LINK_CNT_ERR b k) else s
        s.setLink l { x with
          noSync := if sy then 0 else x.noSync + 1
          crcAt := (if sy && !good then s.now :: x.crcAt else x.crcAt).filter (fun t => s.now < t + 8000)
          rx := some r }
    let s := if good then s.setFld (lnkStat l) 16 8 fcnt else s
    if good then s.phaseCheck l ph else s

/-- Debounce one status bit against its debounced value (R51). -/
def debounce (n : Nat) (cur raw : Bool) (d : Deb) : Deb :=
  if raw = cur then {}
  else if d.count = 0 then ⟨raw, 1, n⟩ else ⟨raw, d.count + 1, d.stamp⟩

/-- The raw status of a line in a good frame processed in frame `n` (R51). -/
def State.takeStatus (s : State) (n i raw : Nat) : State :=
  let cur := s.rn (lineStat i)
  let x := s.line_ i
  let deb := [11, 12, 13, 14, 15].foldl (fun t bit =>
    Tab.put (fun _ => {}) t bit (debounce n (bitOf cur bit) (bitOf raw bit) (Tab.get (fun _ => {}) t bit))) x.deb
  (s.setLine i { x with deb := deb }).setFld (lineStat i) 8 3 (raw / 256)

/-- What LINK sends on the LDO lane of link `l`: the last link frame that started, none while the link is DISABLED (R43). -/
def State.ldoLane (s : State) (l : Nat) : Option FrameBytes :=
  if s.linkState l = 0 then none else (s.link_ l).sent.map LdoFrame.bytes

/-- Process what link `l` received in the frame before `n` (R10, R48, R49): status, FE_ALARM and message.
[DEDUCED, log 27; DESIGN CHOICE, log 200] -/
def State.processRx (s : State) (n l : Nat) : State :=
  let x := s.link_ l
  if s.linkState l ≠ 2 then s.setLink l { x with rx := none }
  else match x.rx with
    | none => s.slip (l / 8) false 1
    | some r =>
      if !r.good then s
      else
        let s := s.each ((List.range 16).map (fun i => (16 * l + i, ldiStatus r.bytes i)))
          (fun s p => s.takeStatus n p.1 p.2)
        let alarm := decide (r.flags / 32 % 2 = 1)
        let s := s.setLink l { s.link_ l with feAlarm := alarm }
        let s := if alarm && !x.feAlarm then s.linkStateEvent l else s
        if r.flags / 128 % 2 = 1 then
          match ldiMgmt r.bytes with
          | some m => s.lineEvent (l / 8) 4 0xE6 ([l, m.seq, m.payload.length] ++ m.payload)
          | none => s
        else s

/-- The modulator levels line `i` delivers to its decimator in the frame now processed: `none` for every sample a fault or
slip replaces (R48, R49, R58). -/
def State.levels (s : State) (i : Nat) : List (Option Int) :=
  let l := i / 16
  match (s.link_ l).rx with
  | some r => if s.linkState l = 2 && r.good && decide (r.flags / 16 % 2 = 0) then ldiLevels r.bytes (i % 16)
      else List.replicate 128 none
  | none => List.replicate 128 none

/-! ### Transmitting (R11, R45, R49, R53–R55) -/

/-- LINE_CFG of line `i`, as last written. -/
def lineCfg (i : Nat) : Nat := Reg.LDC_LINE_CFG (i / 128) (i % 128)

/-- LINE_CFG.BOUND. -/
def State.bound (s : State) (i : Nat) : Bool := s.bit (lineCfg i) 30

/-- SET_CFG of the set that line `i` selects. -/
def State.lineSetCfg (s : State) (i : Nat) : Nat :=
  s.rn (Reg.LDC_SET_CFG (i / 128) (s.fld (lineCfg i) 24 3))

/-- Output rate of a filter set in Hz from its SET_CFG: 8,000, 16,000, 64,000 or 2,000 (R64). -/
def setRate (cfg : Nat) : Nat :=
  if fieldOf cfg 28 2 = 2 then 64000
  else if bitOf cfg 27 then 2000
  else if bitOf cfg 25 = bitOf cfg 26 then (if bitOf cfg 25 then 4000 else 16000) else 8000

/-- Line `i` runs at 16 kHz. -/
def State.wideLine (s : State) (i : Nat) : Bool := setRate (s.lineSetCfg i) == 16000

/-- The ring samples due on line `i` in frame `n`, if a move has written them: the entry holds the frame in its first four
bytes, then one or two samples (R11). [DESIGN CHOICE, log 32] -/
def State.ringSamples (s : State) (i n : Nat) : Option (List Int) :=
  let a := Config.txRingAddr i n
  if s.rdLE a 4 = n % 2 ^ 32 then
    some ((List.range (if s.wideLine i then 2 else 1)).map (fun k => signed 16 (s.rdLE (a + 4 + 2 * k) 2)))
  else none

/-! #### Cadences (R53, R402) -/

/-- Begin segment `k` of a cadence at frame `at_`. -/
def Cadence.startSeg (c : Cadence) (k at_ : Nat) : Cadence :=
  let p := c.segs.getD k (0, 0)
  { c with seg := k, on := decide (0 < p.1), due := at_ + (if 0 < p.1 then p.1 else p.2) }

/-- RING_ON of a control word. -/
def setRingOn (ctl : Nat) (on : Bool) : Nat := if on then bitSet ctl 11 else bitClear ctl 11

/-- A line has a cadence (R402). -/
def State.ringing (s : State) (i : Nat) : Bool := (s.line_ i).cadence.isSome

/-- MODE and RING_ON as they were before LINE_RING (R402). -/
def Cadence.restore (c : Cadence) (ctl : Nat) : Nat := setRingOn (putField ctl 28 4 c.prevMode) (decide (c.prevOn = 1))

/-- A close in which the part of the cadence in progress ends (R53, R402): RING_ON changes, the next segment or cycle
begins, or the last cycle ends and LINE_RING_DONE is due. [DESIGN CHOICE, log 202] -/
def Line.step (x : Line) : Line :=
  match x.stepDue, x.cadence with
  | true, some c =>
    let x := { x with stepDue := false }
    let p := c.segs.getD c.seg (0, 0)
    if c.on && decide (0 < p.2) then
      { x with cadence := some { c with on := false, due := c.due + p.2 }, ctl := setRingOn x.ctl false }
    else if c.seg < 3 ∧ c.segs.getD (c.seg + 1) (0, 0) ≠ (0, 0) then
      let d := c.startSeg (c.seg + 1) c.due
      { x with cadence := some d, ctl := setRingOn x.ctl d.on }
    else if c.cycles ≠ 0 ∧ c.cycles ≤ c.done + 1 then
      { x with cadence := none, ctl := c.restore x.ctl, doneDue := x.doneDue ++ [c.done + 1] }
    else
      let d := { c with done := c.done + 1 }.startSeg 0 c.due
      { x with cadence := some d, ctl := setRingOn x.ctl d.on }
  | _, _ => { x with stepDue := false }

/-- The action of a debounced ring trip at a close (R54): the cadence ends at forward feed with RING_ON = 0. -/
def Line.tripped (x : Line) : Line :=
  match x.trip with
  | some _ => { x with trip := none, cadence := none, ctl := bitClear (putField x.ctl 28 4 1) 11 }
  | none => x

/-- CADENCE_STEP (R53, R402): the count of the part of the cadence in progress expires at the next close, which applies the
step after the commands taken before it. [DESIGN CHOICE, log 202] -/
def State.cadenceStep (s : State) (i : Nat) : State :=
  let x := s.line_ i
  match x.cadence with
  | some c => if s.now + 1 < c.due then s else s.setLine i { x with stepDue := true }
  | none => s

/-- Input `u` of the interpolator (R45): the newest sample is `hist.head`, and `back` counts samples back from it. -/
def histAt (hist : List Int) (back : Nat) : Int := hist.getD back 0

/-- Sample `k` of the four 32 kHz samples of a frame (R45): a linear-phase FIR over the ring samples with zeros between
them, symmetric about its centre tap, which lies two input samples back: 4L + 1 taps at 32 kHz for a ratio of L.
[DESIGN CHOICE, log 33] -/
def ldoSample (wide : Bool) (hist : List Int) (k : Nat) : Int :=
  let L := if wide then 2 else 4
  let newest := 4 / L - 1 - k / L
  let sum := (List.range 5).foldl (fun a q =>
    let i := k % L + L * q
    if i ≤ 4 * L then a + Config.ldoCoef wide (((i : Int) - ((2 * L : Nat) : Int)).natAbs) * histAt hist (newest + q) else a) 0
  (Config.ldoRound sum).toInt

/-- Close line `i`'s part of the LDO frame of frame `n` (R11, R45, R53, R54, R402): the samples, the underrun count, then the
commands taken, the cadence step and the ring-trip action in this order, with their events. Returns the four samples and
whether they are zero-filled: FLAGS.UNDERRUN counts a bound voice line from its binding on, and no unbound line.
[DESIGN CHOICE, log 33, 196, 202] -/
def State.closeLine (s : State) (n i : Nat) : State × List Int × Bool :=
  let b := i / 128
  let voice := decide (setRate (s.lineSetCfg i) ≤ 16000 ∧ setRate (s.lineSetCfg i) ≠ 2000)
  let due := if voice then s.ringSamples i n else none
  let x := s.line_ i
  let counts := match x.underrunFrom with
    | some f => s.bound i && decide (f ≤ n) && due.isNone
    | none => false
  let s := if counts then s.bump (Reg.LINK_TX_UNDERRUN b) else s
  let samples := (due.getD (List.replicate (if s.wideLine i then 2 else 1) 0)).reverse
  let x := { x with txHist := (samples ++ x.txHist).take 16, ref := (samples ++ x.ref).take 16 }
  let pcm := if voice then (List.range 4).map (ldoSample (s.wideLine i) x.txHist) else [0, 0, 0, 0]
  let x := x.step
  let s := s.each x.doneDue (fun s c => s.lineEvent b 3 0xE8 [i, c])
  let s := match x.trip with
    | some stamp => s.lineEvent b 3 0xE1 [i, 1, stamp]
    | none => s
  (s.setLine i { x.tripped with doneDue := [] }, pcm, s.bound i && due.isNone && voice)

/-- What LINK sent in the frame in progress was zero PCM, or nothing: the reference of the lines of link `l` holds zeros for
that frame (R49, R84). [DESIGN CHOICE, log 203] -/
def State.zeroRef (s : State) (l : Nat) : State :=
  s.each (linesOf l) (fun s i =>
    let x := s.line_ i
    let per := if s.wideLine i then 2 else 1
    s.setLine i { x with ref := List.replicate per 0 ++ x.ref.drop per })

/-- Close the LDO frame of link `l` for frame `n` (R45). A frame closed before and not sent is discarded: a transmit skip,
whose message stays queued (R49). -/
def State.closeLdo (s : State) (n l : Nat) : State :=
  let s := if (s.link_ l).closed.isSome then (s.zeroRef l).slip (l / 8) true 1 else s
  let r := (linesOf l).foldl (fun (acc : State × List (List Int) × Bool) i =>
    let c := acc.1.closeLine n i
    (c.1, acc.2.1 ++ [c.2.1], acc.2.2 || c.2.2)) (s, [], false)
  let s := r.1
  let fr : LdoFrame := {
    fcnt := (n - 1) % 256, underrun := r.2.2, slip := false, pcm := r.2.1
    ctl := (linesOf l).map (fun i => (s.line_ i).ctl), mgmt := (s.link_ l).mgmt.head? }
  s.setLink l { s.link_ l with closed := some fr, started := 0 }

/-- The links of the device that are not DISABLED. -/
def State.activeLinks (s : State) : List Nat := (List.range 128).filter (fun l => s.linkState l != 0)

/-- A link whose LINK_EN was cleared becomes DISABLED at the frame boundary, and leaves it again where LINK_EN has been set
since (R46, R55). -/
def State.disableLink (s : State) (l : Nat) : State :=
  let s := (s.setLink l {}).setLinkState l 0 1
  if s.bit (Reg.LINK_BANK_CFG (l / 8)) (l % 8) then s.beginTraining l false else s

/-- The boundary of a link page as frame `n` opens: LINK_EN clears take effect, received frames are processed, LDO frames
close. The received frames stay for the decimators of the same frame. -/
def State.linkOpen (s : State) (n : Nat) : State :=
  let s := s.each (Tab.keys s.link.banks) (fun s b => s.setBank b { s.bank_ b with slipPosted := [] })
  let s := s.each (s.activeLinks.filter (fun l => (s.link_ l).disabling)) (fun s l => s.disableLink l)
  let s := s.each s.activeLinks (fun s l => s.processRx n l)
  s.each s.activeLinks (fun s l => s.closeLdo n l)

/-- The frame's received LDI frames have been decimated. -/
def State.linkDone (s : State) : State :=
  s.each (s.activeLinks.filter (fun l => (s.link_ l).rx.isSome)) (fun s l => s.setLink l { s.link_ l with rx := none })

/-- LINE_CTL takes the control words of a frame that left on link `l` (R43). -/
def State.showCtl (s : State) (l : Nat) (ctl : List Nat) : State :=
  s.each ((linesOf l).zip ctl) (fun s p => s.setN (Reg.LINK_LINE_CTL (p.1 / 128) (p.1 % 128)) p.2)

/-- A link frame starts on the LDO lane (R45, R49). A repeat frame carries the FCNT of the frame sent before it.
[DESIGN CHOICE, log 197] -/
def State.ldoStart (s : State) (l : Nat) : State :=
  let x := s.link_ l
  if s.linkState l = 0 then s
  else if x.started = 0 then
    match x.closed with
    | none => s
    | some f => (s.setLink l { x with
        sent := some f, closed := none, started := 1
        mgmt := if f.mgmt.isSome then x.mgmt.tail else x.mgmt }).showCtl l f.ctl
  else
    let ctl := (linesOf l).map (fun i => (s.line_ i).ctl)
    let f : LdoFrame := {
      fcnt := match x.sent with | some g => g.fcnt | none => (s.now - 1) % 256
      underrun := false, slip := true, pcm := List.replicate 16 [0, 0, 0, 0], ctl := ctl, mgmt := none }
    (((s.setLink l { x with sent := some f, started := x.started + 1 }).showCtl l ctl).zeroRef l).slip (l / 8) true 0

/-! ### Register writes of the LINK page -/

/-- A write of BANK_CFG: links whose enable rises begin training, links whose enable falls go at the next boundary
(R46). -/
def State.writeBankCfg (s : State) (b : Nat) (v : Word) : State :=
  let old := s.rn (Reg.LINK_BANK_CFG b)
  let s := s.setReg (Reg.LINK_BANK_CFG b) (v &&& 0xFFF00EFF#32)
  s.each (List.range 8) (fun s k =>
    let l := 8 * b + k
    match bitOf old k, bitOf v.toNat k with
    | false, true => if (s.link_ l).disabling then s else s.beginTraining l false
    | true, false => if s.linkState l = 0 then s else s.setLink l { s.link_ l with disabling := true }
    | _, _ => s)

/-- A write of LNK_CTRL (R46): RETRAIN starts a scan, a change under TAP_MAN moves the receiver or restarts training. -/
def State.writeLnkCtrl (s : State) (l : Nat) (v : Word) : State :=
  let a := Reg.LINK_LNK_CTRL (l / 8) (l % 8)
  let old := s.rn a
  let s := s.setReg a (v &&& 0x303F#32)
  let moved := s.bit a 12 && (!bitOf old 12 || decide (fieldOf old 0 6 ≠ s.fld a 0 6))
  let s := match moved, s.linkState l with
    | true, 2 => s.setFld (lnkStat l) 0 6 (s.fld a 0 6)
    | true, 1 => s.beginTraining l false
    | _, _ => s
  if bitOf v.toNat 16 && decide (s.linkState l ≠ 0) then s.beginTraining l false else s

/-! ### Status (R51, R52, R54, R57) -/

/-- Debounce count of a status bit, where 0 is treated as 1 (R51). -/
def State.debCount (s : State) (b bit : Nat) : Nat :=
  max 1 (s.fld (Reg.LINK_DEB_CFG b) (if bit = 15 then 0 else if bit = 13 then 8 else if bit = 14 then 16 else 24) 8)

/-- One debounced status bit takes its new value (R51), with the event of the bit (R52, R54, R57). -/
def State.bitChange (s : State) (i bit : Nat) : State :=
  let b := i / 128
  let x := s.line_ i
  let d := Tab.get (fun _ => {}) x.deb bit
  if bit < 11 ∨ 15 < bit ∨ d.count < s.debCount b bit ∨ s.linkState (i / 16) ≠ 2 then s
  else
    let s := s.setFld (lineStat i) bit 1 (b2n d.value)
    let x := { x with deb := Tab.put (fun _ => {}) x.deb bit {} }
    let st := d.stamp % 2 ^ 32
    match bit with
    | 15 =>
      let dur := match x.hookAt with
        | some t => min (d.stamp - t) (2 ^ 32 - 1)
        | none => 0
      let flash := x.hookAt.isSome && d.value && decide (s.fld (Reg.LINK_FLASH_CFG b) 0 16 ≤ dur) &&
        decide (dur < s.fld (Reg.LINK_FLASH_CFG b) 16 16)
      (s.setLine i { x with hookAt := some d.stamp }).lineEvent b 3 0xE0 [i, b2n d.value, b2n flash, st, dur]
    | 14 =>
      if !d.value then s.setLine i x
      else if s.bit (Reg.LINK_BANK_CFG b) 11 && x.cadence.isSome then s.setLine i { x with trip := some st }
      else (s.setLine i x).lineEvent b 3 0xE1 [i, 0, st]
    | 13 => (s.setLine i x).lineEvent b 3 0xE2 [i, b2n d.value, st]
    | _ =>
      (s.setLine i x).lineEvent b 3 0xE3 [i, s.fld (lineStat i) 12 1, s.fld (lineStat i) 11 1, st]

/-- A debounced status bit takes its new value (R51). Where THERMAL and OVERCURRENT change in one frame, THERMAL's event
comes first (R57). -/
def State.statusChange (s : State) (i bit : Nat) : State :=
  (if bit = 11 then s.bitChange i 12 else s).bitChange i bit

/-! ### Commands (R56) -/

/-- The statuses of R23 that many rules use. -/
def stOk : Nat := 0
def stFull : Nat := 1
def stBusy : Nat := 2
def stBad : Nat := 3
def stNoRights : Nat := 4
def stNotReady : Nat := 13

/-- The control word with the fields of LINE_SET (R43, R56). -/
def lineSetWord (ctl mode ilim ringSel polSoft testRly feOpt : Nat) : Nat :=
  putField (putField (putField (putField (putField (putField ctl 28 4 mode) 16 8 ilim) 12 4 ringSel) 10 1 polSoft)
    8 2 testRly) 0 4 feOpt

/-- The status LINE_SET answers (R56): the first refusal listed decides. -/
def State.lineSetStatus (s : State) (w : Win) (i mode ilim ringSel polSoft testRly feOpt : Nat) : Nat :=
  if 2047 < i ∨ 7 ≤ mode ∨ mode = 4 ∨ 256 ≤ ilim ∨ 16 ≤ ringSel ∨ 2 ≤ polSoft ∨ 4 ≤ testRly ∨ 16 ≤ feOpt then stBad
  else if testRly ≠ 0 ∧ w ≠ .installer then stNoRights
  else if s.ringing i then stBusy else stOk

/-- LINE_SET (R56). -/
def State.cmdLineSet (s : State) (r : CmdRef) (i mode ilim ringSel polSoft testRly feOpt : Nat) : State :=
  let st := s.lineSetStatus r.win i mode ilim ringSel polSoft testRly feOpt
  let s := if st = stOk then
      s.setLine i { s.line_ i with ctl := lineSetWord (s.line_ i).ctl mode ilim ringSel polSoft testRly feOpt }
    else if st = stNoRights then s.noRights r.win 0x60 else s
  (s.respond r 0x60 st [i])

/-- The four segments of cadence profile `p` of bank `b` (R53). -/
def State.cadence (s : State) (b p : Nat) : List (Nat × Nat) :=
  (List.range 4).map (fun j => let a := Reg.LINK_CAD b (4 * p + j); (s.fld a 16 16, s.fld a 0 16))

/-- The status LINE_RING answers for a start (R56). -/
def State.lineRingStatus (s : State) (i profile ringSel : Nat) : Nat :=
  if 2047 < i ∨ 7 < profile ∨ 15 < ringSel ∨ (s.cadence (i / 128) profile).getD 0 (0, 0) = (0, 0) then stBad
  else if s.bit (lineStat i) 15 ∨ s.bit (lineStat i) 14 ∨ s.ringing i then stBusy else stOk

/-- LINE_RING starting a cadence at the next close (R56, R402). -/
def State.cmdLineRing (s : State) (r : CmdRef) (i profile ringSel cycles : Nat) : State :=
  let st := s.lineRingStatus i profile ringSel
  let s := if st ≠ stOk then s
    else
      let x := s.line_ i
      let c : Cadence := { segs := s.cadence (i / 128) profile, seg := 0, on := false, due := 0, cycles := cycles
                           done := 0, prevMode := fieldOf x.ctl 28 4, prevOn := fieldOf x.ctl 11 1 }
      let c := c.startSeg 0 (s.now + 1)
      s.setLine i { x with
        cadence := some c, stepDue := false, ctl := setRingOn (putField (putField x.ctl 28 4 4) 12 4 ringSel) c.on }
  (s.respond r 0x61 st [i])

/-- The cadence of line `i` ends by STOP (R402): MODE and RING_ON return at the next close, which posts LINE_RING_DONE. A
ring trip that awaits the same close still acts there (R53, R54). -/
def State.ringStop (s : State) (i : Nat) : State :=
  let x := s.line_ i
  match x.cadence with
  | some c => s.setLine i { x with cadence := none, stepDue := false, ctl := c.restore x.ctl, doneDue := x.doneDue ++ [c.done] }
  | none => s

/-- LINE_RING with STOP (R56, R402). [DEDUCED, log 215] -/
def State.cmdLineRingStop (s : State) (r : CmdRef) (i : Nat) : State :=
  if 2047 < i ∨ 15 < s.cmdField r 0x61 2 then (s.respond r 0x61 stBad [i])
  else ((s.ringStop i).respond r 0x61 stOk [i])

/-- LINK_MGMT_SEND (R55, R56): queued with the link's next SEQ. A link above 127 is BAD_PARAM before every other status. -/
def State.cmdMgmtSend (s : State) (r : CmdRef) (l len : Nat) (payload : List Nat) : State :=
  let x := s.link_ l
  let st := if len = 0 ∨ 62 < len ∨ 127 < l then stBad
    else if 4 ≤ x.mgmt.length then stBusy
    else if s.linkState l = 0 then stNotReady else stOk
  if st ≠ stOk then (s.respond r 0x62 st [l])
  else ((s.setLink l { x with
      mgmt := x.mgmt ++ [⟨x.mgmtSeq, slice payload 0 len⟩]
      mgmtSeq := (x.mgmtSeq + 1) % 256 }).respond r 0x62 stOk [l, x.mgmtSeq])

/-- LINK_RETRAIN (R56). A link above 127 is BAD_PARAM before every other status. -/
def State.cmdRetrain (s : State) (r : CmdRef) (l : Nat) (fast : Bool) : State :=
  let st := if 127 < l then stBad else if s.linkState l = 0 then stNotReady
    else if s.linkState l = 1 then stBusy else stOk
  let s := if st = stOk then s.beginTraining l fast else s
  (s.respond r 0x63 st [l])

/-- LINE_SET (R56). -/
def execLineSet (r : CmdRef) (i mode ilim ringSel polSoft testRly feOpt : Nat) (s : State) : Res :=
  .next (s.carryOut r 0x60 (·.cmdLineSet r i mode ilim ringSel polSoft testRly feOpt))

/-- LINE_RING, a start (R53, R56, R402). -/
def execLineRing (r : CmdRef) (i profile ringSel cycles : Nat) (s : State) : Res :=
  .next (s.carryOut r 0x61 (·.cmdLineRing r i profile ringSel cycles))

/-- LINE_RING with STOP (R56, R402). -/
def execLineRingStop (r : CmdRef) (i : Nat) (s : State) : Res :=
  .next (s.carryOut r 0x61 (·.cmdLineRingStop r i))

/-- LINK_MGMT_SEND (R55, R56). [DESIGN CHOICE, log 198] -/
def execLinkMgmtSend (r : CmdRef) (l len : Nat) (payload : List Nat) (s : State) : Res :=
  .next (s.carryOut r 0x62 (·.cmdMgmtSend r l len payload))

/-- LINK_RETRAIN (R56). [DESIGN CHOICE, log 198] -/
def execLinkRetrain (r : CmdRef) (l : Nat) (fast : Bool) (s : State) : Res :=
  .next (s.carryOut r 0x63 (·.cmdRetrain r l fast))

/-! ### The remaining rows -/

/-- LDI_FRAME (R48). -/
def execLdiFrame (l ph : Nat) (f : FrameBytes) (s : State) : Res := .next (s.ldiFrame l ph f)

/-- LDO_FRAME_START (R45). -/
def execLdoFrameStart (l : Nat) (s : State) : Res := .next (s.ldoStart l)

/-- LINK_EN_SET (R46). -/
def execLinkEnSet (w : Win) (l : Nat) (s : State) : Res :=
  let a := Reg.LINK_BANK_CFG (l / 8)
  .next (s.hostGuard w a true (fun s => s.writeBankCfg (l / 8) (w32 (bitSet (s.rn a) (l % 8)))))

/-- LINK_EN_CLEAR (R46). -/
def execLinkEnClear (w : Win) (l : Nat) (s : State) : Res :=
  let a := Reg.LINK_BANK_CFG (l / 8)
  .next (s.hostGuard w a true (fun s => s.writeBankCfg (l / 8) (w32 (bitClear (s.rn a) (l % 8)))))

/-- TAP_SCAN_STEP (R46): the tap has been tried for TRAIN_FRAMES frames. -/
def execTapScanStep (l : Nat) (s : State) : Res :=
  .next (match (s.link_ l).training with
    | some (.scan fast lo hi tap frames good map) =>
      if s.linkState l ≠ 1 ∨ frames < s.trainFrames l then s
      else
        let map := if good = frames then bitSet map tap else map
        if tap < hi then s.setLink l { s.link_ l with training := some (.scan fast lo hi (tap + 1) 0 0 map) }
        else s.scanEnd l map fast
    | _ => s)

/-- LINK_UP (R46): eight consecutive good frames at the chosen tap. The eighth is processed as a frame of an UP link.
[DESIGN CHOICE, log 4, 201] -/
def execLinkUp (l : Nat) (s : State) : Res :=
  .next (match (s.link_ l).training with
    | some (.confirm _ _ good) =>
      if s.linkState l = 1 ∧ 8 ≤ good then
        (s.setLink l { s.link_ l with training := none, noSync := 0, crcAt := [] }).setLinkState l 2 0
      else s
    | _ => s)

/-- CONFIRM_TIMEOUT (R46): 64 frames without eight good ones; a fast retrain falls back to a full scan. [DEDUCED, log 30] -/
def execConfirmTimeout (l : Nat) (s : State) : Res :=
  .next (match (s.link_ l).training with
    | some (.confirm fast frames good) =>
      if s.linkState l = 1 ∧ 64 ≤ frames ∧ good < 8 then
        (if fast then s.beginTraining l false else s.linkDown l 6)
      else s
    | _ => s)

/-- Every UP link of a bank goes DOWN (R47). -/
def State.bankDown (s : State) (b cause : Nat) : State :=
  let s := s.setBank b { s.bank_ b with regular := 0 }
  s.each ((List.range 8).map (8 * b + ·)) (fun s l => if s.linkState l = 2 then s.linkDown l cause else s)

/-- CLK_LOSS (R47). [DESIGN CHOICE, log 5] -/
def execClkLoss (b : Nat) (s : State) : Res :=
  .next ((s.setFld (Reg.LINK_BANK_STAT b) 0 1 0).bankDown b 2)

/-- FS_ERR (R47). -/
def execFsErr (b : Nat) (s : State) : Res :=
  .next ((s.setFld (Reg.LINK_BANK_STAT b) 1 1 0).bankDown b 3)

/-- SYNC_LOSS (R47): four consecutive frames without the sync word. [DESIGN CHOICE, log 4] -/
def execSyncLoss (l : Nat) (s : State) : Res :=
  .next (if s.linkState l = 2 ∧ 4 ≤ (s.link_ l).noSync then s.linkFail l 4 else s)

/-- CRC_LIMIT (R47): CRC_LIMIT errors within one second. -/
def execCrcLimit (l : Nat) (s : State) : Res :=
  .next (if s.linkState l = 2 ∧ s.fld (Reg.LINK_CRC_LIMIT (l / 8)) 0 8 ≤ (s.link_ l).crcAt.length then
    s.linkFail l 5 else s)

/-- CLOCK_REGULAR_RETRAIN (R47): the bank's clock and frame pulses have been regular for 8 frames. -/
def execClockRegularRetrain (b : Nat) (s : State) : Res :=
  let s := (s.setFld (Reg.LINK_BANK_STAT b) 0 2 3).setBank b { s.bank_ b with regular := 8 }
  .next (s.each ((List.range 8).map (8 * b + ·)) (fun s l =>
    let c := s.fld (lnkStat l) 27 3
    if s.linkState l = 3 ∧ (c = 2 ∨ c = 3) ∧ s.autoRetrain l then s.beginTraining l false else s))

/-- NO_EYE_RETRY (R47): 8,000 frames after NO_EYE. -/
def execNoEyeRetry (l : Nat) (s : State) : Res :=
  .next (if s.linkState l = 3 ∧ s.fld (lnkStat l) 27 3 = 6 ∧ s.autoRetrain l ∧ (s.link_ l).downAt + 8000 ≤ s.now then
    s.beginTraining l false else s)

/-- LNK_CTRL_RETRAIN (R46). -/
def execLnkCtrlRetrain (w : Win) (l : Nat) (v : Word) (s : State) : Res :=
  .next (s.hostGuard w (Reg.LINK_LNK_CTRL (l / 8) (l % 8)) true (fun s => s.writeLnkCtrl l (v ||| 0x10000#32)))

/-- TAP_MAN_WRITE (R46). -/
def execTapManWrite (w : Win) (l : Nat) (v : Word) (s : State) : Res :=
  .next (s.hostGuard w (Reg.LINK_LNK_CTRL (l / 8) (l % 8)) true (fun s => s.writeLnkCtrl l (v ||| 0x1000#32)))

/-- STATUS_DEBOUNCE (R51). -/
def execStatusDebounce (i bit : Nat) (s : State) : Res := .next (s.statusChange i bit)

/-- CADENCE_STEP (R402). -/
def execCadenceStep (i : Nat) (s : State) : Res := .next (s.cadenceStep i)

/-- The LINK reset of bank `b` (R364). -/
def State.linkRst (s : State) (b : Nat) : State :=
  if (List.range 128).any (fun i => s.bound (128 * b + i)) then s.rstRefused (linkPage b) stBusy
  else
    let s := (s.headerReset (linkPage b)).pageReset (linkPage b) (linkPage (b + 1))
    { s with link := { s.link with
        links := Tab.drop (fun l => l / 8 == b) s.link.links
        banks := Tab.drop (fun k => k == b) s.link.banks
        lines := s.link.lines.filterMap (fun e =>
          if e.1 / 128 = b then
            (let x : Line := { underrunFrom := e.2.underrunFrom }
             if x = {} then none else some (e.1, x))
          else some e) } }

/-- LINK_RST (R364). -/
def execLinkRst (w : Win) (b : Nat) (s : State) : Res :=
  .next (s.hostGuard w (linkPage b + 0x30) true (·.linkRst b))

end Sys2Proof.Machine
end

