-- ==== Sys2Proof/Machine/Jcod.lean ====
section
/-! DEFINITION. JCOD, the journal coder (R157–R160): prediction, Rice codes, slots. -/

namespace Sys2Proof.Machine
open Sys2Proof

/-- sat16. -/
def sat16v (x : Int) : Int := satTo (-32768) 32767 x

/-- The prediction from the two samples before (R158). -/
def jPredict (x1 x2 : Int) : Int := sat16v (2 * x1 - x2)

/-- Quantised residual (R158); `f` is F of R154. -/
def jQuant (shift f : Nat) (r : Int) : Int :=
  if shift = 0 then r
  else
    let q := sra (r + 2 ^ (shift - 1)) shift
    if shift = 8 then satTo (-(2 ^ (f - 1))) (2 ^ (f - 1) - 1) q else q

/-- Reconstruction from the prediction and the quantised residual (R158). -/
def jRecon (shift : Nat) (p q : Int) : Int := if shift = 0 then p + q else sat16v (p + q * 2 ^ shift)

/-- The residuals of a block and the last two reconstructed samples (R158). -/
def jResiduals (shift f : Nat) (x1 x2 : Int) (xs : List Int) : List Int × Int × Int :=
  xs.foldl (fun (a : List Int × Int × Int) x =>
    let p := jPredict a.2.1 a.2.2
    let q := jQuant shift f (x - p)
    (a.1 ++ [q], jRecon shift p q, a.2.1)) ([], x1, x2)

/-- The mapping of residuals to unsigned numbers (R159). -/
def riceMap (q : Int) : Nat := if 0 ≤ q then (2 * q).toNat else (-2 * q - 1).toNat

/-- Its inverse. -/
def riceUnmap (u : Nat) : Int := if u % 2 = 0 then (u / 2 : Nat) else -((u / 2 : Nat) : Int) - 1

/-- A Rice code word, with its escape (R159). -/
def riceWord (k u : Nat) : List Bool :=
  let m := u / 2 ^ k
  if m < 15 then List.replicate m true ++ [false] ++ bitsOf k u
  else List.replicate 15 true ++ bitsOf 17 u

/-- Bits of a partition at parameter `k`. -/
def riceLen (k : Nat) (us : List Nat) : Nat := us.foldl (fun n u => n + (riceWord k u).length) 0

/-- The k from 0 to 15 with the fewest bits, the lower on a tie (R160). -/
def kOpt (us : List Nat) : Nat :=
  (List.range 16).foldl (fun b k => if riceLen k us < riceLen b us then k else b) 0

/-- Partitions of 16 samples. -/
def partitions (us : List Nat) : List (List Nat) :=
  (List.range (ceilDiv us.length 16)).map (fun i => (us.drop (16 * i)).take 16)

/-- The base b a dynamic table takes (R160). -/
def dynBase (us : List Nat) : Nat := ((partitions us).map kOpt).foldl min 6

/-- The table a slot carries for a configured table: a dynamic table takes its base from the block (R160). -/
def slotTable (table : Nat) (qs : List Int) : Nat :=
  if table < 8 ∨ table = 15 then table else 8 + dynBase (qs.map riceMap)

/-- The payload bits of a block with slot table `table` (R159). `xs` are the samples, `qs` the residuals. -/
def jPayload (table shift f : Nat) (xs qs : List Int) : List Bool :=
  if table = 15 then
    if shift = 0 then xs.flatMap (fun x => bitsOf 16 (unsigned 16 x))
    else qs.flatMap (fun q => bitsOf f (unsigned f q))
  else if table < 8 then qs.flatMap (fun q => riceWord (table + 4) (riceMap q))
  else
    let b := table - 8
    (partitions (qs.map riceMap)).flatMap (fun us =>
      let c := min (kOpt us - b) 7
      bitsOf 3 c ++ us.flatMap (riceWord (b + c)))

/-- One attempt at a block: the table, the payload bits and the last two reconstructed samples. -/
def jAttempt (table shift f : Nat) (x1 x2 : Int) (xs : List Int) : Nat × List Bool × Int × Int :=
  let r := jResiduals shift f x1 x2 xs
  let t := slotTable table r.1
  (t, jPayload t shift f xs r.1, r.2)

/-- The encoder's choice (R160): SHIFT, table, payload bits and the new predictor. `room` is stride - 16 in bytes, and
`exact` the EXACT preset. -/
def jEncode (exact : Bool) (table f room : Nat) (x1 x2 : Int) (xs : List Int) : Nat × Nat × List Bool × Int × Int :=
  if exact then
    let a := jAttempt table 0 f x1 x2 xs
    if 16 * xs.length < a.2.1.length then (0, jAttempt 15 0 f x1 x2 xs) else (0, a)
  else
    match ((List.range 8).map (fun sh => (sh, jAttempt table sh f x1 x2 xs))).find?
        (fun a => decide (a.2.2.1.length ≤ 8 * room)) with
    | some a => a
    | none => (8, jAttempt 15 8 f x1 x2 xs)

/-- One code word off the front of the bits: the number and the bits left. -/
def riceRead (k : Nat) (bits : List Bool) : Option (Nat × List Bool) :=
  let m := (bits.take 15).takeWhile id |>.length
  let r := if m = 15 then (bits.drop 15, 17) else (bits.drop (m + 1), k)
  if r.1.length < r.2 then none
  else
    let u := bitsNat (r.1.take r.2)
    some (if m = 15 then u else m * 2 ^ k + u, r.1.drop r.2)

/-- Decode `n` samples, the `i`-th next, from payload bits (R158, R159). `k` is the partition's parameter. -/
def jDecode (table shift f : Nat) : Nat → Nat → Nat → Int → Int → List Bool → Option (List Int)
  | 0, _, _, _, _, _ => some []
  | n + 1, i, k, x1, x2, bits =>
    let p := jPredict x1 x2
    if table = 15 then
      let w := if shift = 0 then 16 else f
      if bits.length < w then none
      else
        let v := signed w (bitsNat (bits.take w))
        let x := if shift = 0 then v else jRecon shift p v
        (jDecode table shift f n (i + 1) k x x1 (bits.drop w)).map (x :: ·)
    else
      let dyn := decide (8 ≤ table) && decide (i % 16 = 0)
      let k := if table < 8 then table + 4 else if dyn then table - 8 + bitsNat (bits.take 3) else k
      match riceRead k (if dyn then bits.drop 3 else bits) with
      | none => none
      | some (u, rest) =>
        let x := jRecon shift p (riceUnmap u)
        (jDecode table shift f n (i + 1) k x x1 rest).map (x :: ·)

/-- Samples as 16-bit little-endian bytes. -/
def pcmBytes (xs : List Int) : List Nat := xs.flatMap (fun x => leBytes 2 (unsigned 16 x))

/-- The header of a slot (R157). -/
def slotHeader (seq : Nat) (reduced exact enc kpar end_ fill gap wide : Bool) (shift table : Nat) (x1 x2 : Int)
    (crc : Nat) : List Nat :=
  leBytes 6 seq ++
  [b2n reduced + 2 * b2n exact + 4 * b2n enc + 8 * b2n kpar + 16 * b2n end_ + 32 * b2n fill + 64 * b2n gap +
    128 * b2n wide, shift * 16 + table] ++
  leBytes 2 (unsigned 16 x1) ++ leBytes 2 (unsigned 16 x2) ++ leBytes 4 crc

/-- F of R154 for a preset. -/
def presetF (preset : Nat) : Nat :=
  match preset with
  | 0 => 8
  | 1 => 6
  | _ => 4

/-- Stride of R154 for a preset and rate. -/
def presetStride (preset : Nat) (wide : Bool) : Nat :=
  match preset, wide with
  | 0, false => 176
  | 0, true => 336
  | 1, false => 136
  | 1, true => 256
  | 2, false => 96
  | 2, true => 176
  | _, false => 336
  | _, true => 656

/-- Decode a slot in the clear; `none` when its payload ends early (R157–R159). -/
def slotDecode (preset : Nat) (b : List Nat) : Option (List Int) :=
  let fl := (b.drop 6).headD 0
  let st := (b.drop 7).headD 0
  let n := if bitOf fl 7 then 320 else 160
  if bitOf fl 6 then some (List.replicate n 0)
  else jDecode (st % 16) (st / 16) (presetF preset) n 0 0 (signed 16 (leNat (slice b 8 2)))
    (signed 16 (leNat (slice b 10 2))) (bytesBits (b.drop 16))

end Sys2Proof.Machine
end

