-- ==== Sys2Proof/Machine/Thyme.lean ====
section
/-! DEFINITION. Thyme (R148–R171): epochs, blocks, slots and their encryption, the directory, reading, copies and the coder
job. -/

namespace Sys2Proof.Machine
open Sys2Proof

/-- The first THYME page. -/
def thymePage : Nat := 0x98000

/-- THYME_CFG.EN. -/
def State.thymeEn (s : State) : Bool := s.bit Reg.THYME_THYME_CFG 31

/-- The journal of a context. -/
def State.jctx (s : State) (c : Nat) : Option JCtx := Tab.get (fun _ => none) s.thyme.ctxs c

/-- Set the journal of a context. -/
def State.setJctx (s : State) (c : Nat) (j : Option JCtx) : State :=
  { s with thyme := { s.thyme with ctxs := Tab.put (fun _ => none) s.thyme.ctxs c j } }

/-- The epoch in progress of a context. -/
def State.epoch (s : State) (c : Nat) : Option Epoch := (s.jctx c).bind (·.epoch)

/-- Replace the epoch of a context. -/
def State.setEpoch (s : State) (c : Nat) (e : Option Epoch) : State :=
  match s.jctx c with
  | some j => s.setJctx c (some { j with epoch := e })
  | none => s

/-- A codec's sample rate is 16 kHz (R130). -/
def State.codecWide (s : State) (k : Nat) : Bool := s.bit (Reg.JBE_CODEC_TBL k) 30

/-- A context runs at 16 kHz: by its codec, or for NONE by its line (R130, R403). -/
def State.ctxWide (s : State) (c : Nat) : Bool :=
  let x := s.ctx_ c
  if x.codec = 0 then x.wide else s.codecWide x.codec

/-! ### Layout (R153, R154, R156) -/

/-- JNL_BASE. -/
def State.jnlBase (s : State) : Nat := s.rn Reg.THYME_JNL_BASE_LO + 2 ^ 32 * s.rn Reg.THYME_JNL_BASE_HI

/-- JDIR_BASE. -/
def State.jdirBase (s : State) : Nat := s.rn Reg.THYME_JDIR_BASE_LO + 2 ^ 32 * s.rn Reg.THYME_JDIR_BASE_HI

/-- CREG in bytes. -/
def State.creg (s : State) : Nat := s.rn Reg.THYME_CREG * 0x10000

/-- Far memory holds the journal: both regions are ready, and no loss stands since Thyme was last enabled (R18, R170).
[DESIGN CHOICE, log 207] -/
def State.jnlReady (s : State) : Bool :=
  !s.thyme.lost && s.farReady s.jnlBase (8192 * s.creg) && s.farReady s.jdirBase 0x80000

/-- The journal of a context is on, and far memory holds it (R98). -/
def State.journalOn (s : State) (c : Nat) : Bool := (s.epoch c).isSome && s.jnlReady

/-- NBLK (R154). -/
def State.nblk (s : State) (depth stride : Nat) : Nat := min (50 * depth + 1) (s.creg / (2 * stride))

/-- The address of block `n` of a stream (R154). -/
def State.slotAddr (s : State) (c stream nblk stride n : Nat) : Nat :=
  s.jnlBase + c * s.creg + stream * (s.creg / 2) + n % nblk * stride

/-- What a directory record says (R156). -/
structure JRec where
  state : Nat
  preset : Nat
  wide : Bool
  enc : Bool
  table : Nat
  bph : Nat
  stride : Nat
  nblk : Nat
  ep : Nat
  last : Nat
  kgenEp : Nat
  kgenW : Nat
  tOpen : Nat
  tEnd : Nat
  deriving DecidableEq, Repr

/-- The 64 bytes of a directory record (R156). -/
def JRec.bytes (r : JRec) : List Nat :=
  [r.state, r.preset + 4 * b2n r.wide + 8 * b2n r.enc + 16 * r.table, r.bph, 0] ++ leBytes 2 r.stride ++ leBytes 2 r.nblk ++
  leBytes 6 r.ep ++ [0, 0] ++ leBytes 6 r.last ++ [0, 0] ++ leBytes 4 r.kgenEp ++ leBytes 4 r.kgenW ++
  leBytes 4 r.tOpen ++ leBytes 4 r.tEnd ++ List.replicate 24 0

/-- A record read from its bytes. -/
def JRec.ofBytes (b : List Nat) : JRec :=
  let g := fun i n => leNat (slice b i n)
  let c := g 1 1
  { state := g 0 1, preset := c % 4, wide := bitOf c 2, enc := bitOf c 3, table := c / 16, bph := g 2 1, stride := g 4 2
    nblk := g 6 2, ep := g 8 6, last := g 16 6, kgenEp := g 24 4, kgenW := g 28 4, tOpen := g 32 4, tEnd := g 36 4 }

/-- The record of an epoch in a state with its end time (R156). [DESIGN CHOICE, log 61] -/
def Epoch.record (e : Epoch) (st tEnd : Nat) : JRec :=
  { state := st, preset := e.preset, wide := e.wide, enc := e.enc, table := e.table, bph := e.bph, stride := e.stride
    nblk := e.nblk, ep := e.ep, last := e.last.getD 0, kgenEp := e.kgenEp, kgenW := e.kgenW, tOpen := e.tOpen, tEnd := tEnd }

/-- The directory record of a context with live values. -/
def State.jrec (s : State) (c : Nat) : JRec :=
  match s.epoch c with
  | some e => e.record 1 0
  | none => JRec.ofBytes (s.rdBytes (s.jdirBase + c * 64) 64)

/-- Write the directory record of a context. -/
def State.writeDir (s : State) (c : Nat) (r : JRec) : State := s.wrDev (s.jdirBase + c * 64) r.bytes

/-- First block that is readable (R154). -/
def JRec.first (r : JRec) : Nat := max r.ep (r.last + 2 - r.nblk)

/-- Block `n` of the record is readable; an epoch with no block written has none. -/
def State.readable (s : State) (c n : Nat) : Bool :=
  let r := s.jrec c
  (match s.epoch c with
   | some e => e.last.isSome
   | none => true) && decide (r.first ≤ n) && decide (n ≤ r.last)

/-! ### Keys and encryption (R162, R163) -/

/-- A new key generation from the TRNG: KGEN + 1, SEQ 0, the two latest keys held. -/
def State.newKey (s : State) : State :=
  let k := s.free + 2 ^ 64 * s.drawn.free
  let g := (s.rn Reg.THYME_KGEN + 1) % 2 ^ 32
  let s := s.drawn.drawn.setN Reg.THYME_KGEN g
  { s with thyme := { s.thyme with keys := (g, k) :: s.thyme.keys.take 1, seq := 0 } }

/-- The key of a generation, while it is held. -/
def State.jkey (s : State) (gen : Nat) : Option Nat := (s.thyme.keys.find? (fun k => k.1 == gen)).map Prod.snd

/-- Counter-mode keystream: initial counter block of 128 bits whose low 32 bits count. -/
def ctrStream (kb key iv n : Nat) : List Nat :=
  ((List.range (ceilDiv n 16)).flatMap (fun i => beBytes 16 (aes kb key (iv + i)))).take n

/-- Encrypt or decrypt bytes 12–15 and the payload of a slot (R163). -/
def slotCrypt (key kgen : Nat) (b : List Nat) : List Nat :=
  let seq := leNat (slice b 0 6)
  b.take 12 ++ xorBytes (b.drop 12) (ctrStream 128 key (kgen * 2 ^ 96 + seq * 2 ^ 48) (b.length - 12))

/-- The SEQ and generation the next slot takes, with the rotation it may bring (R162). -/
def State.takeSeq (s : State) : State × Nat :=
  let s := if s.thyme.seq < 2 ^ 48 then s
    else
      let s := s.newKey.irq thymePage 1
      s.event (s.rn Reg.THYME_EVQ) 0xC2 [s.rn Reg.THYME_KGEN]
  ({ s with thyme := { s.thyme with seq := s.thyme.seq + 1 } }, s.thyme.seq)

/-! ### Blocks (R151, R152, R161) -/

/-- Stream of an epoch. -/
def Epoch.stream (e : Epoch) (k : Nat) : JStream := if k = 0 then e.s0 else e.s1

/-- Replace a stream. -/
def Epoch.setStream (e : Epoch) (k : Nat) (x : JStream) : Epoch := if k = 0 then { e with s0 := x } else { e with s1 := x }

/-- The configured code table of block `n`: one that THYME_SET changed is in force from a block on (R155). -/
def Epoch.tableOf (e : Epoch) (n : Nat) : Nat :=
  match e.tableNext with
  | some (t, b) => if b ≤ n then t else e.table
  | none => e.table

/-- Samples of a sub-block. -/
def Epoch.subLen (e : Epoch) : Nat := if e.wide then 80 else 40

/-- Sub-block `k` (absolute) of a stream, if held. -/
def JStream.sub (x : JStream) (k : Nat) : Option (List Int) :=
  let l := Tab.get (fun _ => []) x.subs k
  if l.isEmpty then none else some l

/-- The journal stream state in near memory follows (R161): predictor, configured table, sub-blocks held.
[DESIGN CHOICE, log 59] -/
def State.showStream (s : State) (c k blk : Nat) (e : Epoch) : State :=
  let x := e.stream k
  let held := ((List.range 4).filter (fun j => (x.sub (4 * blk + j)).isSome)).foldl (fun m j => m + 2 ^ j) 0
  s.wrBytes (c * 0x10000 + 0xF000 + k * 0x800)
    (leBytes 2 (unsigned 16 x.x1) ++ leBytes 2 (unsigned 16 x.x2) ++ [e.tableOf blk, held])

/-- Sub-block `n` of an epoch is still taken: its block is not coded, and frame E + 80 is not reached (R152). -/
def State.subDue (s : State) (e : Epoch) (n : Nat) : Bool :=
  decide (4 * e.next ≤ n) && decide (s.now < 160 * (n / 4) + e.bph + 240)

/-- A sub-block of a stream is held (R152). -/
def State.holdSub (s : State) (c k n : Nat) (xs : List Int) : State :=
  match s.epoch c with
  | none => s
  | some e =>
    if !s.subDue e n then s
    else
      let x := e.stream k
      let e := e.setStream k { x with subs := Tab.put (fun _ => []) x.subs n xs }
      ((s.setEpoch c (some e)).wrBytes (c * 0x10000 + 0xF000 + k * 0x800 + 0x10 + n % 4 * 160) (pcmBytes xs)).showStream
        c k (n / 4) e

/-- The samples of one frame of both streams of a line context (R148, R149). -/
def State.jnlFrame (s : State) (c n : Nat) (x0 x1 : List Int) : State :=
  match s.epoch c with
  | none => s
  | some e =>
    if n < 160 * e.ep + e.bph then s
    else
      let put := fun (e : Epoch) (k : Nat) (xs : List Int) => e.setStream k { e.stream k with cur := (e.stream k).cur ++ xs }
      let e := put (put e 0 x0) 1 x1
      let s := s.setEpoch c (some e)
      if (n + 1 - e.bph) % 40 ≠ 0 then s
      else
        let k := (n - e.bph) / 40
        let l0 := e.s0.cur
        let l1 := e.s1.cur
        let s := s.setEpoch c (some { e with s0 := { e.s0 with cur := [] }, s1 := { e.s1 with cur := [] } })
        let s := if l0.length = e.subLen then s.holdSub c 0 k l0 else s
        if l1.length = e.subLen then s.holdSub c 1 k l1 else s

/-- A whole sub-block of both streams, whose first sample has sample time `t` (R86, R149). -/
def State.jnlBlock (s : State) (c t : Nat) (x0 x1 : List Int) : State :=
  match s.epoch c with
  | none => s
  | some e =>
    if t < 160 * e.ep + e.bph ∨ (t - e.bph) % 40 ≠ 0 ∨ x0.length ≠ e.subLen then s
    else (s.holdSub c 0 ((t - e.bph) / 40) x0).holdSub c 1 ((t - e.bph) / 40) x1

/-- Bytes of the staging buffer in use. -/
def State.stageUsed (s : State) : Nat :=
  s.thyme.slots.foldl (fun n x => if x.gap then n else n + x.bytes.length) 0

/-- The staging buffer has no room for a slot (R152). -/
def State.stageFull (s : State) (stride : Nat) : Bool := decide (0x2000000 < s.stageUsed + stride)

/-- Put a slot behind the others. -/
def State.stage (s : State) (x : JSlot) : State := { s with thyme := { s.thyme with slots := s.thyme.slots ++ [x] } }

/-- A GAP slot in place of a block (R152). [DEDUCED, log 58] -/
def State.gapSlot (s : State) (c k blk : Nat) (e : Epoch) (seq : Nat) (end_ fill : Bool) : State :=
  let x := e.stream k
  let g := s.rn Reg.THYME_KGEN
  let s := (s.bump Reg.THYME_GAP_CNT).irq thymePage 2
  let s := if e.gapRun then s else s.event (s.ctx_ c).evq 0xC3 [c, k, blk % 2 ^ 32, blk / 2 ^ 32]
  s.stage { ctx := c, stream := k, block := blk, addr := s.slotAddr c k e.nblk e.stride blk, kgen := g, plain := false
            bytes := slotHeader seq false (e.preset == 3) false (bitOf g 0) end_ fill true e.wide 0 0 x.x1 x.x2 0
            endFrame := 160 * blk + e.bph + 160, gap := true }

/-- Code block `blk` of stream `k` (R152, R157–R160); answers the state and the stream's new state, and whether it was a
gap. -/
def State.codeStream (s : State) (c k blk : Nat) (e : Epoch) (end_ : Bool) : State × JStream × Bool :=
  let x := e.stream k
  let subs := (List.range 4).map (fun j => x.sub (4 * blk + j))
  let fill := subs.any Option.isNone
  let xs := subs.flatMap (fun o => o.getD (List.replicate e.subLen 0))
  let y := { x with subs := Tab.drop (fun n => decide (n / 4 ≤ blk)) x.subs }
  let s := if fill then s.bump Reg.THYME_FILL_CNT else s
  let p := s.takeSeq
  let s := p.1
  if s.stageFull e.stride then (s.gapSlot c k blk e p.2 end_ fill, y, true)
  else
    let r := jEncode (e.preset == 3) (e.tableOf blk) (presetF e.preset) (e.stride - 16) x.x1 x.x2 xs
    let g := s.rn Reg.THYME_KGEN
    let s := if r.1 = 0 then s else s.bump Reg.THYME_REDUCED_CNT
    let body := bitsBytes r.2.2.1
    let body := if e.preset = 3 then body else body ++ List.replicate (e.stride - 16 - body.length) 0
    let s := s.stage { ctx := c, stream := k, block := blk, addr := s.slotAddr c k e.nblk e.stride blk, kgen := g
                       plain := e.enc
                       bytes := slotHeader p.2 (r.1 != 0) (e.preset == 3) e.enc (bitOf g 0) end_ fill false e.wide r.1
                         r.2.1 x.x1 x.x2 (crc32c (pcmBytes xs)) ++ body
                       endFrame := 160 * blk + e.bph + 160 }
    (s, { y with x1 := r.2.2.2.1, x2 := r.2.2.2.2 }, false)

/-- Code the next block of an epoch, both streams (R152). -/
def State.codeBlock (s : State) (c : Nat) (end_ : Bool) : State :=
  match s.epoch c with
  | none => s
  | some e =>
    let a := s.codeStream c 0 e.next e end_
    let b := a.1.codeStream c 1 e.next { e with gapRun := e.gapRun || a.2.2 } end_
    let e' := { e with next := e.next + 1, table := e.tableOf e.next, s0 := a.2.1, s1 := b.2.1, gapRun := a.2.2 || b.2.2 }
    ((b.1.setEpoch c (some e')).showStream c 0 e'.next e').showStream c 1 e'.next e'

/-- The next block of a context may be coded: all eight sub-blocks are held, or frame E + 80 is reached (R152). -/
def State.blockReady (s : State) (c : Nat) : Bool :=
  match s.epoch c with
  | none => false
  | some e =>
    decide (160 * e.next + e.bph + 240 ≤ s.now) ||
    (List.range 4).all (fun j => (e.s0.sub (4 * e.next + j)).isSome && (e.s1.sub (4 * e.next + j)).isSome)

/-! ### Slots reach far memory; copies (R152, R156, R166) -/

/-- Bytes of a slot in far memory. -/
def State.slotBytes (s : State) (c k n : Nat) : List Nat :=
  let r := s.jrec c
  s.rdBytes (s.slotAddr c k r.nblk r.stride n) r.stride

/-- The streams of a mask. -/
def maskStreams (m : Nat) : List Nat := [0, 1].filter (fun k => bitOf m k)

/-- A copy ends: its event, and it leaves the list (R166). -/
def State.endCopy (s : State) (x : JCopy) (reason : Nat) : State :=
  let s := { s with thyme := { s.thyme with copies := s.thyme.copies.filter (fun y => y.ctx != x.ctx) } }
  s.event (s.ctx_ x.ctx).evq 0xC0 [x.ctx, reason, x.copied, x.next % 2 ^ 32, x.next / 2 ^ 32]

/-- Append one block to a copy. -/
def State.copyBlock (s : State) (x : JCopy) : State × JCopy :=
  let b := (maskStreams x.mask).flatMap (fun k => s.slotBytes x.ctx k x.next)
  (s.wrDev (x.dest + x.used) b, { x with next := x.next + 1, used := x.used + b.length, copied := x.copied + 1 })

/-- Advance a copy by up to `n` blocks that are written (R166). [DESIGN CHOICE, log 60] -/
def State.copyRun (s : State) : Nat → JCopy → State
  | 0, x => { s with thyme := { s.thyme with copies := s.thyme.copies.map (fun y => if y.ctx = x.ctx then x else y) } }
  | n + 1, x =>
    let size := (maskStreams x.mask).length * (s.jrec x.ctx).stride
    if x.last.any (fun l => decide (l < x.next)) then s.endCopy x 0
    else if x.len < x.used + size then s.endCopy x 1
    else if !s.readable x.ctx x.next then
      { s with thyme := { s.thyme with copies := s.thyme.copies.map (fun y => if y.ctx = x.ctx then x else y) } }
    else
      let p := s.copyBlock x
      p.1.copyRun n p.2

/-- Advance the copy of a context, if one runs, over every block written. -/
def State.copyOn (s : State) (c : Nat) : State :=
  match s.thyme.copies.find? (fun x => x.ctx == c) with
  | some x => s.copyRun ((s.jrec c).last + 2 - x.next) x
  | none => s

/-- A slot is written to far memory (R152, R156). -/
def State.putSlot (s : State) (x : JSlot) : State :=
  let s := (s.wrDev x.addr x.bytes).bump Reg.THYME_BLK_CNT
  let s := s.maxN Reg.THYME_LAT_MAX (min 1023 (s.now - x.endFrame))
  match s.epoch x.ctx with
  | none => s
  | some e =>
    if x.stream = 0 ∨ x.block < e.ep then s
    else
      let e := { e with last := some x.block, kgenW := x.kgen, since := e.since + 1 }
      let s := if e.since < 50 then s.setEpoch x.ctx (some e)
        else (s.setEpoch x.ctx (some { e with since := 0 })).writeDir x.ctx (e.record 1 0)
      s.copyOn x.ctx

/-- A slot the cipher engine refuses becomes a GAP slot (R259). -/
def State.slotRefused (s : State) (x : JSlot) : State × JSlot :=
  let b := x.bytes.take 16
  let fl := bitSet (bitClear (bitClear (b.getD 6 0) 2) 0) 6
  let s := (s.bump Reg.THYME_GAP_CNT).irq thymePage 2
  let s := match s.epoch x.ctx with
    | some e => if e.gapRun then s
        else (s.event (s.ctx_ x.ctx).evq 0xC3 [x.ctx, x.stream, x.block % 2 ^ 32, x.block / 2 ^ 32]).setEpoch x.ctx
          (some { e with gapRun := true })
    | none => s
  (s, { x with bytes := b.take 6 ++ [fl, 0] ++ slice b 8 4 ++ [0, 0, 0, 0], plain := false, gap := true })

/-- Encrypt a waiting slot with its generation's key (R163); a home CIPH that is locked out or rebuilding refuses it. -/
def State.slotCipher (s : State) (x : JSlot) : State × JSlot :=
  let cl := (s.ctx_ x.ctx).home
  match s.jkey x.kgen, s.cipherDown cl with
  | some k, false =>
    (s.bump (Reg.CIPH_JNL_CNT cl), { x with bytes := slotCrypt k x.kgen x.bytes, plain := false })
  | _, _ => s.slotRefused x

/-- Write every slot of a context that is on its way (R22, R169). -/
def State.flushSlots (s : State) (c : Nat) : State :=
  let mine := s.thyme.slots.filter (fun x => x.ctx == c)
  let s := { s with thyme := { s.thyme with slots := s.thyme.slots.filter (fun x => x.ctx != c) } }
  s.each mine (fun s x =>
    let p := if x.plain then s.slotCipher x else (s, x)
    p.1.putSlot p.2)

/-- The last block of an epoch carries END (R169): a block that was coded before the end was known is marked where it is.
[DEDUCED, log 56] -/
def State.markEnd (s : State) (c blk : Nat) : State :=
  let mark := fun (x : JSlot) => if x.ctx = c ∧ x.block = blk then
      { x with bytes := x.bytes.set 6 (bitSet (x.bytes.getD 6 0) 4) } else x
  let s : State := { s with thyme := { s.thyme with slots := s.thyme.slots.map mark } }
  match s.epoch c with
  | some e =>
    [0, 1].foldl (fun s k =>
      if e.ep ≤ blk ∧ blk < e.next ∧ !s.thyme.slots.any (fun x => x.ctx == c && x.block == blk && x.stream == k) then
        let a := s.slotAddr c k e.nblk e.stride blk + 6
        s.wr8 a (bitSet (s.rd8 a) 4)
      else s) s
  | none => s

/-! ### Epochs (R155, R169) -/

/-- Code blocks up to `last`, the last one with END. -/
def State.codeTo (s : State) (c last : Nat) : Nat → State
  | 0 => s
  | n + 1 =>
    match s.epoch c with
    | some e => if last < e.next then s else (s.codeBlock c (e.next == last)).codeTo c last n
    | none => s

/-- End the epoch of a context, `last` its last block: the blocks in progress are coded and written, then the directory
record, and a running copy ends (R166, R169). [DEDUCED, log 56] -/
def State.endEpoch (s : State) (c last st t : Nat) : State :=
  match s.epoch c with
  | none => s
  | some e =>
    let s := (s.codeTo c last (last + 1 - e.next)).markEnd c last |>.flushSlots c
    let s := s.copyOn c
    match s.epoch c with
    | none => s
    | some e =>
      let s := (s.writeDir c (e.record st (t % 2 ^ 32))).setEpoch c none
      match s.thyme.copies.find? (fun x => x.ctx == c) with
      | some x => s.endCopy x 3
      | none => s

/-- End the epoch of a context that closes or is lost, in the frame in progress (R169). [DEDUCED, log 56] -/
def State.thymeEnd (s : State) (c st : Nat) : State :=
  match s.epoch c with
  | none => s.setJctx c none
  | some e => (s.endEpoch c ((s.now - e.bph) / 160) st s.now).setJctx c none

/-- Begin an epoch of a context at the block that starts with frame `n` (R155). [DESIGN CHOICE, log 57] -/
def State.beginEpoch (s : State) (c n : Nat) (f : JCfg) : State :=
  let x := s.ctx_ c
  let wide := s.ctxWide c
  let stride := presetStride f.preset wide
  let nb := s.nblk f.depth stride
  if nb < 2 then s
  else
    let b := (n - x.bph) / 160
    let g := s.rn Reg.THYME_KGEN
    let e : Epoch := { preset := f.preset, wide := wide, enc := f.enc, table := f.table, bph := x.bph, stride := stride
                       nblk := nb, ep := b, next := b, kgenEp := g, kgenW := g, tOpen := n % 2 ^ 32 }
    let s := (s.setEpoch c (some e)).writeDir c (e.record 1 0)
    [0, 1].foldl (fun s k => s.wrBytes (c * 0x10000 + 0xF000 + k * 0x800)
      ([0, 0, 0, 0, f.table, 0] ++ List.replicate 650 0)) s

/-- One context as frame `n` opens: what falls at its block boundary (R155, R164, R169). -/
def State.jctxOpen (s : State) (n c : Nat) : State :=
  match s.jctx c with
  | none => s
  | some j =>
    if n < (s.ctx_ c).bph ∨ (n - (s.ctx_ c).bph) % 160 ≠ 0 ∨ !s.thymeEn ∨ s.thyme.lost then s
    else
      let done := { j with begin_ := false, end_ := false, table := none }
      let s := match j.epoch with
        | some e => if j.end_ || j.begin_ then s.endEpoch c ((n - e.bph) / 160 - 1) 2 n
            else s.setEpoch c (some { e with tableNext := match j.table with
                | some t => some (t, (n - e.bph) / 160)
                | none => e.tableNext })
        | none => s
      let s := s.setJctx c (some { done with epoch := s.epoch c })
      if j.begin_ then s.beginEpoch c n j.cfg else s

/-- The default journal settings of THYME_CFG. -/
def State.jdefault (s : State) : JCfg :=
  let a := Reg.THYME_THYME_CFG
  { on := true, preset := s.fld a 28 2, table := s.fld a 24 4, depth := s.fld a 12 9, enc := s.bit a 30 }

/-- A context whose epoch is to begin at its next block boundary (R155); T.38 contexts are never journalled (R148). -/
def State.jnlArm (s : State) (c : Nat) : State :=
  if !s.thymeEn ∨ s.thyme.lost ∨ (s.ctx_ c).codec = 9 then s
  else s.setJctx c (some { cfg := s.jdefault, begin_ := true })

/-! ### Sub-blocks submitted by moves (R150) -/

/-- Device address of entry `i` of the submit ring of cluster `cl`. -/
def State.jsEntry (s : State) (cl i : Nat) : Nat := sramBase cl + s.rn Reg.THYME_JS_BASE + i * 0x180

/-- The context has an echo instance. -/
def State.hasEce (s : State) (c : Nat) : Bool := s.ece.insts.any (fun e => e.2.any (fun x => x.ctx == c))

/-- The sub-block an entry of a submit ring holds meets the format, and its deadline has not passed (R150). -/
def State.jsGood (s : State) (a : Nat) : Bool :=
  let c := s.rdLE (a + 4) 2 % 8192
  match s.epoch c with
  | none => false
  | some e =>
    let t := near32 s.now (s.rdLE a 4)
    !s.hasEce c && decide (e.bph ≤ t) && decide (t % 40 = e.bph) && decide (s.rd8 (a + 6) = e.subLen) &&
    s.subDue e ((t - e.bph) / 40)

/-- An ignored submit (R150). -/
def State.submitOvr (s : State) : State := (s.bump Reg.THYME_SUBMIT_OVR).irq thymePage 3

/-- A core writes JNL_SUBMIT (R150). -/
def State.jnlSubmit (s : State) (g i : Nat) : State :=
  let cl := g / 8
  if s.thyme.subs.contains (cl, i) || !s.jsGood (s.jsEntry cl i) then s.submitOvr
  else { s with thyme := { s.thyme with subs := s.thyme.subs ++ [(cl, i)] } }

/-- Read an entry of a submit ring: each stream whose FLAGS bit is set is held. An entry that no longer meets R150 when it is read
is ignored too. -/
def State.jsRead (s : State) (a : Nat) : State :=
  let c := s.rdLE (a + 4) 2 % 8192
  match s.epoch c with
  | none => s.submitOvr
  | some e =>
    if !s.jsGood a then s.submitOvr
    else
      let k := (near32 s.now (s.rdLE a 4) - e.bph) / 40
      let pcm := fun o => (List.range e.subLen).map (fun i => signed 16 (s.rdLE (a + o + 2 * i) 2))
      let fl := s.rd8 (a + 7)
      let s := if bitOf fl 0 then s.holdSub c 0 k (pcm 16) else s
      if bitOf fl 1 then s.holdSub c 1 k (pcm 176) else s

/-- Thyme as frame `n` opens: epochs begin and end, submitted sub-blocks are read. -/
def State.thymeOpen (s : State) (n : Nat) : State :=
  let s := s.each (Tab.keys s.thyme.ctxs) (fun s c => s.jctxOpen n c)
  let l := s.thyme.subs
  let s := { s with thyme := { s.thyme with subs := [] } }
  s.each l (fun s p => s.jsRead (s.jsEntry p.1 p.2))

/-! ### Reading (R164, R165) -/

/-- The generation of a slot (R162). -/
def JRec.gen (r : JRec) (kpar : Bool) : Nat := if bitOf r.kgenEp 0 = kpar then r.kgenEp else r.kgenW

/-- What reading one slot gives: its bytes for the destination and the conditions met. -/
structure JRead where
  bytes : List Nat
  gap : Bool := false
  poison : Bool := false
  nokey : Bool := false
  crc : Bool := false
  reduced : Bool := false

/-- Read one slot, verbatim or decoded (R164); a home CIPH that is locked out or rebuilding deciphers nothing (R260).
[DESIGN CHOICE, log 207] -/
def State.readSlot (s : State) (c k n : Nat) (decode : Bool) : JRead :=
  let r := s.jrec c
  let a := s.slotAddr c k r.nblk r.stride n
  let b := s.slotBytes c k n
  let fl := b.getD 6 0
  let len := if r.wide then 640 else 320
  let red := bitOf fl 0 && !bitOf fl 6
  if s.poisoned a r.stride then { bytes := List.replicate (if decode then len else r.stride) 0, poison := true }
  else if !decode then { bytes := b, gap := bitOf fl 6, reduced := red }
  else if bitOf fl 6 then { bytes := List.replicate len 0, gap := true }
  else
    let clear := if !bitOf fl 2 then some b
      else if s.cipherDown (s.ctx_ c).home then none
      else (s.jkey (r.gen (bitOf fl 3))).map (fun key => slotCrypt key (r.gen (bitOf fl 3)) b)
    match clear with
    | none => { bytes := List.replicate len 0, nokey := true, reduced := red }
    | some p =>
      match slotDecode r.preset p with
      | some xs => { bytes := pcmBytes xs, crc := !red && crc32c (pcmBytes xs) != leNat (slice p 12 4), reduced := red }
      | none => { bytes := List.replicate len 0, crc := !red, reduced := red }

/-- The samples of one block of a stream for a replay, if the journal holds it readable (R98). -/
def State.journalBlock (s : State) (c k n : Nat) : Option (List Int) :=
  let x := s.readSlot c k n true
  if !s.jnlReady || !s.readable c n || x.gap || x.poison || x.nokey then none
  else some ((List.range (x.bytes.length / 2)).map (fun i => signed 16 (leNat (slice x.bytes (2 * i) 2))))

/-- The block range part of THYME_READ and THYME_COPY (R164). -/
def State.rangeBad (s : State) (c mask first count : Nat) : Bool :=
  decide (8192 ≤ c) || decide ((s.jrec c).state = 0) || decide (mask % 4 = 0) || decide (count = 0) || decide (15001 < count) ||
  !s.readable c first || !s.readable c (first + count - 1)

/-- The status of THYME_READ but for its destination (R164). [DESIGN CHOICE, log 207] -/
def State.readStatus (s : State) (w : Win) (c mask first count : Nat) : Nat :=
  if !s.journalRight w then stNoRights
  else if c < 8192 ∧ ((s.jrec c).state = 0 ∨ !s.jnlReady) then stNotReady
  else if s.rangeBad c mask first count then stBad
  else stOk

/-- THYME_READ (R164). -/
def State.thymeRead (s : State) (r : CmdRef) (c mask first count : Nat) (decode : Bool) (dest : Nat) : State :=
  let rc := s.jrec c
  let size := (maskStreams mask).length * count * (if decode then (if rc.wide then 640 else 320) else rc.stride)
  let st := s.readStatus r.win c mask first count
  let st := if st = stOk ∧ !inNear dest size then stBad else st
  if st = stNoRights then (s.noRights r.win 0x41).respondA r 0x41 st [c]
  else if st ≠ stOk then s.respondA r 0x41 st [c]
  else
    let l := (maskStreams mask).flatMap (fun k => (List.range count).map (fun i => s.readSlot c k (first + i) decode))
    let s := s.wrDev dest (l.flatMap (·.bytes))
    let st := if l.any (·.poison) then 0x0E else if l.any (·.nokey) then stNotReady
      else if l.any (·.crc) then 0x0A else if l.any (·.reduced) then 0x0B else stOk
    s.respondA r 0x41 st [c, (l.filter (·.gap)).length, (l.filter (·.crc)).length, (l.filter (·.nokey)).length]

/-- Two ranges of addresses meet. -/
def rangesMeet (a n b m : Nat) : Bool := decide (a < b + m) && decide (b < a + n)

/-- The status of THYME_COPY (R164); a lost link takes no copy (R18). [DESIGN CHOICE, log 207] -/
def State.copyStatus (s : State) (w : Win) (c mask first : Nat) (last : Option Nat) (dest len : Nat) : Nat :=
  if !s.journalRight w then stNoRights
  else if s.thyme.copies.any (fun x => x.ctx == c) then stBusy
  else if 16 ≤ s.thyme.copies.length then stFull
  else if s.rangeBad c mask first (match last with | some l => l + 1 - first | none => 1) || !inFar dest len ||
      rangesMeet dest len s.jnlBase (8192 * s.creg) || rangesMeet dest len s.jdirBase 0x80000 then stBad
  else if !s.jnlReady || !s.farReady dest len then stNotReady
  else stOk

/-- THYME_COPY (R166). -/
def State.thymeCopy (s : State) (r : CmdRef) (c mask first : Nat) (last : Option Nat) (dest len : Nat) : State :=
  let st := s.copyStatus r.win c mask first last dest len
  let s := if st = stNoRights then s.noRights r.win 0x42 else s
  let s := s.respondA r 0x42 st [c]
  if st ≠ stOk then s
  else
    let x : JCopy := { ctx := c, mask := mask % 4, next := first, last := last, dest := dest, len := len }
    let s := { s with thyme := { s.thyme with copies := s.thyme.copies ++ [x] } }
    let s := s.copyOn c
    if last.isNone && (s.epoch c).isNone then
      match s.thyme.copies.find? (fun y => y.ctx == c) with
      | some y => s.endCopy y 3
      | none => s
    else s

/-- THYME_STOP (R164). -/
def State.thymeStop (s : State) (r : CmdRef) (c : Nat) : State :=
  if !s.journalRight r.win then (s.noRights r.win 0x43).respond r 0x43 stNoRights [c]
  else match s.thyme.copies.find? (fun x => x.ctx == c) with
    | some x => (s.endCopy x 2).respond r 0x43 stOk [c]
    | none => s.respond r 0x43 stNotReady [c]

/-- THYME_QUERY (R164, R165): the directory record with live values, in 16 words. -/
def State.thymeQuery (s : State) (r : CmdRef) (c : Nat) : State :=
  if !s.journalRight r.win then (s.noRights r.win 0x44).respond r 0x44 stNoRights [c]
  else
    let b := (s.jrec c).bytes
    s.respond r 0x44 stOk (c :: (List.range 16).map (fun i => leNat (slice b (4 * i) 4)))

/-- The status of THYME_SET (R164). -/
def State.setStatus (s : State) (c : Nat) (f : JournalFields) : Nat :=
  let x := s.ctx_ c
  if !s.thymeEn ∨ s.thyme.lost ∨ 8192 ≤ c ∨ x.state ≠ 1 then stNotReady
  else if x.codec = 9 ∨ f.depth = 0 ∨ 300 < f.depth ∨ s.fld Reg.THYME_THYME_CFG 0 9 < f.depth ∨ 3 < f.preset ∨
      15 < f.table ∨ s.nblk f.depth (presetStride f.preset (s.ctxWide c)) < 2 then stBad
  else stOk

/-- THYME_SET (R155, R164, R169). -/
def State.thymeSet (s : State) (r : CmdRef) (c : Nat) (f : JournalFields) : State :=
  let st := s.setStatus c f
  let s := if st ≠ stOk then s
    else
      let g : JCfg := ⟨f.on, f.preset, f.table, f.depth, f.enc⟩
      let j := (s.jctx c).getD { cfg := { g with on := false } }
      let same := decide (j.cfg = { g with table := j.cfg.table }) && j.epoch.all (fun e => e.wide == s.ctxWide c)
      if !f.on then s.setJctx c (some { j with cfg := g, begin_ := false, end_ := j.epoch.isSome })
      else if same && (j.epoch.isSome || j.begin_) then s.setJctx c (some { j with cfg := g, table := some f.table })
      else s.setJctx c (some { j with cfg := g, begin_ := true, end_ := false })
  s.respond r 0x40 st [c]

/-! ### The coder job (R167) -/

/-- What a coder job holds while it runs: what it saves, output bits in whole words, input taken, and output samples. -/
structure JRun where
  sv : JSave
  out : List Bool := []
  pcm : List Int := []
  taken : Nat := 0
  more : Bool := false

/-- Close a block: its last word is padded, if it fits (R167). A block whose pad does not fit waits at its end. -/
def JRun.close (r : JRun) (cap : Nat) : Option JRun :=
  let v := { r.sv with bits := [], pos := 0, table := 0 }
  if r.sv.bits.isEmpty then some { r with sv := v }
  else if 8 * cap < r.out.length + 32 then none
  else some { r with out := r.out ++ r.sv.bits ++ List.replicate (32 - r.sv.bits.length) false, sv := v }

/-- Push one code word, if the whole words it completes fit. -/
def JRun.push (r : JRun) (cap : Nat) (w : List Bool) : Option JRun :=
  let b := r.sv.bits ++ w
  let n := b.length / 32 * 32
  if 8 * cap < r.out.length + n then none
  else some { r with out := r.out ++ b.take n, sv := { r.sv with bits := b.drop n } }

/-- Encode from the input samples (R167). `n` is the block length. [DESIGN CHOICE, log 55] -/
def jobEncode (n table cap : Nat) : Nat → JRun → List Int → JRun
  | 0, r, _ => r
  | fuel + 1, r, xs =>
    let v := r.sv
    if v.pos = n then
      match r.close cap with
      | none => { r with more := true }
      | some r => jobEncode n table cap fuel r xs
    else if v.pos = 0 ∧ xs.length < n ∨ xs.isEmpty then r
    else if v.pos = 0 ∧ v.table < 16 then
      -- header of a block, one code word
      let blk := xs.take n
      let e := jEncode true table 8 0 v.x1 v.x2 blk
      let h := slotHeader v.seq false true false false false false false (n == 320) 0 e.2.1 v.x1 v.x2 (crc32c (pcmBytes blk))
      match r.push cap (bytesBits h) with
      | none => { r with more := true }
      | some r => jobEncode n table cap fuel { r with sv := { r.sv with table := e.2.1 + 16 } } xs
    else
      let t := v.table % 16
      let x := xs.headD 0
      let open_ := decide (8 ≤ t) && decide (t < 15) && decide (v.pos % 16 = 0)
      let us := (jResiduals 0 8 v.x1 v.x2 (xs.take 16)).1.map riceMap
      let c := min (kOpt us - (t - 8)) 7
      let k := if t < 8 then t + 4 else if open_ then t - 8 + c else v.k
      let q := riceMap (x - jPredict v.x1 v.x2)
      let w := if t = 15 then bitsOf 16 (unsigned 16 x) else (if open_ then bitsOf 3 c else []) ++ riceWord k q
      match r.push cap w with
      | none => { r with more := true }
      | some r =>
        jobEncode n table cap fuel { r with
          taken := r.taken + 1, sv := { r.sv with pos := v.pos + 1, x1 := x, x2 := v.x1, k := k } } xs.tail

/-- Decode from the input bits (R167); `tot` is the number of bits given, counted from a whole word.
[DESIGN CHOICE, log 55] -/
def jobDecode (cap tot : Nat) : Nat → JRun → List Bool → JRun × List Bool
  | 0, r, bits => (r, bits)
  | fuel + 1, r, bits =>
    let v := r.sv
    if v.table < 16 then
      if bits.length < 128 then (r, bits)
      else
        let h := (List.range 16).map (fun i => bitsNat ((bits.drop (8 * i)).take 8))
        jobDecode cap tot fuel { r with sv := { v with
            pos := if bitOf (h.getD 6 0) 7 then 320 else 160, table := h.getD 7 0 % 16 + 16
            x1 := signed 16 (leNat (slice h 8 2)), x2 := signed 16 (leNat (slice h 10 2)) } } (bits.drop 128)
    else
      let t := v.table % 16
      let open_ := decide (8 ≤ t) && decide (t < 15) && decide (v.pos % 16 = 0)
      let k := if t < 8 then t + 4 else if open_ then t - 8 + bitsNat (bits.take 3) else v.k
      if cap < 2 * (r.pcm.length + 1) then ({ r with more := true }, bits)
      else
        let w := if t = 15 then
            (if bits.length < 16 then none else some (signed 16 (bitsNat (bits.take 16)), bits.drop 16))
          else (riceRead k (if open_ then bits.drop 3 else bits)).map
            (fun p => (jPredict v.x1 v.x2 + riceUnmap p.1, p.2))
        match w with
        | none => (r, bits)
        | some (x, rest) =>
          let last := decide (v.pos = 1)
          let rest := if last then rest.drop ((32 - (tot - rest.length) % 32) % 32) else rest
          jobDecode cap tot fuel { r with pcm := r.pcm ++ [x], sv := { v with
              pos := v.pos - 1, x1 := x, x2 := v.x1, k := k, table := if last then 0 else v.table } } rest

/-- What a job saves as bytes: pending bits and their number, position, predictor, k, table, word alignment, SEQ.
[DESIGN CHOICE, log 55] -/
def JSave.bytes (v : JSave) : List Nat :=
  leBytes 4 (bitsNat v.bits) ++ [v.bits.length] ++ leBytes 2 v.pos ++ leBytes 2 (unsigned 16 v.x1) ++ leBytes 2 (unsigned 16 v.x2) ++
  [v.k, v.table, v.al] ++ leBytes 6 v.seq ++ List.replicate 44 0

/-- What the bytes of a state area say. -/
def JSave.ofBytes (b : List Nat) : JSave :=
  let g := fun i n => leNat (slice b i n)
  { bits := bitsOf (g 4 1 % 32) (g 0 4), pos := g 5 2, x1 := signed 16 (g 7 2), x2 := signed 16 (g 9 2), k := g 11 1, table := g 12 1
    al := g 13 1, seq := g 14 6 }

/-- What a job starts from (R167): a start takes a new SEQ for its headers, a resumed job what its state area holds.
[DESIGN CHOICE, log 55] -/
def State.jobSave (s : State) (j : JJob) : JSave :=
  if j.start then { seq := s.free % 2 ^ 48 }
  else JSave.ofBytes (s.readRecord 0 j.state 64)

/-- The saved state goes to the state area. -/
def State.jobKeep (s : State) (a : Nat) (v : JSave) : State := s.writeRecord 0 a 64 v.bytes

/-- A JCOD job finishes, or stops at a full output (R167). -/
def State.jobDone (s : State) : State :=
  match s.thyme.jobs with
  | [] => s
  | j :: rest =>
    let s := { s with thyme := { s.thyme with jobs := rest } }
    let n := if j.wide then 320 else 160
    let v := s.jobSave j
    let inp := s.rdBytes j.inp j.inLen
    let s := if j.start then s.drawn else s
    let s := s.bump Reg.THYME_JOB_CNT
    if j.decode then
      let bits := v.bits ++ bytesBits inp
      let p := jobDecode j.outLen (v.al + bits.length) (bits.length + 1) { sv := { v with bits := [] } } bits
      let hold := p.2.length % 32
      let used := (bits.length - (p.2.length - hold)) / 8 - v.bits.length / 8
      let s := s.wrDev j.out (pcmBytes p.1.pcm)
      let s := s.jobKeep j.state { p.1.sv with bits := p.2.take hold, al := (v.al + bits.length - p.2.length) % 32 }
      s.respond j.r 0x45 stOk [noObject, used, 2 * p.1.pcm.length, b2n p.1.more]
    else
      let xs := (List.range (j.inLen / 2)).map (fun i => signed 16 (leNat (slice inp (2 * i) 2)))
      let r := jobEncode n j.table j.outLen (3 * xs.length + 3) { sv := v } xs
      let s := (s.wrDev j.out (bitsBytes r.out)).jobKeep j.state r.sv
      s.respond j.r 0x45 stOk [noObject, r.taken, r.out.length / 8, b2n r.more]

/-- The status of THYME_CODE (R167). -/
def State.codeStatus (s : State) (f : CoderFields) : Nat :=
  if 1 < f.rate ∨ 15 < f.table ∨ !inNear f.inp f.inLen ∨ !inNear f.out f.outLen ∨ !inNear f.state 64 ∨ f.outLen % 4 ≠ 0
  then stBad
  else if 4 ≤ s.thyme.jobs.length then stBusy else stOk

/-- THYME_CODE (R164, R167); the response follows when the job is done. -/
def State.thymeCode (s : State) (r : CmdRef) (f : CoderFields) : State :=
  let st := s.codeStatus f
  if st ≠ stOk then s.respond r 0x45 st [noObject, 0, 0, 0]
  else { s with thyme := { s.thyme with
      jobs := s.thyme.jobs ++ [⟨r, f.decode, f.rate == 1, f.table, f.inp, f.inLen, f.out, f.outLen, f.state, f.start⟩] } }

/-! ### Enable, loss and reset (R153, R155, R170, R171) -/

/-- The regions meet R153. -/
def State.regionsOk (s : State) : Bool :=
  inFar s.jnlBase (8192 * s.creg) && inFar s.jdirBase 0x80000 && !rangesMeet s.jnlBase (8192 * s.creg) s.jdirBase 0x80000

/-- Contexts that are OPEN. -/
def State.openCtxs (s : State) : List Nat := (s.jbe.ctxs.filter (fun e => e.2.state == 1)).map Prod.fst

/-- EN changes from 0 to 1 (R155, R162, R170). [DEDUCED, log 53] -/
def State.thymeStart (s : State) : State :=
  let s := s.newKey
  let s := if s.thyme.lost then
      ({ s with thyme := { s.thyme with lost := false } }.irq thymePage 0).event (s.rn Reg.THYME_EVQ) 0xC1
        [1, s.now % 2 ^ 32]
    else s
  s.each s.openCtxs (fun s c => s.jnlArm c)

/-- EN changes from 1 to 0: journalling stops. [DEDUCED, log 54] -/
def State.thymeHalt (s : State) : State :=
  let s := s.each s.thyme.copies (fun s x => s.endCopy x 3)
  { s with thyme := { s.thyme with ctxs := [], slots := [], subs := [] } }

/-- A write of THYME_CFG (R155, R171). -/
def State.writeThymeCfg (s : State) (v : Word) : State :=
  let a := Reg.THYME_THYME_CFG
  let n := v.toNat
  let was := s.thymeEn
  let d := fieldOf n 12 9
  let m := fieldOf n 0 9
  if d = 0 ∨ 300 < d ∨ m = 0 ∨ 300 < m then s.cfgErr thymePage (some 4) stBad a
  else if bitOf n 31 && !s.regionsOk then s.cfgErr thymePage (some 4) stBad a
  else if bitOf n 31 && !was && s.trngHalted then s.cfgErr thymePage (some 4) 8 a
  else if bitOf n 31 && !was && !(s.farReady s.jnlBase (8192 * s.creg) && s.farReady s.jdirBase 0x80000) then
    s.cfgErr thymePage (some 4) stNotReady a
  else
    let s := s.setReg a (v &&& 0xFF1FF1FF#32)
    if bitOf n 31 && !was then s.thymeStart else if was && !bitOf n 31 then s.thymeHalt else s

/-- Far memory is lost to Thyme (R170), whether or not it is enabled. -/
def State.thymeLost (s : State) : State :=
  if s.thyme.lost then s
  else
    let s := s.each s.thyme.copies (fun s x => s.endCopy x 4)
    let s := { s with thyme := { s.thyme with ctxs := [], slots := [], subs := [], lost := true } }
    (s.irq thymePage 0).event (s.rn Reg.THYME_EVQ) 0xC1 [0, s.now % 2 ^ 32]

/-- THYME.RST (R171). -/
def State.thymeRst (s : State) : State :=
  let s := s.each s.thyme.copies (fun s x => s.endCopy x 2)
  let s := s.each s.thyme.jobs (fun s j => s.respond j.r 0x45 9 [noObject, 0, 0, 0])
  { (s.headerReset thymePage).pageReset thymePage 0x9C000 with thyme := {} }

/-- THYME_STAT as it reads. -/
def State.thymeStat (s : State) : Nat :=
  let live := (s.thyme.ctxs.filter (fun e => e.2.any (fun j => j.epoch.isSome))).length
  live * 2 ^ 16 + s.thyme.copies.length * 16 + b2n s.thyme.lost * 8 + b2n (!s.thyme.keys.isEmpty) * 4 +
  b2n (s.stageFull 1) * 2 + b2n (s.thymeEn && !s.thyme.lost)

/-! ### Meanings -/

/-- JNL_SUBMIT (R150). -/
def execJnlSubmit (g : Nat) (v : Word) (s : State) : Res := .next (s.jnlSubmit g (v.toNat % 64))

/-- The block in progress is the last of its epoch: the epoch ends at the next block boundary (R155, R169). -/
def State.lastBlock (s : State) (c : Nat) : Bool :=
  match s.jctx c with
  | some j => (j.end_ || j.begin_) && j.epoch.any (fun e => decide (e.next = (s.now - e.bph) / 160))
  | none => false

/-- THYME_BLOCK_CODE (R152). -/
def execThymeBlockCode (c : Nat) (s : State) : Res :=
  .next (if s.blockReady c then s.codeBlock c (s.lastBlock c) else s)

/-- THYME_SLOT_WRITE (R152): the oldest slot that waits for no cipher. -/
def execThymeSlotWrite (s : State) : Res :=
  .next (match s.thyme.slots.find? (fun x => !x.plain) with
    | some x => { s with thyme := { s.thyme with slots := s.thyme.slots.erase x } }.putSlot x
    | none => s)

/-- THYME_SET (R164). -/
def execThymeSet (r : CmdRef) (c : Nat) (f : JournalFields) (s : State) : Res := .next (s.carryOut r 0x40 (·.thymeSet r c f))

/-- THYME_READ (R164). -/
def execThymeRead (r : CmdRef) (c mask first count : Nat) (decode : Bool) (dest : Nat) (s : State) : Res :=
  .next (s.carryOut r 0x41 (·.thymeRead r c mask first count decode dest))

/-- THYME_COPY (R166). -/
def execThymeCopy (r : CmdRef) (c mask first : Nat) (last : Option Nat) (dest len : Nat) (s : State) : Res :=
  .next (s.carryOut r 0x42 (·.thymeCopy r c mask first last dest len))

/-- THYME_STOP (R164). -/
def execThymeStop (r : CmdRef) (c : Nat) (s : State) : Res := .next (s.carryOut r 0x43 (·.thymeStop r c))

/-- THYME_QUERY (R164). -/
def execThymeQuery (r : CmdRef) (c : Nat) (s : State) : Res := .next (s.carryOut r 0x44 (·.thymeQuery r c))

/-- THYME_CODE (R167). -/
def execThymeCode (r : CmdRef) (f : CoderFields) (s : State) : Res := .next (s.carryOut r 0x45 (·.thymeCode r f))

/-- THYME_CODE_DONE (R167). -/
def execThymeCodeDone (s : State) : Res := .next s.jobDone

/-- THYME_ENABLE (R155). -/
def execThymeEnable (w : Win) (v : Word) (s : State) : Res :=
  .next (s.hostGuard w Reg.THYME_THYME_CFG true (·.writeThymeCfg (v ||| 0x80000000#32)))

/-- THYME_DISABLE (R170). -/
def execThymeDisable (w : Win) (v : Word) (s : State) : Res :=
  .next (s.hostGuard w Reg.THYME_THYME_CFG true (·.writeThymeCfg (v &&& 0x7FFFFFFF#32)))

/-- THYME_RST (R171). -/
def execThymeRst (w : Win) (s : State) : Res := .next (s.hostGuard w (thymePage + 0x30) true (·.thymeRst))

end Sys2Proof.Machine
end

