-- ==== Sys2Proof/Machine/Wire.lean ====
section
/-! DEFINITION. Frames on the wire: checksums, the headers that PRE builds from a template (R145, R280), the frame check
sequence, and PTP times (R32, R283). -/

namespace Sys2Proof.Machine
open Sys2Proof

/-- Sum of big-endian 16-bit words; an odd last byte is the high byte of a word. -/
def words16 : List Nat → Nat
  | [] => 0
  | [a] => a * 256
  | a :: b :: r => a * 256 + b + words16 r

/-- A sum folded to 16 bits, ones' complement. -/
def fold16 (n : Nat) : Nat :=
  let m := n / 65536 + n % 65536
  m / 65536 + m % 65536

/-- The internet checksum of bytes. -/
def csum (l : List Nat) : Nat := 65535 - fold16 (words16 l)

/-- Address bytes of a family. -/
def addrBytes (v6 : Bool) (a : Nat) : List Nat := beBytes (if v6 then 16 else 4) a

/-- The pseudo header of UDP. -/
def pseudo (v6 : Bool) (src dst len : Nat) : List Nat :=
  addrBytes v6 src ++ addrBytes v6 dst ++ (if v6 then beBytes 4 len ++ [0, 0, 0, 17] else [0, 17] ++ beBytes 2 len)

/-- A UDP datagram's checksum field: the sum of pseudo header and datagram with a zero checksum; 0 is sent as 0xFFFF. -/
def udpCsum (v6 : Bool) (src dst : Nat) (dgram : List Nat) : Nat :=
  let c := csum (pseudo v6 src dst dgram.length ++ dgram)
  if c = 0 then 0xFFFF else c

/-- An IPv4 header of 20 bytes: DF = 1, identification 0 (R280). -/
def ipv4Header (dscp ttl src dst len : Nat) : List Nat :=
  let h := fun c => [0x45, dscp * 4 % 256] ++ beBytes 2 len ++ [0, 0, 0x40, 0, ttl, 17] ++ beBytes 2 c ++
    beBytes 4 src ++ beBytes 4 dst
  h (csum (h 0))

/-- An IPv6 header of 40 bytes. -/
def ipv6Header (dscp flow hop src dst len : Nat) : List Nat :=
  beBytes 4 (6 * 2 ^ 28 + dscp % 64 * 2 ^ 22 + flow % 2 ^ 20) ++ beBytes 2 len ++ [17, hop] ++ beBytes 16 src ++ beBytes 16 dst

/-- The frame that PRE builds around a UDP payload (R280), without its FCS; the wire's least length of 60 bytes is filled
with zeros. [PRESUMED, log 76] -/
def Template.frame (t : Template) (payload : List Nat) : List Nat :=
  let n := payload.length + 8
  let head := beBytes 2 t.srcPort ++ beBytes 2 t.dstPort ++ beBytes 2 n
  let udp := head ++ beBytes 2 (udpCsum t.v6 t.srcAddr t.dstAddr (head ++ [0, 0] ++ payload)) ++ payload
  let f := beBytes 6 t.dstMac ++ beBytes 6 t.srcMac ++ t.tags.flatMap (fun g => [0x81, 0x00] ++ beBytes 2 g) ++
    (if t.v6 then [0x86, 0xDD] ++ ipv6Header t.dscp t.flow t.ttl t.srcAddr t.dstAddr n
     else [0x08, 0x00] ++ ipv4Header t.dscp t.ttl t.srcAddr t.dstAddr (n + 20)) ++ udp
  f ++ List.replicate (60 - f.length) 0

/-- The RTP header of a transmit packet (R280). -/
def rtpHeader (marker : Bool) (pt seq ts ssrc : Nat) : List Nat :=
  [0x80, b2n marker * 128 + pt % 128] ++ beBytes 2 (seq % 2 ^ 16) ++ beBytes 4 (ts % 2 ^ 32) ++ beBytes 4 (ssrc % 2 ^ 32)

/-- One bit of the reflected CRC-32 of Ethernet. -/
def fcsBit : Nat → Nat → Nat
  | 0, c => c
  | n + 1, c => fcsBit n (if c % 2 = 1 then c / 2 ^^^ 0xEDB88320 else c / 2)

/-- The frame check sequence of bytes; it follows them lowest byte first. -/
def fcs (l : List Nat) : Nat := l.foldl (fun c b => fcsBit 8 (c ^^^ b)) 0xFFFFFFFF ^^^ 0xFFFFFFFF

/-- Bytes of an RTP header: fixed part, CSRC list and extension. [PRESUMED, log 65] -/
def rtpHeadLen (b : List Nat) : Nat :=
  let n := 12 + 4 * (b.getD 0 0 % 16)
  if bitOf (b.getD 0 0) 4 then n + 4 + 4 * beNat (slice b (n + 2) 2) else n

/-- Padding bytes at the end of an RTP packet. [PRESUMED, log 65] -/
def rtpPad (b : List Nat) : Nat := if bitOf (b.getD 0 0) 5 then b.getLastD 0 else 0

/-- An RTP packet as the JBE judges it. -/
def rtpPacket (ctx buf arrival srcAddr srcPort mac : Nat) (b : List Nat) : RtpPacket :=
  { ctx := ctx, buf := buf, arrival := arrival, srcAddr := srcAddr, srcPort := srcPort, mac := mac
    pt := b.getD 1 0 % 128, marker := bitOf (b.getD 1 0) 7, seq := beNat (slice b 2 2), ts := beNat (slice b 4 4)
    ssrc := beNat (slice b 8 4)
    payload := (b.take (b.length - rtpPad b)).drop (rtpHeadLen b) }

/-- The local PTP time, in seconds and nanoseconds, `at_` ns from the start of frame `n` (R32). [DEDUCED, log 81] -/
def State.ptpAt (s : State) (n : Nat) (at_ : Int) : Nat × Nat :=
  let sec : Nat := s.rn Reg.TIME_PTPT_SEC_LO + 2 ^ 32 * s.rn Reg.TIME_PTPT_SEC_HI
  let k : Nat := (n + 8000 - s.rn Reg.TIME_SEC_OFS % 8000) % 8000
  let t : Int := (k : Int) * 125000 + at_
  (((sec : Int) + t / 1000000000).toNat, (t % 1000000000).toNat)

/-- MAC `m` beyond its registers. -/
def State.mac_ (s : State) (m : Nat) : Mac := Tab.get (fun _ => {}) s.net.macs m

/-- Replace it. -/
def State.setMac (s : State) (m : Nat) (x : Mac) : State :=
  { s with net := { s.net with macs := Tab.put (fun _ => {}) s.net.macs m x } }

/-- A packet that is ready for the wire goes to the transmit FIFO of the template's MAC (R280). -/
def State.voicePut (s : State) (t : Template) (slot : Nat) (packet : List Nat) : State :=
  let x := s.mac_ t.mac
  s.setMac t.mac { x with voice := x.voice ++ [⟨slot, t.frame packet⟩] }

/-- Device address of a pool buffer (R274). -/
def State.poolAddr (s : State) (b : Nat) : Nat := s.rn Reg.PRE_POOL_BASE * 0x100000 + b * 2048

/-- Return a pool buffer. -/
def State.poolFree (s : State) (b : Nat) : State := { s with net := { s.net with pool := s.net.pool.filter (· != b) } }

/-- The lowest free pool buffer. -/
def State.poolPick (s : State) : Option Nat :=
  (List.range (s.net.pool.length + 1)).find? (fun b => !s.net.pool.contains b && decide (b < s.rn Reg.PRE_POOL_CNT))

/-- Take it. -/
def State.poolTake (s : State) (b : Nat) : State := { s with net := { s.net with pool := b :: s.net.pool } }

end Sys2Proof.Machine
end

