-- ==== Sys2Proof/Machine/Cipher.lean ====
section
/-! DEFINITION. The cipher engines (R236–R263): SRTP records and packets, session keys, key slots and blobs, jobs, faults,
lockout, reset and rebuild; and THYME_KEY, which returns a journal key as a blob. -/

namespace Sys2Proof.Machine
open Sys2Proof

/-- The CIPH page of a cluster. -/
def ciphPage (c : Nat) : Nat := 0x50000 + c * 0x1000

/-- The engine of a cluster beyond its registers. -/
def State.eng (s : State) (c : Nat) : Ciph := Tab.get (fun _ => {}) s.ciph.engines c

/-- Replace it. -/
def State.setEng (s : State) (c : Nat) (x : Ciph) : State :=
  { s with ciph := { s.ciph with engines := Tab.put (fun _ => {}) s.ciph.engines c x } }

/-! ### Suites and primitives (R241) -/

/-- AES key bits of a suite. -/
def suiteBits (suite : Nat) : Nat := if suite = 3 ∨ suite = 5 then 256 else 128

/-- Suites 4 and 5 are GCM. -/
def suiteGcm (suite : Nat) : Bool := decide (4 ≤ suite)

/-- Tag bytes of a suite. -/
def suiteTag (suite : Nat) : Nat := if suiteGcm suite then 16 else if suite = 2 then 4 else 10

/-- Master salt bytes of a suite. -/
def suiteSalt (suite : Nat) : Nat := if suiteGcm suite then 12 else 14

/-- Counter-mode bytes: the low 32 bits of the counter block count modulo 2^32. -/
def ctr32 (kb key iv n : Nat) : List Nat :=
  ((List.range (ceilDiv n 16)).flatMap (fun i =>
    beBytes 16 (aes kb key (iv / 2 ^ 32 * 2 ^ 32 + (iv + i) % 2 ^ 32)))).take n

/-- GCM encipherment of bytes under a 96-bit IV; the counter starts at 2. [PRESUMED, log 74] -/
def gcmCrypt (kb key iv : Nat) (b : List Nat) : List Nat := xorBytes b (ctr32 kb key (iv * 2 ^ 32 + 2) b.length)

/-- The first `n` bytes of a GCM tag. -/
def gcmTagOf (kb key iv : Nat) (aad ct : List Nat) (n : Nat) : List Nat :=
  (beBytes 16 (gcmTag kb key iv aad ct)).take n

/-- The first `n` bytes of an HMAC. -/
def hmacOf (kind : Nat) (key msg : List Nat) (n : Nat) : List Nat := (hmac kind key msg).take n

/-- A packet's RTP header and body enciphered or deciphered at index `i` (R241): RFC 3711 counter mode, or RFC 7714. -/
def SKey.crypt (k : SKey) (ssrc i : Nat) (hdr body : List Nat) : List Nat :=
  if suiteGcm k.suite then hdr ++ gcmCrypt (suiteBits k.suite) k.ke ((ssrc * 2 ^ 48 + i) ^^^ k.ks) body
  else hdr ++ xorBytes body (ctr32 (suiteBits k.suite) k.ke ((k.ks * 2 ^ 16) ^^^ (ssrc * 2 ^ 64) ^^^ (i * 2 ^ 16)) body.length)

/-- The tag over a header and its ciphertext at index `i`. -/
def SKey.tag (k : SKey) (ssrc i : Nat) (hdr ct : List Nat) : List Nat :=
  if suiteGcm k.suite then gcmTagOf (suiteBits k.suite) k.ke ((ssrc * 2 ^ 48 + i) ^^^ k.ks) hdr ct 16
  else hmacOf 1 (beBytes 20 k.ka) (hdr ++ ct ++ beBytes 4 (i / 2 ^ 16)) (suiteTag k.suite)

/-! ### Records (R242) -/

/-- Bytes 0–63 of an SRTP record. -/
structure SRec where
  state : Nat
  suite : Nat
  flags : Nat
  mkiLen : Nat
  mki : List Nat
  ssrc : Nat
  roc : Nat
  seq : Nat
  window : Nat
  pkts : Nat
  tagf : Nat
  replay : Nat
  chg : Nat
  deriving DecidableEq, Repr

/-- Address of the record of a direction: 0 receive, 1 transmit (R17, R242). -/
def srtpAddr (ctx dir : Nat) : Nat := 0x64000000 + (2 * ctx + dir) * 0x100

/-- The record read from its bytes. -/
def SRec.ofBytes (b : List Nat) : SRec :=
  let g := fun i n => leNat (slice b i n)
  { state := g 0 1, suite := g 1 1, flags := g 2 1, mkiLen := g 3 1, mki := slice b 4 4, ssrc := g 8 4, roc := g 12 4
    seq := g 16 2, window := g 24 8, pkts := g 32 4, tagf := g 36 4, replay := g 40 4, chg := g 44 4 }

/-- Its bytes. -/
def SRec.bytes (r : SRec) : List Nat :=
  [r.state, r.suite, r.flags, r.mkiLen] ++ slice r.mki 0 4 ++ leBytes 4 r.ssrc ++ leBytes 4 r.roc ++ leBytes 2 r.seq ++
  List.replicate 6 0 ++ leBytes 8 r.window ++ leBytes 4 r.pkts ++ leBytes 4 r.tagf ++ leBytes 4 r.replay ++
  leBytes 4 r.chg ++ List.replicate 16 0

/-- The record of a direction. -/
def State.srec (s : State) (ctx dir : Nat) : SRec := SRec.ofBytes (s.rdBytes (srtpAddr ctx dir) 64)

/-- Write bytes 0–63 of a record. -/
def State.setSrec (s : State) (ctx dir : Nat) (r : SRec) : State := s.wrBytes (srtpAddr ctx dir) r.bytes

/-- The session keys held for a direction (R250). -/
def State.skey (s : State) (ctx dir : Nat) : Option SKey := Tab.get (fun _ => none) s.ciph.store (2 * ctx + dir)

/-- Set or clear them. -/
def State.setSkey (s : State) (ctx dir : Nat) (k : Option SKey) : State :=
  { s with ciph := { s.ciph with store := Tab.put (fun _ => none) s.ciph.store (2 * ctx + dir) k } }

/-- Both records, both store entries and the tag failure memory of a context are zeroed (R247). -/
def State.cipherClear (s : State) (ctx : Nat) : State :=
  let s := (s.wrBytes (srtpAddr ctx 0) (List.replicate 512 0)).setSkey ctx 0 none |>.setSkey ctx 1 none
  { s with ciph := { s.ciph with tagf := Tab.put (fun _ => none) s.ciph.tagf ctx none } }

/-- Store entries in use in a cluster: two for each context opened with an SRTP suite (R250). -/
def State.storeUsed (s : State) (c : Nat) : Nat :=
  2 * (s.jbe.ctxs.filter (fun e => e.2.state != 0 && e.2.srtp.isSome && e.2.home == c)).length

/-! ### Faults (R259, R260) -/

/-- Zero the session keys of a cluster. -/
def State.zeroStore (s : State) (c : Nat) : State :=
  { s with ciph := { s.ciph with store := Tab.drop (fun k => (s.ctx_ (k / 2)).home == c) s.ciph.store } }

/-- The engine locks out (R260). -/
def State.lockout (s : State) (c faults : Nat) : State :=
  let s := s.zeroStore c
  let s := s.setEng c { s.eng c with slots := [] }
  let s := (s.setFld (Reg.CIPH_ENGINE_STAT c) 31 1 1).irq (ciphPage c) 3
  s.event (s.rn (Reg.CIPH_EVQ c)) 0xD2 [c, faults, s.now]

/-- A fault is counted; FAULT_LIMIT of them within 8,000 frames lock the engine out (R259, R260). -/
def State.cipherFault (s : State) (c : Nat) : State :=
  let s := (s.bump (Reg.CIPH_FAULT_CNT c)).irq (ciphPage c) 2
  let fs := s.now :: (s.eng c).faults.filter (fun f => decide (s.now < f + 8000))
  let s := s.setEng c { s.eng c with faults := fs }
  if s.fld (Reg.CIPH_CIPH_CFG c) 24 4 ≤ fs.length ∧ !s.bit (Reg.CIPH_ENGINE_STAT c) 31 then s.lockout c fs.length else s

/-! ### Service order (R238) -/

/-- The classes of R238 above host key operations that wait for an engine: in-line packets and journal slots. -/
def State.inlineWaits (s : State) (c : Nat) : Bool := !(s.eng c).rx.isEmpty || !(s.eng c).tx.isEmpty

/-- A journal slot waits for its encryption. -/
def State.slotWaits (s : State) (c : Nat) : Bool := s.thyme.slots.any (fun x => x.plain && (s.ctx_ x.ctx).home == c)

/-- A command in progress is a host key operation of cluster `c` that waits (R238): KEY_SRTP and KEY_SRTP_CLEAR for a context
homed there, KEY_SLOT_LOAD, KEY_SLOT_GEN or KEY_SLOT_CLEAR. -/
def State.keyWaits (s : State) (c : Nat) : Bool :=
  s.qm.taken.any (fun t => !t.begun &&
    let o := (t.fields.headD 0).toNat
    (((t.op == 0x50 || t.op == 0x51) && (s.ctx_ o).home == c) || (decide (0x52 ≤ t.op ∧ t.op ≤ 0x54) && o == c)))

/-- A host key operation of cluster `c` is served once no in-line packet and no journal slot waits (R238).
[DEDUCED, log 208] -/
def State.keyTurn (s : State) (c : Nat) (f : State → State) : State :=
  if s.inlineWaits c || s.slotWaits c then s else f s

/-! ### In-line packets (R243–R246) -/

/-- A tag failure of a context: SRTP_TAG_FAIL at the first, then at most once in 8,000 frames (R245). [DEDUCED, log 63] -/
def State.tagFail (s : State) (c ctx : Nat) : State :=
  let s := (s.bump (Reg.CIPH_TAG_FAIL_CNT c)).irq (ciphPage c) 0
  let note := fun (s : State) v => { s with ciph := { s.ciph with tagf := Tab.put (fun _ => none) s.ciph.tagf ctx (some v) } }
  match Tab.get (fun _ => none) s.ciph.tagf ctx with
  | some (t, n) =>
    if t + 8000 ≤ s.now then note (s.event (s.ctx_ ctx).evq 0xD1 [ctx, n + 1, s.now]) (s.now, 0) else note s (t, n + 1)
  | none => note (s.event (s.ctx_ ctx).evq 0xD1 [ctx, 1, s.now]) (s.now, 0)

/-- KEY_EXHAUSTED for a direction of a context (R246). [DESIGN CHOICE, log 71] -/
def State.keyExhausted (s : State) (c ctx dir : Nat) : State :=
  (s.irq (ciphPage c) 1).event (s.ctx_ ctx).evq 0xD0 [ctx, 0xFF, dir, c, s.now]

/-- The index estimate of RFC 3711 section 3.3.1 (R243): ROC, highest SEQ, whether one has been seen, packet SEQ. -/
def indexOf (roc sl : Nat) (valid : Bool) (seq : Nat) : Int :=
  let v : Int :=
    if !valid then (roc : Int)
    else if sl < 32768 then (if (seq : Int) - sl > 32768 then (roc : Int) - 1 else (roc : Int))
    else if (sl : Int) - 32768 > seq then (roc : Int) + 1 else (roc : Int)
  v * 65536 + seq

/-- An index has been accepted before or lies below the window. -/
def SRec.replayed (r : SRec) (i : Int) : Bool :=
  let high : Int := ((r.roc * 65536 + r.seq : Nat) : Int)
  decide (i < 0) || decide (i ≤ high - 64) || (decide (i ≤ high) && bitOf r.window (high - i).toNat)

/-- The record after a packet of index `i` from the SSRC has passed (R243 step 6, R244). -/
def SRec.accept (r : SRec) (i ssrc : Nat) : SRec :=
  let high := r.roc * 65536 + r.seq
  let new := decide (r.ssrc ≠ ssrc) && bitOf r.flags 1
  let fresh := new || !bitOf r.flags 2
  let r := { r with ssrc := ssrc, flags := bitSet (bitSet r.flags 1) 2, pkts := (r.pkts + 1) % 2 ^ 32
                    chg := if new then (r.chg + 1) % 2 ^ 32 else r.chg }
  if fresh then { r with roc := i / 65536, seq := i % 65536, window := 1 }
  else if high < i then
    { r with roc := i / 65536, seq := i % 65536
             window := if i - high < 64 then (r.window * 2 ^ (i - high) + 1) % 2 ^ 64 else 1 }
  else { r with window := bitSet r.window (high - i) }

/-- An in-line receive packet ends without reaching the JBE; its buffer returns to the pool. -/
def State.rxGone (s : State) (p : CiphRx) (counter : Nat) : State := (s.bump counter).poolFree p.buf

/-- Steps 4 to 6 of R243 for a packet whose form and MKI are right. [PRESUMED, log 62; DEDUCED, log 64] -/
def State.srtpVerify (s : State) (c : Nat) (p : CiphRx) (b : List Nat) (r : SRec) (k : SKey) (fault : Bool) : State :=
  let seq := beNat (slice b 2 2)
  let ssrc := beNat (slice b 8 4)
  let new := bitOf r.flags 1 && decide (r.ssrc ≠ ssrc)
  let rv := if new then { r with roc := 0, seq := 0, window := 0, flags := bitClear r.flags 2 } else r
  let i := indexOf rv.roc rv.seq (bitOf rv.flags 2) seq
  if rv.replayed i then
    (s.setSrec p.ctx 0 { r with replay := (r.replay + 1) % 2 ^ 32 }).rxGone p (Reg.CIPH_REPLAY_CNT c)
  else if (2 ^ 48 : Int) ≤ i then
    let s := s.rxGone p (Reg.CIPH_EXH_CNT c)
    if k.exh then s else (s.setSkey p.ctx 0 (some { k with exh := true })).keyExhausted c p.ctx 0
  else if fault then (s.rxGone p (Reg.CIPH_DROP_CNT c)).cipherFault c
  else
    let i := i.toNat
    let tl := suiteTag k.suite
    let core := b.take (b.length - r.mkiLen - tl)
    let tag := if suiteGcm k.suite then slice b (b.length - r.mkiLen - tl) tl else slice b (b.length - tl) tl
    let hdr := core.take (rtpHeadLen b)
    let body := core.drop (rtpHeadLen b)
    if k.tag ssrc i hdr body ≠ tag then
      ((s.setSrec p.ctx 0 { r with tagf := (r.tagf + 1) % 2 ^ 32 }).poolFree p.buf).tagFail c p.ctx
    else
      let s := s.setSrec p.ctx 0 (r.accept i ssrc)
      let s := if new then s.bump (Reg.CIPH_SSRC_CHG c) else s
      let s := s.bump (Reg.CIPH_RX_PKTS c)
      let out := k.crypt ssrc i hdr body
      { s with jbe := { s.jbe with inbox := s.jbe.inbox ++
        [rtpPacket p.ctx p.buf p.arrival p.srcAddr p.srcPort p.mac out] } }

/-- The oldest in-line receive packet of a cluster is processed (R243); `fault` is the outcome of the fault check. -/
def State.srtpRx (s : State) (c : Nat) (fault : Bool) : State :=
  match (s.eng c).rx with
  | [] => s
  | p :: q =>
    let s := s.setEng c { s.eng c with rx := q }
    if s.cipherDown c then s.rxGone p (Reg.CIPH_DROP_CNT c)
    else
      let r := s.srec p.ctx 0
      let b := s.rdBytes (s.poolAddr p.buf) p.len
      match s.skey p.ctx 0 with
      | none => s.rxGone p (Reg.CIPH_NOKEY_CNT c)
      | some k =>
        let tl := suiteTag k.suite
        let mki := if suiteGcm k.suite then slice b (b.length - r.mkiLen) r.mkiLen
          else slice b (b.length - tl - r.mkiLen) r.mkiLen
        if r.state ≠ 1 then s.rxGone p (Reg.CIPH_NOKEY_CNT c)
        else if b.length < 12 + r.mkiLen + tl ∨ 2048 < b.length then s.rxGone p (Reg.CIPH_MALFORMED c)
        else if mki ≠ r.mki.take r.mkiLen then
          ((s.setSrec p.ctx 0 { r with tagf := (r.tagf + 1) % 2 ^ 32 }).poolFree p.buf).tagFail c p.ctx
        else s.srtpVerify c p b r k fault

/-- The oldest in-line transmit packet of a cluster is protected or dropped (R246), once no receive packet waits (R238).
[PRESUMED, log 62; DESIGN CHOICE, log 66; DEDUCED, log 208] -/
def State.srtpTx (s : State) (c : Nat) (fault : Bool) : State :=
  match (s.eng c).tx with
  | [] => s
  | p :: q =>
    if !(s.eng c).rx.isEmpty then s
    else
    let s := s.setEng c { s.eng c with tx := q }
    if s.cipherDown c then s.bump (Reg.CIPH_DROP_CNT c)
    else
      let r := s.srec p.ctx 1
      match s.skey p.ctx 1 with
      | none => s.bump (Reg.CIPH_NOKEY_CNT c)
      | some k =>
        let seq := beNat (slice p.rtp 2 2)
        let wrap := bitOf r.flags 2 && decide (seq ≤ r.seq)
        if r.state ≠ 1 then s.bump (Reg.CIPH_NOKEY_CNT c)
        else if wrap && decide (r.roc = 2 ^ 32 - 1) then
          ((s.setSrec p.ctx 1 { r with state := 2 }).bump (Reg.CIPH_EXH_CNT c)).keyExhausted c p.ctx 1
        else if fault then (s.bump (Reg.CIPH_DROP_CNT c)).cipherFault c
        else
          let roc := if wrap then r.roc + 1 else r.roc
          let i := roc * 65536 + seq
          let ssrc := beNat (slice p.rtp 8 4)
          let n := rtpHeadLen p.rtp
          let out := k.crypt ssrc i (p.rtp.take n) (p.rtp.drop n)
          let tag := k.tag ssrc i (out.take n) (out.drop n)
          let mki := r.mki.take r.mkiLen
          let s := s.setSrec p.ctx 1 { r with
            roc := roc, seq := seq, flags := bitSet r.flags 2, pkts := (r.pkts + 1) % 2 ^ 32 }
          (s.bump (Reg.CIPH_TX_PKTS c)).voicePut p.tmpl p.slot (out ++ (if suiteGcm k.suite then tag ++ mki else mki ++ tag))

/-- The oldest journal slot of a cluster's contexts that waits for its encryption, once no in-line packet waits (R163,
R238). [DEDUCED, log 208] -/
def State.journalSlot (s : State) (c : Nat) (fault : Bool) : State :=
  if s.inlineWaits c then s
  else match s.thyme.slots.find? (fun x => x.plain && (s.ctx_ x.ctx).home == c) with
  | none => s
  | some x =>
    let put := fun (p : State × JSlot) =>
      { p.1 with thyme := { p.1.thyme with slots := p.1.thyme.slots.map (fun y => if y = x then p.2 else y) } }
    if fault && !s.cipherDown c then (put (s.slotRefused x)).cipherFault c else put (s.slotCipher x)

/-! ### SRTP keys (R247, R249) -/

/-- CK, the context key in force. -/
def State.ck (s : State) : Nat := Config.contextKey s.ciph.ckGen

/-- KX, or none where the export seed is all zero (R248). -/
def State.kx (s : State) : Option Nat := if s.exportSeed.all (· == 0) then none else some (beNat (shake ([0x4B, 0x58] ++ s.exportSeed)))

/-- AES-KWP of bytes, `n` bytes of result (R242, R252). -/
def kwp (key : Nat) (b : List Nat) (n : Nat) : List Nat := slice (kwpWrap key b) 0 n

/-- Bytes of a wrapped SRTP key. -/
def wkeyLen (suite : Nat) : Nat := if suiteBits suite = 256 then 56 else 40

/-- Session keys of a master key and salt: labels 0, 1 and 2 (R241). -/
def sessionKeys (suite : Nat) (key salt : List Nat) : SKey :=
  { suite := suite, ke := beNat (srtpSession key salt 0 (suiteBits suite / 8)), ka := beNat (srtpSession key salt 1 20)
    ks := beNat (srtpSession key salt 2 (suiteSalt suite)) }

/-- The SUITE or a length is out of range (R262). -/
def srtpKeyBad (k : SrtpKey) : Bool :=
  k.suite == 0 || decide (5 < k.suite) || decide (4 < k.mkiLen) || decide (k.mki.length < k.mkiLen) ||
  decide (k.key.length ≠ suiteBits k.suite / 8) || decide (k.salt.length ≠ suiteSalt k.suite)

/-- Install a key (R247): session keys into the store, then the record. -/
def State.installKey (s : State) (ctx dir : Nat) (k : SrtpKey) : State :=
  let s := s.setSkey ctx dir (some (sessionKeys k.suite k.key k.salt))
  let r : SRec :=
    { state := 1, suite := k.suite, flags := dir + 2 * b2n k.ssrc.isSome, mkiLen := k.mkiLen, mki := k.mki.take k.mkiLen
      ssrc := k.ssrc.getD 0, roc := k.roc, seq := 0, window := 0, pkts := 0, tagf := 0, replay := 0, chg := 0 }
  s.wrBytes (srtpAddr ctx dir) (slice (r.bytes ++ kwp s.ck (k.key ++ k.salt) (wkeyLen k.suite)) 0 256)

/-- The context is OPEN with SRTP entries. -/
def State.srtpOpen (s : State) (ctx : Nat) : Bool := (s.ctx_ ctx).state == 1 && (s.ctx_ ctx).srtp.isSome

/-- KEY_SRTP (R247, R262). [DEDUCED, log 67; DESIGN CHOICE, log 214] -/
def State.cmdKeySrtp (s : State) (r : CmdRef) (ctx dir : Nat) (k : SrtpKey) (fault : Bool) : State :=
  let c := (s.ctx_ ctx).home
  if r.win = .maker then (s.noRights r.win 0x50).respond r 0x50 4 [ctx]
  else if 8191 < ctx ∨ 1 < dir ∨ srtpKeyBad k then s.respond r 0x50 3 [ctx]
  else if !s.srtpOpen ctx then s.respond r 0x50 13 [ctx]
  else if s.bit (Reg.CIPH_ENGINE_STAT c) 31 then s.respond r 0x50 8 [ctx]
  else if fault then (s.cipherFault c).respond r 0x50 8 [ctx]
  else (s.installKey ctx dir k).respond r 0x50 0 [ctx]

/-- KEY_SRTP_CLEAR (R247, R262). -/
def State.cmdKeySrtpClear (s : State) (r : CmdRef) (ctx dir : Nat) : State :=
  if r.win = .maker then (s.noRights r.win 0x51).respond r 0x51 4 [ctx]
  else if 8191 < ctx ∨ 1 < dir then s.respond r 0x51 3 [ctx]
  else if !s.srtpOpen ctx then s.respond r 0x51 13 [ctx]
  else if s.bit (Reg.CIPH_ENGINE_STAT (s.ctx_ ctx).home) 31 then s.respond r 0x51 8 [ctx]
  else
    let s := s.setSkey ctx dir none
    let s := (s.wr8 (srtpAddr ctx dir) 0).wrBytes (srtpAddr ctx dir + 64) (List.replicate 56 0)
    s.respond r 0x51 0 [ctx]

/-- SRTP_QUERY (R262): bytes 0–63 of the record. -/
def State.cmdSrtpQuery (s : State) (r : CmdRef) (ctx dir : Nat) : State :=
  if r.win = .maker then (s.noRights r.win 0x56).respond r 0x56 4 [ctx]
  else if 8191 < ctx ∨ 1 < dir then s.respond r 0x56 3 [ctx]
  else if (s.ctx_ ctx).state = 0 then s.respond r 0x56 13 [ctx]
  else if s.bit (Reg.CIPH_ENGINE_STAT (s.ctx_ ctx).home) 31 then s.respond r 0x56 8 [ctx]
  else s.respond r 0x56 0 (ctx :: (List.range 16).map (fun i => s.rdLE (srtpAddr ctx dir + 4 * i) 4))

/-! ### Key slots (R251–R253) -/

/-- A key slot. -/
def State.keySlot (s : State) (c i : Nat) : KeySlot := Tab.get (fun _ => {}) (s.eng c).slots i

/-- Replace it. -/
def State.setKeySlot (s : State) (c i : Nat) (k : KeySlot) : State :=
  s.setEng c { s.eng c with slots := Tab.put (fun _ => {}) (s.eng c).slots i k }

/-- Key bytes of an ALG. -/
def algLen (alg : Nat) : Nat := if alg = 1 then 16 else 32

/-- Bytes of a blob's wrap. -/
def wrapLen (alg : Nat) : Nat := if alg = 1 then 40 else 56

/-- The clear bytes 0–15 of a blob (R252). -/
def blobHead (kind alg usage fixed : Nat) : List Nat := [1, kind, alg, usage] ++ leBytes 4 fixed ++ List.replicate 8 0

/-- A blob under KX. -/
def keyBlob (kx kind alg usage fixed : Nat) (key : List Nat) : List Nat :=
  let h := blobHead kind alg usage fixed
  h ++ kwp kx (h ++ key) (wrapLen alg)

/-- The job in progress: the oldest that has not ended. -/
def Ciph.running (x : Ciph) : Option CiphJob := x.jobs.find? (fun j => j.result.isNone)

/-- The job in progress uses slot `i`. -/
def State.slotBusy (s : State) (c i : Nat) : Bool :=
  (s.eng c).running.any (fun j => j.key.isSome && fieldOf (j.w.headD 0).toNat 23 5 == i)

/-- The refusals that KEY_SLOT_LOAD and KEY_SLOT_GEN share: NO_RIGHTS, BAD_PARAM, FAULT, NOT_READY, BUSY, and FAULT of the
fault check (R259), whose outcome is a free value. [DESIGN CHOICE, log 214] -/
def State.slotCmd (s : State) (r : CmdRef) (op c i : Nat) (bad : Bool) (k : State → Nat → State) : State :=
  if op = 0x53 ∧ s.trngHalted then s.respondA r op 8 [c, i]
  else if r.win ≠ .installer then (s.noRights r.win op).respondA r op 4 [c, i]
  else if 15 < c ∨ 31 < i ∨ bad then s.respondA r op 3 [c, i]
  else if s.bit (Reg.CIPH_ENGINE_STAT c) 31 then s.respondA r op 8 [c, i]
  else match s.kx with
    | none => s.respondA r op 13 [c, i]
    | some kx => if s.slotBusy c i then s.respondA r op 2 [c, i]
      else if s.free % 2 = 1 then (s.drawn.cipherFault c).respondA r op 8 [c, i] else k s.drawn kx

/-- KEY_SLOT_LOAD (R252, R253). [DEDUCED, log 67, 72] -/
def State.cmdSlotLoad (s : State) (r : CmdRef) (c i addr : Nat) : State :=
  let alg := s.rd8 (addr + 2)
  s.slotCmd r 0x52 c i (!inNear addr (16 + wrapLen alg)) (fun s kx =>
    let b := s.rdBytes addr 16
    match kwpUnwrap kx (s.rdBytes (addr + 16) (wrapLen alg)) with
    | none => s.respondA r 0x52 7 [c, i]
    | some u =>
      if u.take 16 ≠ b ∨ b.getD 0 0 ≠ 1 ∨ b.getD 1 0 ≠ 1 ∨ alg = 0 ∨ 3 < alg ∨ 15 < b.getD 3 0 ∨ u.length ≠ 16 + algLen alg then
        s.respondA r 0x52 0x0A [c, i]
      else
        ((s.wake (ciphPage c)).setKeySlot c i {
          state := 1, alg := alg, usage := bitClear (b.getD 3 0) 2, fixed := leNat (slice b 4 4),
          counter := 0, key := u.drop 16 }).respondA r 0x52 0 [c, i])

/-- 32 bytes from the TRNG. -/
def State.trng (s : State) : State × List Nat :=
  let d := fun i => leBytes 8 (Config.freeValue (s.draws + i)).toNat
  (s.drawn.drawn.drawn.drawn, d 0 ++ d 1 ++ d 2 ++ d 3)

/-- KEY_SLOT_GEN (R252, R253). [DEDUCED, log 67] -/
def State.cmdSlotGen (s : State) (r : CmdRef) (c i alg usage fixed addr : Nat) : State :=
  s.slotCmd r 0x53 c i (alg == 0 || decide (3 < alg) || decide (15 < usage) || decide (2 ^ 32 ≤ fixed) ||
      (bitOf usage 2 && alg == 3) || !inNear addr (16 + wrapLen alg)) (fun s kx =>
    let (s, t) := s.trng
    let key := t.take (algLen alg)
    let s := (s.wake (ciphPage c)).setKeySlot c i { state := 2, alg := alg, usage := usage, fixed := fixed, counter := 0, key := key }
    (s.wrBytes addr (keyBlob kx 1 alg usage fixed key)).respondA r 0x53 0 [c, i])

/-- KEY_SLOT_CLEAR (R251, R262). -/
def State.cmdSlotClear (s : State) (r : CmdRef) (c i : Nat) : State :=
  if r.win ≠ .installer then (s.noRights r.win 0x54).respondA r 0x54 4 [c, i]
  else if 15 < c ∨ 31 < i then s.respondA r 0x54 3 [c, i]
  else if s.bit (Reg.CIPH_ENGINE_STAT c) 31 then s.respondA r 0x54 8 [c, i]
  else (s.setKeySlot c i {}).respondA r 0x54 0 [c, i]

/-- KEY_SLOT_QUERY (R262). -/
def State.cmdSlotQuery (s : State) (r : CmdRef) (c i : Nat) : State :=
  if r.win = .maker then (s.noRights r.win 0x55).respond r 0x55 4 [c, i]
  else if 15 < c ∨ 31 < i then s.respond r 0x55 3 [c, i]
  else if s.bit (Reg.CIPH_ENGINE_STAT c) 31 then s.respond r 0x55 8 [c, i]
  else
    let k := s.keySlot c i
    s.respond r 0x55 0 [c, i, k.state, k.alg, k.usage, k.fixed, k.counter % 2 ^ 32, k.counter / 2 ^ 32]

/-- THYME_KEY (R163, R164, R248): the key of a journal generation as a blob of KIND 2 under KX. -/
def State.cmdThymeKey (s : State) (r : CmdRef) (gen : Nat) : State :=
  if r.win ≠ .installer then (s.noRights r.win 0x46).respondA r 0x46 4 [gen]
  else match s.kx, s.jkey gen with
    | some kx, some k =>
      let b := keyBlob kx 2 1 0 gen (beBytes 16 k)
      s.respondA r 0x46 0 (gen :: (List.range 14).map (fun i => leNat (slice b (4 * i) 4)))
    | _, _ => s.respondA r 0x46 13 [gen]

/-! ### Jobs (R254–R258) -/

/-- A job's fields (R254). -/
structure JobF where
  op : Nat
  slot : Nat
  gen : Bool
  tagLen : Nat
  rq : Nat
  jtag : Nat
  aad : Nat
  len : Nat
  src : Nat
  dst : Nat
  iv : Nat
  prog : Nat
  deriving DecidableEq, Repr

/-- The fields of a job's payload words; missing words read as zero. -/
def jobF (w : List Word) : JobF :=
  let g := fun i => (w.getD i 0).toNat
  { op := g 0 / 2 ^ 28, slot := fieldOf (g 0) 23 5, gen := bitOf (g 0) 22, tagLen := fieldOf (g 0) 16 6, rq := g 0 % 512
    jtag := g 1 / 2 ^ 16, aad := g 1 % 2048, len := g 2 % 2 ^ 17, src := g 3 + 2 ^ 32 * (g 4 % 256)
    dst := g 5 + 2 ^ 32 * (g 6 % 256), iv := g 7 + 2 ^ 32 * g 8 + 2 ^ 64 * g 9 + 2 ^ 96 * g 10
    prog := g 11 + 2 ^ 32 * (g 12 % 256) }

/-- Bytes the source holds. -/
def JobF.srcLen (j : JobF) : Nat := j.aad + j.len + (if j.op = 2 ∨ j.op = 4 then j.tagLen else 0)

/-- Bytes the destination receives. -/
def JobF.outLen (j : JobF) : Nat :=
  match j.op with
  | 0 | 2 => j.len
  | 1 => j.len + j.tagLen
  | 3 => j.tagLen
  | _ => 0

/-- Usage bit that an operation needs (R251). -/
def JobF.need (j : JobF) : Nat :=
  match j.op with
  | 0 | 1 => 0
  | 2 => 1
  | _ => 3

/-- The first failing check of R255, or 0. [DEDUCED, log 68] -/
def State.jobCheck (s : State) (c : Nat) (j : JobF) : Nat :=
  let k := s.keySlot c j.slot
  let tagBad := match j.op with
    | 0 => decide (j.tagLen ≠ 0)
    | 1 | 2 => decide (j.tagLen < 12) || decide (16 < j.tagLen)
    | _ => decide (j.tagLen < 16) || decide (32 < j.tagLen)
  let gcm := j.op == 1 || j.op == 2
  let addrBad := !s.devMapped j.src j.srcLen || !s.devMapped j.dst j.outLen ||
    (j.prog != 0 && (j.prog % 4 != 0 || !s.devMapped j.prog 4))
  let genBad := (j.gen && (j.op != 1 || j.iv != 0 || !bitOf k.usage 2)) || (!j.gen && j.op == 1 && bitOf k.usage 2)
  if decide (4 < j.op) || tagBad || decide (1024 < j.aad) || (j.op == 0 && j.aad != 0) || j.len == 0 ||
      decide (65536 < j.len) || (gcm && decide (2 ^ 96 ≤ j.iv)) || addrBad || genBad ||
      (j.op == 2 && decide (2048 < j.len) && j.prog == 0) then 3
  else if k.state = 0 then 13
  else if !bitOf k.usage j.need ∨ (k.alg = 3 ∧ j.op < 3) ∨ (k.alg ≠ 3 ∧ 2 < j.op) then 4
  else if k.state = 3 ∧ j.op < 2 then 6
  else if s.bit (Reg.CIPH_ENGINE_STAT c) 31 then 8
  else 0

/-- Replace the job in progress. -/
def State.setJob (s : State) (c : Nat) (j : CiphJob) : State :=
  s.setEng c { s.eng c with jobs := (s.eng c).jobs.map (fun k => if k.id = j.id then j else k) }

/-- A GCM_SEAL's IV (R253): the generated one with its slot's counter, or the job's. -/
def JobF.ivOf (j : JobF) (k : KeySlot) : Nat := if j.gen then k.fixed * 2 ^ 64 + k.counter else j.iv

/-- The slot's counter moves on; at 2^64 − 1 the slot locks (R253). [DESIGN CHOICE, log 69] -/
def State.countIv (s : State) (c : Nat) (j : JobF) : State :=
  let k := s.keySlot c j.slot
  if k.counter = 2 ^ 64 - 1 then
    let s := (s.setKeySlot c j.slot { k with state := 3 }).bump (Reg.CIPH_EXH_CNT c)
    ((s.irq (ciphPage c) 1).event (s.rn (Reg.CIPH_EVQ c)) 0xD0 [0xFFFF, j.slot, s.free, c, s.now]).drawn
  else s.setKeySlot c j.slot { k with counter := k.counter + 1 }

/-- The turn of the oldest job that has not ended comes (R239): its checks hold on its slot as it stands then, and the job
takes the slot's key and, with GEN, the next IV; or it will end with the first check that fails. [DESIGN CHOICE, log 69] -/
def State.jobBegin (s : State) (c : Nat) : State :=
  match (s.eng c).running with
  | none => s
  | some x =>
    let j := jobF x.w
    if x.st ≠ 0 ∨ x.key.isSome then s
    else
      let st := s.jobCheck c j
      let s := s.setJob c { x with st := st, key := if st = 0 then some (s.keySlot c j.slot) else none }
      if st = 0 ∧ j.gen then s.countIv c j else s

/-- The engine takes a job from its queue and checks it (R239, R255). [DEDUCED, log 68] -/
def State.jobTake (s : State) (c : Nat) : State :=
  let q := s.fld (Reg.CIPH_CIPH_CFG c) 0 9
  if s.bit (Reg.CIPH_ENGINE_STAT c) 30 ∨ 16 ≤ (s.eng c).jobs.length then s
  else match s.frontItem q with
    | none => s
    | some (hdr, w, _) =>
      let s := s.popItem q
      let st := if hdr.toNat / 2 ^ 24 % 16 ≠ 6 ∨ w.length ≠ 13 then 3 else s.jobCheck c (jobF w)
      let x := s.eng c
      (s.setEng c { x with jobs := x.jobs ++ [{ id := x.taken, w := w, st := st }], taken := x.taken + 1 }).jobBegin c

/-- The result item of a job (R258). -/
def jobResult (j : JobF) (st out iv : Nat) : List Word :=
  [w32 (j.jtag * 2 ^ 16 + j.op * 2 ^ 12 + st), w32 out, w32 iv, w32 (iv / 2 ^ 32), w32 (iv / 2 ^ 64)]

/-- Hand a job's result to the QM, which accepts it once its queue has no host reservation (R225, R258).
[DEDUCED, log 73] -/
def State.offer (s : State) (c : Nat) (x : CiphJob) (r : Nat × Nat × Nat) : State :=
  s.handOver ⟨(jobF x.w).rq, .ciph c x.id, 0xA6000005, jobResult (jobF x.w) r.1 r.2.1 r.2.2⟩

/-- Offer again, at a frame boundary, the results that their queues refused, oldest first (R258). [DEDUCED, log 73] -/
def State.jobResults (s : State) (c : Nat) : State :=
  s.each ((s.eng c).jobs.filter (fun j => j.result.isSome && !j.offered)) (fun s j =>
    match j.result with
    | some r => (s.offer c j r).setJob c { j with offered := true }
    | none => s)

/-- The job in progress ends with a status, bytes kept and IV: its result is offered, and the next job's turn comes (R239,
R258). [DESIGN CHOICE, log 69] -/
def State.jobEnd (s : State) (c : Nat) (x : CiphJob) (st out iv : Nat) : State :=
  let s := s.bump (Reg.CIPH_JOB_CNT c)
  let s := if st = 0 then s else (s.bump (Reg.CIPH_JOB_ERR c)).irq (ciphPage c) 4
  ((s.offer c x (st, out, iv)).setJob c { x with result := some (st, out, iv), offered := true }).jobBegin c

/-- The progress word (R257). -/
def progWord (final : Bool) (st bytes : Nat) : Nat := b2n final * 2 ^ 31 + st * 2 ^ 17 + bytes % 2 ^ 17

/-- A GCM_OPEN of more than 2,048 bytes streams (R257). -/
def JobF.streams (j : JobF) : Bool := j.op == 2 && decide (2048 < j.len)

/-- Bytes a streaming open has released after a free number of further 256-byte chunks. [DESIGN CHOICE, log 70] -/
def State.chunksOn (s : State) (j : JobF) (released : Nat) : Nat :=
  min j.len (released + 256 * (s.free % (ceilDiv (j.len - released) 256 + 1)))

/-- A streaming open ends without success: every released byte becomes zero, then the progress word (R257). How many
256-byte chunks had been released is open unless all had. [DESIGN CHOICE, log 70] -/
def State.streamFail (s : State) (j : JobF) (released st : Nat) (all : Bool) : State :=
  let n := if all then j.len else s.chunksOn j released
  let s := if all then s else s.drawn
  (s.wrDev j.dst (List.replicate n 0)).wrLE j.prog 4 (progWord true st n)

/-- The plaintext of a GCM_OPEN. -/
def State.opened (s : State) (j : JobF) (k : KeySlot) : List Nat :=
  gcmCrypt (if k.alg = 1 then 128 else 256) (beNat k.key) j.iv (s.rdBytes (j.src + j.aad) j.len)

/-- At a frame boundary the streaming open in progress has released a free number of further chunks: their plaintext, and then
the progress word with FINAL = 0 (R257). Work of the classes before it, or a source it cannot read, holds it back.
[DESIGN CHOICE, log 70] -/
def State.streamOn (s : State) (c : Nat) : State :=
  match (s.eng c).running with
  | none => s
  | some x =>
    let j := jobF x.w
    match x.key with
    | none => s
    | some k =>
      if !j.streams ∨ s.cipherDown c ∨ s.inlineWaits c ∨ s.slotWaits c ∨ s.keyWaits c ∨ s.farDown j.src j.srcLen ∨
          s.farDown j.dst j.outLen ∨ s.poisoned j.src j.srcLen then s
      else
        let n := s.chunksOn j x.released
        let s := s.drawn
        if n = x.released then s
        else
          let b := slice (s.opened j k) x.released (n - x.released)
          ((s.wrDev (j.dst + x.released) b).wrLE j.prog 4 (progWord false 0 n)).setJob c { x with released := n }

/-- The engine at a frame boundary: refused results are offered again, and a streaming open goes on (R257, R258). -/
def State.ciphOpen (s : State) (c : Nat) : State := (s.jobResults c).streamOn c

/-- A job whose checks hold runs to its verdict with the key it took (R254–R257); a lost far memory range ends it with TIMEOUT
(R320). -/
def State.jobRun (s : State) (c : Nat) (x : CiphJob) (k : KeySlot) (fault : Bool) : State :=
  let j := jobF x.w
  let kb := if k.alg = 1 then 128 else 256
  let key := beNat k.key
  let aad := s.rdBytes j.src j.aad
  let data := s.rdBytes (j.src + j.aad) j.len
  let tag := s.rdBytes (j.src + j.aad + j.len) j.tagLen
  let down := s.farDown j.src j.srcLen || s.farDown j.dst j.outLen
  if down ∨ s.poisoned j.src j.srcLen ∨ fault then
    let st := if down then 0x0C else if s.poisoned j.src j.srcLen then 0x0E else 8
    let s := if j.streams then s.streamFail j x.released st false else s
    let s := s.jobEnd c x st 0 0
    if st = 8 then s.cipherFault c else s
  else match j.op with
    | 0 => (s.wrDev j.dst (xorBytes data (ctr32 kb key j.iv j.len))).jobEnd c x 0 j.len 0
    | 1 =>
      let iv := j.ivOf k
      let ct := gcmCrypt kb key iv data
      (s.wrDev j.dst (ct ++ gcmTagOf kb key iv aad ct j.tagLen)).jobEnd c x 0 (j.len + j.tagLen) iv
    | 2 =>
      if gcmTagOf kb key j.iv aad data j.tagLen = tag then
        let s := s.wrDev j.dst (s.opened j k)
        let s := if j.streams then s.wrLE j.prog 4 (progWord true 0 j.len) else s
        s.jobEnd c x 0 j.len j.iv
      else (if j.streams then s.streamFail j x.released 7 true else s).jobEnd c x 7 0 j.iv
    | 3 => (s.wrDev j.dst (hmacOf 2 k.key (aad ++ data) j.tagLen)).jobEnd c x 0 j.tagLen 0
    | _ => s.jobEnd c x (if hmacOf 2 k.key (aad ++ data) j.tagLen = tag then 0 else 7) 0 0

/-- The job in progress ends, once no work of an earlier class waits (R238): refused by a check, by a lockout, or run to its
verdict (R255–R260). [DESIGN CHOICE, log 69; DEDUCED, log 208] -/
def State.jobDoneC (s : State) (c : Nat) (fault : Bool) : State :=
  if s.inlineWaits c || s.slotWaits c || s.keyWaits c then s
  else match (s.eng c).running with
  | none => s
  | some x =>
    let j := jobF x.w
    match x.key with
    | none => s.jobEnd c x (if x.st = 0 then 8 else x.st) 0 0
    | some k =>
      if s.bit (Reg.CIPH_ENGINE_STAT c) 31 then
        (if j.streams then s.streamFail j x.released 8 false else s).jobEnd c x 8 0 0
      else s.jobRun c x k fault

/-! ### Reset and rebuild (R240, R261) -/

/-- Every job held without a result ends with FLUSHED, the one in progress with zero fill, and every result not yet offered is
offered for the last time (R261). -/
def State.flushJobs (s : State) (c : Nat) : State :=
  let js := (s.eng c).jobs
  let s := match (s.eng c).running with
    | some x => if x.key.isSome ∧ (jobF x.w).streams then s.streamFail (jobF x.w) x.released 9 false else s
    | none => s
  let s := s.each js (fun s x =>
    match x.result with
    | some r => if x.offered then s else s.offer c x r
    | none => (s.bump (Reg.CIPH_JOB_ERR c)).offer c x (9, 0, 0))
  s.setEng c { s.eng c with jobs := [] }

/-- Steps 1 and 2 of R261: jobs flushed, keys zeroed, the page at its reset values. -/
def State.ciphZero (s : State) (c : Nat) : State :=
  let s := (s.flushJobs c).zeroStore c
  let s := s.setEng c { s.eng c with slots := [], faults := [] }
  (s.headerReset (ciphPage c)).pageReset (ciphPage c) (ciphPage c + 0x1000)

/-- The rebuild of step 3 of R261 begins; CIPH_REBUILT ends it. -/
def State.ciphRebuild (s : State) (c : Nat) : State :=
  (s.setFld (Reg.CIPH_ENGINE_STAT c) 30 1 1).setN (ciphPage c + 0x34) 4

/-- A write of CIPH.RST (R261). -/
def State.ciphRst (s : State) (c : Nat) : State := (s.ciphZero c).ciphRebuild c

/-- Rebuild one direction: the session keys are derived again, or the record becomes EMPTY; counts restored and lost. -/
def State.rebuildKey (p : State × Nat × Nat) (ctx dir : Nat) : State × Nat × Nat :=
  let (s, a, b) := p
  let r := s.srec ctx dir
  if r.state ≠ 1 ∧ r.state ≠ 2 then p
  else
    let kl := suiteBits r.suite / 8
    match kwpUnwrap s.ck (s.rdBytes (srtpAddr ctx dir + 64) (wkeyLen r.suite)) with
    | some u => (s.setSkey ctx dir (some (sessionKeys r.suite (u.take kl) (u.drop kl))), a + 1, b)
    | none => (s.wr8 (srtpAddr ctx dir) 0, a, b + 1)

/-- The rebuild ends (R261). -/
def State.ciphRebuilt (s : State) (c : Nat) : State :=
  if !s.bit (Reg.CIPH_ENGINE_STAT c) 30 then s
  else
    let open_ := (s.jbe.ctxs.filter (fun e => e.2.state == 1 && e.2.srtp.isSome && e.2.home == c)).map Prod.fst
    let (s, a, b) := open_.foldl (fun p ctx => State.rebuildKey (State.rebuildKey p ctx 0) ctx 1) (s, 0, 0)
    let s := (s.setFld (Reg.CIPH_ENGINE_STAT c) 30 1 0).irq (ciphPage c) 5
    (s.event (s.rn (Reg.CIPH_EVQ c)) 0xD3 [c, a, b]).setN (ciphPage c + 0x34) 1

/-! ### Register views -/

/-- KEYS_USED. -/
def State.keysUsed (s : State) (c : Nat) : Nat :=
  ((s.eng c).slots.filter (fun e => e.2.state != 0)).length * 2 ^ 16 + s.storeUsed c

/-- ENGINE_STAT with its counts. -/
def State.engineStat (s : State) (c : Nat) : Nat :=
  s.rn (Reg.CIPH_ENGINE_STAT c) + (s.eng c).jobs.length * 2 ^ 16 + min 255 (s.eng c).rx.length * 256 + min 255 (s.eng c).tx.length

/-- SLOT_ATTR. -/
def State.slotAttr (s : State) (c i : Nat) : Nat :=
  let k := s.keySlot c i
  k.state * 2 ^ 30 + k.alg * 2 ^ 24 + k.usage * 2 ^ 16

/-! ### Meanings -/

/-- SRTP_RX_PACKET (R243). -/
def execSrtpRxPacket (c : Nat) (fault : Bool) (s : State) : Res := .next (s.srtpRx c fault)

/-- SRTP_TX_PACKET (R246). -/
def execSrtpTxPacket (c : Nat) (fault : Bool) (s : State) : Res := .next (s.srtpTx c fault)

/-- CIPH_JOURNAL_SLOT (R163). -/
def execCiphJournalSlot (c : Nat) (fault : Bool) (s : State) : Res := .next (s.journalSlot c fault)

/-- CIPH_JOB_TAKE (R255). -/
def execCiphJobTake (c : Nat) (s : State) : Res := .next (s.jobTake c)

/-- CIPH_JOB_DONE (R258). -/
def execCiphJobDone (c : Nat) (fault : Bool) (s : State) : Res := .next (s.jobDoneC c fault)

/-- KEY_SRTP (R247). -/
def execKeySrtp (r : CmdRef) (ctx dir : Nat) (k : SrtpKey) (fault : Bool) (s : State) : Res :=
  .next (s.keyTurn (s.ctx_ ctx).home (fun s => s.carryOut r 0x50 (·.cmdKeySrtp r ctx dir k fault)))

/-- KEY_SRTP_CLEAR (R247). -/
def execKeySrtpClear (r : CmdRef) (ctx dir : Nat) (s : State) : Res :=
  .next (s.keyTurn (s.ctx_ ctx).home (fun s => s.carryOut r 0x51 (·.cmdKeySrtpClear r ctx dir)))

/-- KEY_SLOT_LOAD (R252). -/
def execKeySlotLoad (r : CmdRef) (c i addr : Nat) (s : State) : Res :=
  .next (s.keyTurn c (fun s => s.carryOut r 0x52 (·.cmdSlotLoad r c i addr)))

/-- KEY_SLOT_GEN (R253). -/
def execKeySlotGen (r : CmdRef) (c i alg usage fixed addr : Nat) (s : State) : Res :=
  .next (s.keyTurn c (fun s => s.carryOut r 0x53 (·.cmdSlotGen r c i alg usage fixed addr)))

/-- KEY_SLOT_CLEAR (R251). -/
def execKeySlotClear (r : CmdRef) (c i : Nat) (s : State) : Res :=
  .next (s.keyTurn c (fun s => s.carryOut r 0x54 (·.cmdSlotClear r c i)))

/-- KEY_SLOT_QUERY (R262). -/
def execKeySlotQuery (r : CmdRef) (c i : Nat) (s : State) : Res := .next (s.carryOut r 0x55 (·.cmdSlotQuery r c i))

/-- SRTP_QUERY (R262). -/
def execSrtpQuery (r : CmdRef) (ctx dir : Nat) (s : State) : Res := .next (s.carryOut r 0x56 (·.cmdSrtpQuery r ctx dir))

/-- CIPH_LOCK_SET (R240). -/
def execCiphLockSet (w : Win) (c : Nat) (s : State) : Res :=
  .next (s.hostGuard w (Reg.CIPH_LOCK c) true (·.setN (Reg.CIPH_LOCK c) 1))

/-- CIPH_RST (R261). -/
def execCiphRst (w : Win) (c : Nat) (s : State) : Res := .next (s.hostGuard w (ciphPage c + 0x30) true (·.ciphRst c))

/-- CIPH_REBUILT (R261). -/
def execCiphRebuilt (c : Nat) (s : State) : Res := .next (s.ciphRebuilt c)

/-- THYME_KEY (R164). -/
def execThymeKey (r : CmdRef) (gen : Nat) (s : State) : Res := .next (s.carryOut r 0x46 (·.cmdThymeKey r gen))

end Sys2Proof.Machine
end

