-- ==== Sys2Proof/Machine/Net.lean ====
section
/-! DEFINITION. The Ethernet MACs and the packet classifier PRE (R264–R287): reception, pause, classification, host rings,
the transmit queues and slot release, transmission, the exact table. -/

namespace Sys2Proof.Machine
open Sys2Proof

/-- The page of a MAC. -/
def macPage (m : Nat) : Nat := 0x90000 + m * 0x1000

/-- The first PRE page. -/
def prePage : Nat := 0x88000

/-- The MAC is UP (R265). -/
def State.macUp (s : State) (m : Nat) : Bool := s.bit (Reg.MAC_MAC_STAT m) 0

/-- The event queue of a MAC's page. -/
def State.macEvq (s : State) (m : Nat) : Nat := s.rn (Reg.MAC_EVQ m)

/-! ### Reception (R266–R268) -/

/-- Fill of the input part, bytes. -/
def Mac.inFill (x : Mac) : Nat := (x.inp.map (fun f => f.bytes.length)).sum

/-- Fill of the host part, bytes. -/
def Mac.hostFill (x : Mac) : Nat := (x.hostq.map (fun f => f.frame.bytes.length)).sum

/-- The pause in force, shown by PAUSED. -/
def State.setPause (s : State) (m : Nat) (q : Option Nat) : State :=
  (s.setMac m { s.mac_ m with pause := q, pauseAt := s.now }).setFld (Reg.MAC_MAC_STAT m) 5 1 (b2n q.isSome)

/-- Whole frames of FTIME that `q` quanta of 512 bit times last at a MAC's speed (R268). [DESIGN CHOICE, log 77] -/
def State.quantaFrames (s : State) (m q : Nat) : Nat :=
  let ps := match s.rn (Reg.MAC_MAC_CFG m) % 4 with
    | 0 => 512000
    | 1 => 51200
    | _ => 20480
  q * ps / 125000000

/-- The pause in force ends, no sooner than its time allows (R268). -/
def State.pauseEnd (s : State) (m : Nat) : State :=
  let x := s.mac_ m
  match x.pause with
  | some q => if x.pauseAt + s.quantaFrames m q ≤ s.now then s.setPause m none else s
  | none => s

/-- A pause frame of time `q` is received with RX_PAUSE_EN = 1 (R268). -/
def State.pauseReceived (s : State) (m q : Nat) : State :=
  if q = 0 then (s.setMac m { s.mac_ m with pauseNext := none }).setPause m none
  else if (s.mac_ m).cur.isNone then s.setPause m (some q)
  else s.setMac m { s.mac_ m with pauseNext := some q }

/-- A frame that passed the checks goes into the input part, or is dropped at the tail (R267). -/
def State.inputPut (s : State) (m : Nat) (f : RxFrame) : State :=
  let x := s.mac_ m
  if x.inFill + f.bytes.length ≤ 256 * 1024 then s.setMac m { x with inp := x.inp ++ [f] }
  else
    let s := (s.add64 (Reg.MAC_RX_FIFO_DROP m) 1).irq (macPage m) 8
    let due := match x.dropAt with
      | some t => decide (t + 8000 ≤ s.now)
      | none => true
    if due then (s.setMac m { x with drops := 0, dropAt := some s.now }).event (s.macEvq m) 0xF2 [m, x.drops + 1, s.now]
    else s.setMac m { x with drops := x.drops + 1 }

/-- A whole frame is received (R266). [DEDUCED, log 75; DESIGN CHOICE, log 77] -/
def State.macRx (s : State) (m : Nat) (f : WireFrame) : State :=
  let n := f.bytes.length
  let fec := s.bit (Reg.MAC_MAC_CFG m) 3 && s.fld (Reg.MAC_MAC_CFG m) 0 2 == 2
  let body := f.bytes.take (n - 4)
  let da := beNat (slice f.bytes 0 6)
  let own := s.rn (Reg.MAC_MAC_ADDR_HI m) % 2 ^ 16 * 2 ^ 32 + s.rn (Reg.MAC_MAC_ADDR_LO m)
  if !s.macUp m then s
  else
    let s := if fec then (s.add64 (Reg.MAC_RX_FEC_CORR m) f.corr).add64 (Reg.MAC_RX_FEC_UNCORR m) f.uncorr else s
    if (fec && f.uncorr != 0) || fcs body != leNat (slice f.bytes (n - 4) 4) then s.add64 (Reg.MAC_RX_FCS_ERR m) 1
    else if n < 64 then s.add64 (Reg.MAC_RX_RUNT m) 1
    else if s.rn (Reg.MAC_MAX_LEN m) < n then s.add64 (Reg.MAC_RX_OVERSIZE m) 1
    else if beNat (slice f.bytes 12 2) = 0x8808 then
      if beNat (slice f.bytes 14 2) = 1 then
        let s := s.add64 (Reg.MAC_RX_PAUSE m) 1
        if s.bit (Reg.MAC_MAC_CFG m) 7 then s.pauseReceived m (beNat (slice f.bytes 16 2)) else s
      else s.add64 (Reg.MAC_RX_CTRL_DROP m) 1
    else if da ≠ own ∧ !bitOf (f.bytes.headD 0) 0 ∧ !s.bit (Reg.MAC_MAC_CFG m) 9 then s.add64 (Reg.MAC_RX_FILTERED m) 1
    else
      let (sec, ns) := s.ptpAt s.now (f.at_ + signed 10 (s.rn (Reg.MAC_TS_RX_ADJ m)))
      let s := (s.add64 (Reg.MAC_RX_FRAMES m) 1).add64 (Reg.MAC_RX_OCTETS m) n
      s.inputPut m ⟨body, s.now, sec, ns⟩

/-! ### Pause generation (R269) -/

/-- Input fill has reached XOFF, or stays at or above XON half a PAUSE_TIME after a pause frame: another pause frame waits to
be sent. [DESIGN CHOICE, log 77] -/
def State.pauseSend (s : State) (m : Nat) : State :=
  let x := s.mac_ m
  let c := Reg.MAC_PAUSE_CFG m
  let lim := if x.xoff then s.fld c 0 8 else s.fld c 8 8
  if s.bit (Reg.MAC_MAC_CFG m) 8 ∧ lim * 1024 ≤ x.inFill ∧
      (!x.xoff ∨ x.xoffAt + s.quantaFrames m (s.fld c 16 16 / 2) ≤ s.now) then
    s.setMac m { x with xoff := true, xoffAt := s.now, pauseOut := x.pauseOut ++ [s.fld c 16 16] }
  else s

/-- Input fill is below XON again: one pause frame of time zero, with TX_PAUSE_EN = 1. [DESIGN CHOICE, log 77] -/
def State.pauseXon (s : State) (m : Nat) : State :=
  let x := s.mac_ m
  if x.xoff ∧ x.inFill < s.fld (Reg.MAC_PAUSE_CFG m) 0 8 * 1024 then
    s.setMac m { x with xoff := false, pauseOut := x.pauseOut ++ if s.bit (Reg.MAC_MAC_CFG m) 8 then [0] else [] }
  else s

/-! ### Parsing (R270) -/

/-- What PRE reads of a frame: EtherType after the tags; family 1 IPv4, 2 IPv6, 3 non-IP; the reasons 5–9 of R276 that hold;
destination; UDP addresses, ports and datagram of a frame whose UDP header PRE reads. -/
structure Parsed where
  etype : Nat
  family : Nat
  reasons : List Nat
  csumBad : Bool
  src : Nat
  dst : Nat
  udp : Option (List Nat)
  deriving DecidableEq, Repr

/-- Offset of the EtherType after at most two tags. -/
def etherAt (b : List Nat) : Nat :=
  let tag := fun o => let t := beNat (slice b o 2); t == 0x8100 || t == 0x88A8
  if !tag 12 then 12 else if !tag 16 then 16 else 20

/-- PRE parses a frame (R270). -/
def parseFrame (b : List Nat) : Parsed :=
  let e := etherAt b
  let et := beNat (slice b e 2)
  let o := e + 2
  let dgram := fun u => (b.drop u).take (beNat (slice b (u + 4) 2))
  if et = 0x0800 then
    let h := 4 * (b.getD o 0 % 16)
    let frag := beNat (slice b (o + 6) 2) % 2 ^ 14 != 0
    let notUdp := b.getD (o + 9) 0 != 17
    let rs := (if h = 20 then [] else [6]) ++ (if frag then [5] else []) ++ (if notUdp then [8] else [])
    { etype := et, family := 1, reasons := rs, csumBad := fold16 (words16 (slice b o h)) != 65535
      src := beNat (slice b (o + 12) 4), dst := beNat (slice b (o + 16) 4)
      udp := if notUdp || frag then none else some (dgram (o + h)) }
  else if et = 0x86DD then
    let notUdp := b.getD (o + 6) 0 != 17
    { etype := et, family := 2, reasons := if notUdp then [7] else [], csumBad := false
      src := beNat (slice b (o + 8) 16), dst := beNat (slice b (o + 24) 16)
      udp := if notUdp then none else some (dgram (o + 40)) }
  else { etype := et, family := 3, reasons := [9], csumBad := false, src := 0, dst := 0, udp := none }

/-- UDP destination port. -/
def udpPort (d : List Nat) : Nat := beNat (slice d 2 2)

/-- A PTP frame (R271). -/
def isPtp (p : Parsed) : Bool :=
  p.etype == 0x88F7 || (match p.udp with
    | some d => udpPort d == 319 || udpPort d == 320
    | none => false)

/-! ### Rings (R275–R278) -/

/-- Descriptors of a ring. -/
def State.ringN (s : State) (cfg : Nat) : Nat := 16 * 2 ^ s.fld cfg 16 4

/-- Device-owned descriptors of a receive ring. -/
def State.rxAvail (s : State) (m r : Nat) : Nat :=
  let n := s.ringN (Reg.MAC_RXR_CFG m r)
  (s.rn (Reg.MAC_RXR_TAIL m r) + n - s.rn (Reg.MAC_RXR_HEAD m r)) % n

/-- Descriptors a frame of `len` bytes needs (R277). -/
def State.rxNeed (s : State) (m r len : Nat) : Nat := ceilDiv len (64 * (s.fld (Reg.MAC_RXR_CFG m r) 0 8 + 1))

/-- The first frame of a list that `n` descriptors do not cover: its need and the descriptors left to it. -/
def uncovered (need : Nat → Nat) : List HostFrame → Nat → Option (Nat × Nat)
  | [], _ => none
  | f :: q, n =>
    let k := need f.frame.bytes.length
    if n < k then some (k, n) else uncovered need q (n - k)

/-- A ring starts or stops having a frame that waits for descriptors; the first posts NET_RING_WAIT (R277). -/
def State.ringWait (s : State) (m r : Nat) : State :=
  let x := s.mac_ m
  match uncovered (s.rxNeed m r) (x.hostq.filter (fun f => f.ring == r)) (s.rxAvail m r) with
  | some (k, n) =>
    if x.waiting.contains r then s
    else ((s.setMac m { x with waiting := r :: x.waiting }).irq (macPage m) 7).event (s.macEvq m) 0xF1 [m, r, k, n]
  | none => s.setMac m { x with waiting := x.waiting.filter (· != r) }

/-- A frame for a host ring (R275, R277): dropped at a disabled ring; none when the host part cannot take it. -/
def State.toRing (s : State) (m : Nat) (h : HostFrame) : Option State :=
  let x := s.mac_ m
  if !s.bit (Reg.MAC_RXR_CFG m h.ring) 31 then some (s.bump (Reg.MAC_RXR_DROP m h.ring))
  else if 128 * 1024 < x.hostFill + h.frame.bytes.length then none
  else some (((s.setMac m { x with hostq := x.hostq ++ [h] }).bump Reg.PRE_RX_HOST).ringWait m h.ring)

/-- Descriptor address. [DEDUCED, log 82] -/
def State.rxDesc (s : State) (m r i : Nat) : Nat :=
  let n := s.ringN (Reg.MAC_RXR_CFG m r)
  s.rn (Reg.MAC_RXR_BASE_LO m r) + 2 ^ 32 * s.rn (Reg.MAC_RXR_BASE_HI m r) + (s.rn (Reg.MAC_RXR_HEAD m r) + i) % n * 32

/-- A waiting frame of a ring is written with its descriptors once there are enough (R276, R277). -/
def State.rxDma (s : State) (m r : Nat) : State :=
  let x := s.mac_ m
  match x.hostq.find? (fun f => f.ring == r) with
  | none => s
  | some h =>
    let len := h.frame.bytes.length
    let k := s.rxNeed m r len
    if s.rxAvail m r < k then s
    else
      let bs := 64 * (s.fld (Reg.MAC_RXR_CFG m r) 0 8 + 1)
      let tsv := isPtp (parseFrame h.frame.bytes) || s.bit (Reg.MAC_TS_CFG m) 0
      let s := s.setMac m { x with hostq := x.hostq.erase h }
      let s := s.each (List.range k) (fun s i =>
        let d := s.rxDesc m r i
        let b := (h.frame.bytes.drop (bs * i)).take bs
        let s := s.wrBytes (s.rdLE d 5) b
        let flags := 1 + 2 * b2n (i == 0) + 4 * b2n (i + 1 == k) + 8 * b2n (i == 0 && tsv)
        let s := (s.wrBytes (d + 5) [0, 0, 0]).wrBytes (d + 8) (leBytes 2 b.length ++ [flags, h.reason] ++ leBytes 2 h.info ++ [0, 0])
        if i = 0 then s.wrBytes (d + 16) (leBytes 6 h.frame.sec ++ [0, 0] ++ leBytes 4 h.frame.ns ++ leBytes 4 h.frame.arrival)
        else s)
      let s := s.setN (Reg.MAC_RXR_HEAD m r) ((s.rn (Reg.MAC_RXR_HEAD m r) + k) % s.ringN (Reg.MAC_RXR_CFG m r))
      (s.irq (macPage m) (1 + r)).ringWait m r

/-- A write of RXR_TAIL (R275). -/
def State.writeRxTail (s : State) (m r : Nat) (v : Word) : State :=
  let t := v.toNat % 4096
  let a := Reg.MAC_RXR_TAIL m r
  if s.ringN (Reg.MAC_RXR_CFG m r) ≤ t then s.cfgErr (macPage m) (some 9) 3 a else (s.setN a t).ringWait m r

/-- A write of TXR_TAIL (R275). [DEDUCED, log 84] -/
def State.writeTxTail (s : State) (m t : Nat) (v : Word) : State :=
  let k := v.toNat % 4096
  let a := Reg.MAC_TXR_TAIL m t
  if s.ringN (Reg.MAC_TXR_CFG m t) ≤ k then s.cfgErr (macPage m) (some 9) 3 a else s.setN a k

/-- Clearing a receive ring's EN (R275). -/
def State.rxRingOff (s : State) (m r : Nat) : State :=
  let x := s.mac_ m
  let k := (x.hostq.filter (fun f => f.ring == r)).length
  let s := s.setMac m { x with hostq := x.hostq.filter (fun f => f.ring != r), waiting := x.waiting.filter (· != r) }
  let s := (s.addN (Reg.MAC_RXR_DROP m r) k).setFld (Reg.MAC_RXR_CFG m r) 31 1 0
  (s.setN (Reg.MAC_RXR_HEAD m r) 0).setN (Reg.MAC_RXR_TAIL m r) 0

/-- A write of RXR_CFG whose fields are in range (R275). -/
def State.writeRxrCfg (s : State) (m r : Nat) (v : Word) : State :=
  let a := Reg.MAC_RXR_CFG m r
  if !s.bit a 31 then s.setReg a (v &&& 0x800F00FF#32)
  else if bitOf v.toNat 31 then s.cfgErr (macPage m) (some 9) 2 a
  else s.rxRingOff m r

/-- A write of TXR_CFG whose fields are in range (R275). [DEDUCED, log 84] -/
def State.writeTxrCfg (s : State) (m t : Nat) (v : Word) : State :=
  let a := Reg.MAC_TXR_CFG m t
  if !s.bit a 31 then s.setReg a (v &&& 0x800F0000#32)
  else if bitOf v.toNat 31 then s.cfgErr (macPage m) (some 9) 2 a
  else ((s.setFld a 31 1 0).setN (Reg.MAC_TXR_HEAD m t) 0).setN (Reg.MAC_TXR_TAIL m t) 0

/-! ### Classification (R270–R274) -/

/-- The UDP checksum is wrong for a MEDIA frame (R270). -/
def Parsed.udpBad (p : Parsed) (d : List Nat) : Bool :=
  let v6 := p.family == 2
  if beNat (slice d 6 2) = 0 then v6 else fold16 (words16 (pseudo v6 p.src p.dst d.length ++ d)) != 65535

/-- Wildcard rule `i` matches (R273); `cls` are the frame's reason classes as CLASS numbers them. [DESIGN CHOICE, log 79] -/
def State.ruleHit (s : State) (m i : Nat) (p : Parsed) (cls : List Nat) : Bool :=
  let c := s.rn (Reg.PRE_RULE_CTL (i / 128) (i % 128))
  let port := s.rn (Reg.PRE_RULE_PORT (i / 128) (i % 128))
  let fam := fieldOf c 26 2
  let cl := fieldOf c 18 4
  let plen := fieldOf c 0 8
  let a0 := s.rn (Reg.PRE_RULE_ADDR0 (i / 128) (i % 128))
  let a := a0 * 2 ^ 96 + s.rn (Reg.PRE_RULE_ADDR1 (i / 128) (i % 128)) * 2 ^ 64 +
    s.rn (Reg.PRE_RULE_ADDR2 (i / 128) (i % 128)) * 2 ^ 32 + s.rn (Reg.PRE_RULE_ADDR3 (i / 128) (i % 128))
  let addrOk := match p.family with
    | 1 => decide (plen ≤ 32) && a0 / 2 ^ (32 - plen) == p.dst / 2 ^ (32 - plen)
    | 2 => a / 2 ^ (128 - plen) == p.dst / 2 ^ (128 - plen)
    | _ => plen == 0
  let portOk := match p.udp with
    | some d => decide (port % 2 ^ 16 ≤ udpPort d) && decide (udpPort d ≤ port / 2 ^ 16)
    | none => port % 2 ^ 16 == 0 && port / 2 ^ 16 == 0xFFFF
  bitOf c 31 && bitOf c (22 + m) && (fam == 0 || fam == p.family) && (cl == 0 || cls.contains cl) && addrOk && portOk

/-- CLASS of a reason of R276. [DEDUCED, log 78] -/
def classOf (reason : Nat) : Nat :=
  match reason with
  | 5 => 2
  | 6 => 3
  | 7 => 4
  | 8 => 5
  | 9 => 6
  | 10 => 7
  | _ => 1

/-- A MEDIA frame's RTP part goes into a pool buffer and on to the home CIPH or the JBE (R274). -/
def State.toMedia (s : State) (m ctx : Nat) (f : RxFrame) (p : Parsed) (d : List Nat) : State :=
  let b := d.drop 8
  if 2048 < b.length then s.bump Reg.PRE_MEDIA_OVERSIZE
  else match s.poolPick with
    | none => (s.bump Reg.PRE_POOL_DROP).irq prePage 0
    | some k =>
      let s := ((s.poolTake k).wrBytes (s.poolAddr k) b).bump Reg.PRE_RX_MATCH
      let x := s.ctx_ ctx
      let sp := beNat (slice d 0 2)
      if x.srtp.isSome ∧ x.codec ≠ 9 then
        s.setEng x.home { s.eng x.home with rx := (s.eng x.home).rx ++ [⟨ctx, k, b.length, f.arrival, p.src, sp, m⟩] }
      else
        let r := rtpPacket ctx k f.arrival p.src sp m b
        let r := if x.codec = 9 then { r with payload := b } else r
        { s with jbe := { s.jbe with inbox := s.jbe.inbox ++ [r] } }

/-- The exact-table entry of a key. -/
def State.entryOf (s : State) (v6 : Bool) (addr port : Nat) : Option NetEntry :=
  s.net.entries.find? (fun e => e.key == some (v6, addr, port))

/-- Rules and defaults (R271 steps 3 and 4). [DESIGN CHOICE, log 80] -/
def State.byRules (s : State) (m : Nat) (f : RxFrame) (p : Parsed) (rs : List Nat) : Option State :=
  let cls := if rs.isEmpty then [1] else rs.map classOf
  match firstFrom (fun i => s.ruleHit m i p cls) 256 0 with
  | some i =>
    let c := s.rn (Reg.PRE_RULE_CTL (i / 128) (i % 128))
    if bitOf c 30 then some (s.bump Reg.PRE_RX_DROP_RULE) else s.toRing m ⟨fieldOf c 28 2, f, 4, i⟩
  | none =>
    if !p.reasons.isEmpty then s.toRing m ⟨s.fld Reg.PRE_PRE_CFG 8 2, f, rs.headD 0, 0⟩
    else if s.bit Reg.PRE_PRE_CFG 15 then some s
    else s.toRing m ⟨s.fld Reg.PRE_PRE_CFG 0 2, f, rs.headD 0, 0⟩

/-- The exact table (R271 step 2, R272). -/
def State.byEntry (s : State) (m : Nat) (f : RxFrame) (p : Parsed) (d : List Nat) (e : NetEntry) : Option State :=
  let rtcp := s.fld Reg.PRE_PRE_CFG 10 2
  match e.act with
  | .media c =>
    if p.udpBad d then some (s.bump Reg.PRE_UDP_CSUM_ERR)
    else if e.mux ∧ 200 ≤ d.getD 9 0 ∧ d.getD 9 0 ≤ 204 then s.toRing m ⟨rtcp, f, 2, c⟩
    else some (s.toMedia m c f p d)
  | .rtcp c => s.toRing m ⟨rtcp, f, 2, c⟩
  | .host r => s.toRing m ⟨r, f, 1, 0⟩
  | .drop => some (s.bump Reg.PRE_RX_DROP_RULE)

/-- What becomes of a frame; none when it stays at the head of the input part (R267, R271). [DEDUCED, log 78] -/
def State.classify (s : State) (m : Nat) (f : RxFrame) : Option State :=
  let p := parseFrame f.bytes
  if p.csumBad then some (s.bump Reg.PRE_IP_CSUM_ERR)
  else
    let ring := s.fld Reg.PRE_PRE_CFG 12 3
    let ptp := isPtp p
    let rs := p.reasons ++ (if bitOf (f.bytes.headD 0) 0 && !ptp then [10] else [])
    if ptp ∧ ring ≠ 4 then s.toRing m ⟨ring, f, 3, 0⟩
    else match p.udp with
      | some d =>
        if rs.isEmpty then
          match s.entryOf (p.family == 2) p.dst (udpPort d) with
          | some e => s.byEntry m f p d e
          | none => s.byRules m f p rs
        else s.byRules m f p rs
      | none => s.byRules m f p rs

/-- PRE classifies the frame at the head of a MAC's input part. -/
def State.preClassify (s : State) (m : Nat) : State :=
  match (s.mac_ m).inp with
  | [] => s
  | f :: _ =>
    match s.classify m f with
    | some t => t.setMac m { t.mac_ m with inp := (t.mac_ m).inp.tail }
    | none => s

/-! ### Transmit queues and slot release (R145, R279, R280) -/

/-- Frames of a context's packet period. -/
def Ctx.period (x : Ctx) : Nat := max 1 (8 * x.txpt)

/-- The slot frame of an item committed in frame `fc` (R279). -/
def Ctx.slotOf (x : Ctx) (fc : Nat) : Nat :=
  let tp := x.period
  fc + (x.txph + tp - x.pkph % tp) % tp - (fc + tp - x.pkph % tp) % tp

/-- PRE takes an item from a cluster's transmit queue into a pool buffer (R279); an item that can never be sent is
discarded, and one that comes after its slot frame is late (R14). [DESIGN CHOICE, log 85] -/
def State.txTake (s : State) (c : Nat) : State :=
  let q := s.fld Reg.PRE_PRE_CFG 16 9 + c
  match s.frontItem q, s.poolPick with
  | some (_, w, _), some k =>
    let fc := s.frontFrame q
    let s := s.popItem q
    let w0 := (w.getD 0 0).toNat
    let ctx := w0 % 2 ^ 13
    let x := s.ctx_ ctx
    let n := (w.getD 2 0).toNat % 2 ^ 16
    if x.state ≠ 1 ∨ !x.net ∨ (x.codec ≠ 9 ∧ fieldOf w0 29 2 = 3) ∨ n = 0 ∨ 480 < n then s.bump Reg.JBE_TX_DROP
    else
      let S := x.slotOf fc
      let it : TxItem := { ctx := ctx, buf := k, marker := bitOf w0 31, ptsel := fieldOf w0 29 2, tsOfs := (w.getD 1 0).toNat
                           payload := slice (wordsToBytes ((w.drop 3).map (·.toNat))) 0 n, slot := S, late := decide (S ≤ fc) || decide (S ≤ s.now) }
      let s := s.poolTake k
      { s with net := { s.net with items := s.net.items ++ [it] } }
  | _, _ => s

/-- Ticks that TX_TS advances in a slot (R145); RTP clock of CLK (R130). -/
def clockOf (clk : Nat) : Nat :=
  match clk with
  | 0 => 8000
  | 1 => 16000
  | 2 => 48000
  | _ => 0

/-- RTP clock of a codec. -/
def State.codecClock (s : State) (k : Nat) : Nat := clockOf (s.fld (Reg.JBE_CODEC_TBL k) 28 2)

/-- Advance of TX_TS in a slot. -/
def State.txInc (s : State) (x : Ctx) : Nat := x.txpt * s.codecClock x.codec / 1000

/-- The template with the latched destination (R146). [DEDUCED, log 86] -/
def Ctx.sendTo (x : Ctx) (t : Template) : Template :=
  match x.cur with
  | some p =>
    if x.latch % 4 = 0 then t
    else { t with dstAddr := p.addr, dstPort := p.port, mac := if bitOf x.latch 2 then p.mac else t.mac }
  | none => t

/-- The template region of a context's state (R127): the template as the host gave it, TX_TS and the next sequence number.
[DESIGN CHOICE, log 87] -/
def State.showTx (s : State) (c : Nat) : State :=
  let x := s.ctx_ c
  let b := match x.template with
    | none => []
    | some t => [t.mac, b2n t.v6, t.dscp, t.ttl] ++ leBytes 6 t.dstMac ++ leBytes 6 t.srcMac ++ leBytes 16 t.srcAddr ++
        leBytes 16 t.dstAddr ++ leBytes 4 t.flow ++ leBytes 2 t.srcPort ++ leBytes 2 t.dstPort ++
        leBytes 4 (t.ssrc.getD x.txSsrc) ++ [t.tags.length] ++ t.tags.flatMap (leBytes 2)
  s.writeRecord 2 (c * 0x10000 + 0x100) 128 (leBytes 4 x.txTs ++ leBytes 2 x.txSeq ++ b)

/-- Release one item in frame `n` (R279, R280). The third end packet of an event that the host sends posts
CTX_TX_EVENT_DONE (R140). [DESIGN CHOICE, log 66, 85; DEDUCED, log 136] -/
def State.release1 (s : State) (n : Nat) (it : TxItem) : State :=
  let s := s.poolFree it.buf
  let s := { s with net := { s.net with items := s.net.items.erase it } }
  let x := s.ctx_ it.ctx
  match x.template with
  | none => s.bump Reg.JBE_TX_DROP
  | some t0 =>
    if x.state ≠ 1 then s.bump Reg.JBE_TX_DROP
    else
      let t := x.sendTo t0
      let s := if it.late then s.bump (Reg.PRE_LATE_TX t.mac) else s
      let s := (s.bump Reg.PRE_TX_PKTS).bump (Reg.PRE_REL_TX t.mac)
      if x.codec = 9 then s.voicePut t it.slot it.payload
      else
        let ts := (x.txTs + 2 ^ 32 * (n + 1) - s.txInc x * ceilDiv (n - it.slot) x.period + it.tsOfs) % 2 ^ 32
        let pt := match it.ptsel with
          | 0 => x.vpt
          | 1 => x.evPt
          | _ => x.cnPt
        let rtp := rtpHeader it.marker pt x.txSeq ts (t.ssrc.getD x.txSsrc) ++ it.payload
        let last := x.sending.any (fun v => it.ptsel == 1 && it.payload.getD 0 0 == v.1 && bitOf (it.payload.getD 1 0) 7)
        let done := last && x.sentEnds == 2
        let s := if done then s.event x.evq 0x89 [it.ctx, it.payload.getD 0 0] else s
        let s := s.setCtx it.ctx { x with
          sending := if done then none else x.sending
          sentEnds := if done then 0 else x.sentEnds + b2n last
          txSeq := (x.txSeq + 1) % 2 ^ 16
          cnt := { x.cnt with txPkts := x.cnt.txPkts + 1, txOctets := x.cnt.txOctets + it.payload.length
                              lastTs := ts, lastTime := n } }
        let s := s.showTx it.ctx
        if x.srtp.isSome then
          s.setEng x.home { s.eng x.home with tx := (s.eng x.home).tx ++ [⟨it.ctx, t, it.slot, rtp⟩] }
        else s.voicePut t it.slot rtp

/-- At frame `n` PRE releases, in commit order, what has reached its slot or is late, then advances TX_TS of the contexts
whose slot it is (R145, R279). -/
def State.txSlots (s : State) (n : Nat) : State :=
  let step := fun (p : State × List Nat) (it : TxItem) =>
    if p.2.contains it.ctx then p
    else if it.late ∨ it.slot ≤ n then (p.1.release1 n it, p.2)
    else (p.1, it.ctx :: p.2)
  let s := (s.net.items.foldl step (s, [])).1
  s.each (s.jbe.ctxs.filter (fun e => e.2.state == 1 && n % e.2.period == e.2.txph % e.2.period)) (fun s e =>
    let x := s.ctx_ e.1
    (s.setCtx e.1 { x with txTs := (x.txTs + s.txInc x) % 2 ^ 32 }).showTx e.1)

/-! ### Transmission (R281–R284) -/

/-- Voice frames that can no longer start in time are dropped (R281). -/
def State.dropStale (s : State) (m : Nat) : State :=
  let x := s.mac_ m
  let live := fun (v : VoiceFrame) => decide (s.now < v.slot + s.rn (Reg.MAC_STALE_LIM m))
  let k := (x.voice.filter (fun v => !live v)).length
  (s.setMac m { x with voice := x.voice.filter live }).add64 (Reg.MAC_TX_STALE m) k

/-- Descriptor address of a transmit ring. [DEDUCED, log 83] -/
def State.txDesc (s : State) (m t i : Nat) : Nat :=
  let n := s.ringN (Reg.MAC_TXR_CFG m t)
  s.rn (Reg.MAC_TXR_BASE_LO m t) + 2 ^ 32 * s.rn (Reg.MAC_TXR_BASE_HI m t) + (s.rn (Reg.MAC_TXR_HEAD m t) + i) % n * 32

/-- Device-owned descriptors of a transmit ring. -/
def State.txAvail (s : State) (m t : Nat) : Nat :=
  let n := s.ringN (Reg.MAC_TXR_CFG m t)
  (s.rn (Reg.MAC_TXR_TAIL m t) + n - s.rn (Reg.MAC_TXR_HEAD m t)) % n

/-- Descriptors of the next frame of a transmit ring: up to its EOP, or 8 without one; none when its EOP is not yet
device-owned (R278). [DEDUCED, log 83] -/
def State.txChain (s : State) (m t : Nat) : Option (Nat × Bool) :=
  let n := min 8 (s.txAvail m t)
  match (List.range n).find? (fun i => bitOf (s.rd8 (s.txDesc m t i + 8)) 1) with
  | some i => some (i + 1, true)
  | none => if n = 8 then some (8, false) else none

/-- Return `n` transmit descriptors with a status (R278). -/
def State.txReturn (s : State) (m t n st : Nat) (ts : Bool) (sec ns tft : Nat) : State :=
  let s := s.each (List.range n) (fun s i =>
    let eop := i + 1 == n && ts
    s.wrBytes (s.txDesc m t i + 12) ([st, 1 + 2 * b2n eop, 0, 0] ++ leBytes 6 (if eop then sec else 0) ++ [0, 0] ++
      leBytes 4 (if eop then ns else 0) ++ leBytes 4 tft))
  (s.setN (Reg.MAC_TXR_HEAD m t) ((s.rn (Reg.MAC_TXR_HEAD m t) + n) % s.ringN (Reg.MAC_TXR_CFG m t))).irq (macPage m) (5 + t)

/-- Fill the IPv4 header and UDP checksums of a host frame (R278). -/
def fillCsum (b : List Nat) : List Nat :=
  let p := parseFrame b
  let o := etherAt b + 2
  let h := if p.family = 2 then 40 else 4 * (b.getD o 0 % 16)
  let b := if p.family = 1 then
      let z := patch b (o + 10) [0, 0]
      patch z (o + 10) (beBytes 2 (csum (slice z o h)))
    else b
  match p.udp with
  | some d => patch b (o + h + 6) (beBytes 2 (udpCsum (p.family == 2) p.src p.dst (patch d 6 [0, 0])))
  | none => b

/-- One-step Sync (R284): the frame with originTimestamp written and its checksum mended; none for any other frame. -/
def oneStep (b : List Nat) (sec ns : Nat) : Option (List Nat) :=
  let p := parseFrame b
  let o := etherAt b + 2
  let stamp := beBytes 6 sec ++ beBytes 4 ns
  if p.etype = 0x88F7 then
    if b.getD o 0 % 16 = 0 then some (patch b (o + 34) stamp) else none
  else match p.udp with
    | some d =>
      let u := o + (if p.family = 2 then 40 else 4 * (b.getD o 0 % 16))
      if (udpPort d = 319 ∨ udpPort d = 320) ∧ b.getD (u + 8) 0 % 16 = 0 then
        if p.family = 1 then some (patch (patch b (u + 8 + 34) stamp) (u + 6) [0, 0])
        else
          let d := patch (patch d (8 + 34) stamp) (d.length - 2) [0, 0]
          let v := csum (pseudo true p.src p.dst d.length ++ d)
          let last := if d.length % 2 = 0 then [v / 256, v % 256] else [v % 256, v / 256]
          some (patch b u (patch d (d.length - 2) last))
      else none
    | none => none

/-- The MAC takes the next frame of a transmit ring (R278, R282, R284). -/
def State.txRing (s : State) (m t n : Nat) (whole : Bool) (at_ : Int) : State :=
  let bytes := (List.range n).flatMap (fun i => s.rdBytes (s.rdLE (s.txDesc m t i) 5) (s.rdLE (s.txDesc m t i + 6) 2))
  let ctl := fun k => (List.range n).any (fun i => bitOf (s.rd8 (s.txDesc m t i + 8)) k)
  let (sec, ns) := s.ptpAt s.now (at_ + signed 10 (s.rn (Reg.MAC_TS_TX_ADJ m)))
  let bytes := if ctl 2 then fillCsum bytes else bytes
  let sent := if ctl 4 then oneStep bytes sec ns else some bytes
  match sent with
  | none => s.txReturn m t n 3 false 0 0 s.now
  | some b =>
    if !whole ∨ b.length < 60 ∨ 9596 < b.length ∨ s.rn (Reg.MAC_MAX_LEN m) < b.length + 4 then s.txReturn m t n 3 false 0 0 s.now
    else if !s.macUp m then (s.txReturn m t n 13 false 0 0 s.now).add64 (Reg.MAC_TX_LINKDOWN m) 1
    else s.setMac m { s.mac_ m with cur := some (.ring t n (ctl 3) sec ns s.now b) }

/-- The MAC starts its next frame (R281): pause, voice, ring 1, ring 0; none while a pause is in force (R268). While not UP
it discards the frame it would have sent (R282). [PRESUMED, log 76] -/
def State.macTx (s : State) (m : Nat) (at_ : Int) : State :=
  let s := s.dropStale m
  let x := s.mac_ m
  let up := s.macUp m
  if x.cur.isSome ∨ (up ∧ x.pause.isSome) then s
  else match x.pauseOut, x.voice with
    | q :: r, _ =>
      let s := s.setMac m { x with pauseOut := r, cur := if up then some (.pause q) else none }
      s.add64 (if up then Reg.MAC_TX_PAUSE m else Reg.MAC_TX_LINKDOWN m) 1
    | [], v :: r =>
      let s := s.setMac m { x with voice := r, cur := if up then some (.voice v.bytes) else none }
      if up then s else s.add64 (Reg.MAC_TX_LINKDOWN m) 1
    | [], [] =>
      let ready := fun t => if s.bit (Reg.MAC_TXR_CFG m t) 31 then s.txChain m t else none
      match ready 1, ready 0 with
      | some (n, e), _ => s.txRing m 1 n e at_
      | none, some (n, e) => s.txRing m 0 n e at_
      | none, none => s

/-- The frame in progress ends (R268, R278): ring descriptors return, and a received pause takes effect. -/
def State.macTxDone (s : State) (m : Nat) : State :=
  let x := s.mac_ m
  let count := fun (s : State) n => (s.add64 (Reg.MAC_TX_FRAMES m) 1).add64 (Reg.MAC_TX_OCTETS m) (n + 4)
  match x.cur with
  | none => s
  | some c =>
    let s := s.setMac m { x with cur := none }
    let s := match c with
      | .pause _ => s
      | .voice b => count s b.length
      | .ring t n ts sec ns tft b => count (s.txReturn m t n 0 ts sec ns tft) b.length
    match (s.mac_ m).pauseNext with
    | some q => (s.setMac m { s.mac_ m with pauseNext := none }).setPause m (some q)
    | none => s

/-! ### Links, table and resets -/

/-- A MAC's link goes up or leaves UP (R265, R287). [DESIGN CHOICE, log 88] -/
def State.netLink (s : State) (m : Nat) (up : Bool) (fault : Nat) : State :=
  let cfg := s.rn (Reg.MAC_MAC_CFG m)
  let fec := bitOf cfg 3 && cfg % 4 == 2
  if up = s.macUp m ∨ (up ∧ !s.bit (macPage m + 8) 0) then s
  else
    let st := if up then 1 + 2 + 4 * b2n fec + 64 * b2n (bitOf cfg 4 && cfg % 4 == 0)
      else (if fault = 3 then 0 else 2 + 4 * b2n fec) + 8 * b2n (fault == 1) + 16 * b2n (fault == 2)
    let paused := s.fld (Reg.MAC_MAC_STAT m) 5 1
    let s := (s.setN (Reg.MAC_MAC_STAT m) (st + 32 * paused)).irq (macPage m) 0
    s.event (s.macEvq m) 0xF0 [m, b2n up, cfg % 4, b2n fec, fault, s.now]

/-- Entries in use (R272). -/
def State.exactUsed (s : State) : Nat := s.net.entries.length

/-- Free pool buffers. -/
def State.poolLeft (s : State) : Nat := s.rn Reg.PRE_POOL_CNT - s.net.pool.length

/-- Add an entry. -/
def State.entryPut (s : State) (e : NetEntry) : State :=
  { s with net := { s.net with entries := s.net.entries ++ [e] } }

/-- NET_ENTRY_ADD (R272, R286). [DESIGN CHOICE, log 216] -/
def State.cmdEntryAdd (s : State) (r : CmdRef) (f : EntryFields) : State :=
  let bad := decide (2 ^ (if f.v6 then 128 else 32) ≤ f.addr) || decide (65535 < f.port) || f.ring.any (fun k => decide (3 < k)) ||
    (s.entryOf f.v6 f.addr f.port).isSome
  if 32768 ≤ s.exactUsed then s.respond r 0x70 1 [noObject]
  else if bad then s.respond r 0x70 3 [noObject]
  else
    let act := match f.ring with
      | some k => EntryAct.host k
      | none => .drop
    (s.entryPut { key := some (f.v6, f.addr, f.port), act := act }).respond r 0x70 0 [noObject]

/-- An entry belongs to a context. -/
def NetEntry.ofCtx (e : NetEntry) : Bool :=
  match e.act with
  | .media _ | .rtcp _ => true
  | _ => false

/-- NET_ENTRY_DEL (R286). -/
def State.cmdEntryDel (s : State) (r : CmdRef) (v6 : Bool) (addr port : Nat) : State :=
  match s.entryOf v6 addr port with
  | none => s.respond r 0x71 13 [noObject]
  | some e =>
    if e.ofCtx then s.respond r 0x71 3 [noObject]
    else ({ s with net := { s.net with entries := s.net.entries.erase e } }).respond r 0x71 0 [noObject]

/-- NET_QUERY (R286). -/
def State.cmdNetQuery (s : State) (r : CmdRef) : State :=
  let k := (s.net.entries.filter NetEntry.ofCtx).length
  s.respond r 0x72 0 [noObject, s.exactUsed, k, s.exactUsed - k, s.poolLeft]

/-- CTX_OPEN with NET = 1 takes two entries that match nothing (R272). -/
def State.entriesTake (s : State) (c : Nat) : State :=
  { s with net := { s.net with entries := s.net.entries ++ [{ key := none, act := .media c }, { key := none, act := .rtcp c }] } }

/-- The close order removes a context's entries (R272). -/
def State.entriesDrop (s : State) (c : Nat) : State :=
  { s with net := { s.net with entries := s.net.entries.filter (fun e => e.act != .media c && e.act != .rtcp c) } }

/-- Whether keys that CTX_SET_TEMPLATE would give are held by another entry (R272). -/
def State.keysTaken (s : State) (c : Nat) (v6 : Bool) (addr port : Nat) (mux : Bool) : Bool :=
  let held := fun p => s.net.entries.any (fun e =>
    e.key == some (v6, addr, p) && e.act != .media c && e.act != .rtcp c)
  held port || (!mux && held (port + 1))

/-- CTX_SET_TEMPLATE gives a context's entries their keys (R272). -/
def State.entriesKey (s : State) (c : Nat) (v6 : Bool) (addr port : Nat) (mux : Bool) : State :=
  { s with net := { s.net with entries := s.net.entries.map (fun e =>
      if e.act = .media c then { e with key := some (v6, addr, port), mux := mux }
      else if e.act = .rtcp c then { e with key := if mux then none else some (v6, addr, port + 1) }
      else e) } }

/-- A write of MAC.RST (R287). -/
def State.macRst (s : State) (m : Nat) : State :=
  let up := s.macUp m
  let cfg := s.rn (Reg.MAC_MAC_CFG m)
  let q := s.macEvq m
  let s := s.setMac m {}
  let s := (s.headerReset (macPage m)).pageReset (macPage m) (macPage m + 0x1000)
  if up then s.event q 0xF0 [m, 0, cfg % 4, b2n (bitOf cfg 3 && cfg % 4 == 2), 0, s.now] else s

/-- A write of PRE.RST (R287). -/
def State.preRst (s : State) : State :=
  if s.anyCtx then s.rstRefused prePage 2
  else
    let s := (s.headerReset prePage).pageReset prePage 0x8C000
    { s with net := { s.net with entries := [], pool := [], items := [] } }

/-- FIFO_STAT. -/
def State.fifoStat (s : State) (m : Nat) : Nat := (s.mac_ m).hostFill / 1024 * 2 ^ 16 + (s.mac_ m).inFill / 1024

/-! ### Meanings -/

/-- MAC_RX_FRAME (R266). [DESIGN CHOICE, log 88] -/
def execMacRxFrame (m : Nat) (f : WireFrame) (s : State) : Res := .next (s.macRx m f)

/-- PAUSE_EXPIRE (R268). -/
def execPauseExpire (m : Nat) (s : State) : Res := .next (s.pauseEnd m)

/-- PAUSE_SEND (R269). -/
def execPauseSend (m : Nat) (s : State) : Res := .next (s.pauseSend m)

/-- PAUSE_XON (R269). -/
def execPauseXon (m : Nat) (s : State) : Res := .next (s.pauseXon m)

/-- PRE_CLASSIFY (R271). -/
def execPreClassify (m : Nat) (s : State) : Res := .next (s.preClassify m)

/-- RX_RING_DMA (R277). -/
def execRxRingDma (m r : Nat) (s : State) : Res := .next (s.rxDma m r)

/-- RXR_TAIL_WRITE (R275). -/
def execRxrTailWrite (w : Win) (m r : Nat) (v : Word) (s : State) : Res :=
  .next (s.hostGuard w (Reg.MAC_RXR_TAIL m r) true (·.writeRxTail m r v))

/-- TXR_TAIL_WRITE (R275). -/
def execTxrTailWrite (w : Win) (m t : Nat) (v : Word) (s : State) : Res :=
  .next (s.hostGuard w (Reg.MAC_TXR_TAIL m t) true (·.writeTxTail m t v))

/-- RX_RING_DISABLE (R275). -/
def execRxRingDisable (w : Win) (m r : Nat) (s : State) : Res :=
  .next (s.hostGuard w (Reg.MAC_RXR_CFG m r) true (·.rxRingOff m r))

/-- MAC_TX_START (R281). -/
def execMacTxStart (m : Nat) (at_ : Int) (s : State) : Res := .next (s.macTx m at_)

/-- MAC_TX_DONE (R278). -/
def execMacTxDone (m : Nat) (s : State) : Res := .next (s.macTxDone m)

/-- TX_STALE (R281). -/
def execTxStale (m : Nat) (s : State) : Res := .next (s.dropStale m)

/-- NET_LINK (R265). [DESIGN CHOICE, log 5] -/
def execNetLink (m : Nat) (up : Bool) (fault : Nat) (s : State) : Res := .next (s.netLink m up fault)

/-- NET_ENTRY_ADD (R286). -/
def execNetEntryAdd (r : CmdRef) (f : EntryFields) (s : State) : Res := .next (s.carryOut r 0x70 (·.cmdEntryAdd r f))

/-- NET_ENTRY_DEL (R286). -/
def execNetEntryDel (r : CmdRef) (v6 : Bool) (addr port : Nat) (s : State) : Res := .next (s.carryOut r 0x71 (·.cmdEntryDel r v6 addr port))

/-- NET_QUERY (R286). -/
def execNetQuery (r : CmdRef) (s : State) : Res := .next (s.carryOut r 0x72 (·.cmdNetQuery r))

/-- MAC_RST (R287). -/
def execMacRst (w : Win) (m : Nat) (s : State) : Res := .next (s.hostGuard w (macPage m + 0x30) true (·.macRst m))

/-- PRE_RST (R287). -/
def execPreRst (w : Win) (s : State) : Res := .next (s.hostGuard w (prePage + 0x30) true (·.preRst))

/-- PRE_TX_TAKE (R279). -/
def execPreTxTake (c : Nat) (s : State) : Res := .next (s.txTake c)

end Sys2Proof.Machine
end

