-- ==== Sys2Proof/Machine/Fix.lean ====
section
/-! DEFINITION. Figures that the spec defines as exact quantities and leaves the rounding of to the device: quotients, means,
decibels, attenuations, sines and cosines. What is open is only whether an inexact value rounds up. -/

namespace Sys2Proof.Machine
open Sys2Proof

/-- `n / d` as the device rounds it: exact where it divides, else the integer below or above. [DESIGN CHOICE, log 39, 40] -/
def quot (site : Nat) (n : Int) (d : Nat) : Int :=
  if d = 0 then 0 else n / (d : Int) + (if n % (d : Int) = 0 then 0 else b2n (Config.roundUp site n d))

/-- The same of naturals. -/
def quotN (site n d : Nat) : Nat := (quot site n d).toNat

/-- The largest `m` below `2 ^ k + base` that `p` holds of, from `base` up, where `p` holds of a first stretch. -/
def bitSearch (p : Nat → Bool) : Nat → Nat → Nat
  | 0, base => base
  | k + 1, base => if p (base + 2 ^ k) then bitSearch p k (base + 2 ^ k) else bitSearch p k base

/-- 20·log10 of `n / d`, rounded down: the greatest `k` from -400 on with 10 ^ k ≤ (n / d) ^ 20. -/
def log20Floor (n d : Nat) : Int :=
  let a := n ^ 20
  let b := d ^ 20
  (bitSearch (fun j => if j < 400 then decide (b ≤ a * 10 ^ (400 - j)) else decide (b * 10 ^ (j - 400) ≤ a)) 10 0 : Nat) - (400 : Int)

/-- A power of ten equals the 20th power of the ratio, so that its half decibels are a whole number. -/
def log20Exact (n d : Nat) : Bool :=
  let k := log20Floor n d
  if k < 0 then n ^ 20 * 10 ^ k.natAbs == d ^ 20 else n ^ 20 == d ^ 20 * 10 ^ k.toNat

/-- 10·log10 of a power ratio in half decibels, as the device rounds it, within `lo` to `hi`; a zero power gives the end of
the range that it tends to. [DESIGN CHOICE, log 40] -/
def halfDb (site : Nat) (lo hi : Int) (n d : Nat) : Int :=
  if n = 0 then lo else if d = 0 then hi
  else satTo lo hi (log20Floor n d + (if log20Exact n d then 0 else b2n (Config.roundUp site n d)))

/-- `x` attenuated by `db` decibels, as the device rounds its magnitude. [DESIGN CHOICE, log 40] -/
def attenuated (site db : Nat) (x : Int) : Int :=
  let a := x.natAbs
  let m := bitSearch (fun m => decide (m ^ 20 * 10 ^ db ≤ a ^ 20)) 32 0
  let m := if m ^ 20 * 10 ^ db = a ^ 20 then m else m + b2n (Config.roundUp site x db)
  if x < 0 then -(m : Int) else m

/-- One step of an exponential average with shift `sh`, as the device rounds it (R82, R93, R118). -/
def expStep (site sh : Nat) (old new : Int) : Int := old + quot site (new - old) (2 ^ sh)

/-- The same of powers. [DESIGN CHOICE, log 40] -/
def expAvg (site sh old new : Nat) : Nat := (expStep site sh old new).toNat

/-- The square root of `n / d`, as the device rounds it. [DESIGN CHOICE, log 40] -/
def rootN (site n d : Nat) : Nat :=
  let m := bitSearch (fun m => decide (m ^ 2 * d ≤ n)) 32 0
  if m ^ 2 * d = n then m else m + b2n (Config.roundUp site n d)

/-- `n / d` with a mantissa of `bits` bits, as the device rounds it: the mantissa and the power of two that divides it, for a
value below 2 ^ bits. [DESIGN CHOICE, log 40] -/
def mantissa (site bits : Nat) (n : Int) (d : Nat) : Int × Nat :=
  if n = 0 ∨ d = 0 then (0, 0)
  else
    let k := bitSearch (fun k => decide (n.natAbs * 2 ^ k < d * 2 ^ bits)) 7 0
    (quot site (n * 2 ^ k) d, k)

/-- 2π in units of 2 ^ -60. -/
def twoPi : Int := 7244019458077122842

/-- cos of an angle in units of 2 ^ -60, by its series. -/
def cosSeries (x2 : Int) : Nat → Nat → Int → Int
  | 0, _, t => t
  | n + 1, k, t => t + cosSeries x2 n (k + 2) (-(t * x2 / 2 ^ 60) / (((k + 1) * (k + 2) : Nat) : Int))

/-- cos(2π × num / den) in units of 2 ^ -40, to the nearest. [DESIGN CHOICE, log 39] -/
def cosTurn (num den : Nat) : Int :=
  let m := num % den
  let q := if den < 2 * m then den - m else m
  let r := if den < 4 * q then den - 2 * q else 2 * q
  let x := twoPi * (r : Int) / ((2 * den : Nat) : Int)
  let c := cosSeries (x * x / 2 ^ 60) 16 0 (2 ^ 60)
  let u := (c + 2 ^ 19) / 2 ^ 20
  if den < 4 * q then -u else u

/-- sin(2π × num / den): the cosine a quarter turn back. -/
def sinTurn (num den : Nat) : Int := cosTurn (4 * (num % den) + 3 * den) (4 * den)

end Sys2Proof.Machine
end

