-- ==== Sys2Proof/Machine/Ldc.lean ====
section
/-! DEFINITION. The line decimation chain (R58–R78): the three filter stages, filter sets and cross-fades, sync resets, line
blocks, measurement. -/

namespace Sys2Proof.Machine
open Sys2Proof

/-- The LDC page of bank `b`. -/
def ldcPage (b : Nat) : Nat := 0x20000 + b * 0x1000

/-! ### Filter sets (R63, R64, R72) -/

/-- S3MODE: 0 FIR; 1 moving average; 2 bypass. -/
def s3mode (cfg : Nat) : Nat := fieldOf cfg 28 2

/-- R1 of a set: 8 or 16. -/
def setR1 (cfg : Nat) : Nat := if bitOf cfg 25 then 16 else 8

/-- Modulator samples per output (R65). -/
def setD (cfg : Nat) : Nat :=
  if s3mode cfg = 2 then setR1 cfg * 2
  else setR1 cfg * 2 * (if bitOf cfg 26 then 8 else 4) * (if bitOf cfg 27 then 2 else 1)

/-- Whether a SET_CFG value is one of the forms of R64. -/
def setValid (cfg : Nat) : Bool :=
  match s3mode cfg, bitOf cfg 27, bitOf cfg 25, bitOf cfg 26 with
  | 0, false, r, d => !(r && d)
  | 1, false, r, d => !(r && d)
  | 1, true, true, true => true
  | 2, _, r, _ => !r
  | _, _, _, _ => false

/-- A voice set: 8 kHz or 16 kHz output. -/
def voiceSet (cfg : Nat) : Bool := setRate cfg == 8000 || setRate cfg == 16000

/-- Key of a coefficient: bank of lines, set, coefficient bank, index. -/
def coefKey (b st k i : Nat) : Nat := ((8 * b + st) * 2 + k) * 256 + i

/-- Taps of a symmetric preset: NBF, NBQ and WBF (R63). -/
def symTaps (st : Nat) : Option Nat :=
  match st with
  | 0 => some 48
  | 1 => some 144
  | 2 => some 80
  | _ => none

/-- What a coefficient reads as after a reset: ROM for the presets, symmetric where R63 says so, zero for the user sets.
[DESIGN CHOICE, log 38] -/
def coefReset (key : Nat) : Nat :=
  let st := key / 512 % 8
  let i := key % 256
  let i := match symTaps st with
    | some n => if i < n then min i (n - 1 - i) else i
    | none => i
  if st < 6 then (Config.presetCoef st i).toNat else 0

/-- The 20-bit code of a coefficient. [DESIGN CHOICE, log 38] -/
def State.coef (s : State) (b st k i : Nat) : Nat := Tab.get coefReset s.ldc.coefs (coefKey b st k i)

/-- Some enabled line of bank `b` uses set `st`, by LINE_CFG as last written. -/
def State.setUsed (s : State) (b st : Nat) : Bool :=
  (List.range 128).any (fun i => s.bit (Reg.LDC_LINE_CFG b i) 31 && s.fld (Reg.LDC_LINE_CFG b i) 24 3 == st)

/-! ### The three stages (R58–R62) -/

/-- Stage 1 integrators: four sums modulo 2^24. -/
def integStep (x : Int) (l : List Nat) : List Nat :=
  (l.foldl (fun (acc : Nat × List Nat) i =>
    let v := (i + acc.1) % 2 ^ 24
    (v, acc.2 ++ [v])) (unsigned 24 x, [])).2

/-- Stage 1 combs: four differences modulo 2^24; the output and the new memories. -/
def combStep (x : Nat) (l : List Nat) : Nat × List Nat :=
  l.foldl (fun (acc : Nat × List Nat) p => ((acc.1 + 2 ^ 24 - p) % 2 ^ 24, acc.2 ++ [acc.1])) (x, [])

/-- Half-band coefficient at tap `j` (R60). -/
def hbTap (j : Nat) : Int :=
  if j = 15 then 0x10000
  else
    let o := if j < 15 then 15 - j else j - 15
    if o % 2 = 1 then (Config.hbCoef (o / 2)).toInt else 0

/-- Stage 2: the 31-tap sum, rounded to 24 bits, and whether it saturated (R60). -/
def stage2 (x : List Int) : Int × Bool :=
  let acc := (List.range 31).foldl (fun a j => a + hbTap j * x.getD j 0) 0
  let y := sra (acc + 2 ^ 16) 17
  let m : Int := 2 ^ 23 - 1
  (satTo (-m) m y, decide (y < -m ∨ m < y))

/-- The FIR sum with coefficient bank `k` (R61). -/
def State.firSum (s : State) (b st k ntap : Nat) (x : List Int) : Int :=
  (List.range ntap).foldl (fun a i => a + signed 20 (s.coef b st k i) * x.getD i 0) 0

/-- Saturation to 16 bits, and whether it changed the value. -/
def sat16 (x : Int) : Int × Bool := (satTo (-32768) 32767 x, decide (x < -32768 ∨ 32767 < x))

/-- An output of stage 3: its value, whether it saturated and whether it came from a cross-fade. `m` is the fade output of
the set, if a fade runs (R61, R62, R73). -/
def State.stage3 (s : State) (b st cfg : Nat) (fade : Option (Nat × Nat)) (x : List Int) : Int × Bool × Bool :=
  let gsh := s.fld (Reg.LDC_SET_CTRL b st) 8 4
  match s3mode cfg with
  | 0 =>
    let ntap := fieldOf cfg 0 8 + 1
    let act := s.fld (Reg.LDC_SET_STAT b st) 0 1
    let old := s.firSum b st act ntap x
    let acc := match fade with
      | some (m, k) =>
        let new := s.firSum b st (1 - act) ntap x
        if 2 ^ k ≤ m then new else old + sra ((new - old) * m) k
      | none => old
    let p := sat16 (sra (acc + 2 ^ (25 - gsh)) (26 - gsh))
    (p.1, p.2, fade.isSome)
  | 1 =>
    let n := fieldOf cfg 8 10 + 1
    let sum := (x.take n).foldl (· + ·) 0
    let m := sra (sum * s.fld (Reg.LDC_SET_MAR b st) 0 25 + 2 ^ 23) 24
    if voiceSet cfg then
      let p := sat16 (sra (m * 2 ^ gsh + 64) 7)
      (p.1, p.2, false)
    else (m, false, false)
  | _ => (x.headD 0, false, false)

/-- One output of a line: value and marks. -/
structure LdcOut where
  value : Int
  unset : Bool
  sat : Bool
  fade : Bool
  deriving DecidableEq, Repr

/-- What a line delivers in a frame. -/
structure LineOut where
  line : Nat
  outs : List LdcOut
  /-- The frame carries the link-fault mark (R71). -/
  fault : Bool
  deriving DecidableEq, Repr

/-- The running totals of a line's frame. -/
structure Acc where
  x : LdcLine
  outs : List LdcOut
  fault : Bool
  sats : Nat

/-- One modulator sample of a line (R58–R66). A stage-2 saturation between outputs marks the next output (R77).
[DEDUCED, log 205] -/
def State.decSample (s : State) (b st cfg gd phase : Nat) (fade : Option (Nat × Nat)) (a : Acc)
    (lvl : Option Int) : Acc :=
  let x := a.x
  let dl := lvl :: x.delay
  let cur := dl.getD phase (some 0)
  let integ := integStep (cur.getD 0) x.integ
  let x := { x with delay := dl.take 127, integ := integ }
  let fault := a.fault || cur.isNone
  let n := x.cnt
  let r1 := setR1 cfg
  let x' := { x with cnt := n + 1 }
  if n % r1 ≠ 0 then { a with x := x', fault := fault }
  else
    let c := combStep (integ.getD 3 0) x.comb
    let y1 := signed 24 c.1 * (if r1 = 16 then 16 else 256)
    let st2 := (y1 :: x.st2).take 31
    let x' := { x' with comb := c.2, st2 := st2 }
    if n % (2 * r1) ≠ 0 then { a with x := x', fault := fault }
    else
      let y2 := stage2 st2
      let st3 := (y2.1 :: x.st3).take 1024
      let x' := { x' with st3 := st3 }
      let sats := a.sats + b2n y2.2
      let hot := x.sat2 || y2.2
      if n % setD cfg ≠ 0 then { a with x := { x' with sat2 := hot }, fault := fault, sats := sats }
      else
        let f := fade.map (fun p => (p.1 + 1 + a.outs.length, p.2))
        let o := s.stage3 b st cfg f st3
        let unset := if st = 5 then x.full && decide (n < 2 * setD cfg) else decide (n < gd)
        { x := { x' with sat2 := false }, fault := fault, sats := sats + b2n o.2.1
          outs := a.outs ++ [⟨o.1, unset, o.2.1 || hot, o.2.2⟩] }

/-! ### Resets of a line (R67, R68) -/

/-- All filter state of a line cleared. -/
def LdcLine.cleared (x : LdcLine) (full : Bool) : LdcLine :=
  { x with delay := [], integ := [0, 0, 0, 0], comb := [0, 0, 0, 0], st2 := [], st3 := [], cnt := 0, full := full
           sat2 := false }

/-- A synchronising reset (R67): on LTB only the output instants move. -/
def LdcLine.synced (x : LdcLine) : LdcLine :=
  if fieldOf x.cfg 24 3 = 5 then { x with cnt := 0, full := false } else x.cleared false

/-- A reset took effect in the block in progress: its SYNC flag (R70). -/
def LdcLine.markSync (x : LdcLine) : LdcLine :=
  { x with blk := x.blk.map (fun b => { b with flags := bitSet b.flags 7 }) }

/-! ### Line blocks (R9, R69, R70) -/

/-- Core address of block entry of bank line `i` for the block that starts at frame `t`. -/
def State.blkAddr (s : State) (i t bph : Nat) : Nat :=
  0x100000 + s.rn (Reg.LDC_LB_BASE (i / 128)) + i % 128 * 0x300 + (t - bph) / 40 % 4 * 0xC0

/-- The device address of the same entry. -/
def State.blkDev (s : State) (i t bph : Nat) : Nat := sramBase (i / 128) + (s.blkAddr i t bph - 0x100000)

/-- The context a line is bound to. -/
def State.ctxOfLine (s : State) (i : Nat) : Option Nat :=
  (s.jbe.ctxs.find? (fun e => e.2.line == some i && e.2.state == 1)).map Prod.fst

/-- FLAGS of a block entry (R70). -/
def Blk.flagByte (b : Blk) : Nat :=
  let f := if b.fault ≠ 0 then bitSet b.flags 4 else b.flags
  if b.unset ≠ 0 then bitSet f 3 else f

/-- Complete the block of line `i` that ends as frame `n` opens, and post LINE_BLOCK while the line is bound (R9). -/
def State.completeBlock (s : State) (n i : Nat) (x : LdcLine) (b : Blk) : State :=
  let bph := fieldOf x.cfg 16 6
  let a := s.blkDev i b.t bph
  let s := s.wrBytes a (leBytes 4 b.t ++ [b.flagByte, b.nsamp, fieldOf x.cfg 24 3, 0] ++ leBytes 12 b.unset ++
    leBytes 8 b.fault ++ leBytes 4 0)
  match s.bound i, s.ctxOfLine i with
  | true, some c => s.post ⟨1, c, n % 2 ^ 32, b.flagByte * 2 ^ 24 + (b.t - bph) / 40 % 4 * 2 ^ 8 + i % 128,
      s.blkAddr i b.t bph⟩ (.boundary (n + 40))
  | _, _ => s

/-- A block of line `i` begins; frames of it that have passed hold zero samples with their unsettled marks (R69). No block
covers frames before the first one, which starts at FTIME BPH. [DESIGN CHOICE, log 204] -/
def State.beginBlock (s : State) (n i : Nat) (cfg wide : Nat) : State × Option Blk :=
  let bph := fieldOf cfg 16 6
  let past := (n + 40 - bph % 40) % 40
  let t := n - past
  let per := wide
  if n < past then (s, none) else
  let b : Blk := { t := t, nsamp := 40 * per, flags := if past = 0 then 0 else 0x80
                   unset := 2 ^ (past * per) - 1 }
  (s.wrBytes (s.blkDev i t bph + 32) (List.replicate (2 * per * past) 0), some b)

/-! ### Measurement (R75, R76) -/

/-- Measurements running in bank `b`, shown in MEAS_STAT. -/
def State.measCount (s : State) (b : Nat) : Nat :=
  (s.ldc.lines.filter (fun e => e.1 / 128 == b && e.2.meas.isSome)).length

/-- MEAS_STAT follows the measurements. -/
def State.showMeas (s : State) (b : Nat) : State := s.setN (Reg.LDC_MEAS_STAT b) (s.measCount b)

/-- A mean rounded half up. -/
def meanHalfUp (sum : Int) (n : Nat) : Int := (2 * sum + n) / (2 * (n : Int))

/-- The end of a measurement (R76): its statistics and its event. [DESIGN CHOICE, log 39] -/
def State.endMeas (s : State) (i : Nat) (st : Nat) : State :=
  let x := s.dec_ i
  match x.meas with
  | none => s
  | some m =>
    let vals := m.vals.map Prod.snd
    let nv := vals.length
    let st := if st = stOk ∧ nv = 0 then 0x0A else st
    let stat : List Nat := if nv = 0 then [0, 0, 0, 0, 0, 0, 0] else
      let sum := vals.foldl (· + ·) 0
      let sq := vals.foldl (fun a v => a + v * v) 0
      let msq := unsigned 64 (meanHalfUp sq nv)
      let turn := fun (f : Nat → Nat → Int) =>
        unsigned 32 (quot 1 (m.vals.foldl (fun a v => a + v.2 * f (m.freq * v.1) (10 * m.rate)) 0) (nv * 2 ^ 40))
      [unsigned 32 (meanHalfUp sum nv), unsigned 32 (vals.foldl min (vals.headD 0)),
       unsigned 32 (vals.foldl max (vals.headD 0)), msq % 2 ^ 32, msq / 2 ^ 32,
       turn cosTurn, turn (fun a b => -sinTurn a b)]
    ((s.setDec i { x with meas := none }).event (s.rn (Reg.LINK_EVQ (i / 128))) 0xE9
      ([i, st, (m.first.getD 0) % 2 ^ 32, nv, m.skip] ++ stat)).showMeas (i / 128)

/-- The outputs of a frame go into the line's measurement (R75). -/
def State.feedMeas (s : State) (n i : Nat) (outs : List LdcOut) (fault : Bool) : State :=
  s.each outs (fun s o =>
    let x := s.dec_ i
    match x.meas with
    | none => s
    | some m =>
      if n < m.start ∨ m.len ≤ m.count then s
      else
        let s := if m.dest = 0 then s else s.wrLE (m.dest + 4 * m.count) 4 (unsigned 32 o.value)
        let skip := o.unset || fault
        s.setDec i { x with meas := some { m with
          first := some (m.first.getD n), count := m.count + 1
          skip := m.skip + b2n skip
          vals := if skip then m.vals else (m.count, o.value) :: m.vals } })

/-! ### The frame of the LDC (R10, R65–R73) -/

/-- Link mask of the sync triggers in force at frame `n` for bank `b`, from LDC_SYNC and from TIME (R34, R35). -/
def State.syncMask (s : State) (n b : Nat) : Nat :=
  let own := s.ldc.trig.foldl (fun m t => if t.1 = b ∧ t.2.1 ≤ n then m ||| t.2.2 else m) 0
  let time := (s.time.trig ++ s.time.armed.toList).any (fun t => decide (t.1 ≤ n) && bitOf t.2 b)
  if time then 0xFF else own

/-- A sync takes effect at frame `n`: TIME and the LDCs record it, and the triggers are done (R35). Answers the link mask
of each bank. [DESIGN CHOICE, log 194] -/
def State.takeSync (s : State) (n : Nat) : State × List Nat :=
  let masks := (List.range 16).map (fun b => s.syncMask n b)
  let isTime := (s.time.trig ++ s.time.armed.toList).any (fun t => decide (t.1 ≤ n))
  let armedDue := s.time.armed.any (fun t => decide (t.1 ≤ n))
  let s := if isTime then (s.setN Reg.TIME_SYNC_LAST n).irq 0x8000 4 else s
  let s := if armedDue then
      (({ s with time := { s.time with armed := none } }).setFld Reg.TIME_SYNC_STAT 0 1 0).setFld Reg.TIME_SYNC_CTRL 18 1 0
    else s
  let left := s.time.trig.filter (fun t => decide (n < t.1))
  let s := { s with time := { s.time with trig := left }
                    ldc := { s.ldc with trig := s.ldc.trig.filter (fun t => decide (n < t.2.1)) } }
  let s := if left.isEmpty then s.setFld Reg.TIME_SYNC_STAT 1 1 0 else s
  (s.each ((List.range 16).zip masks) (fun s p =>
    if p.2 = 0 then s else (s.setN (Reg.LDC_SYNC_LAST p.1) n).irq (ldcPage p.1) 0), masks)

/-- Line `i` as frame `n` opens: its block boundary, what LINE_CFG changed (R68), synchronising resets (R67). -/
def State.lineOpen (s : State) (n i : Nat) (masks : List Nat) : State :=
  let b := i / 128
  let x := s.dec_ i
  let new := bitClear (s.rn (lineCfg i)) 30
  let old := x.cfg
  let st := fieldOf new 24 3
  let wide := if setRate (s.rn (Reg.LDC_SET_CFG b st)) = 16000 then 2 else 1
  let voice := voiceSet (s.rn (Reg.LDC_SET_CFG b st))
  if !bitOf new 31 then
    if bitOf old 31 then (s.endMeas i stNotReady).setDec i {} else s
  else
    let atB := decide (n % 40 = fieldOf new 16 6)
    let synced := bitOf (masks.getD b 0) (i / 16 % 8)
    if !bitOf old 31 then
      let x : LdcLine := { cfg := new, meas := x.meas }
      if voice then
        let p := s.beginBlock n i new wide
        p.1.setDec i ({ x with blk := p.2 } |>.markSync)
      else s.setDec i x
    else
      let setCh := decide (fieldOf old 24 3 ≠ st)
      let clr := setCh || decide (fieldOf old 8 7 ≠ fieldOf new 8 7)
      let bphCh := decide (fieldOf old 16 6 ≠ fieldOf new 16 6)
      let s := match x.blk with
        | some k => if k.t + 40 ≤ n then s.completeBlock n i x k else s
        | none => s
      let s := if clr then s.endMeas i stNotReady else s
      let x := { s.dec_ i with cfg := new }
      let keep : Bool := match x.blk with
        | some k => voice && decide (n < k.t + 40) && !bphCh &&
            !(setCh && decide (k.nsamp ≠ 40 * wide))
        | none => false
      let p : State × Option Blk :=
        if voice && atB && !keep then s.beginBlock n i new wide else (s, x.blk.filter (fun _ => keep))
      let x := { x with blk := p.2 }
      let full := clr || s.ldc.rst.contains b
      let x := if full then (x.cleared true).markSync else if synced then x.synced.markSync else x
      p.1.setDec i x

/-- Decimate the frame of line `i` (R10). -/
def State.decimate (s : State) (n i : Nat) : State × Option LineOut :=
  let x := s.dec_ i
  if !bitOf x.cfg 31 then (s, none)
  else
    let b := i / 128
    let st := fieldOf x.cfg 24 3
    let cfg := s.rn (Reg.LDC_SET_CFG b st)
    let gd := s.fld (Reg.LDC_SET_GD b st) 0 15
    let a := (s.levels i).foldl (s.decSample b st cfg gd (fieldOf x.cfg 8 7) (s.set_ (8 * b + st)).fade)
      ⟨x, [], false, 0⟩
    let mark := a.fault || decide (0 < x.tail)
    let tail := if a.fault then ceilDiv gd 128 else x.tail - 1
    let s := s.setDec i { a.x with tail := tail }
    let s := if a.sats = 0 then s else (s.addN (Reg.LDC_SAT_CNT b) a.sats).irq (ldcPage b) 3
    let s := s.feedMeas n i a.outs mark
    (s, some ⟨i, a.outs, mark⟩)

/-- Store a line's samples of frame `n` in its block, with their marks (R70). -/
def State.storeSamples (s : State) (n : Nat) (o : LineOut) : State :=
  let x := s.dec_ o.line
  match x.blk with
  | none => s
  | some k =>
    let per := k.nsamp / 40
    let at_ := (n - k.t) * per
    let outs := o.outs.take per
    let s := s.wrBytes (s.blkDev o.line k.t (fieldOf x.cfg 16 6) + 32 + 2 * at_)
      (outs.flatMap (fun p => leBytes 2 (unsigned 16 p.value)))
    let unset := (outs.zip (List.range per)).foldl (fun m p => if p.1.unset then m ||| 2 ^ (at_ + p.2) else m) k.unset
    let flags := if outs.any (·.fade) then bitSet k.flags 6 else k.flags
    let flags := if outs.any (·.sat) then bitSet flags 5 else flags
    s.setDec o.line { x with blk := some { k with
      unset := unset, flags := flags, fault := if o.fault then k.fault ||| 2 ^ (n - k.t) else k.fault } }

/-- The filter sets as a frame opens: requested fades start, and a pending swap whose turn has come (R73, R74). -/
def State.setsOpen (s : State) : State :=
  s.each (Tab.keys s.ldc.sets) (fun s k =>
    let x := s.set_ k
    if x.starting || x.owed then
      let stat := Reg.LDC_SET_STAT (k / 8) (k % 8)
      let s := if x.owed then s.setFld stat 2 1 0 else s
      (s.setSet k { fade := some (0, s.fld (Reg.LDC_SET_CTRL (k / 8) (k % 8)) 0 3) }).setFld stat 1 1 1
    else s)

/-- The fades have moved on by the frame's outputs, whether or not a line uses the set (R73). -/
def State.setsDone (s : State) : State :=
  s.each (Tab.keys s.ldc.sets) (fun s k =>
    match (s.set_ k).fade with
    | some (m, e) =>
      let per := if setRate (s.rn (Reg.LDC_SET_CFG (k / 8) (k % 8))) = 16000 then 2 else 1
      s.setSet k { s.set_ k with fade := some (min (m + per) (2 ^ e), e) }
    | none => s)

/-- The lines the LDC visits in a frame: those running and those written since the last. -/
def State.ldcLines (s : State) : List Nat := (sortBy (fun a b => decide (a ≤ b)) (Tab.keys s.ldc.lines ++ s.ldc.dirty)).dedup

/-- The LDCs as frame `n` opens, and the outputs of every running line (R10, R35, R65–R73, R78). -/
def State.ldcOpen (s : State) (n : Nat) : State × List LineOut :=
  let p := s.takeSync n
  let s := p.1.setsOpen
  let lines := s.ldcLines
  let s := s.each lines (fun s i => s.lineOpen n i p.2)
  let s := s.each s.ldc.rst (fun s b => s.setN (ldcPage b + 0x34) 1)
  let s := { s with ldc := { s.ldc with rst := [], dirty := [] } }
  let r := lines.foldl (fun (acc : State × List LineOut) i =>
    let q := acc.1.decimate n i
    (q.1, acc.2 ++ q.2.toList)) (s, [])
  (r.1.setsDone, r.2)

/-! ### Register writes of the LDC page -/

/-- A refused write of the LDC page. -/
def State.ldcErr (s : State) (b st a : Nat) : State := s.cfgErr (ldcPage b) (some 4) st a

/-- The status a write of LINE_CFG is refused with, 0 when it is accepted (R68, R377: the lowest of several). -/
def State.lineCfgStatus (s : State) (i new : Nat) : Nat :=
  let old := s.rn (lineCfg i)
  let b := i / 128
  let bnd := s.bound i
  let setOf := fun v => s.rn (Reg.LDC_SET_CFG b (fieldOf v 24 3))
  let setCh := decide (fieldOf old 24 3 ≠ fieldOf new 24 3)
  let bphCh := decide (fieldOf old 16 6 ≠ fieldOf new 16 6)
  if bnd && (bitOf old 31 && !bitOf new 31 || bphCh ||
      (setCh && !(voiceSet (setOf new) && setRate (setOf new) == setRate (setOf old)))) then stBusy
  else if 40 ≤ fieldOf new 16 6 then stBad else stOk

/-- A write of LINE_CFG (R68). [DESIGN CHOICE, log 36] -/
def State.writeLineCfg (s : State) (i : Nat) (v : Word) : State :=
  let new := (v &&& 0x873F7F00#32).toNat
  let st := s.lineCfgStatus i new
  if st ≠ stOk then s.ldcErr (i / 128) st (lineCfg i)
  else
    let s := if bitOf new 31 then (s.wake (0x60000 + i / 128 * 0x1000)).wake (ldcPage (i / 128)) else s
    let s := s.setN (lineCfg i) (putField new 30 1 (b2n (s.bound i)))
    { s with ldc := { s.ldc with dirty := s.ldc.dirty ++ [i] } }

/-- A write of SET_CFG, SET_GD or SET_MAR (R64): presets and sets in use refuse it. [DEDUCED, log 35, 37] -/
def State.writeSet (s : State) (b st off : Nat) (v : Word) : State :=
  let a := Reg.LDC_SET_CFG b st + off
  if st < 6 then (if off = 0x10 then s else s.ldcErr b stBad a)
  else if off = 0 then
    if s.setUsed b st || !setValid (v &&& 0x3E03FFFF#32).toNat then s.ldcErr b stBad a
    else s.setReg a (v &&& 0x3E03FFFF#32)
  else if off = 4 then
    if s.setUsed b st then s.ldcErr b stBad a else s.setReg a (v &&& 0xFF7FFF#32)
  else s.setReg a (v &&& 0x1FFFFFF#32)

/-- A swap request of a set (R73, R74). -/
def State.swapRequest (s : State) (b st : Nat) : State :=
  let x := s.set_ (8 * b + st)
  let stat := Reg.LDC_SET_STAT b st
  if s3mode (s.rn (Reg.LDC_SET_CFG b st)) ≠ 0 then s.ldcErr b stBad (Reg.LDC_SET_CTRL b st)
  else if s.bit stat 2 then
    ((s.setFld stat 3 1 1).irq (ldcPage b) 2).err (ldcPage b) 0x10 (Reg.LDC_SET_CTRL 0 st - 0x20000) (Reg.LDC_SET_CTRL b st)
  else if x.fade.isSome || x.starting then s.setFld stat 2 1 1
  else s.setSet (8 * b + st) { x with starting := true }

/-- A write of SET_CTRL (R73). -/
def State.writeSetCtrl (s : State) (b st : Nat) (v : Word) : State :=
  let s := s.setReg (Reg.LDC_SET_CTRL b st) (v &&& 0xF07#32)
  if bitOf v.toNat 16 then s.swapRequest b st else s

/-- INDEX of COEF_SEL moves on when AUTOINC = 1, from 255 to 0 (R72). -/
def State.coefNext (s : State) (b : Nat) : State :=
  let a := Reg.LDC_COEF_SEL b
  if s.bit a 24 then s.setFld a 0 8 (s.fld a 0 8 + 1) else s

/-- A write of COEF_DATA (R72). -/
def State.writeCoef (s : State) (b : Nat) (v : Word) : State :=
  let a := Reg.LDC_COEF_SEL b
  let st := s.fld a 8 3
  let k := s.fld a 11 1
  let i := s.fld a 0 8
  let x := s.set_ (8 * b + st)
  let stat := Reg.LDC_SET_STAT b st
  if (s.setUsed b st && decide (s.fld stat 0 1 = k)) || x.fade.isSome || x.starting || s.bit stat 2 ||
      decide (s.fld (Reg.LDC_SET_CFG b st) 0 8 < i) then s.ldcErr b stBusy (Reg.LDC_COEF_DATA b)
  else
    { s with ldc := { s.ldc with
        coefs := Tab.put coefReset s.ldc.coefs (coefKey b st k i) (v.toNat % 2 ^ 20) } }.coefNext b

/-- A read of COEF_DATA (R72). -/
def State.readCoef (s : State) (b : Nat) : State :=
  let a := Reg.LDC_COEF_SEL b
  { s with rdata := w32 (s.coef b (s.fld a 8 3) (s.fld a 11 1) (s.fld a 0 8)) }.coefNext b

/-- A write of LDC_SYNC: a trigger for the next frame (R34). -/
def State.ldcSync (s : State) (b mask : Nat) : State :=
  { s with ldc := { s.ldc with trig := s.ldc.trig ++ [(b, s.now + 1, mask)] } }

/-- The LDC reset of bank `b` (R78). It completes at the first frame that begins after it. -/
def State.ldcRst (s : State) (b : Nat) : State :=
  let bnd := (List.range 128).filter (fun i => s.bound (128 * b + i))
  let used := bnd.map (fun i => s.fld (Reg.LDC_LINE_CFG b i) 24 3)
  let s := s.each ((List.range 128).map (128 * b + ·)) (fun s i => s.endMeas i stNotReady)
  let keepRegs := bnd.map (Reg.LDC_LINE_CFG b ·) ++ used.flatMap (fun t => [Reg.LDC_SET_CFG b t, Reg.LDC_SET_GD b t])
  let active := (List.range 8).map (fun t => s.fld (Reg.LDC_SET_STAT b t) 0 1)
  let s := (s.headerReset (ldcPage b)).setN (ldcPage b + 0x34) 4
  let s := s.resetRegs (fun a => decide (ldcPage b + 0x100 ≤ a ∧ a < ldcPage (b + 1)) && !keepRegs.contains a)
  let s := s.each ((List.range 8).zip active) (fun s p => s.setN (Reg.LDC_SET_STAT b p.1) p.2)
  { s with ldc := { s.ldc with
      sets := Tab.drop (fun k => k / 8 == b) s.ldc.sets
      coefs := Tab.drop (fun k => k / 4096 == b && !used.contains (k / 512 % 8)) s.ldc.coefs
      rst := s.ldc.rst ++ [b]
      dirty := s.ldc.dirty ++ (List.range 128).map (128 * b + ·) } }

/-! ### Meanings -/

/-- LINE_ENABLE (R68). -/
def execLineEnable (w : Win) (i : Nat) (v : Word) (s : State) : Res :=
  .next (s.hostGuard w (lineCfg i) true (fun s => s.writeLineCfg i (v ||| 0x80000000#32)))

/-- LINE_DISABLE (R68). -/
def execLineDisable (w : Win) (i : Nat) (s : State) : Res :=
  .next (s.hostGuard w (lineCfg i) true (fun s => s.writeLineCfg i (s.reg (lineCfg i) &&& 0x7FFFFFFF#32)))

/-- LINE_SET_CHANGE (R68). -/
def execLineSetChange (w : Win) (i st : Nat) (s : State) : Res :=
  .next (s.hostGuard w (lineCfg i) true (fun s => s.writeLineCfg i (w32 (putField (s.rn (lineCfg i)) 24 3 st))))

/-- LINE_PHASE_WRITE (R68). -/
def execLinePhaseWrite (w : Win) (i phase : Nat) (s : State) : Res :=
  .next (s.hostGuard w (lineCfg i) true (fun s => s.writeLineCfg i (w32 (putField (s.rn (lineCfg i)) 8 7 phase))))

/-- LINE_BPH_WRITE (R68). -/
def execLineBphWrite (w : Win) (i bph : Nat) (s : State) : Res :=
  .next (s.hostGuard w (lineCfg i) true (fun s => s.writeLineCfg i (w32 (putField (s.rn (lineCfg i)) 16 6 bph))))

/-- LDC_LINK_SYNC (R34). -/
def execLdcLinkSync (w : Win) (b mask : Nat) (s : State) : Res :=
  .next (s.hostGuard w (Reg.LDC_LDC_SYNC b) true (·.ldcSync b (mask % 256)))

/-- LDC_BANK_SYNC (R34). -/
def execLdcBankSync (w : Win) (b : Nat) (s : State) : Res :=
  .next (s.hostGuard w (Reg.LDC_LDC_SYNC b) true (·.ldcSync b 0xFF))

/-- SWAP_REQUEST (R73). -/
def execSwapRequest (w : Win) (b st : Nat) (v : Word) (s : State) : Res :=
  .next (s.hostGuard w (Reg.LDC_SET_CTRL b st) true (fun s => s.writeSetCtrl b st (v ||| 0x10000#32)))

/-- FADE_END (R73, R74): the active bank changes; a pending swap stays pending and starts at the next frame boundary.
[DESIGN CHOICE, log 4] -/
def execFadeEnd (b st : Nat) (s : State) : Res :=
  let stat := Reg.LDC_SET_STAT b st
  .next (match (s.set_ (8 * b + st)).fade with
    | some (m, k) =>
      if m < 2 ^ k then s
      else
        let s := s.setFld stat 0 2 (1 - s.fld stat 0 1)
        (s.setSet (8 * b + st) { owed := s.bit stat 2 }).irq (ldcPage b) 1
    | none => s)

/-- COEF_DATA_WRITE (R72). -/
def execCoefDataWrite (w : Win) (b : Nat) (v : Word) (s : State) : Res :=
  .next (s.hostGuard w (Reg.LDC_COEF_DATA b) true (·.writeCoef b v))

/-- COEF_DATA_READ (R72). -/
def execCoefDataRead (w : Win) (b : Nat) (s : State) : Res :=
  .next (s.hostGuard w (Reg.LDC_COEF_DATA b) false (·.readCoef b))

/-- The status of LINE_MEAS (R75), refusals in the order listed. [DEDUCED, log 34] -/
def State.lineMeasStatus (s : State) (i len freq dest : Nat) : Nat :=
  if 2047 < i then stBad
  else if !s.bit (lineCfg i) 31 then stNotReady
  else if (s.dec_ i).meas.isSome then stBusy
  else if 16 ≤ s.measCount (i / 128) then stFull
  else if len = 0 ∨ 65536 < len ∨ setRate (s.lineSetCfg i) * 5 ≤ freq ∨
      (dest ≠ 0 ∧ (dest % 8 ≠ 0 ∨ !inNear dest (4 * len))) then stBad
  else stOk

/-- LINE_MEAS (R75). -/
def State.cmdLineMeas (s : State) (r : CmdRef) (i start len freq dest : Nat) : State :=
  let st := s.lineMeasStatus i len freq dest
  let s := if st ≠ stOk then s
    else
      let next := s.now + 1
      let ahead := (start + 2 ^ 32 - next % 2 ^ 32) % 2 ^ 32
      let at_ := if start = 0 ∨ 2 ^ 31 ≤ ahead then next else next + ahead
      let m : Meas := { start := at_, len := len, freq := freq, dest := dest, rate := setRate (s.lineSetCfg i) }
      (s.setDec i { s.dec_ i with meas := some m }).showMeas (i / 128)
  (s.respond r 0x64 st [i])

/-- LINE_MEAS (R75). -/
def execLineMeas (r : CmdRef) (i start len freq dest : Nat) (s : State) : Res :=
  .next (s.carryOut r 0x64 (·.cmdLineMeas r i start len freq dest))

/-- LINE_MEAS_DONE (R76). -/
def execLineMeasDone (i : Nat) (s : State) : Res :=
  .next (match (s.dec_ i).meas with
    | some m => if m.len ≤ m.count then s.endMeas i stOk else s
    | none => s)

/-- LDC_RST (R78). -/
def execLdcRst (w : Win) (b : Nat) (s : State) : Res :=
  .next (s.hostGuard w (ldcPage b + 0x30) true (·.ldcRst b))

end Sys2Proof.Machine
end

