-- ==== Sys2Proof/Machine/Tone.lean ====
section
/-! DEFINITION. How Sage measures the tones of a window (R111–R117): the least-squares fit of sinusoids, the frequency that fits
best, bands and levels, the AM of ANSam, phase reversals and the FSK discriminator. -/

namespace Sys2Proof.Machine
open Sys2Proof

/-! ### Fits -/

/-- The inner product. -/
def dotI (a b : List Int) : Int := (a.zip b).foldl (fun s p => s + p.1 * p.2) 0

/-- `b` less its projections on the vectors of an orthogonal family. -/
def perp (vs : List (List Int)) (b : List Int) : List Int :=
  vs.foldl (fun b v =>
    let d := dotI v v
    if d = 0 then b
    else
      let c := dotI b v
      (b.zip v).map (fun p => p.1 - c * p.2 / d)) b

/-- An orthogonal family with the same span. -/
def orthogonal (bs : List (List Int)) : List (List Int) := bs.foldl (fun vs b => vs ++ [perp vs b]) []

/-- The sum of squares. -/
def energy (x : List Int) : Nat := x.foldl (fun a v => a + v.natAbs ^ 2) 0

/-- `a` is at least `db` decibels above `b`, both powers. -/
def dbAbove (a b db : Nat) : Bool := decide (b ^ 10 * 10 ^ db ≤ a ^ 10)

/-- The energy of the least-squares fit of `x` by the span of `bs`. -/
def fitEnergy (x : List Int) (bs : List (List Int)) : Nat :=
  (orthogonal bs).foldl (fun e v =>
    let d := dotI v v
    if d = 0 then e else e + (dotI x v ^ 2 / d).toNat) 0

/-- The coefficient of `b` in the least-squares fit of `x` by `b` and `others`, both in units of 2 ^ -40, in units of
2 ^ -20. -/
def fitCoef (x b : List Int) (others : List (List Int)) : Int :=
  let v := perp (orthogonal others) b
  let d := dotI v v
  if d = 0 then 0 else dotI x v * 2 ^ 60 / d

/-- Cosine and sine of `num / den` turns per sample over `n` samples. -/
def sinusoid (num den n : Nat) : List (List Int) :=
  [(List.range n).map (fun i => cosTurn (num * i) den), (List.range n).map (fun i => sinTurn (num * i) den)]

/-- The sinusoids of frequencies in Hz at 8 kHz. -/
def sinusoids (fs : List Nat) (n : Nat) : List (List Int) := fs.flatMap (fun f => sinusoid f 8000 n)

/-- The power of the tone of `f` Hz in the fit of `x` by it and the tones `others`. -/
def tonePower (x : List Int) (f : Nat) (others : List Nat) : Nat :=
  let o := sinusoids others x.length
  match sinusoid f 8000 x.length with
  | [c, s] => (fitCoef x c (s :: o)).natAbs ^ 2 / 2 ^ 41 + (fitCoef x s (c :: o)).natAbs ^ 2 / 2 ^ 41
  | _ => 0

/-- The first of a list of frequencies that fits `x` best beside the tones `others`. -/
def bestOf (x : List Int) (others : List Nat) (fs : List Nat) : Nat :=
  let o := sinusoids others x.length
  (fs.foldl (fun (b : Nat × Nat) f =>
    let e := fitEnergy x (o ++ sinusoids [f] x.length)
    if b.2 < e ∨ b.1 = 0 then (f, e) else b) (0, 0)).1

/-- The frequency, to a hertz, of the tone in `[lo, hi]` that fits `x` best beside the tones `others`.
[DESIGN CHOICE, log 49] -/
def dominant (x : List Int) (others : List Nat) (lo hi : Nat) : Nat :=
  let c := bestOf x others ((List.range ((hi - lo) / 20 + 1)).map (fun i => lo + 20 * i))
  bestOf x others (((List.range 41).map (fun i => c + i - 20)).filter (fun f => decide (lo ≤ f) && decide (f ≤ hi)))

/-- The two tones of a window, one at or below `mid`, one above it; each is found beside the other.
[DESIGN CHOICE, log 49] -/
def dominant2 (x : List Int) (lo mid hi : Nat) : Nat × Nat :=
  let a := dominant x [] lo mid
  let b := dominant x [a] (mid + 1) hi
  let a := dominant x [b] lo mid
  (a, dominant x [a] (mid + 1) hi)

/-! ### Levels and bands -/

/-- A power in -dBm0, as the device rounds it, 0–255 saturating (R119). [DESIGN CHOICE, log 49] -/
def dbmOf (p : Nat) : Nat :=
  if p = 0 then 255
  else if 256000000 ≤ p then 0
  else
    let k := bitSearch (fun k => decide (p ^ 10 * 10 ^ k ≤ 256000000 ^ 10)) 8 0
    min 255 (if p ^ 10 * 10 ^ k = 256000000 ^ 10 then k else k + b2n (Config.roundUp 119 p 1))

/-- A power is at least -`db` dBm0; 0 dBm0 is a sine of RMS 16,000 (R82). -/
def atLeastDbm (p db : Nat) : Bool := decide (256000000 ^ 10 ≤ p ^ 10 * 10 ^ db)

/-- The band rule of R111: a deviation up to `acc` passes, one beyond `rej` fails, and between them Config answers.
[DESIGN CHOICE, log 49] -/
def inBand (cls : Nat) (x : List Int) (dev acc rej : Nat) : Bool :=
  if dev ≤ acc then true else if rej < dev then false else Config.sageBetween cls x

/-- |a - b|. -/
def absDiff (a b : Nat) : Nat := (a - b) + (b - a)

/-- A single tone of `f0` Hz passes, deviations in Hz: its level. [DESIGN CHOICE, log 49] -/
def passTone (cls f0 acc rej level : Nat) (x : List Int) : Option Nat :=
  let f := dominant x [] 200 3900
  let p := tonePower x f []
  if atLeastDbm p level && inBand cls x (absDiff f f0) acc rej then some (dbmOf p) else none

/-- A CPT entry's tones pass (R111): the level of the weaker. `tol` is TOL. [DESIGN CHOICE, log 49] -/
def passCpt (f1 f2 tol level : Nat) (x : List Int) : Option Nat :=
  let ok := fun (f f0 : Nat) => inBand 2 x (100 * absDiff f f0) (tol * f0) (2 * tol * f0)
  if f2 = 0 ∨ f1 = f2 then
    let f := dominant x [] 200 3900
    let p := tonePower x f []
    if atLeastDbm p level && ok f f1 then some (dbmOf p) else none
  else
    let a := min f1 f2
    let b := max f1 f2
    let d := dominant2 x 200 ((a + b) / 2) 3900
    let p := min (tonePower x d.1 [d.2]) (tonePower x d.2 [d.1])
    if atLeastDbm p level && ok d.1 a && ok d.2 b then some (dbmOf p) else none

/-- The nearest of a list of frequencies, by index. -/
def nearest (f : Nat) (l : List Nat) : Nat :=
  ((l.zip (List.range l.length)).foldl (fun (b : Nat × Nat) e =>
    if absDiff f e.1 < b.1 then (absDiff f e.1, e.2) else b) (10000, 0)).2

/-- DTMF row and column frequencies, and the digit codes by row and column (R111, R119). -/
def dtmfRows : List Nat := [697, 770, 852, 941]
def dtmfCols : List Nat := [1209, 1336, 1477, 1633]
def dtmfCodes : List Nat := [1, 2, 3, 12, 4, 5, 6, 13, 7, 8, 9, 14, 10, 0, 11, 15]

/-- A DTMF window (R112): the digit and the level of the weaker tone. `w` is PRF_DTMF. [DESIGN CHOICE, log 49] -/
def passDtmf (w : Nat) (x : List Int) : Option (Nat × Nat) :=
  let d := dominant2 x 600 1075 1800
  let r := nearest d.1 dtmfRows
  let c := nearest d.2 dtmfCols
  let pr := tonePower x d.1 [d.2]
  let pc := tonePower x d.2 [d.1]
  let tot := energy x
  let e := fitEnergy x (sinusoids [d.1, d.2] x.length)
  let ok := fun (f f0 : Nat) => inBand 1 x (1000 * absDiff f f0) (15 * f0) (35 * f0)
  let clean := fun (f p : Nat) => decide (100 * tonePower x (2 * f) [d.1, d.2] ≤ p)
  if ok d.1 (dtmfRows.getD r 0) && ok d.2 (dtmfCols.getD c 0) && atLeastDbm (min pr pc) (w / 2 ^ 26 % 64) &&
      decide (pc ^ 10 ≤ pr ^ 10 * 10 ^ (w / 2 ^ 22 % 16)) && decide (pr ^ 10 ≤ pc ^ 10 * 10 ^ (w / 2 ^ 18 % 16)) &&
      dbAbove e (tot - e) (w / 2 ^ 12 % 64) && clean d.1 pr && clean d.2 pc then
    some (dtmfCodes.getD (4 * r + c) 0, dbmOf (min pr pc))
  else none

/-! ### ANSam and phase reversals (R115) -/

/-- The envelope over blocks of 40 samples, in units of 2 ^ -10. -/
def envelope (x : List Int) : List Int :=
  (List.range (x.length / 40)).map (fun i =>
    let e := ((x.drop (40 * i)).take 40).foldl (fun a v => a + v.natAbs ^ 2) 0
    (bitSearch (fun m => decide (m ^ 2 * 40 ≤ e * 2 ^ 20)) 30 0 : Nat))

/-- The envelope carries 15 Hz ± 0.1 Hz amplitude modulation of 15–25 % (R115): of the modulations from 10 to 20 Hz, in steps of
0.1 Hz, the one that fits best. [DESIGN CHOICE, log 49] -/
def ansam (x : List Int) : Bool :=
  let v := envelope x
  let one : List Int := v.map (fun _ => 2 ^ 40)
  let f := ((List.range 101).foldl (fun (b : Nat × Nat) i =>
    let e := fitEnergy v (one :: sinusoid (100 + i) 2000 v.length)
    if b.2 < e then (100 + i, e) else b) (0, 0)).1
  match sinusoid f 2000 v.length with
  | [c, s] =>
    let m := (fitCoef v one [c, s]).natAbs
    let a := (fitCoef v c [one, s]).natAbs ^ 2 + (fitCoef v s [one, c]).natAbs ^ 2
    decide (149 ≤ f) && decide (f ≤ 151) && decide (15 ^ 2 * m ^ 2 ≤ 100 ^ 2 * a) && decide (100 ^ 2 * a ≤ 25 ^ 2 * m ^ 2)
  | _ => false

/-- The correlation of `x` with 2,100 Hz, cosine and sine. -/
def corr2100 (x : List Int) (from_ : Nat) : Int × Int :=
  (dotI x ((List.range x.length).map (fun i => cosTurn (2100 * (from_ + i)) 8000)),
   dotI x ((List.range x.length).map (fun i => sinTurn (2100 * (from_ + i)) 8000)))

/-- A phase change of 180° ± 25° in the middle of 256 samples: the two halves are that far apart, and no other multiple of 8 parts
the samples better. 0.8213938 is the square of cos 25°. [DESIGN CHOICE, log 49] -/
def phaseReversal (x : List Int) : Bool :=
  let split := fun (k : Nat) => (corr2100 (x.take k) 0, corr2100 (x.drop k) k)
  let gain := fun (k : Nat) =>
    let p := split k
    (p.1.1 - p.2.1).natAbs ^ 2 + (p.1.2 - p.2.2).natAbs ^ 2
  let p := split 128
  let d := p.1.1 * p.2.1 + p.1.2 * p.2.2
  decide (d < 0) &&
  decide (8213938 * ((p.1.1 ^ 2 + p.1.2 ^ 2) * (p.2.1 ^ 2 + p.2.2 ^ 2)) ≤ 10000000 * d ^ 2) &&
  (List.range 31).all (fun i => decide (gain (8 * (i + 1)) ≤ gain 128))

/-! ### FSK (R116, R117) -/

/-- Frequencies of binary 1 and 0: V21 channel 2, and the two CID pairs. -/
def fskTones (cls : Nat) (pair : Bool) : Nat × Nat :=
  if cls = 5 then (1650, 1850) else if pair then (1300, 2100) else (1200, 2200)

/-- Samples a bit decision takes, and thirds of a sample in a bit. -/
def fskSpan (cls : Nat) : Nat × Nat := if cls = 5 then (27, 80) else (7, 20)

/-- The stronger tone of a bit's samples is that of binary 1. -/
def fskOne (cls : Nat) (pair : Bool) (x : List Int) : Bool :=
  let f := fskTones cls pair
  decide (fitEnergy x (sinusoids [f.2] x.length) ≤ fitEnergy x (sinusoids [f.1] x.length))

/-- A steady tone keeps to the bands of R111: an FSK signal with no transition in the window is a single tone.
[DESIGN CHOICE, log 50] -/
def fskBand (cls : Nat) (pair : Bool) (x : List Int) : Bool :=
  let f := dominant x [] 200 3900
  let e := fitEnergy x (sinusoids [f] x.length)
  let tot := energy x
  if 100 * e < 99 * tot then true
  else
    let t := fskTones cls pair
    let dev := fun (f0 : Nat) => if cls = 5 then (absDiff f f0, 20, 40) else (100 * absDiff f f0, 2 * f0, 4 * f0)
    let ok := fun (f0 : Nat) => inBand cls x (dev f0).1 (dev f0).2.1 (dev f0).2.2
    ok t.1 || ok t.2

/-- The mean power of samples. -/
def meanPower (x : List Int) : Nat := energy x / max 1 x.length

/-- Of the two CID pairs, the one whose tones fit the window better; the first on a tie. [DESIGN CHOICE, log 50] -/
def cidPair (x : List Int) : Bool :=
  decide (fitEnergy x (sinusoids [1200, 2200] x.length) < fitEnergy x (sinusoids [1300, 2100] x.length))

end Sys2Proof.Machine
end

