-- ==== Sys2Proof/Machine/Ece.lean ====
section
/-! DEFINITION. The echo canceller engines (R79–R104): the filter and its adaptation, double talk, NLP, tone disabling,
retro-convergence, fades, commands. -/

namespace Sys2Proof.Machine
open Sys2Proof

/-- The ECE page of cluster `c`. -/
def ecePage (c : Nat) : Nat := 0x30000 + c * 0x1000

/-- The instance at a unit, keyed 256 × cluster + unit. -/
def State.ece_ (s : State) (k : Nat) : Option Ece := Tab.get (fun _ => none) s.ece.insts k

/-- Set the instance at a unit. -/
def State.setEce (s : State) (k : Nat) (x : Option Ece) : State :=
  { s with ece := { s.ece with insts := Tab.put (fun _ => none) s.ece.insts k x } }

/-- Change the instance at a unit, if there is one. -/
def State.onEce (s : State) (k : Nat) (f : Ece → Ece) : State :=
  match s.ece_ k with
  | some x => s.setEce k (some (f x))
  | none => s

/-- The unit of a context's instance. -/
def State.eceOf (s : State) (c : Nat) : Option (Nat × Ece) :=
  s.ece.insts.findSome? (fun e => e.2.bind (fun x => if x.ctx = c then some (e.1, x) else none))

/-- Unit `u` of cluster `cl` is attached, as itself or as the upper unit of a wideband instance. -/
def State.unitUsed (s : State) (cl u : Nat) : Bool :=
  (s.ece_ (256 * cl + u)).isSome || (decide (u % 2 = 1) && (s.ece_ (256 * cl + u - 1)).any (·.wide))

/-- The lowest free unit, or even pair (R79). -/
def State.freeUnit (s : State) (cl : Nat) (wide : Bool) : Option Nat :=
  firstFrom (fun u => !s.unitUsed cl u && (!wide || (decide (u % 2 = 0) && !s.unitUsed cl (u + 1)))) 256 0

/-- Samples per frame. -/
def Ece.per (x : Ece) : Nat := if x.wide then 2 else 1

/-- The frame that an instance's windows have reached when frame `n` is in progress: of a PACKET instance its own sample
time, of a LINE instance the frame itself. -/
def Ece.frame (x : Ece) (n : Nat) : Nat := if x.packet then x.cnt / x.per else n

/-- Taps. -/
def Ece.taps (x : Ece) : Nat := x.tlen * 64

/-- Profile word `j` (0 PRF_ADAPT … 5 PRF_TONE) in force: a write takes effect from the next frame (R104). -/
def State.ecePrf (s : State) (cl p j : Nat) : Nat :=
  let a := Reg.ECE_PRF_ADAPT cl p + 4 * j
  match s.ece.old.find? (fun e => e.1 == a) with
  | some e => e.2.toNat
  | none => s.rn a

/-- A profile as the engine uses it. -/
structure EceP where
  muF : Nat
  muS : Nat
  leak : Nat
  prop : Nat
  conv : Nat
  reg : Nat
  flen : Nat
  fsh : Nat
  leakOut : Nat
  geigel : Nat
  margin : Nat
  dtHang : Nat
  xact : Nat
  mode : Nat
  att : Nat
  hang : Nat
  cnMax : Nat
  drop : Nat
  epcMin : Nat
  reen : Nat

/-- Read a profile. -/
def State.eceP (s : State) (cl p : Nat) : EceP :=
  let w := fun j => s.ecePrf cl p j
  { muF := fieldOf (w 0) 24 8, muS := fieldOf (w 0) 16 8, leak := fieldOf (w 0) 11 5, prop := fieldOf (w 0) 9 2
    conv := fieldOf (w 0) 0 6, reg := fieldOf (w 1) 24 8, flen := fieldOf (w 1) 20 4, fsh := fieldOf (w 1) 17 3
    leakOut := fieldOf (w 1) 12 5, geigel := fieldOf (w 2) 28 4, margin := fieldOf (w 2) 24 4, dtHang := fieldOf (w 2) 16 8
    xact := fieldOf (w 2) 0 6
    mode := fieldOf (w 3) 30 2, att := fieldOf (w 3) 24 6, hang := fieldOf (w 3) 16 8, cnMax := fieldOf (w 3) 10 6
    drop := fieldOf (w 4) 26 6, epcMin := fieldOf (w 4) 20 6, reen := fieldOf (w 5) 24 6 }

/-! ### Levels and ratios, exact in powers of ten (R4, R82) -/

/-- a / b is at least `db` dB. -/
def ratioGe (a b db : Nat) : Bool := decide (10 ^ db * b ^ 10 ≤ a ^ 10)

/-- Long ERLE is at least `db` dB; 0 dB before the first long average. -/
def Ece.erleGe (x : Ece) (db : Nat) : Bool := if x.measured then ratioGe x.ly x.le db else decide (db = 0)

/-- An ERLE in half decibels, unsigned and saturating (R95). -/
def erleDb (a b : Nat) : Nat := (halfDb 95 0 255 a b).toNat

/-- The short y average exceeds the short x average by more than `m` - ERL dB (R91). -/
def Ece.energyTest (x : Ece) (m geigel : Nat) : Bool :=
  if x.measured then decide (10 ^ m * (x.sx * x.ly) ^ 10 < (x.sy * x.lx) ^ 10)
  else decide (10 ^ m * x.sx ^ 10 < x.sy ^ 10 * 10 ^ geigel)

/-! ### The filter (R82, R87, R88) -/

/-- The reference samples of the tap window, tap 0 first. -/
def tapWin (xs : List Int) (ofs n : Nat) : List Int :=
  let l := (xs.drop ofs).take n
  l ++ List.replicate (n - l.length) 0

/-- The echo estimate (R82). -/
def echoEst (h win : List Int) : Int :=
  sat16v (sra ((h.zip win).foldl (fun a p => a + p.1 * p.2) 0 + 2 ^ 21) 22)

/-- The coefficient update of one sample (R87, R88): `mu` in 1/256. [DESIGN CHOICE, log 40] -/
def adaptTaps (p : EceP) (mu focus : Nat) (e : Int) (h win : List Int) : List Int :=
  let n := h.length
  let lf := min ((p.flen + 1) * 64) n
  let st := min (focus * 16) (n - lf)
  let inWin := fun j => decide (st ≤ j) && decide (j < st + lf)
  let ex := win.foldl (fun a x => a + x.natAbs ^ 2) 0
  let s := mantissa 87 16 (mu * e) (256 * (ex + n * p.reg ^ 2))
  let norm := ((h.drop st).take lf).foldl (fun a c => a + c.natAbs) 0
  -- α = (prop - 2) / 2 for PROP 0 and 1 to 3: -1, -1/2, 0, 1/2
  let up := if p.prop = 0 then 0 else p.prop
  let m : Int := 2 ^ 23
  ((h.zip win).zip (List.range n)).map (fun q =>
    let c := q.1.1
    let x := q.1.2
    let w := if inWin q.2 then ((4 - up) * (norm + 64 * lf) + up * lf * c.natAbs, 4 * (norm + 64 * lf)) else (1, 2 ^ p.fsh)
    let d := roundAway (2 ^ 22 * s.1 * (w.1 : Int) * x) (2 ^ s.2 * w.2)
    let c := satTo (-m) (m - 1) (c + d)
    let lk := if inWin q.2 then p.leak else p.leakOut
    if lk = 0 then c else c - sra (c + 2 ^ (lk - 1)) lk)

/-- The window start that maximises the energy, in steps of 16 taps, the lower on a tie (R88). -/
def focusBest (h : List Int) (lf : Nat) : Nat :=
  let en := fun i => ((h.drop (16 * i)).take lf).foldl (fun a c => a + c.natAbs ^ 2) 0
  (List.range ((h.length - lf) / 16 + 1)).foldl (fun b i => if en b < en i then i else b) 0

/-- An update that a sample leaves to the coefficients: step, residual and tap window (R87). -/
structure EceUpd where
  mu : Nat
  e : Int
  win : List Int

/-- What one sample gives: the instance after it, e, the output, FLAGS of R85 and the update due. -/
structure EceOut where
  x : Ece
  e : Int
  out : Int
  flags : Nat
  upd : Option EceUpd

/-- An instance in bypass, by command or by tone. -/
def Ece.byp (x : Ece) : Bool := x.bypass || x.tone == 2

/-- The coefficient update of one sample, unless it is frozen (R87). -/
def Ece.update (p : EceP) (x : Ece) (u : Option EceUpd) : Ece :=
  match u with
  | some u => { x with h := adaptTaps p u.mu x.focus u.e x.h u.win, adapted := x.adapted + 1 }
  | none => x

/-- -`db` dBm0 as a power in units of 2 ^ -20. -/
def dbmPower (db : Nat) : Nat := bitSearch (fun m => decide (m ^ 10 * 10 ^ db ≤ (256000000 * 2 ^ 20) ^ 10)) 49 0

/-- Pn after a sample (R93), in units of 2 ^ -20: it falls to the short e average, or rises by at most 3 dB per second.
[DESIGN CHOICE, log 40] -/
def Ece.noise (x : Ece) : Nat :=
  let se := x.se * 2 ^ 20
  if se < x.pn then se
  else
    let most := if x.pn = 0 then se else if x.wide then x.pn * 43174402 / 10 ^ 12 else x.pn * 8635066 / 10 ^ 11
    min se (x.pn + min (Config.noiseRise x.pn x.se) most)

/-- The comfort noise filter's coefficient as a fraction: the lag-1 ratio of e, clamped to ±3/4 (R93).
[DESIGN CHOICE, log 40] -/
def Ece.lag1 (x : Ece) : Int × Nat :=
  if x.ac0 = 0 then (0, 1) else (satTo (-(3 * x.ac0 : Nat)) (3 * x.ac0 : Nat) (4 * x.ac1), 4 * x.ac0)

/-- The comfort noise generator advances by one sample (R93). [DESIGN CHOICE, log 40] -/
def Ece.hiss (x : Ece) : Ece :=
  let l := Config.lfsrStep x.lfsr
  let a := x.lag1
  { x with lfsr := l, cnv := (Config.lfsrSample l).toInt + quot 93 (a.1 * x.cnv) a.2 }

/-- Comfort noise: the filter's output scaled to Pn, at most -`cn` dBm0 (R93); white 16-bit noise has the power 2^32 / 12.
[DESIGN CHOICE, log 40] -/
def Ece.comfort (cn : Nat) (x : Ece) : Int :=
  let a := x.lag1
  let m := rootN 93 (x.cnv.natAbs ^ 2 * min x.pn (dbmPower cn) * 12 * (a.2 ^ 2 - a.1.natAbs ^ 2)) (2 ^ 52 * a.2 ^ 2)
  sat16v (if x.cnv < 0 then -(m : Int) else m)

/-- The end of a fade: at its last output the new filter becomes live and the other is held (R101). -/
def Ece.exchange (x : Ece) : Ece :=
  match x.fade, x.bg with
  | some f, some b =>
    if f.m < 2 ^ f.k then x else { x with h := b.h, bg := some { b with h := x.h }, fade := none, ended := some f }
  | _, _ => x

/-- The filter pass of one sample of an instance (R82–R95); the coefficients wait for `Ece.update`. DT, the NLP hangover and the
runs of R94 and R96 are measured in the instance's sample time. [DESIGN CHOICE, log 40, 48] -/
def Ece.sample (p : EceP) (x : Ece) (xi yi : Int) (unset fault : Bool) : EceOut :=
  let n := x.cnt / x.per
  let sh := if x.wide then 8 else 7
  let len := if x.wide then 16 else 8
  let xs := (xi :: x.xs).take 1600
  let ys := (yi :: x.ys).take 16
  let win := tapWin xs (x.align + x.bulk) x.taps
  let y0 := echoEst x.h win
  let fade := x.fade.map (fun f => { f with m := min (f.m + 1) (2 ^ f.k) })
  let yh := match fade, x.bg with
    | some f, some b => y0 + sra ((echoEst b.h win - y0) * (f.m : Int)) f.k
    | _, _ => y0
  let e := sat16v (yi - yh)
  let x : Ece := { x with
    xs := xs, ys := ys, fade := fade, cnt := x.cnt + 1, faulted := fault
    sx := expAvg 82 sh x.sx (xi.natAbs ^ 2)
    sy := if fault then x.sy else expAvg 82 sh x.sy (yi.natAbs ^ 2)
    se := if fault then x.se else expAvg 82 sh x.se (e.natAbs ^ 2)
    focusDue := x.focusDue || decide ((x.cnt + 1) % 512 = 0) }
  let far := atLeastDbm x.sx p.xact
  let ymax := (ys.take len).foldl (fun m v => max m v.natAbs) 0
  let xmax := win.foldl (fun m v => max m v.natAbs) 0
  let geig := decide (xmax ^ 20 ≤ ymax ^ 20 * 10 ^ p.geigel)
  let hit := geig || (x.erleGe p.conv && x.energyTest p.margin p.geigel)
  let dt := hit || (x.dt && decide (x.cnt - 1 < x.dtAt + p.dtHang * x.per))
  let byp := x.byp
  let frozen := !far || dt || unset || fault || decide (yi = -32768 ∨ yi = 32767) || x.fade.isSome || x.freeze || byp
  let x : Ece := if frozen then x else
    { x with
      lx := expAvg 82 (sh + 6) x.lx (xi.natAbs ^ 2), ly := expAvg 82 (sh + 6) x.ly (yi.natAbs ^ 2)
      le := expAvg 82 (sh + 6) x.le (e.natAbs ^ 2), measured := true }
  let x : Ece := if far && !dt && !fault then { x with ty := x.sy, te := x.se } else x
  let upd := if frozen then none else some ⟨if x.fast then p.muF else p.muS, e, win⟩
  let fast := if frozen then x.fast else
    if x.erleGe p.conv then false
    else if decide (x.ly ^ 10 * 10 ^ 6 < 10 ^ p.conv * x.le ^ 10) then true else x.fast
  let low := !atLeastDbm x.sx p.reen && !atLeastDbm x.sy p.reen
  let dropped := far && !dt && x.measured && x.erleGe p.epcMin &&
    decide ((x.ty * x.le) ^ 10 * 10 ^ p.drop < (x.te * x.ly) ^ 10)
  let farAt := if far then some n else x.farAt
  let on := !dt && !byp && decide (x.tone = 0) && farAt.any (fun t => decide (n ≤ t + 8 * p.hang))
  let nlp := if on then min 16 (x.nlp + 1) else 0
  let x : Ece := if far then x else
    { x with ac0 := expAvg 93 (sh + 6) x.ac0 (e.natAbs ^ 2), ac1 := expStep 93 (sh + 6) x.ac1 (e * x.ePrev) }
  let x := { x with
    fast := fast, dt := dt, dtAt := if hit then x.cnt - 1 else x.dtAt, dtSamples := x.dtSamples + b2n dt
    dtSince := if fault then x.dtSince else if dt && far then some (x.dtSince.getD n) else none
    dropSince := if fault then x.dropSince else if dropped then some (x.dropSince.getD n) else none
    lowSince := if low then some (x.lowSince.getD n) else none
    farAt := farAt, nlp := nlp, pn := x.noise, ePrev := e }.hiss
  let target : Int := match p.mode with
    | 0 => e
    | 1 => 0
    | 2 => x.comfort p.cnMax
    | _ => attenuated 92 p.att e
  let out := if byp then yi else if nlp = 0 then e else if nlp = 16 then target
    else (Config.nlpRamp nlp e target).toInt
  ⟨x.exchange, e, out, b2n unset + 2 * b2n fault + 4 * b2n dt + 8 * b2n far + 16 * b2n on + 32 * b2n byp, upd⟩

/-! ### History rings (R17, R85) -/

/-- Address of the history entry of sample time `t`. -/
def eceHist (k : Nat) (wide : Bool) (t : Nat) : Nat :=
  0x60000000 + k * 0x4000 + 8 * (t % (if wide then 4096 else 2048))

/-- Write a history entry. -/
def State.histWrite (s : State) (k : Nat) (wide : Bool) (t : Nat) (xi yi e : Int) (flags : Nat) : State :=
  s.wrBytes (eceHist k wide t)
    (leBytes 2 (unsigned 16 xi) ++ leBytes 2 (unsigned 16 yi) ++ leBytes 2 (unsigned 16 e) ++ [flags, 0])

/-- The history entry of sample time `t`. -/
def State.ringEntry (s : State) (k : Nat) (x : Ece) (t : Nat) : EceEntry :=
  let a := eceHist k x.wide t
  ⟨signed 16 (s.rdLE a 2), signed 16 (s.rdLE (a + 2) 2), signed 16 (s.rdLE (a + 4) 2), s.rd8 (a + 6)⟩

/-! ### Events (R104) -/

/-- An event of an instance's context. -/
def State.eceEvent (s : State) (x : Ece) (code : Nat) (payload : List Nat) : State :=
  s.event (s.ctx_ x.ctx).evq code payload

/-- ECE_TONE. -/
def State.toneEvent (s : State) (k : Nat) (x : Ece) (kind : Nat) : State :=
  (s.irq (ecePage (k / 256)) 5).eceEvent x 0xA0 [x.ctx, k % 256, kind, s.now % 2 ^ 32]

/-- ECE_RECONV_DONE, with the ERLE of both filters over the comparison window. -/
def State.reconvDone (s : State) (k : Nat) (x : Ece) (result reason : Nat) : State :=
  match x.bg with
  | none => s
  | some b =>
    (s.irq (ecePage (k / 256)) 1).eceEvent x 0xA2 [x.ctx, k % 256, result, reason, b2n (!b.journal), b2n b.fallback,
      erleDb b.eY b.eLive, erleDb b.eY b.eBg, s.now % 2 ^ 32]

/-- A fade that has reached 2^XF_K is counted and reported; its slot is released unless a swap is pending (R101).
[DEDUCED, log 44] -/
def State.fadeDone (s : State) (k : Nat) : State :=
  match s.ece_ k with
  | none => s
  | some x =>
    match x.ended, x.bg with
    | some f, some b =>
      let y := { x with
        ended := none, swaps := x.swaps + 1
        bg := if x.pend then some { b with retro := false, phase := 0 } else none }
      let s := s.bump (Reg.ECE_SWAP_CNT (k / 256))
      let s := if b.retro then s.reconvDone k x 0 0
        else s.eceEvent x 0xA3 [x.ctx, k % 256, b2n f.pending, s.now % 2 ^ 32]
      s.setEce k (some y)
    | _, _ => s

/-- A retro-convergence of an instance is in progress: a trigger waits or a slot serves one. -/
def State.inRetro (s : State) (k : Nat) (x : Ece) : Bool :=
  s.ece.trigs.any (fun t => t.inst == k) || x.bg.any (·.retro)

/-- Abandon a retro-convergence (R102): its event unless `reason` is none, the slot released. A fade that has reached its end
is reported as such first. -/
def State.abandon (s : State) (k : Nat) (reason : Option Nat) : State :=
  let s := if reason.isSome then s.fadeDone k else s
  match s.ece_ k with
  | none => s
  | some x =>
    if !s.inRetro k x then s
    else
      let b : EceBg := x.bg.getD { phase := 1, h := [] }
      let s := match reason with
        | some r => s.reconvDone k { x with bg := some b } 2 r
        | none => s
      let s := { s with ece := { s.ece with trigs := s.ece.trigs.filter (fun t => t.inst != k) } }
      let keep := x.bg.any (fun b => !b.retro)
      s.setEce k (some (if keep then x else { x with bg := none, fade := none, ended := none, starting := false, pend := false }))

/-! ### Triggers and slots (R96, R97) -/

/-- Background slots in use in cluster `cl`, of replays only when asked. -/
def State.slotsUsed (s : State) (cl : Nat) (replays : Bool) : Nat :=
  s.ece.insts.foldl (fun n e => match e.2 with
    | some x => if e.1 / 256 = cl ∧ x.bg.any (fun b => b.retro || !replays) then n + x.per else n
    | none => n) 0

/-- Triggers queued in cluster `cl`. -/
def State.trigCount (s : State) (cl : Nat) : Nat := (s.ece.trigs.filter (fun t => t.inst / 256 == cl)).length

/-- Why a trigger of an instance is refused now: BUSY under R96, REFUSED_FULL under R97, otherwise OK.
[DESIGN CHOICE, log 41] -/
def State.trigStatus (s : State) (k : Nat) (x : Ece) : Nat :=
  if x.bg.isSome || x.fade.isSome || x.starting || x.pend || x.byp then stBusy
  else if 64 ≤ s.trigCount (k / 256) then stFull else stOk

/-- Replay length in frames: `r10` in 10 ms units, 256 ms at most when the journal cannot serve (R98). -/
def State.replayLen (s : State) (x : Ece) (r10 : Nat) : Nat :=
  if s.journalOn x.ctx then 80 * r10 else min (80 * r10) 2048

/-- Accept a trigger (R96). [DESIGN CHOICE, log 41] -/
def State.acceptTrig (s : State) (k cause r10 : Nat) (x : Ece) : State :=
  let s := s.setEce k (some { x with triggers := x.triggers + 1, dropSince := none, dtSince := none, alignTrig := false })
  let t : EceTrig := ⟨k, s.replayLen x r10⟩
  let s : State := { s with ece := { s.ece with trigs := s.ece.trigs ++ [t] } }
  (s.irq (ecePage (k / 256)) 0).eceEvent x 0xA1 [x.ctx, k % 256, cause, erleDb x.ly x.le, erleDb x.ty x.te, s.now % 2 ^ 32]

/-- An automatic trigger with the profile's replay length (R96, R97). -/
def State.autoTrig (s : State) (k cause : Nat) : State :=
  match s.ece_ k with
  | none => s
  | some x =>
    if s.trigStatus k x = stOk then s.acceptTrig k cause (fieldOf (s.ecePrf (k / 256) x.prof 5) 8 8) x
    else
      ((s.bump (Reg.ECE_TRIG_DROP (k / 256))).irq (ecePage (k / 256)) 3).setEce k
        (some { x with dropSince := none, dtSince := none, alignTrig := false })

/-- The oldest ring entries of an instance, which its next frame or block overwrites. -/
def State.oldest (s : State) (k : Nat) (x : Ece) (pos : Nat) : List EceEntry :=
  (List.range (if x.packet then 40 * x.per else x.per)).map (fun i => s.ringEntry k x (pos + i))

/-- The background that a replay of `r` frames in the frame after this one starts from (R97, R98); one of the whole ring takes
the entries that its first frame overwrites. [DESIGN CHOICE, log 45] -/
def State.replayBg (s : State) (k : Nat) (x : Ece) (r : Nat) (journal fallback : Bool) : EceBg :=
  let t0 := s.now + 1
  let pos := (if x.packet then x.cnt else t0 * x.per) - r * x.per
  { phase := 1, h := x.h, t0 := t0, r := r, pos := pos, journal := journal, fallback := fallback
    held := if r = 2048 ∧ !journal then s.oldest k x pos else [] }

/-- Grant the oldest trigger of a cluster its slots (R97, R98). -/
def State.replayStart (s : State) (cl : Nat) : State :=
  match s.ece.trigs.find? (fun t => t.inst / 256 == cl) with
  | none => s
  | some t =>
    match s.ece_ t.inst with
    | none => s
    | some x =>
      if x.bg.isSome || decide (s.fld (Reg.ECE_ECE_CFG cl) 0 5 < s.slotsUsed cl true + x.per) ||
          decide (16 < s.slotsUsed cl false + x.per) then s
      else
        let j := s.journalOn x.ctx
        let b := s.replayBg t.inst x (if j then t.r else min t.r 2048) j false
        let s := { s with ece := { s.ece with trigs := s.ece.trigs.erase t } }
        s.setEce t.inst (some { x with bg := some b })

/-! ### Replay (R98–R100) -/

/-- Whether the replay reads sample time `t` from the journal: earlier than 128 ms before the frame in progress (R98). -/
def useJournal (x : Ece) (b : EceBg) (n t : Nat) : Bool :=
  b.journal && decide (((t : Int) + x.jofs) / (x.per : Int) < (n : Int) - 1024)

/-- A journal sample of both streams at sample time `t`; the journal holds no marks. [DESIGN CHOICE, log 45] -/
def State.journalEntry (s : State) (x : Ece) (t : Nat) : Option EceEntry :=
  let j := ((t : Int) + x.jofs).toNat
  let f := j / x.per
  let bph := (s.ctx_ x.ctx).bph
  let i := (f - bph) % 160 * x.per + j % x.per
  match s.journalBlock x.ctx 0 ((f - bph) / 160), s.journalBlock x.ctx 1 ((f - bph) / 160) with
  | some a, some b =>
    let u := a.getD i 0
    let v := b.getD i 0
    some (if x.packet then ⟨v, u, 0, 0⟩ else ⟨u, v, 0, 0⟩)
  | _, _ => none

/-- One sample of a background filter (R98, R100): every freeze of R90 except DT. The far end is active as the ring's flag says,
or for a journal sample by its own short average. [DESIGN CHOICE, log 45] -/
def bgSample (p : EceP) (x : Ece) (b : EceBg) (ring : Bool) (q : EceEntry) : EceBg :=
  let xs := (q.x :: b.xs).take 1600
  let win := tapWin xs (x.align + x.bulk) x.taps
  let e := sat16v (q.y - echoEst b.h win)
  let sx := expAvg 82 (if x.wide then 8 else 7) b.sx (q.x.natAbs ^ 2)
  let far := if ring then bitOf q.flags 3 else atLeastDbm sx p.xact
  let frozen := !far || bitOf q.flags 0 || bitOf q.flags 1 || decide (q.y = -32768 ∨ q.y = 32767) || x.fade.isSome ||
    x.freeze || x.byp
  let cmp := decide (b.phase = 2) && decide (b.seen < 512 * x.per)
  { b with
    xs := xs, sx := sx, pos := b.pos + 1, held := b.held.tail
    h := if frozen then b.h else adaptTaps p p.muF x.focus e b.h win
    seen := b.seen + b2n cmp, far := b.far + b2n (cmp && far)
    eBg := if cmp && far then b.eBg + e.natAbs ^ 2 else b.eBg
    eLive := if cmp && far then b.eLive + q.e.natAbs ^ 2 else b.eLive
    eY := if cmp && far then b.eY + q.y.natAbs ^ 2 else b.eY }

/-- Run a background filter over up to `m` recorded samples in frame `n`. Answers the background, and POISON if met.
[DESIGN CHOICE, log 45] -/
def State.bgRun (s : State) (p : EceP) (n k : Nat) (x : Ece) : Nat → EceBg → EceBg × Bool
  | 0, b => (b, false)
  | m + 1, b =>
    if x.cnt ≤ b.pos ∨ b.failed then (b, false)
    else if useJournal x b n b.pos then
      match s.journalEntry x b.pos with
      | some q => s.bgRun p n k x m (bgSample p x b false q)
      | none => ({ b with failed := true }, false)
    else
      match b.held with
      | q :: _ => s.bgRun p n k x m (bgSample p x b true q)
      | [] =>
        if s.poisoned (eceHist k x.wide b.pos) 8 then (b, true)
        else s.bgRun p n k x m (bgSample p x b true (s.ringEntry k x b.pos))

/-- The background filters of an instance in frame `n` (R80, R98). -/
def State.bgFrame (s : State) (n k : Nat) : State :=
  match s.ece_ k with
  | none => s
  | some x =>
    match x.bg with
    | none => s
    | some b =>
      if !b.retro || decide (n < b.t0) || decide (3 ≤ b.phase) then s
      else
        let r := s.bgRun (s.eceP (k / 256) x.prof) n k x (8 * x.per) b
        let s := s.setEce k (some { x with bg := some r.1 })
        if r.2 then s.abandon k (some 0x0E) else s

/-! ### The frame (R80, R83, R94, R103, R104) -/

/-- ALIGN of a LINE instance (R83). -/
def State.eceAlign (s : State) (x : Ece) : Nat :=
  match (s.ctx_ x.ctx).line with
  | some l =>
    if x.packet then 0
    else
      let d := s.dec_ l
      let gd := s.fld (Reg.LDC_SET_GD (l / 128) (fieldOf d.cfg 24 3)) 0 15
      ((if x.wide then 384 else 512) + gd + fieldOf d.cfg 8 7) / (if x.wide then 64 else 128)
  | none => 0

/-- A re-initialised filter: zero, MU_FAST, no fade or pending swap (R103). -/
def Ece.init (x : Ece) : Ece :=
  { x with fresh := false, h := List.replicate x.taps 0, focus := 0, fast := true, fade := none, ended := none
           starting := false, pend := false, bg := none }

/-- Bypass by ECE_MODIFY begins or ends (R94, R102): a retro-convergence is abandoned, then ECE_TONE is posted.
[DESIGN CHOICE, log 206] -/
def State.bypassSet (s : State) (k : Nat) (was : Bool) (x : Ece) : State :=
  let s := if x.bypass then s.abandon k (some stNotReady) else s
  if x.bypass = was ∨ x.tone = 2 then s else s.toneEvent k x (if x.bypass then 0 else 2)

/-- The answer-tone indication of an instance takes effect (R94). -/
def State.toneAct (s : State) (k : Nat) (x : Ece) : State :=
  let t := s.ecePrf (k / 256) x.prof 5
  match x.toneInd with
  | none => s
  | some rev =>
    let s := s.onEce k (fun y => { y with toneInd := none })
    if !bitOf t 31 then s
    else if rev then
      if x.tone = 2 then s
      else
        let s := (s.abandon k (some stNotReady)).onEce k (fun y => { y with tone := 2, lowSince := none })
        s.toneEvent k x 0
    else if bitOf t 30 && decide (x.tone = 0) then
      (s.onEce k (fun y => { y with tone := 1, lowSince := none })).toneEvent k x 1
    else s

/-- The fade that starts at a frame boundary: of a swap just asked for, or of one that was pending (R101). -/
def State.fadeStart (s : State) (k : Nat) : State :=
  s.onEce k (fun y =>
    let f : EceFade := ⟨0, fieldOf (s.ecePrf (k / 256) y.prof 4) 3 3, y.pend⟩
    if y.fade.isSome then y
    else if y.starting then { y with starting := false, fade := some { f with pending := false } }
    else if y.pend then { y with pend := false, fade := some f }
    else y)

/-- The changes of ECE_MODIFY take effect (R103); a loaded filter that no swap has taken is dropped. -/
def Ece.modified (x : Ece) : Ece :=
  match x.next with
  | none => x
  | some c =>
    let re := c.kind.isSome || c.tlen.isSome || c.bulk.isSome
    let x := { x with
      next := none, packet := c.kind.getD x.packet, tlen := c.tlen.getD x.tlen, bulk := c.bulk.getD x.bulk
      prof := c.prof.getD x.prof, freeze := c.freeze.getD x.freeze, bypass := c.bypass.getD x.bypass }
    if re then x.init
    else if x.bg.any (fun b => !b.retro) && x.fade.isNone && !x.starting && !x.pend then { x with bg := none }
    else x

/-- One instance at a frame boundary: attach, changes, reset, bypass, answer tones, a fade that ends or starts. -/
def State.eceBoundary (s : State) (k : Nat) (rst : Bool) : State :=
  let s := s.fadeDone k
  match s.ece_ k with
  | none => s
  | some x0 =>
    let x := (if x0.fresh then x0.init else x0).modified
    let x := if rst then x.init else x
    ((s.setEce k (some x)).bypassSet k x0.bypass x |>.toneAct k x).fadeStart k

/-- A reset ECE (R104): the page returns to its reset values; replays, fades and the trigger queue go without events. -/
def State.eceClear (s : State) (cl : Nat) : State :=
  let s := (s.headerReset (ecePage cl)).pageReset (ecePage cl) (ecePage (cl + 1))
  let s := s.each (Tab.keys s.ece.insts) (fun s k =>
    if k / 256 = cl then s.onEce k (fun x => 
      { x with bg := none, fade := none, ended := none, starting := false, pend := false }) else s)
  { s with ece := { s.ece with trigs := s.ece.trigs.filter (fun t => t.inst / 256 != cl) } }

/-- The ECEs as a frame opens: profile writes and resets take effect, boundary changes (R103, R104). -/
def State.eceOpen (s : State) : State :=
  let rst := s.ece.rst
  let s := { s with ece := { s.ece with old := [], rst := [] } }
  let s := s.each rst (fun s cl => s.eceClear cl)
  s.each (Tab.keys s.ece.insts) (fun s k => s.eceBoundary k (rst.contains (k / 256)))

/-- The reference samples of line `l` in the frame in progress: what LINK sent of it, oldest first (R84).
[DEDUCED, log 46] -/
def State.sentSamples (s : State) (l per : Nat) : List Int :=
  let h := (s.line_ l).ref.take per
  (h ++ List.replicate (per - h.length) 0).reverse

/-- What a line's frame gives the other blocks: x, y, e and output samples with y's marks. -/
structure LineFrame where
  line : Nat
  ctx : Option Nat
  xs : List Int
  ys : List Int
  es : List Int
  marks : List Bool

/-- The filter pass of a LINE instance over the frame of a line, then its coefficient update (R80–R86); ALIGN follows the line's
decimation settings of this frame (R83, R104). Answers the frame's outputs and signals. -/
def State.eceLine (s : State) (n : Nat) (o : LineOut) : State × LineOut × LineFrame :=
  let per := o.outs.length
  let xs := s.sentSamples o.line per
  let ys := o.outs.map (·.value)
  let c := if s.bound o.line then s.ctxOfLine o.line else none
  let marks := o.outs.map (fun v => v.unset || o.fault)
  let plain : LineFrame := ⟨o.line, c, xs, ys, ys, marks⟩
  match c.bind s.eceOf with
  | some (k, x) =>
    if x.packet || x.fresh || decide (x.per ≠ per) then (s, o, plain)
    else
      let p := s.eceP (k / 256) x.prof
      let al := s.eceAlign x
      let x := { x with cnt := n * per, align := al
                        alignTrig := x.alignTrig || (decide (x.cnt ≠ 0) && decide (x.align ≠ al)) }
      let r := (xs.zip o.outs).foldl (fun (a : State × Ece × List EceOut) q =>
        let out := Ece.sample p a.2.1 q.1 q.2.value q.2.unset o.fault
        (a.1.histWrite k x.wide a.2.1.cnt q.1 q.2.value out.e out.flags, out.x, a.2.2 ++ [out])) (s, x, [])
      let s := r.1.setEce k (some (r.2.2.foldl (fun x o => x.update p o.upd) r.2.1))
      let outs := (o.outs.zip r.2.2).map (fun q => { q.1 with value := q.2.out })
      let settled := o.outs.any (fun v => !v.unset)
      let s := if r.2.1.alignTrig && settled then s.autoTrig k 3 else s
      (s, { o with outs := outs }, { plain with es := r.2.2.map (·.e) })
  | none => (s, o, plain)

/-! ### PACKET blocks (R81, R149) -/

/-- A core writes ECE_SUBMIT; `jt` is its JNL_TIME (R81, R149). [DESIGN CHOICE, log 42] -/
def State.eceSubmit (s : State) (g : Nat) (v jt : Nat) : State :=
  let cl := g / 8
  let k := 256 * cl + v % 256
  let tag := v / 2 ^ 16
  match s.ece_ k with
  | none => s
  | some x =>
    if !x.packet then s
    else if s.ece.blocks.any (fun b => b.inst == k) then
      (s.bump (Reg.ECE_SUBMIT_OVR cl)).post ⟨7, x.ctx, s.now % 2 ^ 32, tag * 2 ^ 16 + stBusy, v % 256⟩ .keep
    else { s with ece := { s.ece with blocks := s.ece.blocks ++ [⟨k, tag, s.now, jt⟩] } }

/-- Process one PACKET block (R81–R86). [DEDUCED, log 43] -/
def State.packetBlock (s : State) (b : EceBlock) (x : Ece) : State :=
  let k := b.inst
  let a := sramBase (k / 256) + s.rn (Reg.ECE_PB_BASE (k / 256)) + k % 256 * 0x200
  let n := 40 * x.per
  let pcm := fun o => (List.range n).map (fun i => signed 16 (s.rdLE (a + o + 2 * i) 2))
  let xs := pcm 0
  let ys := pcm 0xA0
  let p := s.eceP (k / 256) x.prof
  let x := { x with jofs := (near32 s.now b.jtime * x.per : Nat) - (x.cnt : Int) }
  let r := (xs.zip ys).foldl (fun (c : State × Ece × List Int) q =>
    let out := Ece.sample p c.2.1 q.1 q.2 false false
    (c.1.histWrite k x.wide c.2.1.cnt q.1 q.2 out.e out.flags, out.x.update p out.upd, c.2.2 ++ [out.out])) (s, x, [])
  let s := (r.1.setEce k (some r.2.1)).wrBytes (a + 0x140) (pcmBytes r.2.2)
  let s := s.jnlBlock x.ctx (near32 s.now b.jtime) ys xs
  s.post ⟨7, x.ctx, s.now % 2 ^ 32, b.tag * 2 ^ 16, k % 256⟩ .keep

/-- The ECE of a cluster completes its oldest PACKET block (R81). -/
def State.packetDone (s : State) (cl : Nat) : State :=
  match s.ece.blocks.find? (fun b => b.inst / 256 == cl) with
  | none => s
  | some b =>
    let s := { s with ece := { s.ece with blocks := s.ece.blocks.erase b } }
    match s.ece_ b.inst with
    | none => s
    | some x =>
      let s := s.packetBlock b (if x.fresh then x.init else x)
      if b.frame + 1 < s.now then s.bump (Reg.ECE_PKT_LATE cl) else s

/-! ### Swaps and fades (R100, R101) -/

/-- A swap is refused with SWAP_OVERRUN (R101). -/
def State.swapOverrun (s : State) (k : Nat) : State :=
  let cl := k / 256
  let s := s.setN (Reg.ECE_SWAP_STAT cl) (k % 256 * 2 ^ 16 + 1)
  (s.irq (ecePage cl) 2).err (ecePage cl) 0x10 (k % 256) (Reg.ECE_SWAP_STAT cl)

/-- A swap request of an instance that holds a background filter (R101): pending while a fade runs or is to start, and refused
while one is pending. -/
def State.eceSwapReq (s : State) (k : Nat) (x : Ece) : State × Nat :=
  if x.pend then (s.swapOverrun k, 0x10)
  else if x.fade.isSome || x.ended.isSome || x.starting then (s.setEce k (some { x with pend := true }), stOk)
  else (s.setEce k (some { x with starting := true }), stOk)

/-- The comparison window closes (R100). [DEDUCED, log 44] -/
def State.comparisonEnd (s : State) (k : Nat) : State :=
  match s.ece_ k with
  | none => s
  | some x =>
    match x.bg with
    | none => s
    | some b =>
      if b.phase ≠ 2 ∨ b.seen < 512 * x.per then s
      else if 256 * x.per ≤ b.far &&
          ratioGe b.eLive b.eBg (fieldOf (s.ecePrf (k / 256) x.prof 4) 6 6) && decide (b.eBg ≠ b.eLive ∨ b.eLive ≠ 0) then
        (s.eceSwapReq k { x with bg := some { b with phase := 3 } }).1
      else (s.reconvDone k x 1 0).setEce k (some { x with bg := none })

/-! ### Commands (R103) -/

/-- A context that is OPEN and the unit of its instance. -/
def State.eceCmd (s : State) (r : CmdRef) (op c : Nat) (f : Nat → Ece → State) : State :=
  match s.eceOf c with
  | some (k, x) => f k x
  | none => s.respond r op stNotReady [c, 0]

/-- The status of ECE_ATTACH, and the width and unit of the instance (R79, R103). -/
def State.attachStatus (s : State) (c : Nat) (f : EchoFields) : Nat × Bool × Nat :=
  let x := s.ctx_ c
  if x.state ≠ 1 then (stNotReady, false, 0)
  else if (s.eceOf c).isSome then (stBusy, false, 0)
  else if 1 < f.kind ∨ 1 < f.rate ∨ f.tlen < 2 ∨ 16 < f.tlen ∨ 255 < f.bulk ∨ 3 < f.prof ∨ (f.kind = 0 ∧ x.line.isNone) then
    (stBad, false, 0)
  else
    let wide := if f.kind = 1 then f.rate == 1 else x.line.any (fun l => s.wideLine l)
    match s.freeUnit x.home wide with
    | some u => (stOk, wide, u)
    | none => (stFull, wide, 0)

/-- Attach an instance to a context, checks done (R79, R103): in force at the next frame boundary. -/
def State.eceAttach (s : State) (c : Nat) (f : EchoFields) (wide : Bool) (u : Nat) : State :=
  s.setEce (256 * (s.ctx_ c).home + u)
    (some { ctx := c, packet := f.kind == 1, wide := wide, tlen := f.tlen, bulk := f.bulk, prof := f.prof })

/-- Release an instance: its triggers, blocks and slot go without an event (R22, R102). -/
def State.eceRelease (s : State) (c : Nat) : State :=
  match s.eceOf c with
  | none => s
  | some (k, _) =>
    let s := s.setEce k none
    { s with ece := { s.ece with
        trigs := s.ece.trigs.filter (fun t => t.inst != k), blocks := s.ece.blocks.filter (fun b => b.inst != k) } }

/-- ECE_ATTACH. -/
def State.cmdEceAttach (s : State) (r : CmdRef) (c : Nat) (f : EchoFields) : State :=
  let a := s.attachStatus c f
  let s := if a.1 = stOk then (s.wake (ecePage (s.ctx_ c).home)).eceAttach c f a.2.1 a.2.2 else s
  s.respond r 0x20 a.1 [c, a.2.2]

/-- Some change of ECE_MODIFY is out of range (R103). -/
def State.echoBad (s : State) (x : Ece) (f : EchoChange) : Bool :=
  f.tlen.any (fun t => decide (t < 2 ∨ 16 < t)) || f.bulk.any (fun b => decide (255 < b)) ||
  f.prof.any (fun p => decide (3 < p)) ||
  f.kind.any (fun k => decide (1 < k) || (decide (k = 0) &&
    !(s.ctx_ x.ctx).line.any (fun l => s.wideLine l == x.wide)))

/-- ECE_MODIFY (R102, R103). [DEDUCED, log 47] -/
def State.cmdEceModify (s : State) (r : CmdRef) (c : Nat) (f : EchoChange) : State :=
  s.eceCmd r 0x21 c (fun k x =>
    if s.echoBad x f then s.respond r 0x21 stBad [c, k % 256]
    else
      let re := f.kind.isSome || f.tlen.isSome || f.bulk.isSome
      let s := if re then s.abandon k (some stBad) else s
      let s := s.onEce k (fun y =>
        let o := y.next.getD {}
        { y with next := some {
            kind := (f.kind.map (· == 1)).orElse (fun _ => o.kind), tlen := f.tlen.orElse (fun _ => o.tlen)
            bulk := f.bulk.orElse (fun _ => o.bulk), prof := f.prof.orElse (fun _ => o.prof)
            freeze := f.freeze.orElse (fun _ => o.freeze), bypass := f.bypass.orElse (fun _ => o.bypass) } })
      s.respond r 0x21 stOk [c, k % 256])

/-- ECE_DETACH (R102, R103). -/
def State.cmdEceDetach (s : State) (r : CmdRef) (c : Nat) : State :=
  s.eceCmd r 0x22 c (fun k _ => ((s.abandon k (some 9)).eceRelease c).respond r 0x22 stOk [c, k % 256])

/-- INST_STAT.STATE of an instance. -/
def State.eceState (s : State) (k : Nat) (x : Ece) : Nat :=
  if x.byp then 4 else if x.freeze then 5 else if x.tone = 1 then 6
  else if x.erleGe (s.eceP (k / 256) x.prof).conv then 3 else 2

/-- ERL in half decibels, a signed byte: GEIGEL until the first long average (R95). -/
def State.eceErl (s : State) (k : Nat) (x : Ece) : Nat :=
  if x.measured then unsigned 8 (halfDb 95 (-128) 127 x.lx x.ly) else 2 * (s.eceP (k / 256) x.prof).geigel

/-- Long ERLE in half decibels. -/
def Ece.erleHalf (x : Ece) : Nat := if x.measured then erleDb x.ly x.le else 0

/-- ECE_QUERY (R95, R103). -/
def State.cmdEceQuery (s : State) (r : CmdRef) (c : Nat) : State :=
  s.eceCmd r 0x23 c (fun k x => s.respond r 0x23 stOk
    [c, k % 256, s.eceState k x, s.eceErl k x, x.erleHalf, if x.measured then erleDb x.ty x.te else 0,
     x.pn / 2 ^ 20, x.focus, x.adapted, x.dtSamples / x.per, x.triggers, x.swaps])

/-- ECE_RECONVERGE (R96, R97, R103). -/
def State.cmdReconverge (s : State) (r : CmdRef) (c len : Nat) : State :=
  s.eceCmd r 0x24 c (fun k x =>
    let r10 := if len = 0 then fieldOf (s.ecePrf (k / 256) x.prof 5) 8 8 else len
    if r10 < 25 ∨ 200 < r10 then s.respond r 0x24 stBad [c, k % 256]
    else
      let st := s.trigStatus k x
      if st ≠ stOk then s.respond r 0x24 st [c, k % 256]
      else (s.acceptTrig k 0 r10 x).respond r 0x24 stOk [c, k % 256])

/-- ECE_LOAD (R103). [DEDUCED, log 47] -/
def State.cmdEceLoad (s : State) (r : CmdRef) (c a : Nat) : State :=
  s.eceCmd r 0x25 c (fun k x =>
    if x.bg.isSome then s.respond r 0x25 stBusy [c, k % 256]
    else if 16 < s.slotsUsed (k / 256) false + x.per then s.respond r 0x25 stFull [c, k % 256]
    else if !inNear a (4 * x.taps) then s.respond r 0x25 stBad [c, k % 256]
    else
      let h := (List.range x.taps).map (fun i => signed 24 (s.rdLE (a + 4 * i) 4))
      (s.setEce k (some { x with bg := some { phase := 0, h := h, retro := false } })).respond r 0x25 stOk [c, k % 256])

/-- ECE_SWAP (R101, R103). -/
def State.cmdEceSwap (s : State) (r : CmdRef) (c : Nat) : State :=
  s.eceCmd r 0x26 c (fun k x =>
    let busy := x.bg.any (fun b => decide (b.phase = 1 ∨ b.phase = 2))
    if busy then s.respond r 0x26 stBusy [c, k % 256]
    else if x.bg.isNone then s.respond r 0x26 stNotReady [c, k % 256]
    else
      let p := s.eceSwapReq k x
      p.1.respond r 0x26 p.2 [c, k % 256])

/-- ECE_READ (R103). [DEDUCED, log 47] -/
def State.cmdEceRead (s : State) (r : CmdRef) (c a : Nat) (back : Bool) : State :=
  s.eceCmd r 0x27 c (fun k x =>
    match (if back then x.bg.map (·.h) else some x.h) with
    | none => s.respond r 0x27 stNotReady [c, k % 256]
    | some h =>
      if !inNear a (4 * x.taps) then s.respond r 0x27 stBad [c, k % 256]
      else (s.wrBytes a (((List.range x.taps).map (fun i => h.getD i 0)).flatMap (fun v => leBytes 4 (unsigned 32 v)))).respond
        r 0x27 stOk [c, k % 256])

/-! ### Registers and reset (R104) -/

/-- A leakage shift that is refused. -/
def leakBad (v : Nat) : Bool := decide (1 ≤ v ∧ v ≤ 7) || decide (21 ≤ v)

/-- A write of a profile register of the ECE page; range checks of the row have passed. -/
def State.writeEcePrf (s : State) (cl a : Nat) (v : Word) : State :=
  let off := (a - ecePage cl - 0x200) % 0x20
  let bad := (off == 0 && leakBad (fieldOf v.toNat 11 5)) || (off == 4 && leakBad (fieldOf v.toNat 12 5))
  if bad then s.cfgErr (ecePage cl) (some 6) stBad a
  else
    let old := if s.ece.old.any (fun e => e.1 == a) then s.ece.old else (a, s.reg a) :: s.ece.old
    { s with ece := { s.ece with old := old } }.setReg a v

/-- ECE.RST (R104): it takes effect at the first frame that begins after the write. [DEDUCED, log 182] -/
def State.eceRst (s : State) (cl : Nat) : State :=
  { (s.headerReset (ecePage cl)).setN (ecePage cl + 0x34) 4 with ece := { s.ece with rst := s.ece.rst ++ [cl] } }

/-- INST_STAT of a unit as it reads. -/
def State.instStat (s : State) (cl u : Nat) : Nat :=
  let k := 256 * cl + u
  match s.ece_ k with
  | some x => s.eceState k x * 2 ^ 29 + b2n x.dt * 2 ^ 28 + b2n (x.nlp != 0) * 2 ^ 27 + b2n x.bg.isSome * 2 ^ 26 +
      b2n x.fade.isSome * 2 ^ 25 + b2n x.pend * 2 ^ 24 + x.erleHalf % 256 * 2 ^ 16 + s.eceErl k x % 256 * 2 ^ 8 + x.focus % 64
  | none => if s.unitUsed cl u then 2 ^ 29 else 0

/-- UNITS as it reads. -/
def State.eceUnits (s : State) (cl : Nat) : Nat :=
  let used := ((List.range 256).filter (fun u => s.unitUsed cl u)).length
  used * 2 ^ 16 + s.trigCount cl * 2 ^ 8 + s.slotsUsed cl false

/-! ### Meanings -/

/-- ECE_SUBMIT (R81). JNL_TIME is the submitting core's special register 0x214 (R149). -/
def execEceSubmit (g : Nat) (v : Word) (s : State) : Res :=
  .next (s.eceSubmit g v.toNat (Tab.get (fun _ => 0) (s.core_ g).spr 0x214))

/-- PACKET_BLOCK_DONE (R81). -/
def execPacketBlockDone (cl : Nat) (s : State) : Res := .next (s.packetDone cl)

/-- FOCUS_PLACE (R88). -/
def execFocusPlace (cl u : Nat) (s : State) : Res :=
  .next (s.onEce (256 * cl + u) (fun x =>
    if x.focusDue then
      { x with focusDue := false
               focus := focusBest x.h (min (((s.eceP cl x.prof).flen + 1) * 64) x.taps) }
    else x))

/-- DT_HANG_END (R91). [DESIGN CHOICE, log 48] -/
def execDtHangEnd (cl u : Nat) (s : State) : Res :=
  .next (s.onEce (256 * cl + u) (fun x =>
    if x.dt ∧ x.dtAt + fieldOf (s.ecePrf cl x.prof 2) 16 8 * x.per ≤ (if x.packet then x.cnt else s.now * x.per) then { x with dt := false, dtSince := none } else x))

/-- TONE_REENABLE (R94). -/
def execToneReenable (cl u : Nat) (s : State) : Res :=
  let k := 256 * cl + u
  .next (match s.ece_ k with
    | some x =>
      let t := s.ecePrf cl x.prof 5
      if x.tone ≠ 0 ∧ x.lowSince.any (fun f => decide (f + 16 * fieldOf t 16 8 ≤ x.frame s.now)) then
        (s.setEce k (some { x with tone := 0, lowSince := none })).toneEvent k x 2
      else s
    | none => s)

/-- ERLE_DROP (R96). -/
def execErleDrop (cl u : Nat) (s : State) : Res :=
  let k := 256 * cl + u
  .next (match s.ece_ k with
    | some x =>
      if !x.faulted ∧
          x.dropSince.any (fun f => decide (f + 8 * max 1 (fieldOf (s.ecePrf cl x.prof 4) 12 8) ≤ x.frame s.now)) then
        s.autoTrig k 1
      else s
    | none => s)

/-- DT_LONG (R96). -/
def execDtLong (cl u : Nat) (s : State) : Res :=
  let k := 256 * cl + u
  .next (match s.ece_ k with
    | some x =>
      let d := fieldOf (s.ecePrf cl x.prof 2) 8 8
      if !x.faulted ∧ d ≠ 0 ∧ x.dtSince.any (fun f => decide (f + 64 * d ≤ x.frame s.now)) then s.autoTrig k 2 else s
    | none => s)

/-- REPLAY_START (R97). -/
def execReplayStart (cl : Nat) (s : State) : Res := .next (s.replayStart cl)

/-- REPLAY_FALLBACK (R98): the replay restarts from the ring with R = 256 ms. -/
def execReplayFallback (cl u : Nat) (s : State) : Res :=
  let k := 256 * cl + u
  .next (match s.ece_ k with
    | some x =>
      match x.bg with
      | some b =>
        if !b.failed then s
        else
          let s := s.setEce k (some { x with bg := some (s.replayBg k x 2048 false true) })
          (s.bump (Reg.ECE_FALLBACK_CNT cl)).irq (ecePage cl) 4
      | none => s
    | none => s)

/-- REPLAY_CATCH_UP (R98): the comparison window opens. -/
def execReplayCatchUp (cl u : Nat) (s : State) : Res :=
  .next (s.onEce (256 * cl + u) (fun x => { x with bg := x.bg.map (fun b =>
    if b.phase = 1 ∧ b.retro ∧ x.cnt ≤ b.pos then { b with phase := 2 } else b) }))

/-- COMPARISON_END (R100). -/
def execComparisonEnd (cl u : Nat) (s : State) : Res := .next (s.comparisonEnd (256 * cl + u))

/-- ECE_FADE_END (R101). -/
def execEceFadeEnd (cl u : Nat) (s : State) : Res := .next (s.fadeDone (256 * cl + u))

/-- ECE_ATTACH (R103). -/
def execEceAttach (r : CmdRef) (c : Nat) (f : EchoFields) (s : State) : Res := .next (s.carryOut r 0x20 (·.cmdEceAttach r c f))

/-- ECE_MODIFY (R103). -/
def execEceModify (r : CmdRef) (c : Nat) (f : EchoChange) (s : State) : Res := .next (s.carryOut r 0x21 (·.cmdEceModify r c f))

/-- ECE_DETACH (R103). -/
def execEceDetach (r : CmdRef) (c : Nat) (s : State) : Res := .next (s.carryOut r 0x22 (·.cmdEceDetach r c))

/-- ECE_QUERY (R103). -/
def execEceQuery (r : CmdRef) (c : Nat) (s : State) : Res := .next (s.carryOut r 0x23 (·.cmdEceQuery r c))

/-- ECE_RECONVERGE (R103). -/
def execEceReconverge (r : CmdRef) (c len : Nat) (s : State) : Res := .next (s.carryOut r 0x24 (·.cmdReconverge r c len))

/-- ECE_LOAD (R103). -/
def execEceLoad (r : CmdRef) (c a : Nat) (s : State) : Res := .next (s.carryOut r 0x25 (·.cmdEceLoad r c a))

/-- ECE_SWAP (R103). -/
def execEceSwap (r : CmdRef) (c : Nat) (s : State) : Res := .next (s.carryOut r 0x26 (·.cmdEceSwap r c))

/-- ECE_READ (R103). -/
def execEceRead (r : CmdRef) (c a : Nat) (back : Bool) (s : State) : Res := .next (s.carryOut r 0x27 (·.cmdEceRead r c a back))

/-- ECE_RST (R104). -/
def execEceRst (w : Win) (cl : Nat) (s : State) : Res := .next (s.hostGuard w (ecePage cl + 0x30) true (·.eceRst cl))

end Sys2Proof.Machine
end

