-- ==== Sys2Proof/Machine/Turn.lean ====
section
/-! DEFINITION. Turn (R206–R219): operands and their matching, ready moves, dispatch with affinity, aging, Hourglass timers,
requests and system flows. -/

namespace Sys2Proof.Machine
open Sys2Proof

/-- The first TURN page. -/
def turnPage : Nat := 0x70000

/-- The level TYPE_LVL gives a move type (R210). -/
def State.typeLevel (s : State) (type : Nat) : Nat :=
  s.fld Reg.TURN_TYPE_LVL (if type = 0x3F then 16 else 2 * (type - 1)) 2

/-- A flow exists: a context that is OPEN or CLOSING, or an enabled system flow (R208, R219). -/
def State.flowLive (s : State) (f : Nat) : Bool :=
  if f < 8192 then (s.ctx_ f).state != 0
  else decide (f < 8256) && s.bit (Reg.TURN_SYSFLOW_CFG (f - 8192)) 31

/-- A flow's mode is LINE while a line is bound. -/
def State.lineFlow (s : State) (f : Nat) : Bool := decide (f < 8192) && (s.ctx_ f).lineNow.isSome

/-- Home cluster of a flow. -/
def State.flowHome (s : State) (f : Nat) : Nat :=
  if f < 8192 then (s.ctx_ f).home else s.fld (Reg.TURN_SYSFLOW_CFG (f - 8192)) 16 4

/-- Moves in slots and in service, over all cores. -/
def State.placed (s : State) : List Move :=
  s.core.cores.flatMap (fun e => e.2.slot.toList ++ e.2.insv.toList)

/-- Shared store entries in use (R215). -/
def State.sharedUsed (s : State) : Nat :=
  (s.turn.flows.foldl (fun n e => n + (e.2.unmatched.filter (·.shared)).length) 0) +
  (s.turn.ready.foldl (fun n m => n + m.shr) 0) + (s.placed.foldl (fun n m => n + m.shr) 0)

/-- Reserved entries flow `f` uses. -/
def State.reservedUsed (s : State) (f : Nat) : Nat :=
  ((s.flow_ f).unmatched.filter (fun h => !h.shared)).length +
  (s.turn.ready.foldl (fun n m => if m.flow = f then n + m.res else n) 0) +
  (s.placed.foldl (fun n m => if m.flow = f then n + m.res else n) 0)

/-- A boundary operand: LINE_BLOCK or PLAYOUT. -/
def Operand.boundary (o : Operand) : Bool := o.type == 1 || o.type == 2

/-- The operand needs a shared entry: it is no boundary operand of a context flow, or the flow's two are taken (R215). -/
def State.needsShared (s : State) (o : Operand) : Bool :=
  !(o.boundary && decide (o.flow < 8192) && decide (s.reservedUsed o.flow < 2))

/-- Insert a ready move by ready time, after moves of the same time. -/
def insertReady (m : Move) : List Move → List Move
  | [] => [m]
  | x :: r => if x.ready ≤ m.ready then x :: insertReady m r else m :: x :: r

/-- Ready a move (R207, R210). -/
def State.readyMove (s : State) (type flow stamp : Nat) (solo miss : Bool) (a b : Nat × Nat) (res shr : Nat) : State :=
  let lvl := s.typeLevel type
  let m : Move := ⟨type, flow, lvl, lvl, solo, miss, stamp, s.time.us, s.time.us, 0, a.1, a.2, b.1, b.2, res, shr⟩
  { s with turn := { s.turn with ready := insertReady m s.turn.ready } }

/-- The unmatched operands of a flow leave it, and the boundary readied is recorded. -/
def State.flowTook (s : State) (f : Nat) (left : List Held) (stamp : Nat) : State :=
  s.setFlow f { s.flow_ f with unmatched := left, lastF := some stamp }

/-- Ready the lone operand `h` as a SOLO move (R208). -/
def State.solo (s : State) (h : Held) : State :=
  let o := h.op
  let sh := b2n h.shared
  let d := if o.type = 1 then ((o.d0, o.d1), (0, 0)) else ((0, 0), (o.d0, o.d1))
  (s.readyMove 1 o.flow o.stamp true (o.type == 1) d.1 d.2 (1 - sh) sh).bump Reg.TURN_UNMATCHED

/-- A boundary operand of a LINE flow (R207, R208), already given its entry. -/
def State.matchLine (s : State) (h : Held) : State :=
  let o := h.op
  let f := s.flow_ o.flow
  let stale := match f.lastF with
    | some l => notAfter32 o.stamp l
    | none => false
  match f.unmatched with
  | [] => if stale then s.bump Reg.TURN_STALE_OP
    else s.setFlow o.flow { f with unmatched := [h] }
  | g :: rest =>
    if stale then s.bump Reg.TURN_STALE_OP
    else if g.op.stamp = o.stamp then
      if g.op.type = o.type then s.bump Reg.TURN_STALE_OP
      else
        let l := if o.type = 1 then h else g
        let p := if o.type = 1 then g else h
        let shr := b2n l.shared + b2n p.shared
        (s.readyMove 1 o.flow o.stamp false false (l.op.d0, l.op.d1) (p.op.d0, p.op.d1) (2 - shr) shr).flowTook
          o.flow rest o.stamp
    else if notAfter32 o.stamp g.op.stamp then
      -- an earlier boundary: it is readied alone, the waiting operand stays
      (s.solo h).flowTook o.flow f.unmatched o.stamp
    else
      (s.solo g).setFlow o.flow { f with unmatched := rest ++ [h], lastF := some g.op.stamp }

/-- Accept an operand into the store and match it (R207, R208). -/
def State.accept (s : State) (o : Operand) : State :=
  let shared := s.needsShared o
  if !s.flowLive o.flow then s.bump Reg.TURN_BADFLOW
  else if s.lineFlow o.flow && o.boundary then s.matchLine ⟨o, shared⟩
  else
    let stale := o.boundary && match (s.flow_ o.flow).lastF with
      | some l => notAfter32 o.stamp l
      | none => false
    if stale then s.bump Reg.TURN_STALE_OP
    else
      let s := s.readyMove o.type o.flow o.stamp false false (o.d0, o.d1) (0, 0) (1 - b2n shared) (b2n shared)
      if o.boundary then s.setFlow o.flow { s.flow_ o.flow with lastF := some o.stamp } else s

/-- A flow changes mode at a block boundary while it holds an unmatched operand: the operand is readied alone (R208). -/
def State.flowModeChange (s : State) (f : Nat) : State :=
  let l := (s.flow_ f).unmatched
  (s.each l (fun s h => s.solo h)).setFlow f { s.flow_ f with
    unmatched := [], lastF := (l.getLast?.map (·.op.stamp)).orElse (fun _ => (s.flow_ f).lastF) }

/-- The producer's reaction to a refusal (R215). -/
def State.refuse (s : State) (o : Operand) (p : Producer) : State :=
  let s := (s.bump Reg.TURN_REFUSED).irq turnPage 1
  match p with
  | .boundary t =>
    if t ≤ s.now then (s.bump Reg.TURN_OP_DROP).irq turnPage 2
    else { s with turn := { s.turn with retry := s.turn.retry ++ [(o, p)] } }
  | .keep => { s with turn := { s.turn with retry := s.turn.retry ++ [(o, p)] } }
  | .core => { s with turn := { s.turn with retry := s.turn.retry ++ [(o, p)] } }
  | .sage => { s with turn := { s.turn with retry := s.turn.retry ++ [(o, p)] } }
  | .host => s.setN Reg.TURN_SYS_POST_STAT 1

/-- R208 discards the operand, so that it takes no entry: its flow does not exist, it is stale, or it is a duplicate. -/
def State.discards (s : State) (o : Operand) : Bool :=
  let f := s.flow_ o.flow
  !s.flowLive o.flow || (o.boundary &&
    (f.lastF.any (fun l => notAfter32 o.stamp l) ||
     (s.lineFlow o.flow && f.unmatched.any (fun h => h.op.stamp == o.stamp && h.op.type == o.type))))

/-- Turn refuses the operand: it would need a shared entry and none is free (R208, R215). -/
def State.noEntry (s : State) (o : Operand) : Bool :=
  !s.discards o && s.needsShared o && decide (16384 ≤ s.sharedUsed)

/-- Turn judges the oldest posted operand (R207, R215). -/
def State.operandAccept (s : State) : State :=
  match s.turn.posted with
  | [] => s
  | (o, p) :: rest =>
    let s := { s with turn := { s.turn with posted := rest } }
    if s.noEntry o then s.refuse o p else s.accept o

/-- At a frame boundary refused operands are posted again, and those past their block boundary are dropped (R215). -/
def State.retryPosts (s : State) : State :=
  let due := fun (e : Operand × Producer) => match e.2 with
    | .boundary t => decide (t ≤ s.now)
    | _ => false
  let drop := (s.turn.retry.filter due).length
  let keep := s.turn.retry.filter (fun e => !due e)
  let s := { s with turn := { s.turn with posted := keep ++ s.turn.posted, retry := [] } }
  if drop = 0 then s else (s.addN Reg.TURN_OP_DROP drop).irq turnPage 2

/-! ### Dispatch (R210–R213) -/

/-- A core is usable: RUNNING with CORE_CTL.DISP = 1. -/
def State.usable (s : State) (k : Nat) : Bool :=
  (s.core_ k).state == 1 && s.bit (Reg.CLUS_CORE_CTL (k / 8) (k % 8)) 8

/-- Its slot is empty. -/
def State.slotEmpty (s : State) (k : Nat) : Bool := (s.core_ k).slot.isNone

/-- It is idle: usable, empty slot, no move in service. -/
def State.idle (s : State) (k : Nat) : Bool := s.usable k && s.slotEmpty k && (s.core_ k).insv.isNone

/-- The first idle core of a set in global id order after the last core placed (R213). -/
def State.nextIdle (s : State) (lo n : Nat) : Option Nat :=
  ((List.range 128).map (fun i => (s.turn.lastPlaced + 1 + i) % 128)).find?
    (fun k => decide (lo ≤ k) && decide (k < lo + n) && s.idle k)

/-- Background moves held (R212). -/
def State.bgHeld (s : State) : Nat := (s.placed.filter (fun m => 2 ≤ m.rlevel)).length

/-- BG_CORES. -/
def State.bgCores (s : State) : Nat := s.fld Reg.TURN_TURN_CFG 16 7

/-- The core a move may take by affinity (R213), without the background cap. -/
def State.pickAffine (s : State) (m : Move) : Option Nat :=
  if m.level = 0 then s.nextIdle 0 128
  else
    let a := s.time.us - m.ready
    let later := if a < s.fld Reg.TURN_AFF_CFG 8 8 then s.nextIdle (8 * s.flowHome m.flow) 8 else s.nextIdle 0 128
    match (s.flow_ m.flow).lastCore with
    | some k =>
      if a < s.fld Reg.TURN_AFF_CFG 0 8 && s.usable k then (if s.slotEmpty k then some k else none) else later
    | none => later

/-- The next move of each flow: the one on the lowest-numbered level, the oldest within it; none while the flow is held
(R210). -/
def State.heads (s : State) : List Move :=
  s.turn.ready.filter (fun m => !(s.flow_ m.flow).held &&
    !s.turn.ready.any (fun x => x.flow == m.flow && x != m &&
      (decide (x.level < m.level) || (x.level == m.level && decide (x.ready < m.ready)))))

/-- The heads in the order in which a dispatch period looks at them (R213). -/
def State.byLevel (s : State) : List Move :=
  (List.range 4).flatMap (fun l => s.heads.filter (fun m => m.level == l))

/-- The move the next dispatch period places, and its core (R213). -/
def State.choose (s : State) : Option (Move × Nat) :=
  s.byLevel.findSome? (fun m =>
    if 2 ≤ m.rlevel ∧ s.bgCores ≤ s.bgHeld then none
    else (s.pickAffine m).map (fun k => (m, k)))

/-- The cap holds back a background move that this period would otherwise place (R212). -/
def State.bgBlocked (s : State) : Bool :=
  decide (s.bgCores ≤ s.bgHeld) &&
  (s.byLevel.find? (fun m => (s.pickAffine m).isSome)).any (fun m => decide (2 ≤ m.rlevel))

/-- Place a move in a core's slot (R213); a core gated in WAIT wakes (R196). -/
def State.place (s : State) (m : Move) (k : Nat) : State :=
  let wait := min 65535 (s.time.us - m.ready)
  let s := { s with turn := { s.turn with ready := s.turn.ready.erase m, lastPlaced := k } }
  let s := s.setFlow m.flow { s.flow_ m.flow with held := true, lastCore := some k }
  let s := s.setCore k { s.core_ k with slot := some { m with wait := wait, levelAt := s.time.us - m.levelAt }, waiting := false }
  (s.add64 Reg.TURN_DISP_LO 1).maxN (Reg.TURN_AGE_MAX m.level) wait

/-- One dispatch period, `dus` µs after the last time step (R212, R213). -/
def State.dispatch (s : State) (dus : Nat) : State :=
  let s := { s with time := { s.time with us := s.time.us + dus } }
  let s := if s.bgBlocked then s.bump Reg.TURN_BG_BLOCK else s
  match s.choose with
  | some (m, k) => s.place m k
  | none => s

/-- AGE_LIMIT of level 1–3 in µs (R211). -/
def State.ageLimit (s : State) (l : Nat) : Nat :=
  match l with
  | 1 => s.fld Reg.TURN_AGE_CFG0 0 16
  | 2 => s.fld Reg.TURN_AGE_CFG1 0 16
  | _ => s.fld Reg.TURN_AGE_CFG1 16 16

/-- Promote every ready move whose age has reached its limit by one level, `dus` µs on (R211). -/
def State.promote (s : State) (dus : Nat) : State :=
  let s := { s with time := { s.time with us := s.time.us + dus } }
  let due := fun (m : Move) => decide (m.level ≠ 0) && decide (s.ageLimit m.level ≤ s.time.us - m.levelAt)
  let up := s.turn.ready.filter due
  let s := { s with turn := { s.turn with
    ready := s.turn.ready.map (fun m => if due m then { m with level := m.level - 1, levelAt := s.time.us } else m) } }
  s.each up (fun s m =>
    let s := s.bump (match m.level with | 3 => Reg.TURN_PROMO3 | 2 => Reg.TURN_PROMO2 | _ => Reg.TURN_PROMO1)
    if m.level ≠ 1 then s
    else
      let s := s.irq turnPage 0
      if m.rlevel ≤ 1 then s.bump Reg.TURN_PROMO1_V else s)

/-- Turn releases a flow when its held move ends (R210). -/
def State.release (s : State) (f : Nat) : State := s.setFlow f { s.flow_ f with held := false }

/-! ### Hourglass timers (R216, R217) -/

/-- An armed timer. -/
def State.timer (s : State) (id : Nat) : Option Timer := Tab.get (fun _ => none) s.turn.timers id

/-- Arm or disarm a timer. -/
def State.setTimer (s : State) (id : Nat) (t : Option Timer) : State :=
  { s with turn := { s.turn with timers := Tab.put (fun _ => none) s.turn.timers id t } }

/-- D is past due at frame `t` (R216). -/
def pastDue (d t : Nat) : Bool :=
  d % 2 ^ 32 == t % 2 ^ 32 || decide (2 ^ 31 ≤ (d % 2 ^ 32 + 2 ^ 32 - t % 2 ^ 32) % 2 ^ 32)

/-- Where a periodic timer due at `d` stands after firing at frame `t`: its next due frame and the periods skipped
(R217). -/
def rearm (d p t : Nat) : Nat × Nat :=
  let late := (t + 2 ^ 32 - d % 2 ^ 32) % 2 ^ 32
  let skip := late / p
  ((d + (skip + 1) * p) % 2 ^ 32, skip)

/-- Fire timer `id` at the current frame (R216, R217). -/
def State.fire (s : State) (id : Nat) (t : Timer) : State :=
  let n := s.now % 2 ^ 32
  let r := if t.period = 0 then (0, 0) else rearm t.due t.period n
  let s := s.setTimer id (if t.period = 0 then none else some { t with due := r.1 })
  (s.post ⟨6, t.flow, n, r.2 % 2 ^ 16 * 2 ^ 16 + id, t.user⟩ .keep).bump Reg.TURN_HG_FIRED

/-- Fire every armed timer that is due, by due frame and then by id, ending at FPHASE `ph`; one armed in this frame waits for
the next boundary (R28, R216). -/
def State.hourglass (s : State) (ph : Nat) : State :=
  let n := s.now % 2 ^ 32
  let due := s.turn.timers.filterMap (fun e => e.2.bind (fun t =>
    if pastDue t.due n ∧ t.armed ≠ s.now then some (e.1, t) else none))
  let key := fun (e : Nat × Timer) => (n + 2 ^ 32 - e.2.due) % 2 ^ 32
  let sorted := sortBy (fun a b => decide (key b < key a) || (key a == key b && decide (a.1 ≤ b.1))) due
  let s := s.each sorted (fun s e => s.fire e.1 e.2)
  if sorted.isEmpty then s else s.maxN Reg.TURN_HG_MAXFIRE ph

/-- Arm a timer, replacing one of the same id; one armed while past due is counted (R216, R217). -/
def State.arm (s : State) (id flow due period user : Nat) : State :=
  let s := s.setTimer id (some ⟨flow, due % 2 ^ 32, period, user, s.now⟩)
  if pastDue (due % 2 ^ 32) (s.now % 2 ^ 32) then s.bump Reg.TURN_HG_PAST else s

/-! ### Requests and system flows (R218, R219) -/

/-- A request item is discarded (R218). [DEDUCED, log 163] -/
def State.treqErr (s : State) (w1 : Nat) : State :=
  ((s.bump Reg.TURN_TREQ_ERR).irq turnPage 4).err turnPage 3 (w1 % 2 ^ 24) w1

/-- What a request item asks for (R218). -/
inductive Treq where
  | post (type flow d0 d1 : Nat)
  | set (id flow due period user : Nat)
  | cancel (id : Nat)
  | bad (w1 : Nat)
  deriving DecidableEq, Repr

/-- Read the fields of a request item (R218). -/
def State.readTreq (s : State) (hdr : Word) (words : List Word) : Treq :=
  let w := fun i => (words.getD i 0).toNat
  let w1 := w 0
  let kind := w1 / 2 ^ 28
  let flow := w1 % 2 ^ 14
  if hdr.toNat / 2 ^ 24 % 16 ≠ 4 then .bad w1
  else match kind with
  | 0 =>
    let type := w1 / 2 ^ 22 % 64
    if words.length ≠ 3 ∨ (type ≠ 0x08 ∧ type ≠ 0x3F) ∨ 8256 ≤ flow then .bad w1 else .post type flow (w 1) (w 2)
  | 1 =>
    let fl := w 1 % 2 ^ 14
    let rel := bitOf w1 27
    if words.length ≠ 4 ∨ 8256 ≤ fl then .bad w1
    else .set flow fl (if rel then s.now + w 2 else w 2) (w 1 / 2 ^ 16) (w 3)
  | 2 => if words.length ≠ 1 then .bad w1 else .cancel flow
  | _ => .bad w1

/-- The Turn request queue. -/
def State.treqQ (s : State) : Nat := s.fld Reg.TURN_TURN_CFG 0 9

/-- Turn takes the item at the head of the request queue when it is of the kind the row names or malformed (R218). A POST
that the store refuses stays at the head, until the next frame boundary (R215). [DEDUCED, log 164] -/
def State.takeTreq (s : State) (mine : Treq → Bool) : State :=
  match s.frontItem s.treqQ with
  | none => s
  | some (hdr, words, _) =>
    let t := s.readTreq hdr words
    if !mine t || s.turn.reqHeld then s
    else match t with
    | .bad w1 => (s.popItem s.treqQ).treqErr w1
    | .set id f due p u => (s.popItem s.treqQ).arm id f due p u
    | .cancel id => (s.popItem s.treqQ).setTimer id none
    | .post ty f a b =>
      let o : Operand := ⟨ty, f, s.now % 2 ^ 32, a, b⟩
      if s.noEntry o then
        (({ s with turn := { s.turn with reqHeld := true } }).bump Reg.TURN_REFUSED).irq turnPage 1
      else (s.popItem s.treqQ).accept o

/-- The host posts a SYSTEM operand (R218): its outcome is known at the write. -/
def State.sysPost (s : State) (idx : Nat) : State :=
  let o : Operand := ⟨0x3F, 8192 + idx % 64, s.now % 2 ^ 32, s.rn Reg.TURN_SYS_POST_D0, s.rn Reg.TURN_SYS_POST_D1⟩
  if s.noEntry o then s.refuse o .host else s.accept o

/-- Discard the unmatched and ready moves of a flow, counting each in `ctr` where given (R219, R22). -/
def State.dropFlow (s : State) (f : Nat) (ctr : Option Nat) : State :=
  let n := (s.flow_ f).unmatched.length + (s.turn.ready.filter (fun m => m.flow == f)).length
  let s := s.setFlow f { s.flow_ f with unmatched := [] }
  let s := { s with turn := { s.turn with ready := s.turn.ready.filter (fun m => m.flow != f) } }
  match ctr with
  | some a => s.addN a n
  | none => s

/-- A write of SYSFLOW_CFG n (R219). -/
def State.writeSysflow (s : State) (n : Nat) (v : Word) : State :=
  let old := s.bit (Reg.TURN_SYSFLOW_CFG n) 31
  let s := if bitOf v.toNat 31 then s.wake (0x60000 + fieldOf v.toNat 16 4 * 0x1000) else s
  let s := s.setReg (Reg.TURN_SYSFLOW_CFG n) (v &&& 0x800F0000#32)
  if old && !bitOf v.toNat 31 then s.dropFlow (8192 + n) (some Reg.TURN_BADFLOW) else s

/-- Cancel the timers of a flow (R217, R22). -/
def State.cancelTimers (s : State) (f : Nat) : State :=
  { s with turn := { s.turn with timers := s.turn.timers.filter (fun e => !e.2.any (fun t => t.flow == f)) } }

/-! ### Taking commands (R20, R24, R206, R215, R227, R233) -/

/-- The opcodes the chapters assign (R24). -/
def opcodes : List Nat :=
  [0x01, 0x02, 0x03, 0x04, 0x05, 0x06, 0x07, 0x08, 0x09, 0x0A, 0x0B] ++
  [0x20, 0x21, 0x22, 0x23, 0x24, 0x25, 0x26, 0x27, 0x30, 0x31, 0x32, 0x33] ++
  [0x40, 0x41, 0x42, 0x43, 0x44, 0x45, 0x46, 0x50, 0x51, 0x52, 0x53, 0x54, 0x55, 0x56] ++
  [0x60, 0x61, 0x62, 0x63, 0x64, 0x70, 0x71, 0x72] ++
  [0xF0, 0xF1, 0xF2, 0xF3, 0xF4, 0xF5, 0xF6, 0xF7, 0xF8, 0xF9]

/-- Words each opcode requires: word 1 and one for each field that its chapter lists, optional fields left out.
[DESIGN CHOICE, log 138] -/
def opMinLen (op : Nat) : Nat :=
  1 + match op with
    | 0x01 => 21 | 0x02 => 13 | 0x03 => 1 | 0x04 => 1 | 0x05 => 2 | 0x06 => 1 | 0x07 => 3 | 0x08 => 1 | 0x09 => 2
    | 0x0A => 4 | 0x0B => 2
    | 0x20 => 5 | 0x21 => 7 | 0x22 => 1 | 0x23 => 1 | 0x24 => 2 | 0x25 => 2 | 0x26 => 1 | 0x27 => 3
    | 0x30 => 3 | 0x31 => 6 | 0x32 => 1 | 0x33 => 1
    | 0x40 => 6 | 0x41 => 6 | 0x42 => 6 | 0x43 => 1 | 0x44 => 1 | 0x45 => 9 | 0x46 => 1
    | 0x50 => 9 | 0x51 => 2 | 0x52 => 3 | 0x53 => 6 | 0x54 => 2 | 0x55 => 2 | 0x56 => 2
    | 0x60 => 7 | 0x61 => 4 | 0x62 => 2 | 0x63 => 2 | 0x64 => 5
    | 0x70 => 4 | 0x71 => 3 | 0x72 => 0
    | 0xF0 => 1 | 0xF1 => 0 | 0xF2 => 1 | 0xF3 => 1 | 0xF4 => 1 | 0xF5 => 2 | 0xF6 => 2 | 0xF7 => 3 | 0xF8 => 3 | _ => 1

/-- The command of an opcode names an object in its first field (R233): not the network, security and coder commands. -/
def namesObject (op : Nat) : Bool := op < 0x70 && op != 0x45

/-- The object an item names, as its response gives it (R233). -/
def objectOf (op : Nat) (fields : List Word) : Nat := if namesObject op then (fields.headD 0xFFFFFFFF).toNat else noObject

/-- The command processor can take the item at the head of command queue `q`: there is one, its event queue has space for the
response, fewer than eight of its commands are in progress, and Turn has not refused it in this frame (R20, R215). -/
def State.takeable (s : State) (q : Nat) : Bool :=
  match s.frontItem q with
  | none => false
  | some (_, words, _) =>
    let ev := s.que (q + 16)
    ev.en && decide (respLen ((words.headD 0).toNat / 2 ^ 24) ≤ ev.free) &&
    decide ((s.qm.taken.filter (fun t => t.q == q)).length < 8) && !s.qm.stalled.contains q

/-- The command queue served next: the first after the last one served, in the round of queues 0–15, whose head can be taken
(R227). [DESIGN CHOICE, log 211] -/
def State.nextQueue (s : State) : Option Nat :=
  ((List.range 16).map (fun i => (s.qm.served + 1 + i) % 16)).find? s.takeable

/-- The HOST_CMD operand of a command that its chapter assigns to firmware: CTX_SEND_EVENT, to the context's flow (R140,
R206). The address of the command's copy is a free value. [DESIGN CHOICE, log 210] -/
def State.hostCmd (s : State) (op q tag : Nat) (fields : List Word) : Option Operand :=
  if op = 0x0A ∧ (fields.headD 0).toNat < 8192 then
    some ⟨5, (fields.headD 0).toNat, s.now % 2 ^ 32, s.free % 2 ^ 32, op * 2 ^ 24 + q * 2 ^ 16 + tag⟩
  else none

/-- The command processor takes the item at the head of command queue `q` when that queue is served next (R20, R227, R338):
the response's space is reserved, the item's form, opcode and rights are judged, and the command goes on to its block, or to
Turn, which may refuse it until the next frame boundary (R215). [DESIGN CHOICE, log 138; DEDUCED, log 162] -/
def State.commandTake (s : State) (q : Nat) : State :=
  match s.frontItem q with
  | none => s
  | some (hdr, words, win) =>
    let w1 := (words.headD 0).toNat
    let op := w1 / 2 ^ 24
    let tag := w1 % 2 ^ 16
    let fields := words.drop 1
    let ev := s.que (q + 16)
    if s.nextQueue ≠ some q then s
    else
      let formed := !words.isEmpty && decide (hdr.toNat / 2 ^ 24 % 16 = 1) && opcodes.contains op && decide (opMinLen op ≤ words.length)
      let right := win.any (fun w => s.commandRight w op)
      let post := if formed && right then s.hostCmd op q tag fields else none
      if post.any s.noEntry then
        (({ s with qm := { s.qm with stalled := q :: s.qm.stalled } }).bump Reg.TURN_REFUSED).irq turnPage 1
      else
        let s := (s.popItem q).setQue (q + 16) { ev with rsv := ev.rsv + respLen op }
        let s := { s with qm := { s.qm with served := q } }
        let r : CmdRef := ⟨q, tag, win.getD .operator⟩
        if words.isEmpty then s.answer r 0 3 [noObject]
        else if !formed then s.answer r op 3 [objectOf op fields]
        else if !right then
          (match win with | some w => s.noRights w op | none => s.audit 0 4 0x0D [op]).answer r op 4 [objectOf op fields]
        else
          let s := { s with qm := { s.qm with taken := s.qm.taken ++ [{ q := q, tag := tag, op := op, win := win, fields := fields }] } }
          match post with
          | some o => s.drawn.accept o
          | none => s

/-- At a frame boundary Turn's producers try again (R215): the operands posted, the core request and the host commands that
were refused. [DEDUCED, log 162, 164] -/
def State.turnOpen (s : State) : State :=
  let s := s.retryPosts
  let held := s.turn.reqHeld
  let s := { s with turn := { s.turn with reqHeld := false } }
  let s := if held then s.takeTreq (fun t => match t with | .post .. => true | _ => false) else s
  let qs := s.qm.stalled
  let s := { s with qm := { s.qm with stalled := [] } }
  s.each qs (fun s q => s.commandTake q)

/-- The TURN reset (R219). -/
def State.turnRst (s : State) : State :=
  if s.anyCtx || !s.allStopped then s.rstRefused turnPage 2
  else { (s.headerReset turnPage).pageReset turnPage 0x74000 with turn := {} }

/-! ### Meanings -/

/-- COMMAND_TAKE (R20). -/
def execCommandTake (q : Nat) (s : State) : Res := .next (s.commandTake q)

/-- OPERAND_ACCEPT (R207). -/
def execOperandAccept (s : State) : Res := .next s.operandAccept

/-- DISPATCH_PERIOD (R213). [DESIGN CHOICE, log 6] -/
def execDispatchPeriod (dus : Nat) (s : State) : Res := .next (s.dispatch dus)

/-- MOVE_PROMOTION (R211). -/
def execMovePromotion (dus : Nat) (s : State) : Res := .next (s.promote dus)

/-- HOURGLASS_FIRE (R216). [DESIGN CHOICE, log 6] -/
def execHourglassFire (ph : Nat) (s : State) : Res := .next (s.hourglass ph)

/-- POST (R218); a malformed item is taken and discarded here. [DEDUCED, log 164] -/
def execPost (s : State) : Res :=
  .next (s.takeTreq (fun t => match t with | .post .. => true | .bad _ => true | _ => false))

/-- TIMER_SET (R218). -/
def execTimerSet (s : State) : Res := .next (s.takeTreq (fun t => match t with | .set .. => true | _ => false))

/-- TIMER_CANCEL (R218). -/
def execTimerCancel (s : State) : Res := .next (s.takeTreq (fun t => match t with | .cancel _ => true | _ => false))

/-- SYS_POST (R218). -/
def execSysPost (w : Win) (idx : Nat) (s : State) : Res :=
  .next (s.hostGuard w Reg.TURN_SYS_POST true (·.sysPost idx))

/-- SYSFLOW_DISABLE (R219). -/
def execSysflowDisable (w : Win) (n : Nat) (s : State) : Res :=
  let a := Reg.TURN_SYSFLOW_CFG n
  .next (s.hostGuard w a true (fun s => s.writeSysflow n (s.reg a &&& 0x7FFFFFFF#32)))

/-- TURN_RST (R219). -/
def execTurnRst (w : Win) (s : State) : Res := .next (s.hostGuard w (turnPage + 0x30) true (·.turnRst))

end Sys2Proof.Machine
end

