-- ==== Sys2Proof/Machine/Sage.lean ====
section
/-! DEFINITION. Sage (R105–R125): streams, tone runs and cadences, FSK receivers, levels, records and their delivery. -/

namespace Sys2Proof.Machine
open Sys2Proof

/-- The SAGE page of cluster `c`. -/
def sagePage (c : Nat) : Nat := 0x40000 + c * 0x1000

/-- The slot, keyed 512 × cluster + slot. -/
def State.slot_ (s : State) (k : Nat) : Option SageSlot := Tab.get (fun _ => none) s.sage.slots k

/-- Set a slot. -/
def State.setSlot (s : State) (k : Nat) (x : Option SageSlot) : State :=
  { s with sage := { s.sage with slots := Tab.put (fun _ => none) s.sage.slots k x } }

/-- Change a slot, if it is attached. -/
def State.onSlot (s : State) (k : Nat) (f : SageSlot → SageSlot) : State :=
  match s.slot_ k with
  | some x => s.setSlot k (some (f x))
  | none => s

/-- The slot of a context. -/
def State.sageOf (s : State) (c : Nat) : Option (Nat × SageSlot) :=
  s.sage.slots.findSome? (fun e => e.2.bind (fun x => if x.ctx = c then some (e.1, x) else none))

/-- A register of the page as it is in force: a write takes effect from the next frame. -/
def State.sageReg (s : State) (a : Nat) : Nat :=
  match s.sage.old.find? (fun e => e.1 == a) with
  | some e => e.2.toNat
  | none => s.rn a

/-- What the detectors of a stream read: profile words and the CPT table. -/
structure SageP where
  det : Nat
  dtmf : Nat
  fax : Nat
  cid : Nat
  lvl : Nat
  mask : Nat
  cpt : List (Nat × Nat × Nat × Nat)

/-- Read a profile. -/
def State.sageP (s : State) (cl : Nat) (x : Stream) : SageP :=
  let w := fun j => s.sageReg (Reg.SAGE_PRF_DET cl x.prof + 4 * j)
  let e := fun i j => s.sageReg (Reg.SAGE_CPT_FREQ cl i + 4 * j)
  { det := w 0, dtmf := w 2, fax := w 3, cid := w 4, lvl := w 5, mask := x.mask
    cpt := (List.range 16).map (fun i => (e i 0, e i 1, e i 2, e i 3)) }

/-- Class `k` is enabled and not masked (R120). -/
def SageP.enabled (p : SageP) (k : Nat) : Bool := bitOf p.det (k - 1) && !bitOf p.mask (k - 1)

/-! ### Records (R119) -/

/-- A finding. -/
structure SageRec where
  cls : Nat
  code : Nat := 0
  on : Bool
  cut : Bool := false
  stamp : Nat
  level : Nat := 0
  dur : Nat := 0
  data : Nat := 0

/-- Duration in ms, saturating. -/
def durMs (t0 t1 : Nat) : Nat := min 65535 ((t1 - t0) / 8)

/-! ### Tone runs (R109) -/

/-- What a step does to a run. -/
structure RunOut where
  run : Option Run
  started : Bool := false
  declared : Bool := false
  ended : Option Run := none

/-- A run that starts at step `s` (R109). -/
def runNew (s w on floor lv : Nat) : Run :=
  let t0 := max floor (s - w)
  ⟨t0, s, decide (on ≤ s - t0), lv⟩

/-- One step of a run: window length, ON_MIN and OFF_MIN in samples, earliest start, and the level of a window that passes (R109). -/
def runStep (s w on off floor : Nat) (pass : Option Nat) (r : Option Run) : RunOut :=
  match r, pass with
  | none, none => { run := none }
  | none, some lv =>
    let n := runNew s w on floor lv
    { run := some n, started := true, declared := n.declared }
  | some x, some lv =>
    if s < x.t1 + off + w then
      let d := x.declared || decide (on ≤ s - x.t0)
      { run := some ⟨x.t0, s, d, lv⟩, declared := d && !x.declared }
    else
      let n := runNew s w on floor lv
      { run := some n, started := true, declared := n.declared, ended := some x }
  | some x, none =>
    if x.t1 + off + w ≤ s + 8 then { run := none, ended := some x } else { run := some x }

/-- The window of `w` samples before the step, oldest first, if it is whole and holds no marked sample (R110).
[DESIGN CHOICE, log 49] -/
def window (hist : List (Option Int)) (w : Nat) : Option (List Int) :=
  let l := hist.take w
  if l.length < w ∨ l.any Option.isNone then none else some (l.reverse.filterMap id)

/-- A window's judgement: nothing of one that is not whole or holds a marked sample. [DESIGN CHOICE, log 49] -/
def judge {α : Type} (hist : List (Option Int)) (w : Nat) (f : List Int → Option α) : Option α := (window hist w).bind f

/-- FAX_LEVEL. -/
def SageP.faxLevel (p : SageP) : Nat := fieldOf p.fax 26 6

/-! ### Detectors -/

/-- One step of the DTMF runs (R112). -/
def stepDtmf (p : SageP) (hist : List (Option Int)) (floor s : Nat) (l : List (Nat × Run × Bool)) :
    List (Nat × Run × Bool) × List SageRec :=
  let on := 8 * fieldOf p.dtmf 6 6
  let off := 8 * fieldOf p.dtmf 0 6
  let j := judge hist 104 (passDtmf p.dtmf)
  let old := l.map (fun e => (e, false))
  let l := match j with
    | some (k, lv) => if l.any (fun e => e.1 = k) then old
        else
          let n := runNew s 104 on floor lv
          old ++ [((k, { n with declared := false }, n.declared), true)]
    | none => old
  l.foldl (fun (a : List (Nat × Run × Bool) × List SageRec) q =>
    let e := q.1
    let blocked := a.1.any (fun e => e.2.1.declared)
    let pass := j.bind (fun v => if v.1 = e.1 then some v.2 else none)
    let o : RunOut := if q.2 then { run := some e.2.1, declared := e.2.2 }
      else runStep s 104 on off floor pass (some e.2.1)
    let ends : List SageRec := match o.ended with
      | some x => if e.2.1.declared then
          [{ cls := 1, code := e.1, on := false, stamp := x.t1, dur := durMs x.t0 x.t1, level := x.lv }] else []
      | none => []
    match o.run with
    | none => (a.1, a.2 ++ ends)
    | some x =>
      let was := e.2.1.declared && o.ended.isNone
      let due := (e.2.2 && o.ended.isNone) || o.declared
      if due && !blocked && !was then
        (a.1 ++ [(e.1, { x with declared := true }, false)],
         a.2 ++ ends ++ [{ cls := 1, code := e.1, on := true, stamp := x.t0, level := x.lv }])
      else (a.1 ++ [(e.1, { x with declared := was }, due && !was)], a.2 ++ ends)) ([], [])

/-- The OFF record of a declared run. -/
def runOff (cls code : Nat) (x : Run) : List SageRec :=
  if x.declared then [{ cls := cls, code := code, on := false, stamp := x.t1, dur := durMs x.t0 x.t1, level := x.lv }] else []

/-- One step of a plain tone detector: class, ON_MIN (R109, R111). -/
def stepTone (p : SageP) (hist : List (Option Int)) (floor s cls f0 on : Nat) (r : Option Run) : Option Run × List SageRec :=
  let o := runStep s 128 on 256 floor (judge hist 128 (passTone cls f0 15 30 p.faxLevel)) r
  let ends := o.ended.toList.flatMap (runOff cls 0)
  let starts := o.run.toList.flatMap (fun x =>
    if o.declared then [({ cls := cls, on := true, stamp := x.t0, level := x.lv } : SageRec)] else [])
  (o.run, ends ++ starts)

/-- CNG (R114): one ON record when a burst of the right length ends. -/
def stepCng (p : SageP) (hist : List (Option Int)) (floor s : Nat) (r : Option Run) : Option Run × List SageRec :=
  let o := runStep s 128 0 256 floor (judge hist 128 (passTone 3 1100 38 60 p.faxLevel)) r
  let recs := o.ended.toList.flatMap (fun x =>
    let d := x.t1 - x.t0
    if 80 * fieldOf p.fax 8 6 ≤ d ∧ d < 80 * fieldOf p.fax 0 8 then
      [({ cls := 3, on := true, stamp := x.t0, dur := durMs x.t0 x.t1, level := x.lv } : SageRec)] else [])
  (o.run, recs)

/-- ANS (R115). Reversals before the declaration part intervals too. -/
def stepAns (p : SageP) (hist : List (Option Int)) (floor s : Nat) (a : Ans) : Ans × List SageRec :=
  let on := 8 * fieldOf p.fax 18 8
  let o := runStep s 128 on 256 floor (judge hist 128 (passTone 4 2100 15 30 p.faxLevel)) a.run
  let ends := o.ended.toList.flatMap (runOff 4 a.code)
  let a : Ans := if o.ended.isSome then { run := o.run } else { a with run := o.run }
  match a.run with
  | none => ({}, ends)
  | some x =>
    let a := if o.declared then
        { a with code := b2n ((window (hist.drop (s - (x.t0 + on))) on).any ansam) } else a
    let recs : List SageRec := if o.declared then [{ cls := 4, code := a.code, on := true, stamp := x.t0, level := x.lv }] else []
    let r := s - 128
    if !(decide (x.t0 < r) && (window hist 256).any phaseReversal) then (a, ends ++ recs)
    else
      let d := r - a.rev.getD x.t0
      if x.declared ∧ !a.posted ∧ 3200 ≤ d ∧ d < 4000 then
        let c := a.code + 2
        ({ a with rev := some r, posted := true, code := c },
         ends ++ recs ++ [{ cls := 4, code := c, on := true, stamp := r, level := x.lv }])
      else ({ a with rev := some r }, ends ++ recs)

/-- An interval lies in [MIN, MAX) of 20 ms units (R113). -/
def inRange20 (d lo hi : Nat) : Bool := decide (160 * lo ≤ d) && decide (d < 160 * hi)

/-- The cadence fields of segment `g`: ON range and OFF range. [DEDUCED, log 51] -/
def cadence (e : Nat × Nat × Nat × Nat) (g : Nat) : Nat × Nat × Nat × Nat :=
  let w := if g = 0 then e.2.2.1 else e.2.2.2
  (fieldOf w 24 8, fieldOf w 16 8, fieldOf w 8 8, fieldOf w 0 8)

/-- An ON interval has ended a declared or growing match: the OFF record, if it was declared (R113). -/
def cptStop (i : Nat) (t1 lv : Nat) (x : Cpt) : List SageRec :=
  if x.declared then [{ cls := 2, code := i, on := false, stamp := t1, dur := durMs x.first t1, level := lv }] else []

/-- One step of a CPT entry (R113). [DEDUCED, log 51] -/
def stepCpt (hist : List (Option Int)) (floor s i : Nat) (e : Nat × Nat × Nat × Nat) (x : Cpt) : Cpt × List SageRec :=
  let pass := judge hist 256 (passCpt (fieldOf e.1 20 12) (fieldOf e.1 8 12) (fieldOf e.1 4 4) (fieldOf e.2.1 26 6))
  let lv := pass.getD x.lv
  let x := { x with lv := lv }
  let on1 := fieldOf e.2.2.1 16 8
  if on1 = 0 then
    let o := runStep s 256 (160 * fieldOf e.2.2.1 24 8) 256 floor pass x.run
    let ends := o.ended.toList.flatMap (runOff 2 i)
    let starts := o.run.toList.flatMap (fun r =>
      if o.declared then [({ cls := 2, code := i, on := true, stamp := r.t0, level := r.lv } : SageRec)] else [])
    ({ x with run := o.run, declared := o.run.any (·.declared), first := (o.run.map (·.t0)).getD 0 }, ends ++ starts)
  else
    let o := runStep s 256 0 256 floor pass x.run
    -- a run that ended gives its ON interval
    let (x, recs) : Cpt × List SageRec := match o.ended with
      | none => (x, [])
      | some r =>
        let c := cadence e x.seg
        if inRange20 (r.t1 - r.t0) c.1 c.2.1 then ({ x with last := some (r.t0, r.t1) }, [])
        else
          let c0 := cadence e 0
          let y : Cpt := { last := if inRange20 (r.t1 - r.t0) c0.1 c0.2.1 then some (r.t0, r.t1) else none, lv := lv }
          (y, cptStop i r.t1 r.lv x)
    let x := { x with run := o.run }
    match x.last with
    | none => (x, recs)
    | some l =>
      let c := cadence e x.seg
      if o.started then
        let t := (o.run.map (·.t0)).getD s
        let two := decide (e.2.2.2 ≠ 0)
        let next := fun (y : Cpt) =>
          let first := if y.cycles = 0 ∧ y.seg = 0 then l.1 else y.first
          let done := !two || decide (y.seg = 1)
          let cyc := y.cycles + b2n done
          let decl := y.declared || decide (max 1 (fieldOf e.2.1 22 4) ≤ cyc)
          (({ y with last := none, first := first, seg := if done then 0 else 1, cycles := cyc, declared := decl } : Cpt),
           if decl && !y.declared then [{ cls := 2, code := i, on := true, stamp := first, level := lv }] else ([] : List SageRec))
        if inRange20 (t - l.2) c.2.2.1 c.2.2.2 then
          let n := next x
          (n.1, recs ++ n.2)
        else
          let c0 := cadence e 0
          let stop := cptStop i l.2 lv x
          let y : Cpt := { run := x.run, lv := lv }
          if x.seg = 1 && inRange20 (l.2 - l.1) c0.1 c0.2.1 && inRange20 (t - l.2) c0.2.2.1 c0.2.2.2 then
            let n := next y
            (n.1, recs ++ stop ++ n.2)
          else (y, recs ++ stop)
      else if x.run.isNone && decide (l.2 + 160 * c.2.2.2 + 256 ≤ s + 8) then
        ({}, recs ++ cptStop i l.2 lv x)
      else (x, recs)

/-- One sample of the discriminator at sample time `t`: a change of sign places the bit boundary half a bit back, and a bit is
decided when its samples fill the window. [DESIGN CHOICE, log 50] -/
def fskSample (cls : Nat) (pair : Bool) (a : Fsk × List (Nat × Bool)) (t : Nat) (x : Option (List Int)) :
    Fsk × List (Nat × Bool) :=
  let f := a.1
  let len := (fskSpan cls).2
  match x with
  | none => a
  | some l =>
    let one := fskOne cls pair l
    let f := if f.due = 0 then { f with sign := one, due := 3 * t }
      else if one = f.sign then f
      else { f with sign := one, due := 3 * t + len / 2 }
    if f.due ≤ 3 * t then ({ f with due := f.due + len }, a.2 ++ [((f.due - len) / 3, f.sign)]) else (f, a.2)

/-- The bits decided in the 8 samples before step `s`, with their start times, oldest first (R116, R117).
[DESIGN CHOICE, log 50] -/
def fskAt (cls s : Nat) (pair : Bool) (hist : List (Option Int)) (f : Fsk) : Fsk × List (Nat × Bool) :=
  (List.range 8).foldl (fun a i => fskSample cls pair a (s - 7 + i) (window (hist.drop (7 - i)) (fskSpan cls).1)) (f, [])

/-- The carrier of an FSK class at a step: its level, when it is at or above the limit and no steady tone outside the bands.
[DESIGN CHOICE, log 50] -/
def carrierAt (cls : Nat) (pair : Bool) (level : Nat) (hist : List (Option Int)) : Option Nat :=
  (window hist (fskSpan cls).1).bind (fun l =>
    let p := meanPower l
    let out := (window hist 128).any (fun w => !fskBand cls pair w)
    if atLeastDbm p level && !out then some (dbmOf p) else none)

/-- The state of a receiver whose carrier is `car` at step `s`. -/
def Fsk.carrier (f : Fsk) (car : Option Nat) (s : Nat) : Fsk :=
  match car with
  | some lv => { f with t1 := s, lv := lv }
  | none => { f with due := 0 }

/-- V21 (R116). -/
def stepV21 (p : SageP) (hist : List (Option Int)) (floor s : Nat) (f : Fsk) : Fsk × List SageRec :=
  let car := carrierAt 5 false p.faxLevel hist
  let f := f.carrier car s
  let need := fieldOf p.fax 14 4
  let b := if car.isSome then fskAt 5 s false hist f else (f, [])
  let r := b.2.foldl (fun (a : Fsk × List SageRec) b =>
    let f := a.1
    let bits := (b :: f.bits).take 8
    let flag := bits.map Prod.snd == [false, true, true, true, true, true, true, false]
    let start := max floor ((bits.getLast?.map Prod.fst).getD s)
    if !flag then ({ f with bits := bits, idle := f.idle + 1 }, a.2)
    else
      let joined := decide (f.count ≠ 0) && decide (f.idle = 7)
      let f := { f with bits := bits, idle := 0, count := if joined then f.count + 1 else 1
                        first := if joined then f.first else start }
      if !f.declared && decide (need ≤ f.count) then
        ({ f with declared := true, t0 := f.first }, a.2 ++ [{ cls := 5, on := true, stamp := f.first, level := f.lv }])
      else (f, a.2)) (b.1, [])
  let f := r.1
  if car.isNone && decide (f.t1 + 256 ≤ s) then
    ({}, r.2 ++ (if f.declared then [{ cls := 5, on := false, stamp := f.t1, dur := durMs f.t0 f.t1, level := f.lv }] else []))
  else r

/-- The CID data record of the bytes held (R117, R119). [DESIGN CHOICE, log 50] -/
def cidRecord (f : Fsk) (lv : Nat) : List SageRec :=
  if f.held.isEmpty then []
  else
    let n := f.held.length
    let err := (f.held.zip (List.range n)).foldl (fun a b => a + b2n b.1.2 * 2 ^ b.2) 0
    [{ cls := 7, code := 1, on := false, stamp := f.heldAt, level := lv, dur := n + 256 * err
       data := (f.held.zip (List.range n)).foldl (fun a b => a + b.1.1 * 2 ^ (8 * b.2)) 0 }]

/-- One bit of a CID stream (R117). -/
def cidBit (p : SageP) (lv : Nat) (a : Fsk × List SageRec) (b : Nat × Bool) : Fsk × List SageRec :=
  let f := a.1
  let seize := fieldOf p.cid 16 8
  let mark := fieldOf p.cid 8 8
  if !f.declared then
    let alt := f.bits.head?.any (fun q => q.2 != b.2)
    let first := if f.count = 0 ∧ f.marks = 0 then b.1 else f.first
    -- `count` alternating bits, then `marks` ones
    let f := { f with bits := [b], first := first }
    let f := if alt then { f with count := if 2 ≤ f.marks then 1 else f.count + 1, marks := b2n b.2 }
      else if b.2 then { f with marks := f.marks + 1 }
      else { f with count := 0, marks := 0, first := b.1 }
    if seize ≤ f.count + 1 ∧ mark ≤ f.marks then
      ({ f with declared := true, t0 := f.first, char := none, held := [], idle := 0 },
       a.2 ++ [{ cls := 7, code := 0, on := true, stamp := f.first, level := lv }])
    else (f, a.2)
  else
    match f.char with
    | none =>
      if b.2 then
        let f := { f with idle := f.idle + 1 }
        if f.idle = 12 then ({ f with held := [] }, a.2 ++ cidRecord f lv) else (f, a.2)
      else ({ f with char := some [], idle := 0, heldAt := if f.held.isEmpty then b.1 else f.heldAt }, a.2)
    | some l =>
      if l.length < 8 then ({ f with char := some (l ++ [b.2]) }, a.2)
      else
        let byte := (l.zip (List.range 8)).foldl (fun v q => v + b2n q.1 * 2 ^ q.2) 0
        let f := { f with char := none, held := f.held ++ [(byte, !b.2)] }
        if f.held.length = 4 then ({ f with held := [] }, a.2 ++ cidRecord f lv) else (f, a.2)

/-- CID (R117). -/
def stepCid (p : SageP) (hist : List (Option Int)) (s : Nat) (f : Fsk) : Fsk × List SageRec :=
  let mode := fieldOf p.cid 30 2
  if mode = 0 then (f, [])
  else
    let lim := fieldOf p.cid 24 6
    let pair := match mode with
      | 1 => false
      | 2 => true
      | _ => f.pair.getD ((window hist 128).any cidPair)
    let car := carrierAt 7 pair lim hist
    let f := { f.carrier car s with pair := if car.isSome then some pair else f.pair }
    let b := if car.isSome then fskAt 7 s pair hist f else (f, [])
    let r := b.2.foldl (cidBit p b.1.lv) (b.1, [])
    let f := r.1
    if car.isNone && decide (f.t1 + 80 ≤ s) then
      ({}, r.2 ++ (if f.declared then
        cidRecord f f.lv ++ [{ cls := 7, code := 2, on := false, stamp := f.t1, dur := durMs f.t0 f.t1, level := f.lv }] else []))
    else r

/-- L is at least `db` dBm0, where `db` is given as a signed number. -/
def levelGe (avg : Nat) (db : Int) : Bool :=
  if db ≤ 0 then decide (256000000 ^ 10 ≤ avg ^ 10 * 10 ^ (-db).toNat)
  else decide (256000000 ^ 10 * 10 ^ db.toNat ≤ avg ^ 10)

/-- SILENCE (R118). -/
def stepSil (p : SageP) (avg floor s : Nat) (x : Lvl) : Lvl × List SageRec :=
  let lim : Int := -(fieldOf p.lvl 26 6 : Nat)
  let hyst : Int := (fieldOf p.lvl 22 4 : Nat)
  let time := 8 * fieldOf p.lvl 12 10
  let lv := dbmOf avg
  let quiet := !levelGe avg lim
  if x.on then
    if levelGe avg (lim + hyst) then
      ({}, [{ cls := 8, on := false, stamp := s, dur := durMs x.at_ s, level := lv }])
    else (x, [])
  else
    match x.since with
    | some t =>
      if t + time ≤ s then ({ on := true, at_ := t }, [{ cls := 8, on := true, stamp := t, level := lv }])
      else if quiet then (x, []) else ({}, [])
    | none => if quiet then ({ since := some (max floor s) }, []) else (x, [])

/-- LEVEL_HIGH (R118). -/
def stepHigh (p : SageP) (avg s : Nat) (x : Lvl) : Lvl × List SageRec :=
  let lim : Int := -(fieldOf p.lvl 0 6 : Nat)
  let hyst : Int := (fieldOf p.lvl 22 4 : Nat)
  let lv := dbmOf avg
  if x.on then
    if levelGe avg (lim - hyst) then (x, [])
    else ({}, [{ cls := 9, on := false, stamp := s, dur := durMs x.at_ s, level := lv }])
  else if levelGe avg lim then ({ on := true, at_ := s }, [{ cls := 9, on := true, stamp := s, level := lv }])
  else (x, [])

/-- The earliest t0 that a detector of class `k` may take: where it last started afresh (R124). -/
def Stream.floorOf (x : Stream) (k : Nat) : Nat := max x.floor (Tab.get (fun _ => 0) x.floors k)

/-- Every detector of a stream at step `s`, in order of class. -/
def Stream.step (p : SageP) (x : Stream) (s : Nat) : Stream × List SageRec :=
  let d := x.det
  let h := x.hist
  let fl := x.floorOf
  let (d, r1) := if p.enabled 1 then let o := stepDtmf p h (fl 1) s d.dtmf; ({ d with dtmf := o.1 }, o.2) else (d, [])
  let (d, r2) : Dets × List SageRec := if !p.enabled 2 then (d, []) else
    (p.cpt.zip (List.range 16)).foldl (fun a e =>
      if bitOf p.det (16 + e.2) && decide (fieldOf e.1.1 20 12 ≠ 0) then
        let o := stepCpt h (fl 2) s e.2 e.1 (Tab.get (fun _ => {}) a.1.cpt e.2)
        ({ a.1 with cpt := Tab.put (fun _ => {}) a.1.cpt e.2 o.1 }, a.2 ++ o.2)
      else a) (d, [])
  let (d, r3) := if p.enabled 3 then let o := stepCng p h (fl 3) s d.cng; ({ d with cng := o.1 }, o.2) else (d, [])
  let (d, r4) := if p.enabled 4 then let o := stepAns p h (fl 4) s d.ans; ({ d with ans := o.1 }, o.2) else (d, [])
  let (d, r5) := if p.enabled 5 then let o := stepV21 p h (fl 5) s d.v21; ({ d with v21 := o.1 }, o.2) else (d, [])
  let (d, r6) := if p.enabled 6 then
      let o := stepTone p h (fl 6) s 6 2225 (8 * fieldOf p.fax 18 8) d.t2225; ({ d with t2225 := o.1 }, o.2) else (d, [])
  let (d, r7) := if p.enabled 7 then let o := stepCid p h s d.cid; ({ d with cid := o.1 }, o.2) else (d, [])
  let (d, r8) := if p.enabled 8 then let o := stepSil p x.avg (fl 8) s d.sil; ({ d with sil := o.1 }, o.2) else (d, [])
  let (d, r9) := if p.enabled 9 then let o := stepHigh p x.avg s d.high; ({ d with high := o.1 }, o.2) else (d, [])
  ({ x with det := d }, r1 ++ r2 ++ r3 ++ r4 ++ r5 ++ r6 ++ r7 ++ r8 ++ r9)

/-- One 8 kHz sample of a stream (R108–R110). -/
def Stream.feed (p : SageP) (a : Stream × List SageRec) (v : Option Int) : Stream × List SageRec :=
  let x := a.1
  let x := { x with
    hist := (v :: x.hist).take 2304, time := x.time + 1
    avg := match v with
      | some i => expAvg 118 7 x.avg (i.natAbs ^ 2)
      | none => x.avg }
  if x.time % 8 = 0 then
    let o := x.step p x.time
    (o.1, a.2 ++ o.2)
  else (x, a.2)

/-- The half-band filter around the centre of its last 31 samples, newest first (R108): half the centre, and taps at odd
distances. [DESIGN CHOICE, log 49] -/
def halfBand (l : List Int) : Int :=
  let acc := 2 ^ 16 * l.getD 15 0 + (List.range 8).foldl (fun a k =>
    a + Config.sageHalf (2 * k + 1) * (l.getD (14 - 2 * k) 0 + l.getD (16 + 2 * k) 0)) 0
  sat16v (quot 108 acc (2 ^ 17))

/-- The filter's delay in 8 kHz samples, which its stamps do not show (R108). [DESIGN CHOICE, log 49] -/
def sageDelay (wide : Bool) : Nat := if wide then 7 else 0

/-- Input samples as 8 kHz samples: a 16 kHz stream is decimated by 2 (R108). -/
def Stream.take (wide : Bool) (x : Stream) (l : List (Option Int)) : Stream × List (Option Int) :=
  if !wide then (x, l)
  else (List.range (l.length / 2)).foldl (fun (a : Stream × List (Option Int)) i =>
    let raw := (l.getD (2 * i + 1) none :: l.getD (2 * i) none :: a.1.raw).take 31
    let at_ := fun k => raw.getD k (some 0)
    ({ a.1 with raw := raw }, a.2 ++ [if (at_ 15).isNone || (at_ 14).isNone then none
      else some (halfBand ((List.range 31).map (fun k => (at_ k).getD 0)))])) (x, [])

/-! ### Delivery (R119–R123) -/

/-- FLAGS of a record. -/
def SageRec.flags (r : SageRec) (d : Nat) (lost wide : Bool) : Nat :=
  b2n r.on + 2 * d + 4 * b2n lost + 8 * b2n r.cut + 16 * b2n wide

/-- The 16 bytes of a record (R119). -/
def SageRec.bytes (r : SageRec) (c d : Nat) (lost wide : Bool) : List Nat :=
  leBytes 4 r.stamp ++ [r.cls, r.code, r.flags d lost wide, r.level % 256] ++ leBytes 2 c ++ leBytes 2 r.dur ++ leBytes 4 r.data

/-- The next free index of a cluster's event ring, in ring order; none when 256 are in use (R121). [DEDUCED, log 52] -/
def State.ringSlot (s : State) (cl : Nat) : Option Nat :=
  let at_ := Tab.get (fun _ => 0) s.sage.next cl
  ((List.range 256).map (fun i => (at_ + i) % 256)).find? (fun i =>
    !s.sage.ring.any (fun e => e.cluster == cl && e.idx == i))

/-- The flow copy of a record (R121). -/
def State.sageFlow (s : State) (k d : Nat) (x : SageSlot) (r : SageRec) : State :=
  let cl := k / 512
  let st := if d = 0 then x.s0 else x.s1
  let upd := fun (s : State) (f : Stream → Stream) =>
    s.onSlot k (fun y => if d = 0 then { y with s0 := f y.s0 } else { y with s1 := f y.s1 })
  match s.ringSlot cl with
  | none =>
    upd ((s.bump (Reg.SAGE_EV_DROP cl)).irq (sagePage cl) 0) (fun y => { y with lost := true, drops := y.drops + 1 })
  | some i =>
    let s := s.wrBytes (sramBase cl + s.rn (Reg.SAGE_SE_BASE cl) + i * 16) (r.bytes x.ctx d st.lost x.wide)
    let s := { s with sage := { s.sage with
        ring := s.sage.ring ++ [⟨cl, i, x.ctx⟩], next := Tab.put (fun _ => 0) s.sage.next cl ((i + 1) % 256) } }
    (upd s (fun y => { y with lost := false })).post ⟨4, x.ctx, s.now % 2 ^ 32, i, 0⟩ .sage

/-- Deliver one record of stream `d` of a slot (R120–R123). -/
def State.sagePost (s : State) (k d : Nat) (r : SageRec) : State :=
  match s.slot_ k with
  | none => s
  | some x =>
    let cl := k / 512
    let st := if d = 0 then x.s0 else x.s1
    let route := s.sageReg (Reg.SAGE_PRF_ROUTE cl st.prof)
    let s := s.onSlot k (fun y => if d = 0 then { y with s0 := { y.s0 with records := y.s0.records + 1 } }
      else { y with s1 := { y.s1 with records := y.s1.records + 1 } })
    let s := if r.on then s.bump (Reg.SAGE_DETECT_CNT cl) else s
    let b := r.bytes x.ctx d false x.wide
    let s := if bitOf route (16 + (r.cls - 1)) then
        s.event (s.ctx_ x.ctx).evq 0xB0 ((List.range 4).map (fun i => leNat (slice b (4 * i) 4)))
      else s
    let s := if bitOf route (r.cls - 1) then s.sageFlow k d x r else s
    let s := if r.on && decide (r.cls = 4) then
        match s.eceOf x.ctx with
        | some (u, _) => s.onEce u (fun y => { y with toneInd := some (decide (2 ≤ r.code) || y.toneInd == some true) })
        | none => s
      else s
    let data := bitOf (s.sageReg (Reg.SAGE_PRF_DET cl x.s0.prof)) 15 || bitOf (s.sageReg (Reg.SAGE_PRF_DET cl x.s1.prof)) 15
    if r.on && decide (3 ≤ r.cls) && decide (r.cls ≤ 6) && data then
      { s with sage := { s.sage with data := s.sage.data ++ [(x.ctx, r.cls)] } }
    else s

/-- Feed samples into stream `d` of a slot, the first at sample time `t`, and deliver its records. -/
def State.sageFeed (s : State) (k d t : Nat) (wide : Bool) (l : List (Option Int)) : State :=
  match s.slot_ k with
  | none => s
  | some x =>
    let st := if d = 0 then x.s0 else x.s1
    let q := st.take wide l
    let o := q.2.foldl (Stream.feed (s.sageP (k / 512) st)) ({ q.1 with time := t - sageDelay x.wide }, [])
    let s := s.setSlot k (some (if d = 0 then { x with s0 := o.1 } else { x with s1 := o.1 }))
    s.each o.2 (fun s r => s.sagePost k d r)

/-! ### Detectors cleared (R124) -/

/-- Tones declared ON: class, code, start, level; `l` is L. -/
def Dets.declared (d : Dets) (l : Nat) : List (Nat × Nat × Nat × Nat) :=
  (d.dtmf.filter (·.2.1.declared)).map (fun e => (1, e.1, e.2.1.t0, e.2.1.lv)) ++
  (d.cpt.filter (fun e => e.2.declared)).map (fun e => (2, e.1, e.2.first, e.2.lv)) ++
  (d.ans.run.filter (·.declared)).toList.map (fun r => (4, d.ans.code, r.t0, r.lv)) ++
  (if d.v21.declared then [(5, 0, d.v21.t0, d.v21.lv)] else []) ++
  (d.t2225.filter (·.declared)).toList.map (fun r => (6, 0, r.t0, r.lv)) ++
  (if d.cid.declared then [(7, 2, d.cid.t0, d.cid.lv)] else []) ++
  (if d.sil.on then [(8, 0, d.sil.at_, l)] else []) ++ (if d.high.on then [(9, 0, d.high.at_, l)] else [])

/-- A mask of the classes `p` holds of. -/
def classMask (p : Nat → Bool) : Nat := (List.range 9).foldl (fun m i => if p i then m + 2 ^ i else m) 0

/-- Clear the detectors of the classes in `m` (bit k − 1 for class k). -/
def Dets.clear (d : Dets) (m : Nat) : Dets :=
  { dtmf := if bitOf m 0 then [] else d.dtmf, cpt := if bitOf m 1 then [] else d.cpt
    cng := if bitOf m 2 then none else d.cng, ans := if bitOf m 3 then {} else d.ans
    v21 := if bitOf m 4 then {} else d.v21, t2225 := if bitOf m 5 then none else d.t2225
    cid := if bitOf m 6 then {} else d.cid, sil := if bitOf m 7 then {} else d.sil
    high := if bitOf m 8 then {} else d.high }

/-- Change stream `d` of a slot. -/
def State.onStream (s : State) (k d : Nat) (f : Stream → Stream) : State :=
  s.onSlot k (fun y => if d = 0 then { y with s0 := f y.s0 } else { y with s1 := f y.s1 })

/-- A change of profile or mask of stream `d` at frame `n` (R124): the classes masked are cleared, those unmasked start afresh. -/
def State.streamChange (s : State) (n k d : Nat) (prof mask : Option Nat) : State :=
  match s.slot_ k with
  | none => s
  | some x =>
    let st := if d = 0 then x.s0 else x.s1
    let newMask := mask.getD st.mask
    let all := prof.any (fun p => p != st.prof)
    let clr := if all then 0x1FF else classMask (fun i => bitOf newMask i && !bitOf st.mask i)
    let fresh := classMask (fun i => all || bitOf newMask i != bitOf st.mask i)
    let cuts := (st.det.declared (dbmOf st.avg)).filter (fun e => bitOf clr (e.1 - 1))
    let s := s.each cuts (fun s e => s.sagePost k d
      { cls := e.1, code := e.2.1, on := false, cut := true, stamp := n, dur := durMs e.2.2.1 n, level := e.2.2.2 })
    s.onStream k d (fun v => { v with
      prof := prof.getD v.prof, mask := newMask, det := v.det.clear clr
      floors := (List.range 9).foldl (fun t i => if bitOf fresh i then Tab.put (fun _ => 0) t (i + 1) n else t) v.floors })

/-! ### The frame (R106) -/

/-- The streams of a slot are fed by moves (R106). -/
def State.sageCore (s : State) (x : SageSlot) : Bool := (s.ctx_ x.ctx).lineNow.isNone

/-- The samples of the frame before `n` of stream `d` of a line slot. -/
def State.streamFeed (s : State) (n k d : Nat) (x : SageSlot) : State :=
  let l := if d = 0 then x.s0.inbox else x.s1.inbox
  if l.isEmpty then s else (s.onStream k d (fun y => { y with inbox := [] })).sageFeed k d (n - 1) x.wide l

/-- One slot at the boundary of frame `n`: changes of commands, then the line samples of the frame before; stream 0 first
(R120). -/
def State.slotOpen (s : State) (n k : Nat) : State :=
  match s.slot_ k with
  | none => s
  | some x =>
    if x.leaving then s.setSlot k none
    else
      let s := if x.fresh then s.onSlot k (fun y => { y with
          fresh := false, s0 := { y.s0 with floor := n, time := n }, s1 := { y.s1 with floor := n, time := n } }) else s
      let c := x.next.getD (none, none, none, none)
      let s := s.onSlot k (fun y => { y with next := none })
      let s := (s.streamChange n k 0 c.1 c.2.2.1).streamFeed n k 0 x
      (s.streamChange n k 1 c.2.1 c.2.2.2).streamFeed n k 1 x

/-- A reset Sage (R125): attachments and profile numbers stay. -/
def State.sageClear (s : State) (cl : Nat) : State :=
  let s := (s.headerReset (sagePage cl)).pageReset (sagePage cl) (sagePage (cl + 1))
  let s := s.each (Tab.keys s.sage.slots) (fun s k =>
    if k / 512 = cl then s.onSlot k (fun x =>
      { x with s0 := { x.s0 with det := {}, floor := s.now, floors := [] }
               s1 := { x.s1 with det := {}, floor := s.now, floors := [] } }) else s)
  { s with sage := { s.sage with ring := s.sage.ring.filter (fun e => e.cluster != cl) } }

/-- Sage as frame `n` opens (R106, R124, R125). -/
def State.sageOpen (s : State) (n : Nat) : State :=
  let rst := s.sage.rst
  let s := { s with sage := { s.sage with old := [], rst := [] } }
  let s := s.each rst (fun s cl => s.sageClear cl)
  s.each (Tab.keys s.sage.slots) (fun s k => s.slotOpen n k)

/-- The samples of a line's frame wait for the next frame (R106). -/
def State.sageLine (s : State) (f : LineFrame) : State :=
  match f.ctx.bind s.sageOf with
  | some (k, x) =>
    if x.fresh then s
    else
      let mark := fun (l : List Int) => (l.zip f.marks).map (fun p => if p.2 then none else some p.1)
      s.setSlot k (some { x with
        wide := f.ys.length == 2
        s0 := { x.s0 with inbox := f.xs.map some }, s1 := { x.s1 with inbox := mark f.es } })
  | none => s

/-! ### Packet streams (R107) -/

/-- A core writes SAGE_SUBMIT; `time` is its SAGE_TIME. -/
def State.sageSubmit (s : State) (g v time : Nat) : State :=
  let cl := g / 8
  let k := 512 * cl + v % 1024 / 2
  let ovr := (s.bump (Reg.SAGE_SUBMIT_OVR cl)).irq (sagePage cl) 1
  match s.slot_ k with
  | none => ovr
  | some x =>
    let st := if v % 2 = 0 then x.s0 else x.s1
    let t := near32 s.now time
    if !s.sageCore x || x.fresh || st.block.isSome || st.blockEnd.any (fun e => decide (t < e)) then ovr
    else s.onStream k (v % 2) (fun y => { y with block := some (s.now, t) })

/-- A submitted block of stream `d` of a slot is read in the frame after its submit (R107). -/
def State.blockRead (s : State) (cl k d : Nat) : State :=
  match s.slot_ k with
  | none => s
  | some x =>
    let st := if d = 0 then x.s0 else x.s1
    match st.block with
    | none => s
    | some (f, t) =>
      if s.now ≤ f then s
      else
        let n := if x.wide then 80 else 40
        let a := sramBase cl + s.rn (Reg.SAGE_SB_BASE cl) + (2 * (k % 512) + d) * 0xA0
        let l := (List.range n).map (fun i => some (signed 16 (s.rdLE (a + 2 * i) 2)))
        let gap := st.blockEnd.any (fun e => decide (e < t))
        let e := st.blockEnd.getD t
        let s := s.onStream k d (fun y => { y with block := none, blockEnd := some (t + 40) })
        let s := if gap then
            ((s.bump (Reg.SAGE_GAP_CNT cl)).irq (sagePage cl) 2).sageFeed k d e x.wide
              (List.replicate ((t - e) * (if x.wide then 2 else 1)) none)
          else s
        s.sageFeed k d t x.wide l

/-- Sage reads a submitted block; one of stream 0 that is due comes before one of stream 1 of the slot (R107, R120). -/
def State.sageRead (s : State) (cl v : Nat) : State :=
  let k := 512 * cl + v / 2
  if v % 2 = 0 then s.blockRead cl k 0 else (s.blockRead cl k 0).blockRead cl k 1

/-- The entry of a SAGE_EVENT move is free once the move writes DONE (R121). -/
def State.sageFree (s : State) (c i : Nat) : State :=
  { s with sage := { s.sage with ring := s.sage.ring.filter (fun e => !(e.ctx == c && e.idx == i)) } }

/-! ### Commands (R124) -/

/-- The status of SAGE_ATTACH and the slot (R105, R124). -/
def State.sageAttachStatus (s : State) (c : Nat) (f : SageFields) : Nat × Nat :=
  let x := s.ctx_ c
  if x.state ≠ 1 then (stNotReady, 0)
  else if s.sage.slots.any (fun e => e.2.any (fun y => y.ctx == c)) then (stBusy, 0)
  else if 7 < f.prof0 ∨ 7 < f.prof1 ∨ 1 < f.rate then (stBad, 0)
  else match firstFrom (fun i => (s.slot_ (512 * x.home + i)).isNone) 512 0 with
    | some i => (stOk, i)
    | none => (stFull, 0)

/-- Attach a slot, checks done (R105). -/
def State.sageAttach (s : State) (c : Nat) (f : SageFields) (i : Nat) : State :=
  let x := s.ctx_ c
  let wide := match x.line with
    | some l => s.wideLine l
    | none => f.rate == 1
  s.setSlot (512 * x.home + i) (some { ctx := c, wide := wide, s0 := { prof := f.prof0 }, s1 := { prof := f.prof1 } })

/-- Release the slot and the ring entries of a context at once (R22, R125). -/
def State.sageRelease (s : State) (c : Nat) : State :=
  let s := { s with sage := { s.sage with ring := s.sage.ring.filter (fun e => e.ctx != c), data := s.sage.data.filter (fun e => e.1 != c) } }
  match s.sage.slots.find? (fun e => e.2.any (fun y => y.ctx == c)) with
  | some e => s.setSlot e.1 none
  | none => s

/-- SAGE_ATTACH. -/
def State.cmdSageAttach (s : State) (r : CmdRef) (c : Nat) (f : SageFields) : State :=
  let a := s.sageAttachStatus c f
  let s := if a.1 = stOk then (s.wake (sagePage (s.ctx_ c).home)).sageAttach c f a.2 else s
  s.respond r 0x30 a.1 [c, a.2]

/-- A change on top of one that waits for the same boundary. -/
def sageNext (o : Option (Option Nat × Option Nat × Option Nat × Option Nat)) (f : SageChange) :
    Option Nat × Option Nat × Option Nat × Option Nat :=
  let o := o.getD (none, none, none, none)
  (f.prof0.orElse (fun _ => o.1), f.prof1.orElse (fun _ => o.2.1), f.mask0.orElse (fun _ => o.2.2.1),
   f.mask1.orElse (fun _ => o.2.2.2))

/-- SAGE_MODIFY. -/
def State.cmdSageModify (s : State) (r : CmdRef) (c : Nat) (f : SageChange) : State :=
  match s.sageOf c with
  | none => s.respond r 0x31 stNotReady [c]
  | some (k, x) =>
    let bad := ([f.prof0, f.prof1] : List (Option Nat)).any (fun o => o.any (fun p => decide (7 < p))) ||
      ([f.mask0, f.mask1] : List (Option Nat)).any (fun o => o.any (fun m => decide (0x1FF < m)))
    if bad then s.respond r 0x31 stBad [c]
    else (s.setSlot k (some { x with next := some (sageNext x.next f) })).respond r 0x31 stOk [c]

/-- SAGE_DETACH: in force at the next frame boundary, without records. -/
def State.cmdSageDetach (s : State) (r : CmdRef) (c : Nat) : State :=
  match s.sageOf c with
  | none => s.respond r 0x32 stNotReady [c]
  | some (k, x) => (s.setSlot k (some { x with leaving := true })).respond r 0x32 stOk [c]

/-- The classes a stream has declared ON, as a mask. -/
def Stream.onMask (x : Stream) : Nat := (x.det.declared 0).foldl (fun m e => bitSet m (e.1 - 1)) 0

/-- The words SAGE_QUERY returns for a stream. -/
def Stream.query (x : Stream) : List Nat := [x.prof, x.mask, dbmOf x.avg, x.onMask, x.records, x.drops]

/-- SAGE_QUERY. -/
def State.cmdSageQuery (s : State) (r : CmdRef) (c : Nat) : State :=
  match s.sageOf c with
  | none => s.respond r 0x33 stNotReady [c]
  | some (_, x) => s.respond r 0x33 stOk (c :: (x.s0.query ++ x.s1.query))

/-! ### Registers -/

/-- A write of a profile or CPT register refused beyond its row's ranges. -/
def sagePrfBad (off v : Nat) : Bool :=
  if off < 0x400 then off % 0x20 == 0xC && decide (fieldOf v 0 8 ≤ fieldOf v 8 6)
  else off % 0x10 == 0 && (let f := fieldOf v 20 12; decide (f ≠ 0) && (decide (f < 300) || decide (3600 < f)))

/-- A write of a profile or CPT register; range checks of the row have passed. -/
def State.writeSagePrf (s : State) (cl a : Nat) (v : Word) : State :=
  if sagePrfBad (a - sagePage cl) v.toNat then s.cfgErr (sagePage cl) (some 3) stBad a
  else
    let old := if s.sage.old.any (fun e => e.1 == a) then s.sage.old else (a, s.reg a) :: s.sage.old
    { s with sage := { s.sage with old := old } }.setReg a v

/-- SAGE.RST (R125). [DEDUCED, log 182] -/
def State.sageRst (s : State) (cl : Nat) : State :=
  { (s.headerReset (sagePage cl)).setN (sagePage cl + 0x34) 4 with sage := { s.sage with rst := s.sage.rst ++ [cl] } }

/-- The lowest tone class 1–7 declared ON on a stream; 0 for none. -/
def Stream.act (x : Stream) : Nat := ((List.range 7).find? (fun i => bitOf x.onMask i)).elim 0 (· + 1)

/-- STREAM_STAT of a slot as it reads. -/
def State.streamStat (s : State) (cl i : Nat) : Nat :=
  match s.slot_ (512 * cl + i) with
  | some x => 2 ^ 31 + b2n (s.sageCore x) * 2 ^ 30 + b2n x.wide * 2 ^ 29 + x.s0.prof * 2 ^ 26 + x.s1.prof * 2 ^ 23 +
      x.s1.act * 2 ^ 19 + x.s0.act * 2 ^ 15 + x.ctx % 8192
  | none => 0

/-- SLOTS as it reads. -/
def State.sageSlots (s : State) (cl : Nat) : Nat := (s.sage.slots.filter (fun e => e.1 / 512 == cl && e.2.isSome)).length

/-! ### Meanings -/

/-- SAGE_SUBMIT (R107). SAGE_TIME is the submitting core's special register 0x20C. -/
def execSageSubmit (g : Nat) (v : Word) (s : State) : Res :=
  .next (s.sageSubmit g (v.toNat % 1024) (Tab.get (fun _ => 0) (s.core_ g).spr 0x20C))

/-- SAGE_BLOCK_READ (R107). -/
def execSageBlockRead (cl v : Nat) (s : State) : Res := .next (s.sageRead cl v)

/-- SAGE_ATTACH (R124). -/
def execSageAttach (r : CmdRef) (c : Nat) (f : SageFields) (s : State) : Res := .next (s.carryOut r 0x30 (·.cmdSageAttach r c f))

/-- SAGE_MODIFY (R124). -/
def execSageModify (r : CmdRef) (c : Nat) (f : SageChange) (s : State) : Res := .next (s.carryOut r 0x31 (·.cmdSageModify r c f))

/-- SAGE_DETACH (R124). -/
def execSageDetach (r : CmdRef) (c : Nat) (s : State) : Res := .next (s.carryOut r 0x32 (·.cmdSageDetach r c))

/-- SAGE_QUERY (R124). -/
def execSageQuery (r : CmdRef) (c : Nat) (s : State) : Res := .next (s.carryOut r 0x33 (·.cmdSageQuery r c))

/-- SAGE_RST (R125). -/
def execSageRst (w : Win) (cl : Nat) (s : State) : Res := .next (s.hostGuard w (sagePage cl + 0x30) true (·.sageRst cl))

end Sys2Proof.Machine
end

