-- ==== Sys2Proof/Machine/Jbe.lean ====
section
/-! DEFINITION. The jitter buffer engine (R126–R147, R401, R403): packets judged and anchored, playout instants, depth,
telephone events, data mode, latching and ring changes. -/

namespace Sys2Proof.Machine
open Sys2Proof

/-- The first JBE page. -/
def jbePage : Nat := 0x80000

/-! ### Codecs and loads (R130, R131, R133, R135) -/

/-- CLU of a context (R131). -/
def State.charge (s : State) (codec rxpt txpt : Nat) (line : Bool) : Nat :=
  let n := s.fld (Reg.JBE_CODEC_TBL codec) 0 8 + 2 * b2n line
  if rxpt = 5 ∨ txpt = 5 then (3 * n + 1) / 2 else n

/-- CLU_USED. -/
def State.cluUsed (s : State) : Nat := s.jbe.ctxs.foldl (fun n e => n + e.2.clu) 0

/-- CLUS_LOAD of a cluster. -/
def State.clusLoad (s : State) (c : Nat) : Nat := s.jbe.ctxs.foldl (fun n e => if e.2.home = c then n + e.2.clu else n) 0

/-- CTX_CNT. -/
def State.ctxCnt (s : State) : Nat := (s.jbe.ctxs.filter (fun e => e.2.state != 0)).length

/-- A raise from `old` to `new` exceeds CLU_LIMIT (R131). -/
def State.overLimit (s : State) (old new : Nat) : Bool :=
  decide (old < new) && decide (s.rn Reg.JBE_CLU_LIMIT < s.cluUsed + new - old)

/-- A packet time meets the codec (R130, R403). -/
def State.ptOk (s : State) (codec ms : Nat) : Bool :=
  decide (5 ≤ ms) && decide (ms ≤ 60) && decide (ms % (5 * max 1 (s.fld (Reg.JBE_CODEC_TBL codec) 24 4)) = 0)

/-- The fields that CTX_OPEN and CTX_MODIFY check alike (R133). -/
structure Shape where
  codec : Nat
  rxpt : Nat
  txpt : Nat
  nslot : Nat
  minLead : Nat
  maxLead : Nat
  bph : Nat
  pkph : Nat
  txph : Nat
  net : Bool
  deriving DecidableEq, Repr

/-- BAD_PARAM of R133. -/
def State.shapeBad (s : State) (x : Shape) : Bool :=
  decide (63 < x.codec) || !s.bit (Reg.JBE_CODEC_TBL x.codec) 31 || !s.ptOk x.codec x.rxpt || !s.ptOk x.codec x.txpt ||
  decide (x.nslot < 16) || decide (256 < x.nslot) || decide (x.maxLead < x.minLead) || decide (640 < x.maxLead) ||
  decide ((x.nslot - 2) * x.rxpt < x.maxLead) || decide (40 ≤ x.bph) || decide (8 * x.txpt ≤ x.pkph) ||
  decide (x.pkph % 40 ≠ x.bph) || decide (8 * x.txpt ≤ x.txph) || (x.codec == 0) == x.net

/-- PTS: ticks per packet (R135). -/
def State.pts (s : State) (x : Ctx) : Nat := x.rxpt * s.codecClock x.codec / 1000

/-- BT: ticks per 5 ms block. -/
def State.bt (s : State) (x : Ctx) : Nat := s.codecClock x.codec / 200

/-- PPOS. -/
def Ctx.ppos (x : Ctx) : Nat := (x.b + x.pos) % 2 ^ 32

/-- A number of ticks in frames, rounded down. [DEDUCED, log 122] -/
def toFrames (clock : Nat) (t : Int) : Int := t * 8000 / (clock : Int)

/-! ### Ring slots (R135) -/

/-- Address of a slot of a context's playout ring. -/
def ringAddr (c slot : Nat) : Nat := 0x20000000 + c * 0x20000 + slot * 0x200

/-- A slot is VALID. -/
def State.slotValid (s : State) (c slot : Nat) : Bool := bitOf (s.rd8 (ringAddr c slot + 6)) 0

/-- Clear VALID. -/
def State.slotClear (s : State) (c slot : Nat) : State :=
  if s.slotValid c slot then s.wr8 (ringAddr c slot + 6) (s.rd8 (ringAddr c slot + 6) - 1) else s

/-- The VALID slots of a context. -/
def State.validSlots (s : State) (c : Nat) : List Nat := (List.range (s.ctx_ c).nslot).filter (fun k => s.slotValid c k)

/-- Clear VALID in every slot. -/
def State.ringClear (s : State) (c : Nat) : State := s.each (s.validSlots c) (fun s k => s.slotClear c k)

/-- The bytes of a slot up to its payload. -/
def RtpPacket.slotHead (p : RtpPacket) (cn : Bool) : List Nat :=
  leBytes 4 p.ts ++ leBytes 2 p.seq ++ [1 + 2 * b2n cn + 4 * b2n p.marker, p.pt] ++ leBytes 4 p.arrival ++
  leBytes 2 p.payload.length ++ [0, 0] ++ leBytes 4 p.ssrc ++ List.replicate 12 0

/-! ### Duration of a payload (R401) -/

/-- Entries of an AMR-WB table of contents. -/
def tocEntries : List Nat → Nat
  | [] => 0
  | b :: r => if bitOf b 7 then tocEntries r + 1 else 1

/-- Half milliseconds of an Opus packet: the frame duration and count of its TOC byte (RFC 6716). -/
def opusHalfMs (l : List Nat) : Nat :=
  let t := l.headD 0
  let c := t / 8
  let f := if c < 12 then [20, 40, 80, 120].getD (c % 4) 0 else if c < 16 then [20, 40].getD (c % 2) 0
    else [5, 10, 20, 40].getD (c % 4) 0
  let n := match t % 4 with
    | 0 => 1
    | 3 => l.getD 1 0 % 64
    | _ => 2
  f * n

/-- Whether a voice payload lasts RXPT, and the duration found in whole milliseconds. -/
def durationOk (codec rxpt : Nat) (l : List Nat) : Bool × Nat :=
  let n := l.length
  match codec with
  | 1 | 2 | 3 => (n == 8 * rxpt, n / 8)
  | 4 => (n == 4 * rxpt, n / 4)
  | 5 => if n % 10 = 2 ∧ n - 2 < rxpt then (true, rxpt) else (n % 10 == 0 && n == rxpt, n / 10 * 10)
  | 6 => let k := tocEntries (l.drop 1); (20 * k == rxpt, 20 * k)
  | 7 | 8 => (opusHalfMs l == 2 * rxpt, opusHalfMs l / 2)
  | _ => (true, rxpt)

/-! ### Records in the context's state (R127) -/

/-- The playout record: PPOS, B, the last operand word, lead statistics, RTP receive statistics. [DESIGN CHOICE, log 87] -/
def State.showPlayout (s : State) (c : Nat) : State :=
  let x := s.ctx_ c
  let k := x.cnt
  s.writeRecord 1 (c * 0x10000) 256 (leBytes 4 x.ppos ++ leBytes 4 x.b ++ leBytes 4 x.word ++
    leBytes 4 (unsigned 32 (x.lead.getD 0)) ++ leBytes 4 (unsigned 32 (x.leadMin.getD 0)) ++ leBytes 4 x.winCount ++
    leBytes 4 k.pkts ++ leBytes 4 k.octets ++ leBytes 4 (k.base.getD 0) ++ leBytes 4 k.extSeq ++ leBytes 4 k.jit)

/-- The received RFC 4733 event record. [DESIGN CHOICE, log 87] -/
def State.showEvent (s : State) (c : Nat) : State :=
  match (s.ctx_ c).event with
  | none => s
  | some e => s.writeRecord 3 (c * 0x10000 + 0x180) 64 (leBytes 4 e.ts ++ [e.code, e.vol] ++ leBytes 2 e.dur ++ leBytes 4 e.last ++
      [b2n e.active])

/-- The latch record: current source, candidate source, candidate count. [DESIGN CHOICE, log 87] -/
def State.showLatch (s : State) (c : Nat) : State :=
  let x := s.ctx_ c
  let p := fun (o : Option Peer) => match o with
    | some q => [1] ++ leBytes 16 q.addr ++ leBytes 2 q.port ++ [q.mac]
    | none => List.replicate 20 0
  s.writeRecord 4 (c * 0x10000 + 0x1C0) 64 (p x.cur ++ p (x.cand.map Prod.fst) ++ [(x.cand.map Prod.snd).getD 0])

/-! ### Counting -/

/-- Count `k` in a JBE counter. -/
def State.jbeCount (s : State) (a k : Nat) : State := s.addN a k

/-- DISCARD counts `k`, in the context and in the register. -/
def State.discard (s : State) (c k : Nat) : State :=
  if k = 0 then s
  else
    let x := s.ctx_ c
    ((s.setCtx c { x with cnt := { x.cnt with discard := x.cnt.discard + k } }).jbeCount Reg.JBE_DISCARD_CNT k).irq jbePage 2

/-- The extended highest sequence number after a packet (RFC 3550). -/
def seqNext (ext seq : Nat) : Nat :=
  let d := (seq + 2 ^ 16 - ext % 2 ^ 16) % 2 ^ 16
  if d < 2 ^ 15 then ext + d else ext

/-- The RTP receive statistics of a packet (R127). -/
def Ctx.received (x : Ctx) (p : RtpPacket) : Ctx :=
  { x with cnt := { x.cnt with
      pkts := x.cnt.pkts + 1, octets := x.cnt.octets + p.payload.length
      base := some (x.cnt.base.getD p.seq)
      extSeq := if x.cnt.base.isNone then p.seq else seqNext x.cnt.extSeq p.seq } }

/-- The jitter of RFC 3550 after a packet, in sixteenths of a frame (R139). [PRESUMED, log 121] -/
def Ctx.jitter (x : Ctx) (clock : Nat) (p : RtpPacket) : Ctx :=
  let d : Nat := match x.transit with
    | some (a, t) => ((p.arrival : Int) - a - toFrames clock (signed 32 (p.ts + 2 ^ 32 - t))).natAbs
    | none => 0
  { x with transit := some (p.arrival, p.ts), cnt := { x.cnt with jit := x.cnt.jit + d - (x.cnt.jit + 8) / 16 } }

/-! ### Latching (R146) -/

/-- The four words of an address in an event. [DESIGN CHOICE, log 128] -/
def addrWords (v6 : Bool) (a : Nat) : List Nat :=
  if v6 then [a / 2 ^ 96, a / 2 ^ 64 % 2 ^ 32, a / 2 ^ 32 % 2 ^ 32, a % 2 ^ 32] else [a, 0, 0, 0]

/-- The transmit destination takes a source; CTX_LATCH. [DEDUCED, log 124] -/
def State.latchTo (s : State) (c : Nat) (p : Peer) : State :=
  let x := s.ctx_ c
  let v6 := x.template.any (·.v6)
  let old : Nat × Nat := match x.cur, x.template with
    | some q, _ => (q.addr, q.port)
    | none, some t => (t.dstAddr, t.dstPort)
    | none, none => (0, 0)
  let mac := if bitOf x.latch 2 then p.mac else (x.template.map (·.mac)).getD 0
  (((s.setCtx c { x with cur := some p, cand := none }).showLatch c).irq jbePage 1).event x.evq 0x83
    ([c] ++ addrWords v6 old.1 ++ [old.2] ++ addrWords v6 p.addr ++ [p.port, mac])

/-- The source of a packet. -/
def RtpPacket.peer (p : RtpPacket) : Peer := ⟨p.srcAddr, p.srcPort, p.mac⟩

/-- The same address and port. -/
def Peer.same (a b : Peer) : Bool := a.addr == b.addr && a.port == b.port

/-- FOLLOW judges a packet that is neither late nor early: the state, and whether the packet is still candidate traffic.
[DEDUCED, log 124] -/
def State.follow (s : State) (c : Nat) (p : RtpPacket) : State × Bool :=
  let x := s.ctx_ c
  match x.cur with
  | some q =>
    if x.latch % 4 ≠ 2 then (s, false)
    else if q.same p.peer then ((s.setCtx c { x with cand := none }).showLatch c, false)
    else
      let n := match x.cand with
        | some (k, m) => if k.same p.peer then m + 1 else 1
        | none => 1
      if s.fld Reg.JBE_LATCH_CFG 0 8 ≤ n then (s.latchTo c p.peer, false)
      else ((s.setCtx c { x with cand := some (p.peer, n) }).showLatch c, true)
  | none => (s, false)

/-- FOLLOW sees a packet, whatever becomes of it: one from the current source resets the count (R146). [DEDUCED, log 124] -/
def State.sourceSeen (s : State) (c : Nat) (p : RtpPacket) : State :=
  let x := s.ctx_ c
  if x.latch % 4 = 2 ∧ x.cand.isSome ∧ x.cur.any (fun q => q.same p.peer) then
    (s.setCtx c { x with cand := none }).showLatch c
  else s

/-! ### Judging packets (R137, R138) -/

/-- Store a packet as number `n`, of lead `lead` ticks; the first one stored may latch (R137, R139, R146). -/
def State.storePacket (s : State) (c : Nat) (p : RtpPacket) (n : Nat) (cn : Bool) (lead : Int) : State :=
  let x := s.ctx_ c
  let s := s.wrBytes (ringAddr c (n % max 1 x.nslot)) (p.slotHead cn ++ p.payload)
  let l := toFrames (s.codecClock x.codec) lead
  let s := s.setCtx c { x with
    cnt := { x.cnt with rx := x.cnt.rx + 1 }, winCount := x.winCount + 1, lead := some l
    leadMin := some (match x.leadMin with | some m => min m l | none => l) }
  let s := s.jbeCount Reg.JBE_RX_CNT 1
  if (x.latch % 4 = 1 ∨ x.latch % 4 = 2) ∧ x.cur.isNone then s.latchTo c p.peer else s

/-- Anchor the ring at a packet (R138): the first packet, or a re-anchor with its cause.
[DEDUCED, log 122; DESIGN CHOICE, log 131] -/
def State.anchor (s : State) (c : Nat) (p : RtpPacket) (cn : Bool) (cause : Option Nat) : State :=
  let s := s.ringClear c
  let x := s.ctx_ c
  let s := s.setCtx c { x with
    b := p.ts, pos := 0, play := true, playFrom := p.arrival + x.target, ssrc := some p.ssrc, run := 0, resync := true
    cn := false, lostN := none, hold := 0 }
  let s := match cause with
    | some k => ((s.jbeCount Reg.JBE_RESYNC_CNT 1).irq jbePage 0).event x.evq 0x82 [c, k, p.ts, s.now]
    | none => s
  (s.follow c p).1.storePacket c p 0 cn 0

/-- Judge a packet of a running ring (R137, R138, R141, R146). [DEDUCED, log 122] -/
def State.judgePlaced (s : State) (c : Nat) (p : RtpPacket) (cn : Bool) : State :=
  let x := s.ctx_ c
  let pts := s.pts x
  let n : Int := ((x.pos : Int) + signed 32 (p.ts + 2 ^ 32 - x.ppos)) / (pts : Int)
  let lead : Int := n * pts - x.pos
  let late := decide (lead < 0)
  if late || decide (((x.nslot - 1) * pts : Nat) ≤ lead) then
    if s.fld Reg.JBE_LATCH_CFG 8 8 ≤ x.run then s.anchor c p cn (some (if late then 0 else 1))
    else if late then
      (s.setCtx c { x with run := x.run + 1, winLate := true, cnt := { x.cnt with late := x.cnt.late + 1 } }).jbeCount
        Reg.JBE_LATE_CNT 1
    else
      (s.setCtx c { x with run := x.run + 1, cnt := { x.cnt with early := x.cnt.early + 1 } }).jbeCount Reg.JBE_EARLY_CNT 1
  else
    let s := s.setCtx c { x with run := 0 }
    let r := s.follow c p
    let s := r.1
    let slot := n.toNat % max 1 x.nslot
    let valid := s.slotValid c slot
    if valid && s.rdLE (ringAddr c slot) 4 == p.ts then
      let y := s.ctx_ c
      (s.setCtx c { y with cnt := { y.cnt with dup := y.cnt.dup + 1 } }).jbeCount Reg.JBE_DUP_CNT 1
    else if r.2 then (if valid then s else s.storePacket c p n.toNat cn lead)
    else if x.ssrc ≠ some p.ssrc then s.anchor c p cn (some 2)
    else s.storePacket c p n.toNat cn lead

/-- Judge a voice or comfort-noise packet (R137). [DEDUCED, log 123] -/
def State.judgeVoice (s : State) (c : Nat) (p : RtpPacket) : State :=
  let x := s.ctx_ c
  let cn := x.cnPt != 0 && p.pt == x.cnPt
  let d := if cn then (true, x.rxpt) else durationOk x.codec x.rxpt p.payload
  if 480 < p.payload.length ∨ !d.1 then
    let s := (s.setCtx c { x with ptimeRun := true, run := 0 }).discard c 1
    if x.ptimeRun then s else s.event x.evq 0x86 [c, d.2]
  else
    let s := s.setCtx c { x.jitter (s.codecClock x.codec) p with ptimeRun := false }
    if x.play then s.judgePlaced c p cn else s.anchor c p cn none

/-! ### Telephone events (R140) -/

/-- CTX_RX_EVENT when the context asks for it: 0 START, 1 END. -/
def State.rxEventPost (s : State) (c : Nat) (e : RxEvent) (end_ : Bool) : State :=
  let x := s.ctx_ c
  if bitOf x.evtMode 0 then
    s.event x.evq 0x84 [c, e.code, e.vol, b2n end_, e.dur * 1000 / max 1 (s.codecClock x.codec), e.ts]
  else s

/-- The event of a context ends. -/
def State.rxEventEnd (s : State) (c : Nat) : State :=
  let x := s.ctx_ c
  match x.event with
  | some e => if e.active then
      ((s.setCtx c { x with event := some { e with active := false } }).showEvent c).rxEventPost c e true
    else s
  | none => s

/-- A received RFC 4733 packet. [DESIGN CHOICE, log 127] -/
def State.judgeEvent (s : State) (c : Nat) (p : RtpPacket) : State :=
  let b := fun i => p.payload.getD i 0
  let x := s.ctx_ c
  let dur := beNat (slice p.payload 2 2)
  let same := x.event.any (fun e => e.ts == p.ts)
  let s := if same then s
    else
      let s := s.rxEventEnd c
      let e : RxEvent := { ts := p.ts, code := b 0, vol := b 1 % 64, dur := dur, last := p.arrival, active := true }
      (s.setCtx c { s.ctx_ c with event := some e }).rxEventPost c e false
  let y := s.ctx_ c
  let s := (s.setCtx c { y with event := y.event.map (fun e => { e with dur := dur, last := p.arrival }) }).showEvent c
  if bitOf (b 1) 7 then s.rxEventEnd c else s

/-- Judge one packet that the JBE holds (R137, R140, R143); its buffer returns to the pool, but for a UDPTL packet's, which
the PKT_IN move holds. -/
def State.judge (s : State) (p : RtpPacket) : State :=
  let c := p.ctx
  let x := s.ctx_ c
  if x.state ≠ 1 then s.poolFree p.buf
  else if x.codec = 9 then
    s.post ⟨3, c, s.now % 2 ^ 32, s.poolAddr p.buf % 2 ^ 32, p.payload.length * 2 ^ 16 + p.arrival % 2 ^ 16⟩ .keep
  else
    let s := ((s.poolFree p.buf).setCtx c (x.received p)).sourceSeen c p
    if x.evPt ≠ 0 ∧ p.pt = x.evPt then s.judgeEvent c p else s.judgeVoice c p

/-- Judge the packets of a context that `p` holds of, oldest first. [DEDUCED, log 130] -/
def State.judgeAll (s : State) (c : Nat) (p : RtpPacket → Bool) : State :=
  let due := s.jbe.inbox.filter (fun k => k.ctx == c && p k)
  let s := { s with jbe := { s.jbe with inbox := s.jbe.inbox.filter (fun k => !(k.ctx == c && p k)) } }
  s.each due (fun s k => s.judge k)

/-- Judge the oldest packet of a context. -/
def State.judgeOne (s : State) (c : Nat) : State :=
  match s.jbe.inbox.find? (fun k => k.ctx == c) with
  | some k => { s with jbe := { s.jbe with inbox := s.jbe.inbox.eraseP (fun k => k.ctx == c) } }.judge k
  | none => s

/-! ### Data mode (R142) -/

/-- DATA_LEAD in frames. [DEDUCED, log 126] -/
def State.dataLead (s : State) : Nat := 8 * s.fld Reg.JBE_DATA_CFG 0 10

/-- A context enters data mode; `src` is the Sage class, or the host's code. Before the first instant of an anchor the lead is the
TARGET that placed it. [DEDUCED, log 126; DESIGN CHOICE, log 127] -/
def State.dataEnter (s : State) (c src : Nat) : State :=
  let x := s.ctx_ c
  if x.state ≠ 1 ∨ x.data then s
  else
    let t := s.dataLead
    let hold := if !x.play then 0
      else if s.now < x.playFrom then ceilDiv (t - x.target) 40
      else match x.lead with
        | some l => if l < t then ceilDiv ((t : Int) - l).toNat 40 else 0
        | none => 0
    (s.setCtx c { x with data := true, target := t, adj := 0, hold := hold }).event x.evq 0x87 [c, src, hold]

/-! ### Depth (R139) -/

/-- The end of an adaptation window. [DEDUCED, log 120] -/
def State.adaptEnd (s : State) (c : Nat) : State :=
  let x := s.ctx_ c
  let a := Reg.JBE_ADAPT_CFG
  let win := 80 * s.fld a 22 10
  if x.state ≠ 1 ∨ s.now < x.winStart + win then s
  else
    let y := { x with winStart := x.winStart + win, leadMin := none, winLate := false, winCount := 0 }
    if x.data then s.setCtx c y
    else
      let t := max (8 * x.minLead) (min (8 * x.maxLead) (ceilDiv (s.fld a 16 6 * x.cnt.jit) 128))
      let lmin : Int := if x.winLate then -1 else x.leadMin.getD 0
      let ticks := fun (f : Int) => f * (s.codecClock x.codec : Int) / 8000
      let adj := if x.winCount = 0 then x.adj
        else if (t : Int) + s.fld a 8 8 < lmin ∨ lmin < t then ticks (lmin - t) else 0
      s.setCtx c { y with target := t, adj := adj }

/-! ### Playout instants (R13, R136, R144) -/

/-- The partner of a context, or the one that a join gives it at its next playout instant. -/
def Ctx.mate (x : Ctx) : Option Nat := x.partner.orElse (fun _ => x.joinDue.map Prod.fst)

/-- The changes of CTX_MODIFY, of a join and of a split that take effect at a playout instant (R129, R134); a context that becomes
T.38 is no longer journalled (R148). -/
def State.takeMods (s : State) (c : Nat) : State :=
  let x := s.ctx_ c
  let m := x.mod
  let s := match x.splitDue with
    | some true => s.event x.evq 0x88 [c, x.mate.getD 0xFFFF]
    | _ => s
  let join := x.joinDue.map Prod.fst
  let s := s.setCtx c { x with
    codec := m.codec.getD x.codec, minLead := m.minLead.getD x.minLead, maxLead := m.maxLead.getD x.maxLead
    evtMode := m.evtMode.getD x.evtMode, latch := m.latch.getD x.latch, mod := {}
    partner := if x.splitDue.isSome then none else join.orElse (fun _ => x.partner), joinDue := none
    hairpin := x.splitDue.isNone && (x.hairpin || x.joinDue.any Prod.snd), splitDue := none
    data := x.data && m.data != some false, hold := if m.data = some false then 0 else x.hold }
  let s := if m.codec = some 9 then
      match s.jctx c with
      | some j => s.setJctx c (some { j with begin_ := false, end_ := j.epoch.isSome })
      | none => s
    else s
  if m.data = some true then s.dataEnter c Config.hostSource.toNat else s

/-- Ticks that the instant claims (R139, R142). -/
def State.advance (s : State) (x : Ctx) : Nat × Int :=
  let bt := s.bt x
  if x.data then (bt, x.adj)
  else
    let a := min (bt / 2 ^ s.fld Reg.JBE_ADAPT_CFG 0 3) x.adj.natAbs
    if 0 ≤ x.adj then (bt + a, x.adj - a) else (bt - a, x.adj + a)

/-- The slots `lo` to `hi` that an instant claims, in order (R136, R141): a stored packet opens or ends the comfort-noise interval,
and an empty slot outside one is lost, each once. `cn` is the interval's state before them; the answer has it after them.
[DEDUCED, log 125] -/
def State.claimSlots (s : State) (c lo hi : Nat) (cn : Bool) : State × Bool :=
  ((List.range (hi + 1 - lo)).map (lo + ·)).foldl (fun (a : State × Bool) m =>
    let x := a.1.ctx_ c
    let slot := m % max 1 x.nslot
    if a.1.slotValid c slot then (a.1, bitOf (a.1.rd8 (ringAddr c slot + 6)) 1)
    else if a.2 || x.lostN.any (fun k => decide (m ≤ k)) then a
    else ((a.1.setCtx c { x with lostN := some m, cnt := { x.cnt with lost := x.cnt.lost + 1 } }).jbeCount Reg.JBE_LOST_CNT 1,
      a.2)) (s, cn)

/-- Steps 2 to 4 of R136: the operand word and the advance. -/
def State.claim (s : State) (c n : Nat) : State × Nat :=
  let x := s.ctx_ c
  let pts := s.pts x
  let k := x.pos / pts
  let slot := k % max 1 x.nslot
  let common := slot * 2 ^ 24 + b2n (x.event.any (·.active)) * 2 ^ 10 + b2n x.resync * 2 ^ 8 + b2n x.data * 2 ^ 7
  if !x.play ∨ !x.net ∨ x.codec = 0 ∨ x.codec = 9 ∨ pts = 0 ∨ n < x.playFrom ∨ x.hold ≠ 0 then
    let held := x.play && decide (x.playFrom ≤ n)
    (s.setCtx c { x with resync := false, hold := if held then x.hold - 1 else x.hold }, common + 2 ^ 9)
  else
    let bt := s.bt x
    let (adv, adj) := s.advance x
    let valid := s.slotValid c slot
    let cn := if valid then bitOf (s.rd8 (ringAddr c slot + 6)) 1 else x.cn
    let lossNext := decide ((k + 1) * pts < x.pos + adv) && !s.slotValid c ((k + 1) % max 1 x.nslot)
    let word := common + adv * 2 ^ 15 + b2n (!valid && !cn) * 2 ^ 14 + b2n lossNext * 2 ^ 13 +
      b2n (decide (x.pos % pts = 0)) * 2 ^ 12 + b2n cn * 2 ^ 11 + b2n (decide (adv < bt)) * 2 ^ 6 + b2n (decide (bt < adv)) * 2 ^ 5
    let r := s.claimSlots c k ((x.pos + adv - 1) / pts) x.cn
    let s := r.1
    let s := s.setCtx c { s.ctx_ c with pos := x.pos + adv, adj := adj, cn := r.2, resync := false }
    (s.each ((List.range ((x.pos + adv) / pts - k)).map (k + ·)) (fun s m => s.slotClear c (m % max 1 x.nslot)), word)

/-- The playout instant of a context at frame `n` (R136). Step 1 ends at an FPHASE the model leaves free, by 1,024.
[DEDUCED, log 125; DESIGN CHOICE, log 129] -/
def State.playout (s : State) (c n : Nat) : State :=
  let s := s.judgeAll c (fun p => decide (p.arrival < n))
  let s := (s.maxN Reg.JBE_PIPE_MAX (s.free % 1025)).drawn
  let s := s.takeMods c
  let ppos := (s.ctx_ c).ppos
  let r := s.claim c n
  let s := (r.1.setCtx c { r.1.ctx_ c with word := r.2 }).showPlayout c
  s.post ⟨2, c, n % 2 ^ 32, r.2, ppos⟩ (.boundary (n + 40))

/-- CODEC and RXPT as last taken, by which a context is charged (R131). -/
def Ctx.nextCodec (x : Ctx) : Nat := x.mod.codec.getD x.codec
def Ctx.nextRxpt (x : Ctx) : Nat := (x.ringPend.map Prod.snd).getD x.rxpt

/-- A line bound or unbound comes into force at the line's block boundary (R129): the context takes the line's BPH, or
becomes packet-only and gives up a LINE echo instance. [DEDUCED, log 133] -/
def State.bindApply (s : State) (c : Nat) : State :=
  let x := s.ctx_ c
  match x.bindDue, x.line with
  | some true, some l =>
    let bph := s.fld (lineCfg l) 16 6
    let keep := decide (x.pkph % 40 = bph)
    let pkph := if keep then x.pkph else bph
    let s := s.setCtx c { x with
      bindDue := none, bph := bph, pkph := pkph
      txph := if keep then x.txph else (pkph + 2) % max 1 (8 * x.txpt)
      phPend := if keep then x.phPend else none }
    s.flowModeChange c
  | some false, some l =>
    let s := s.setFld (lineCfg l) 30 1 0
    let s := s.setLine l { s.line_ l with underrunFrom := none }
    let s := match s.eceOf c with
      | some (k, e) => if e.packet then s else (s.abandon k (some 9)).eceRelease c
      | none => s
    let s := s.setCtx c { x with bindDue := none, line := none, clu := s.charge x.nextCodec x.nextRxpt x.txpt false }
    s.flowModeChange c
  | _, _ => s

/-- The JBE as frame `n` opens, before the LDC posts: bindings come into force, and packet phases at packet boundaries
(R129). -/
def State.jbeBound (s : State) (n : Nat) : State :=
  let s := s.each (s.jbe.ctxs.filter (fun e => e.2.bindDue.isSome && e.2.line.any (fun l => n % 40 == s.fld (lineCfg l) 16 6 % 40)))
    (fun s e => s.bindApply e.1)
  s.each (s.jbe.ctxs.filter (fun e => e.2.phPend.isSome && n % max 1 (8 * e.2.txpt) == e.2.pkph)) (fun s e =>
    let x := s.ctx_ e.1
    match x.phPend with
    | some (p, t) => s.setCtx e.1 { x with pkph := p, txph := t, phPend := none }
    | none => s)

/-- Data mode that Sage asked for in the frame before (R123). -/
def State.jbeData (s : State) : State :=
  let due := s.sage.data
  let s := { s with sage := { s.sage with data := [] } }
  s.each due (fun s e => s.dataEnter e.1 e.2)

/-- The playout instants of frame `n`, by context id. -/
def State.jbeOpen (s : State) (n : Nat) : State :=
  s.each (s.jbe.ctxs.filter (fun e => e.2.state == 1 && n % 40 == e.2.bph)) (fun s e => s.playout e.1 n)

/-- A pending ring change applies at an instant that finds the ring empty (R144). -/
def State.ringApply (s : State) (c : Nat) : State :=
  let x := s.ctx_ c
  match x.ringPend with
  | some (nslot, rxpt) =>
    if x.state = 1 ∧ s.now % 40 = x.bph ∧ s.validSlots c = [] then
      (s.setCtx c { x with
        nslot := nslot, rxpt := rxpt, ringPend := none, play := false, b := 0, pos := 0, lostN := none, cn := false }).event
        x.evq 0x85 [c, nslot, rxpt]
    else s
  | none => s

/-! ### Meanings -/

/-- RX_PACKET_JUDGE (R137). -/
def execRxPacketJudge (c : Nat) (s : State) : Res := .next (s.judgeOne c)

/-- ADAPT_WINDOW_END (R139). -/
def execAdaptWindowEnd (c : Nat) (s : State) : Res := .next (s.adaptEnd c)

/-- RX_EVENT_TIMEOUT (R140): 1,600 frames without a packet of the event. -/
def execRxEventTimeout (c : Nat) (s : State) : Res :=
  .next (if (s.ctx_ c).event.any (fun e => decide (e.last + 1600 ≤ s.now)) then s.rxEventEnd c else s)

/-- RING_APPLY (R144). -/
def execRingApply (c : Nat) (s : State) : Res := .next (s.ringApply c)

end Sys2Proof.Machine
end

