-- ==== Sys2Proof/Machine/Cxl.lean ====
section
/-! DEFINITION. The CXL far memory port (R311–R323): link states, XIO accesses, decoders, poison, recovery and loss. -/

namespace Sys2Proof.Machine
open Sys2Proof

/-- The first CXL page. -/
def cxlPage : Nat := 0xB0000

/-- A system event of the CXL port (R322). -/
def State.cxlEvent (s : State) (num : Nat) (p : List Nat) : State := s.sysEvent (s.rn Reg.CXL_EVQ) num p

/-- A port changes state: CXL_LINK with its cause, width and speed (R313, R322). -/
def State.cxlGo (s : State) (p st cause : Nat) : State :=
  let a := Reg.CXL_PORT_STAT p
  let s := (s.setFld a 28 4 st).irq cxlPage 0
  let s := if cause = 0 then s else s.setFld a 24 4 cause
  s.cxlEvent 0x40 [p, st, cause, s.fld a 8 4, s.fld a 0 6, s.now]

/-- CXL_STAT: FM_READY when decoders are committed and all their ports are READY (R318). [DEDUCED, log 101] -/
def State.cxlStat (s : State) : Nat :=
  let ds := (List.range 4).filter s.decOn
  b2n (!ds.isEmpty && ds.all (fun d => (s.decPorts d).all (fun p => s.cxlState p == 4)))

/-- The blocks whose far memory is lost are told (R320): Thyme when its regions are no longer ready, else the copies whose
destination is lost; Rook stops its mirror (R18). [DESIGN CHOICE, log 105] -/
def State.farLoss (s : State) : State :=
  let s := if s.jnlReady then s else s.thymeLost
  (s.each s.thyme.copies (fun s x => if s.farReady x.dest x.len then s else s.endCopy x 4)).mirrorCheck

/-- A port becomes LOST (R320); `lost` outstanding writes are discarded. -/
def State.portLost (s : State) (p cause lost : Nat) : State :=
  let s := (s.addN (Reg.CXL_WR_LOST p) lost).irq cxlPage 1
  (s.cxlGo p 6 cause).farLoss

/-- A port is enabled (R313). -/
def State.portEnable (s : State) (p : Nat) : State :=
  let a := Reg.CXL_PORT_CTL p
  if s.bit a 0 then s
  else if p = 1 ∧ !s.bit Reg.CXL_CXL_CFG 0 then s.cfgErr cxlPage (some 4) 3 a
  else (s.setFld a 0 1 1).cxlGo p 1 0

/-- A port is disabled (R313, R320). [DESIGN CHOICE, log 103] -/
def State.portDisable (s : State) (p lost : Nat) : State :=
  let a := Reg.CXL_PORT_CTL p
  if !s.bit a 0 then s
  else
    let s := s.setFld a 0 1 0
    if s.cxlState p = 4 ∨ s.cxlState p = 5 then s.portLost p 4 lost else s.cxlGo p 0 0

/-- Training ends (R313): cause 0 in LINKUP with its width and speed, otherwise in ABSENT. -/
def State.trainDone (s : State) (p width speed cause : Nat) : State :=
  if s.cxlState p ≠ 1 then s
  else if cause = 0 then
    ((s.setFld (Reg.CXL_PORT_STAT p) 8 4 width).setFld (Reg.CXL_PORT_STAT p) 0 6 speed).cxlGo p 3 0
  else s.cxlGo p 2 cause

/-- ACTIVATE (R318): the expander's Memory_Active was read as set, or not. -/
def State.portActivate (s : State) (p : Nat) (active : Bool) : State :=
  if s.cxlState p ≠ 3 then s
  else if active then (s.setFld (Reg.CXL_PORT_STAT p) 23 1 0).cxlGo p 4 0
  else s.setFld (Reg.CXL_PORT_STAT p) 23 1 1

/-! ### XIO (R314) -/

/-- The XIO memory address lies in a committed decoder range. -/
def State.xioHits (s : State) : Bool :=
  let a := s.rn Reg.CXL_XIO_ADDR_LO + 2 ^ 32 * s.rn Reg.CXL_XIO_ADDR_HI
  (s.decOf (a / 2 ^ 28)).isSome

/-- A write of XIO_CTL with GO = 1. -/
def State.xioGo (s : State) (v : Word) : State :=
  if s.bit Reg.CXL_XIO_STAT 31 then s.cfgErr cxlPage (some 4) 2 Reg.CXL_XIO_CTL
  else
    let s := s.setReg Reg.CXL_XIO_CTL (v &&& 0x3100000F#32)
    let st := s.cxlState (s.fld Reg.CXL_XIO_CTL 24 1)
    if st ≠ 3 ∧ st ≠ 4 then s.setN Reg.CXL_XIO_STAT 13
    else if s.bit Reg.CXL_XIO_CTL 29 ∧ s.xioHits then s.setN Reg.CXL_XIO_STAT 3
    else { s.setN Reg.CXL_XIO_STAT (2 ^ 31) with cxl := { s.cxl with xioAt := s.now, xioWr := s.bit Reg.CXL_XIO_CTL 28 } }

/-- The access ends; with TIMEOUT only once 50 ms have passed (R314). -/
def State.xioDone (s : State) (e : XioEnd) : State :=
  if !s.bit Reg.CXL_XIO_STAT 31 then s
  else match e with
    | .ok d => (if s.cxl.xioWr then s else s.setReg Reg.CXL_XIO_DATA d).setN Reg.CXL_XIO_STAT 0
    | .unsupported => s.setN Reg.CXL_XIO_STAT 3
    | .abort => s.setN Reg.CXL_XIO_STAT 0x0A
    | .timeout => if s.cxl.xioAt + 400 ≤ s.now then s.setN Reg.CXL_XIO_STAT 0x0C else s

/-! ### Decoders (R315, R316) -/

/-- A commit of decoder `d` is refused. -/
def State.commitBad (s : State) (d : Nat) : Bool :=
  let base := s.rn (Reg.CXL_DEC_BASE d)
  let size := s.rn (Reg.CXL_DEC_SIZE d)
  decide (base < 0x100) || decide (0x500 < base + size) || size == 0 ||
  (List.range d).any (fun e => !s.decOn e || decide (base < s.rn (Reg.CXL_DEC_BASE e) + s.rn (Reg.CXL_DEC_SIZE e))) ||
  (s.bit (Reg.CXL_DEC_CTL d) 4 && !s.bit Reg.CXL_CXL_CFG 0) ||
  (s.decPorts d).any (fun p => s.cxlState p != 3 && s.cxlState p != 4)

/-- A write of DEC_CTL with COMMIT = 1; a committed decoder's fields ignore writes. -/
def State.decCommit (s : State) (d : Nat) (v : Word) : State :=
  let a := Reg.CXL_DEC_CTL d
  if s.decOn d then s
  else if 6 < fieldOf v.toNat 8 4 then s.cfgErr cxlPage (some 4) 3 a
  else
    let s := s.setReg a (v &&& 0xF11#32)
    if s.commitBad d then (s.setFld a 29 1 1).cfgErr cxlPage (some 4) 3 a
    else (s.setFld a 30 2 3).setFld a 29 1 0

/-- The decoder covers a region that Thyme needs. -/
def State.decNeeded (s : State) (d : Nat) : Bool :=
  let b := s.rn (Reg.CXL_DEC_BASE d) * 2 ^ 28
  let n := s.rn (Reg.CXL_DEC_SIZE d) * 2 ^ 28
  s.thymeEn && (rangesMeet b n s.jnlBase (8192 * s.creg) || rangesMeet b n s.jdirBase 0x80000 ||
    s.thyme.copies.any (fun x => rangesMeet b n x.dest x.len))

/-- A write of DEC_CTL with COMMIT = 0 to a committed decoder. -/
def State.decUncommit (s : State) (d : Nat) : State :=
  let a := Reg.CXL_DEC_CTL d
  if !s.decOn d then s
  else if s.decNeeded d then s.cfgErr cxlPage (some 4) 2 a
  else s.setFld a 30 2 0

/-- A write of DEC_CTL. -/
def State.writeDecCtl (s : State) (d : Nat) (v : Word) : State :=
  if bitOf v.toNat 31 then s.decCommit d v
  else if s.decOn d then s.decUncommit d
  else s.setReg (Reg.CXL_DEC_CTL d) ((v &&& 0xF11#32) ||| (s.reg (Reg.CXL_DEC_CTL d) &&& 0x20000000#32))

/-- A write of PORT_CTL. [DESIGN CHOICE, log 104] -/
def State.writePortCtl (s : State) (p : Nat) (v : Word) : State :=
  let s := if bitOf v.toNat 0 then s.portEnable p else s.portDisable p 0
  if bitOf v.toNat 1 then s.portActivate p (s.free % 2 == 1) else s

/-- MODE or SPEED_MAX would change while a port is enabled (R312). -/
def State.cxlCfgBusy (s : State) (v : Word) : Bool :=
  (s.bit (Reg.CXL_PORT_CTL 0) 0 || s.bit (Reg.CXL_PORT_CTL 1) 0) && v &&& 0x31#32 != s.reg Reg.CXL_CXL_CFG &&& 0x31#32

/-- A write of CXL_CFG: MODE and SPEED_MAX do not change while a port is enabled (R312). -/
def State.writeCxlCfg (s : State) (v : Word) : State :=
  let a := Reg.CXL_CXL_CFG
  if s.cxlCfgBusy v then
    s.cfgErr cxlPage (some 4) 2 a
  else s.setReg a (v &&& 0xFFFF0031#32)

/-! ### Reads, recovery, reset (R319, R320, R323) -/

/-- A CXL.mem read of a line completes; the poison its data carries is the expander's (R319). [DESIGN CHOICE, log 106] -/
def State.memReadDone (s : State) (p a : Nat) (poison : Bool) : State :=
  if s.cxlState p ≠ 4 then s
  else
    let s := (s.setPoison a poison).add64 (Reg.CXL_RD_BYTES_LO p) 64
    if !poison then s
    else
      let s := s.bump (Reg.CXL_POISON_RD p)
      let put := fun (s : State) v => { s with cxl := { s.cxl with poison := Tab.put (fun _ => none) s.cxl.poison p (some v) } }
      let ev := fun (s : State) k => (s.irq cxlPage 2).cxlEvent 0x41 [p, a % 2 ^ 32, a / 2 ^ 32, k]
      match Tab.get (fun _ => none) s.cxl.poison p with
      | some (t, n) => if t + 8000 ≤ s.now then put (ev s (n + 1)) (s.now, 0) else put s (t, n + 1)
      | none => put (ev s 1) (s.now, 0)

/-- A link leaves L0. [DEDUCED, log 107] -/
def State.cxlRecover (s : State) (p : Nat) : State :=
  let st := s.cxlState p
  if st ≠ 3 ∧ st ≠ 4 then s
  else
    let s := { s with cxl := { s.cxl with
      prior := Tab.put (fun _ => 0) s.cxl.prior p st, recovAt := Tab.put (fun _ => 0) s.cxl.recovAt p s.now } }
    s.cxlGo p 5 0

/-- It returns to L0 within RECOV_MS. [DEDUCED, log 107] -/
def State.l0Return (s : State) (p : Nat) : State :=
  if s.cxlState p ≠ 5 ∨ Tab.get (fun _ => 0) s.cxl.recovAt p + 8 * s.fld Reg.CXL_CXL_CFG 16 8 ≤ s.now then s
  else (s.bump (Reg.CXL_LINK_RECOV p)).cxlGo p (Tab.get (fun _ => 0) s.cxl.prior p) 0

/-- CXL.RST. -/
def State.cxlRst (s : State) : State :=
  let up := fun p => s.cxlState p == 3 || s.cxlState p == 4 || s.cxlState p == 5
  if up 0 || up 1 then s.rstRefused cxlPage 2
  else { (s.headerReset cxlPage).pageReset cxlPage 0xB4000 with cxl := {} }

/-! ### Meanings -/

/-- CXL_PORT_ENABLE (R313). -/
def execCxlPortEnable (w : Win) (p : Nat) (s : State) : Res :=
  .next (s.hostGuard w (Reg.CXL_PORT_CTL p) true (·.portEnable p))

/-- CXL_PORT_DISABLE (R313). -/
def execCxlPortDisable (w : Win) (p lost : Nat) (s : State) : Res :=
  .next (s.hostGuard w (Reg.CXL_PORT_CTL p) true (·.portDisable p lost))

/-- CXL_TRAIN_DONE (R313). -/
def execCxlTrainDone (p width speed cause : Nat) (s : State) : Res := .next (s.trainDone p width speed cause)

/-- ACTIVATE (R318). -/
def execActivate (w : Win) (p : Nat) (active : Bool) (s : State) : Res :=
  .next (s.hostGuard w (Reg.CXL_PORT_CTL p) true (·.portActivate p active))

/-- XIO_GO (R314). -/
def execXioGo (w : Win) (v : Word) (s : State) : Res := .next (s.hostGuard w Reg.CXL_XIO_CTL true (·.xioGo v))

/-- XIO_COMPLETE (R314). -/
def execXioComplete (e : XioEnd) (s : State) : Res := .next (s.xioDone e)

/-- DEC_COMMIT (R316). -/
def execDecCommit (w : Win) (d : Nat) (v : Word) (s : State) : Res :=
  .next (s.hostGuard w (Reg.CXL_DEC_CTL d) true (·.decCommit d v))

/-- DEC_UNCOMMIT (R316). -/
def execDecUncommit (w : Win) (d : Nat) (s : State) : Res :=
  .next (s.hostGuard w (Reg.CXL_DEC_CTL d) true (·.decUncommit d))

/-- CXL_MEM_READ_DONE (R319). -/
def execCxlMemReadDone (p a : Nat) (poison : Bool) (s : State) : Res := .next (s.memReadDone p a poison)

/-- CXL_RECOVERY (R319). -/
def execCxlRecovery (p : Nat) (s : State) : Res := .next (s.cxlRecover p)

/-- CXL_L0_RETURN (R319). -/
def execCxlL0Return (p : Nat) (s : State) : Res := .next (s.l0Return p)

/-- RECOV_TIMEOUT (R320). -/
def execRecovTimeout (p lost : Nat) (s : State) : Res :=
  .next (if s.cxlState p = 5 then s.portLost p 1 lost else s)

/-- MEM_TIMEOUT (R320). -/
def execMemTimeout (p lost : Nat) (s : State) : Res :=
  .next (if s.cxlState p = 4 ∨ s.cxlState p = 5 then s.portLost p 2 lost else s)

/-- CXL_VIRAL (R320, R322). -/
def execCxlViral (p lost : Nat) (s : State) : Res :=
  .next (if s.cxlState p = 3 ∨ s.cxlState p = 4 ∨ s.cxlState p = 5 then
      ((s.irq cxlPage 3).cxlEvent 0x42 [p, s.now]).portLost p 3 lost
    else s)

/-- CXL_RST (R323). -/
def execCxlRst (w : Win) (s : State) : Res := .next (s.hostGuard w (cxlPage + 0x30) true (·.cxlRst))

end Sys2Proof.Machine
end

