-- ==== Sys2Proof/Machine/Nmc.lean ====
section
/-! DEFINITION. The near memory controller (R288–R310): the address map, port requests and command slots, the write queue,
refresh, row-hammer protection, ECC and poison, scrub, retirement and migration, training, self-refresh. -/

namespace Sys2Proof.Machine
open Sys2Proof

/-- The first NMC page. -/
def nmPage : Nat := 0xA0000

/-- NM_SIZE in bytes. -/
def State.nmSize (s : State) : Nat := s.fld Reg.NMC_NM_STAT 0 15 * 0x100000

/-- A system event of the NMC (R309). -/
def State.nmEvent (s : State) (num : Nat) (p : List Nat) : State := s.sysEvent (s.rn Reg.NMC_EVQ) num p

/-! ### Address map (R289, R303) -/

/-- Where a line lies: rank, and k of its group. -/
structure NmLoc where
  rank : Nat
  k : Nat
  deriving DecidableEq, Repr

/-- Bank, half and row of a group (R289). -/
def NmLoc.bank (l : NmLoc) : Nat := l.k % 16
def NmLoc.half (l : NmLoc) : Nat := l.k / 16 % 2
def NmLoc.row (l : NmLoc) : Nat := l.k / 32

/-- Row byte of data line `j` of the group (R289). -/
def NmLoc.byte (l : NmLoc) (j : Nat) : Nat := 1024 * l.half + 64 * j

/-- The location of data line `l` = address / 64: full map, or the reduced map with n = N0. -/
def nmLoc (reduced : Bool) (n0 l : Nat) : NmLoc :=
  let g := l / 15
  let ch := g % 4
  let h := g / 4
  if reduced then ⟨2 * ch + n0, h⟩ else ⟨2 * ch + h % 2, h / 2⟩

/-- The location of a line in the map in force. -/
def State.loc (s : State) (l : Nat) : NmLoc := nmLoc (s.bit Reg.NMC_NM_STAT 31) (s.fld Reg.NMC_NM_STAT 30 1) l

/-- The line of group `k`, position `j`, of a rank. -/
def State.lineOf (s : State) (rank k j : Nat) : Nat :=
  let h := if s.bit Reg.NMC_NM_STAT 31 then k else 2 * k + rank % 2
  15 * (4 * h + rank / 2) + j

/-- The slot that serves a rank: RANK_STAT.SUB. -/
def State.subOf (s : State) (rank : Nat) : Nat := s.fld (Reg.NMC_RANK_STAT rank) 24 4

/-- STATE of a rank slot. -/
def State.slotState (s : State) (i : Nat) : Nat := s.fld (Reg.NMC_RANK_STAT i) 29 3

/-- The slot that serves a location, a running migration considered (R303). -/
def State.slotAt (s : State) (l : NmLoc) : Nat :=
  match s.nmc.mig with
  | some m => if m.rank = l.rank then (if l.k / 4 < s.fld Reg.NMC_MIG_STAT 0 20 then m.tgt else m.src) else s.subOf l.rank
  | none => s.subOf l.rank

/-- The channel of a slot: the spares are on channel 4. -/
def chanOf (slot : Nat) : Nat := if 8 ≤ slot then 4 else slot / 2

/-- The channel that serves a line. -/
def State.chanAt (s : State) (l : Nat) : Nat := chanOf (s.slotAt (s.loc l))

/-- The rank a slot serves, or is about to serve. -/
def State.rankOf (s : State) (slot : Nat) : Option Nat :=
  match (List.range 8).find? (fun r => s.subOf r == slot) with
  | some r => some r
  | none => match s.nmc.mig with
    | some m => if m.tgt = slot then some m.rank else none
    | none => none

/-! ### Errors (R299, R300, R302) -/

/-- A retirement of the rank that a slot serves is queued; one queued already, or whose source runs, adds nothing (R302).
[DESIGN CHOICE, log 96] -/
def State.retire (s : State) (slot cause : Nat) : State :=
  match s.rankOf slot with
  | none => s
  | some r =>
    if s.nmc.mig.any (fun m => m.src == slot) ∨ s.nmc.migq.any (fun e => e.1 == r) then s
    else { s with nmc := { s.nmc with migq := s.nmc.migq ++ [(r, cause)] } }

/-- The hour window of frame `s.now`, counted from the NMC's enable (R299). -/
def State.hourNow (s : State) : Nat := (s.now - s.nmc.hourBase) / 28800000

/-- A slot's hour window in force is the one of this frame: at its start the count and the rank's NM_NO_SPARE restart
(R28, R299, R304). -/
def State.ceWindow (s : State) (i : Nat) : State :=
  if Tab.get (fun _ => 0) s.nmc.hour i = s.hourNow then s
  else
    let s := { s.setN (Reg.NMC_RANK_CE i) 0 with nmc := { s.nmc with hour := Tab.put (fun _ => 0) s.nmc.hour i s.hourNow } }
    match s.rankOf i with
    | some r => { s with nmc := { s.nmc with noSpare := s.nmc.noSpare.filter (· != r) } }
    | none => s

/-- `n` codewords corrected on a slot (R299); a RETIRED die's counters are frozen (R303). -/
def State.ceFound (s : State) (slot n : Nat) : State :=
  if n = 0 then s
  else
    let s := (s.ceWindow slot).addN Reg.NMC_CE_TOTAL n
    if s.slotState slot = 4 then s
    else
      let old := s.rn (Reg.NMC_RANK_CE slot)
      let new := min 65535 (old + n)
      let s := (s.setN (Reg.NMC_RANK_CE slot) new).addN (Reg.NMC_RANK_CE_TOT slot) n
      let lim := s.rn Reg.NMC_CE_LIMIT
      if old < lim ∧ lim ≤ new then
        let s := s.irq nmPage 0
        if s.bit Reg.NMC_NMC_CFG 17 then s.retire slot 0 else s
      else s

/-- An uncorrectable line that is not marked (R300): it is marked, counted and reported; `line` is none in a spare that
serves no rank, whose device address is open. [DESIGN CHOICE, log 95] -/
def State.ueFound (s : State) (slot : Nat) (line : Option Nat) (port src : Nat) : State :=
  let a := match line with
    | some l => 64 * l
    | none => s.free % 2 ^ 40
  let s := match line with
    | some l => s.setPoison (64 * l) true
    | none => s.drawn
  let s := (s.bump Reg.NMC_UE_TOTAL).irq nmPage 1
  let s := if s.slotState slot = 4 then s else s.bump (Reg.NMC_RANK_UE slot)
  let s := s.nmEvent 0x34 [a % 2 ^ 32, a / 2 ^ 32, port, src]
  if s.bit Reg.NMC_NMC_CFG 17 ∧ s.bit Reg.NMC_NMC_CFG 18 then s.retire slot 1 else s

/-- The errors that one read of a line found. -/
def State.lineErr (s : State) (line port src : Nat) (e : LineErr) : State :=
  let slot := s.slotAt (s.loc line)
  let s := s.ceFound slot (min 2 e.ce)
  if e.ue ∧ !s.poisoned (64 * line) 64 then s.ueFound slot (some line) port src else s

/-! ### Requests (R291–R295) -/

/-- A request's urgency at time `t` (R292). -/
def State.urgency (s : State) (r : NmReq) (t : Nat) : Nat :=
  let tgt := s.fld (Reg.NMC_PORT_CFG r.port) 0 16
  let age := t - r.at_
  if r.hot ∨ tgt ≤ age then 3
  else if 3 * tgt ≤ 4 * age then 2
  else if tgt ≤ 2 * age then 1 else 0

/-- Split a request into lines (R289). -/
def nmSplit (port : Nat) (write : Bool) (a n : Nat) (data : List Nat) (t : Nat) : List NmReq :=
  (List.range (ceilDiv (a % 64 + n) 64)).map (fun i =>
    let lo := if i = 0 then a % 64 else 0
    let hi := min 64 (a % 64 + n - 64 * i)
    { port := port, write := write, line := a / 64 + i, off := lo, n := hi - lo
      data := slice data (64 * i + lo - a % 64) (hi - lo), at_ := t })

/-- A request, or maintenance, comes to a channel: one in self-refresh leaves it, with no refresh owed (R296, R308). -/
def State.wakeChan (s : State) (ch : Nat) : State :=
  let s := { s with nmc := { s.nmc with active := Tab.put (fun _ => none) s.nmc.active ch (some s.now) } }
  if Tab.get (fun _ => false) s.nmc.sleep ch then
    let debt := ((List.range 10).filter (fun i => chanOf i == ch)).foldl (fun d i => Tab.put (fun _ => 0) d i 0) s.nmc.debt
    { s.bump Reg.NMC_SR_LATE with nmc := { s.nmc with sleep := Tab.put (fun _ => false) s.nmc.sleep ch false, debt := debt } }
  else s

/-- The NMC has seen time `t`. [DESIGN CHOICE, log 90] -/
def State.nmClock (s : State) (t : Nat) : State := { s with nmc := { s.nmc with clock := max s.nmc.clock t } }

/-- A request enters a port queue (R291); one outside NM_SIZE is refused (R289), one to a channel in self-refresh wakes it
(R308). [DESIGN CHOICE, log 90; DEDUCED, log 91] -/
def State.nmRequest (s : State) (port : Nat) (write : Bool) (a n : Nat) (data : List Nat) (t : Nat) : State :=
  if s.nmSize < a + n then
    let s := s.err nmPage 3 (port * 256) a
    { s with nmc := { s.nmc with answer := some (port, 3, []) } }
  else
    (s.nmClock t).each (nmSplit port write a n data t) (fun s r =>
      let ch := s.chanAt r.line
      let r := { r with hot := Tab.get (fun _ => false) s.nmc.sleep ch }
      let s := s.wakeChan ch
      { s with nmc := { s.nmc with reqs := s.nmc.reqs ++ [r] } })

/-- Replace a waiting request. -/
def State.setReq (s : State) (r r' : NmReq) : State :=
  { s with nmc := { s.nmc with reqs := s.nmc.reqs.map (fun x => if x = r then r' else x) } }

/-- Remove a request, recording its latency (R292). -/
def State.reqDone (s : State) (r : NmReq) (t : Nat) : State :=
  let s := { s with nmc := { s.nmc with reqs := s.nmc.reqs.erase r } }
  s.maxN (Reg.NMC_LAT_MAX r.port) (min 65535 (t - r.at_))

/-- The write queue of a channel. -/
def State.wq (s : State) (ch : Nat) : List NmEntry := Tab.get (fun _ => []) s.nmc.wq ch

/-- Replace it. -/
def State.setWq (s : State) (ch : Nat) (l : List NmEntry) : State :=
  { s with nmc := { s.nmc with wq := Tab.put (fun _ => []) s.nmc.wq ch l } }

/-- Bytes `off` to `off + n - 1` as a mask. -/
def maskOf (off n : Nat) : Nat := (2 ^ n - 1) * 2 ^ off

/-- Some row tracker, or none, holds the row: the update of R297. -/
def trackRow (l : List NmTracker) (row port : Nat) : List NmTracker × Nat :=
  let t0 : NmTracker := match l.find? (fun t => t.row == row) with
    | some t => t
    | none => if l.length < 16 then ⟨row, 0, 0, 0⟩
      else l.foldl (fun m t => if t.count < m.count then t else m) (l.headD ⟨row, 0, 0, 0⟩)
  let i := match l.findIdx? (fun t => t == t0) with
    | some i => i
    | none => l.length
  let t := { t0 with row := row, count := t0.count + 1 }
  let t := if t.hp = port ∧ t.hc ≠ 0 then { t with hc := t.hc + 1 }
    else if t.hc = 0 then { t with hp := port, hc := 1 } else { t with hc := t.hc - 1 }
  (if i < l.length then l.set i t else l ++ [t], i)

/-- An activation of a row by a port: trackers, and at RH_LIMIT the actions of R298. -/
def State.activate (s : State) (slot bank row port t : Nat) : State :=
  let key := slot * 16 + bank
  let s := { s with nmc := { s.nmc with
    open_ := Tab.put (fun _ => none) s.nmc.open_ key (some row)
    hot := s.nmc.hot.map (fun h => if h.slot = slot ∧ h.bank = bank ∧ h.row = row ∧ h.port = port then { h with last := t } else h) } }
  let (l, i) := trackRow (Tab.get (fun _ => []) s.nmc.track key) row port
  let put := fun (s : State) l => { s with nmc := { s.nmc with track := Tab.put (fun _ => []) s.nmc.track key l } }
  match l[i]? with
  | none => s
  | some x =>
    if x.count < s.fld Reg.NMC_RH_CFG 16 16 then put s l
    else
      let s := (put s (l.set i { x with count := 0 })).bump Reg.NMC_RH_EVENTS
      let s := { s with nmc := { s.nmc with hot := s.nmc.hot ++ [⟨slot, bank, row, x.hp, t⟩] } }
      if s.nmc.seen.contains (slot, bank, row) then s
      else
        let s := { s with nmc := { s.nmc with seen := (slot, bank, row) :: s.nmc.seen } }
        (s.irq nmPage 5).nmEvent 0x35 [slot, bank, row, x.hp]

/-- The row of a line is open. -/
def State.rowOpen (s : State) (line : Nat) : Bool :=
  let l := s.loc line
  Tab.get (fun _ => none) s.nmc.open_ (s.slotAt l * 16 + l.bank) == some l.row

/-- Open a line's row for a port, counting the activation if it is not open. -/
def State.touch (s : State) (line port t : Nat) : State :=
  let l := s.loc line
  if s.rowOpen line then s else s.activate (s.slotAt l) l.bank l.row port t

/-- R298 holds a request that needs another activation of a heavy row. -/
def State.throttled (s : State) (r : NmReq) (t : Nat) : Bool :=
  let l := s.loc r.line
  !s.rowOpen r.line && s.nmc.hot.any (fun h =>
    h.slot == s.slotAt l && h.bank == l.bank && h.row == l.row && h.port == r.port && decide (t < h.last + s.fld Reg.NMC_RH_CFG 0 16))

/-- The port runs in PXG-2048 order mode (R295). -/
def State.ordered (s : State) (port : Nat) : Bool := s.bit (Reg.NMC_PORT_CFG port) 31

/-- A waiting request may be chosen: its channel, no older request of its line (or of its ordered port), not throttled. -/
def State.eligible (s : State) (ch t : Nat) (r : NmReq) : Bool :=
  let before := s.nmc.reqs.takeWhile (· != r)
  s.chanAt r.line == ch && !s.throttled r t &&
  (if s.ordered r.port then !before.any (fun x => x.port == r.port)
   else !before.any (fun x => x.line == r.line && (x.write || r.write)))

/-- A write queue entry goes to the die (R294): read-modify-write when its mask is not full; a full mask clears a poison
mark, a partial one keeps it (R300). -/
def State.entryOut (s : State) (ch : Nat) (x : NmEntry) (t : Nat) (e : LineErr) : State :=
  let s := (s.setWq ch ((s.wq ch).erase x)).touch x.line x.port t
  if x.mask = 2 ^ 64 - 1 then s.setPoison (64 * x.line) false
  else
    let s := (s.bump Reg.NMC_RMW_CNT).lineErr x.line x.port 0 e
    if s.poisoned (64 * x.line) 64 then s.bump Reg.NMC_POISON_WR else s

/-- A write enters the write queue (R294). -/
def State.serveWrite (s : State) (ch : Nat) (r : NmReq) (t : Nat) : State :=
  let q : List NmEntry := s.wq ch
  let m := maskOf r.off r.n
  let s : State := match q.find? (fun x => x.line == r.line) with
    | some x =>
      let x' := { x with mask := x.mask ||| m, port := r.port, parts := x.parts ++ [(r.port, r.off, r.data)] }
      s.setWq ch (q.map (fun y => if y = x then x' else y))
    | none =>
      s.setWq ch (q ++ [⟨r.line, m, s.rdBytes (64 * r.line) 64, r.port, [(r.port, r.off, r.data)]⟩])
  ({ s with mem := wrList s.mem (64 * r.line + r.off) r.data }).reqDone r t

/-- The answer of a read. -/
def State.answered (s : State) (r : NmReq) (st : Nat) (b : List Nat) (t : Nat) : State :=
  { s.reqDone r t with nmc := { (s.reqDone r t).nmc with answer := some (r.port, st, b) } }

/-- A read of the die (R299, R300). [DESIGN CHOICE, log 89] -/
def State.dieRead (s : State) (r : NmReq) (t : Nat) (e : LineErr) (b : List Nat) : State :=
  let s := s.touch r.line r.port t
  if s.poisoned (64 * r.line) 64 then (s.bump Reg.NMC_POISON_RD).answered r 0x0E b t
  else (s.lineErr r.line r.port 0 e).answered r (if e.ue then 0x0E else 0) b t

/-- The line of an entry as an ordered port sees it that does not see other ports' queued writes (R295). -/
def NmEntry.stale (x : NmEntry) (port : Nat) : List Nat :=
  x.parts.foldl (fun b p => if p.1 = port then patch b p.2.1 p.2.2 else b) x.before

/-- A read is served (R294, R295). [DESIGN CHOICE, log 90, 92] -/
def State.serveRead (s : State) (ch : Nat) (r : NmReq) (t : Nat) (e : LineErr) : State :=
  let now := s.rdBytes (64 * r.line + r.off) r.n
  match (s.wq ch).find? (fun x => x.line == r.line) with
  | none => s.dieRead r t e now
  | some x =>
    if s.ordered r.port then
      let stale := x.parts.any (·.1 != r.port) ∧ s.free % 2 = 1
      s.drawn.dieRead r t e (if stale then slice (x.stale r.port) r.off r.n else now)
    else if maskOf r.off r.n &&& x.mask = maskOf r.off r.n then (s.bump Reg.NMC_RAW_FWD).answered r 0 now t
    else if maskOf r.off r.n &&& x.mask = 0 then s.dieRead r t e now
    else
      let s := if r.waited then s else (s.bump Reg.NMC_RAW_WAIT).setReq r { r with waited := true }
      s.entryOut ch x t e

/-- An owed refresh of the channel that no request of urgency 1 or more postpones (R293, R296). [DESIGN CHOICE, log 93] -/
def State.refreshDue (s : State) (ch t : Nat) : Option Nat :=
  (List.range 10).find? (fun i => chanOf i == ch && decide (0 < Tab.get (fun _ => 0) s.nmc.debt i) &&
    !s.nmc.reqs.any (fun r => s.slotAt (s.loc r.line) == i && decide (1 ≤ s.urgency r t)))

/-- Set a slot's refresh debt. -/
def State.setDebt (s : State) (i d : Nat) : State :=
  { s with nmc := { s.nmc with debt := Tab.put (fun _ => 0) s.nmc.debt i d } }

/-- Count requests that reach urgency 3 and requests that R298 holds. -/
def State.ageAll (s : State) (ch t : Nat) : State :=
  s.each s.nmc.reqs (fun s r =>
    if s.chanAt r.line ≠ ch then s
    else
      let u := !r.urg3 && s.urgency r t == 3
      let h := !r.held && s.throttled r t
      let s := if u then s.bump (Reg.NMC_URG3 r.port) else s
      let s := if h then s.bump (Reg.NMC_THROTTLE r.port) else s
      if u || h then s.setReq r { r with urg3 := r.urg3 || u, held := r.held || h } else s)

/-- The request chosen among the eligible ones: urgency 3, an open row, the oldest. -/
def State.chooseReq (s : State) (ok : List NmReq) (ch t : Nat) (e : LineErr) : State :=
  let pick : Option NmReq := match ok.find? (fun r => s.urgency r t == 3) with
    | some r => some r
    | none => match ok.find? (fun r => s.rowOpen r.line) with
      | some r => some r
      | none => ok.head?
  match pick with
  | none => s
  | some r =>
    if r.write then
      if (s.wq ch).length < 64 ∨ (s.wq ch).any (fun x => x.line == r.line) then s.serveWrite ch r t
      else match s.wq ch with
        | x :: _ => s.entryOut ch x t e
        | [] => s
    else s.serveRead ch r t e

/-- Refreshes ahead of time (R296): while no request to a rank of the channel is queued the NMC may issue one, up to 8; a free
value says whether it does. [DESIGN CHOICE, log 93] -/
def State.pullIn (s : State) (ch : Nat) : State :=
  let ahead := fun i => Tab.get (fun _ => 0) s.nmc.credit i
  match (List.range 10).find? (fun i => chanOf i == ch && decide (ahead i < 8) &&
      !s.nmc.reqs.any (fun r => s.slotAt (s.loc r.line) == i)) with
  | some i =>
    if s.free % 2 = 1 then { s.drawn with nmc := { s.drawn.nmc with credit := Tab.put (fun _ => 0) s.nmc.credit i (ahead i + 1) } }
    else s.drawn
  | none => s

/-- A channel's choice at a command slot at time `t` (R293); `e` is what the ECC check of the line read finds.
[DESIGN CHOICE, log 93] -/
def State.commandSlot (s : State) (ch t : Nat) (e : LineErr) : State :=
  if !s.bit Reg.NMC_NMC_CFG 31 then s
  else
    let s := (s.nmClock t).ageAll ch t
    match s.refreshDue ch t with
    | some i => s.setDebt i (Tab.get (fun _ => 0) s.nmc.debt i - 1)
    | none =>
      let q : List NmEntry := s.wq ch
      let ok : List NmReq := s.nmc.reqs.filter (s.eligible ch t)
      let reads : List NmReq := s.nmc.reqs.filter (fun r => !r.write && s.chanAt r.line == ch)
      let was := Tab.get (fun _ => false) s.nmc.drain ch
      let drain := if q.length ≤ 16 then false else if 48 ≤ q.length ∨ reads.isEmpty then true else was
      let s := { s with nmc := { s.nmc with drain := Tab.put (fun _ => false) s.nmc.drain ch drain } }
      match q with
      | x :: _ =>
        if drain && !reads.any (fun r => decide (2 ≤ s.urgency r t)) then s.entryOut ch x t e
        else s.chooseReq ok ch t e
      | [] => if ok.isEmpty then s.pullIn ch else s.chooseReq ok ch t e

/-- Some request of the channel has urgency 2 or 3 (R293) at the latest time the NMC has seen. [DESIGN CHOICE, log 90] -/
def State.chanUrgent (s : State) (ch : Nat) : Bool :=
  s.nmc.reqs.any (fun r => s.chanAt r.line == ch && decide (2 ≤ s.urgency r s.nmc.clock))

/-! ### Refresh (R296) -/

/-- A rank owes one more refresh, which a refresh issued ahead pays; at a debt of 8 the burst follows at once. A slot in
self-refresh owes none (R296). [DESIGN CHOICE, log 93] -/
def State.refreshOwed (s : State) (i : Nat) : State :=
  let ahead := Tab.get (fun _ => 0) s.nmc.credit i
  if Tab.get (fun _ => false) s.nmc.sleep (chanOf i) then s
  else if 0 < ahead then { s with nmc := { s.nmc with credit := Tab.put (fun _ => 0) s.nmc.credit i (ahead - 1) } }
  else
    let d := Tab.get (fun _ => 0) s.nmc.debt i + 1
    if 8 ≤ d then (s.setDebt i 0).bump Reg.NMC_REF_BURST else s.setDebt i d

/-- REF_STAT: the largest debt of each channel. -/
def State.refStat (s : State) : Nat :=
  ((List.range 5).map (fun ch =>
    (((List.range 10).filter (fun i => chanOf i == ch)).map (Tab.get (fun _ => 0) s.nmc.debt)).foldl max 0 * 16 ^ ch)).sum

/-- Frame `n` opens: at the start of a row-hammer window every tracker clears (R297). -/
def State.rhWindow (s : State) (n : Nat) : State :=
  if n / 256 = s.nmc.rhWin then s else { s with nmc := { s.nmc with rhWin := n / 256, track := [], hot := [], seen := [] } }

/-! ### Scrub (R301) -/

/-- The slot is scrubbed and retrained: in service or ready. -/
def State.slotLive (s : State) (i : Nat) : Bool := decide (s.slotState i ≤ 3)

/-- A channel is in service: one of its dies is (R308). -/
def State.chanLive (s : State) (ch : Nat) : Bool :=
  (List.range 10).any (fun i => chanOf i == ch && s.slotLive i && s.slotState i != 1)

/-- Groups of a slot. -/
def nmGroups : Nat := 2097152

/-- The next live slot from `i` on, among `n`. -/
def State.nextLive (s : State) (i : Nat) : Option Nat := ((List.range 10).map (i + ·)).find? (fun k => decide (k < 10) && s.slotLive k)

/-- The patrol scrub reads the next group: lines `ce` each have a corrected codeword, lines `ue` an uncorrectable one.
[DESIGN CHOICE, log 89] -/
def State.scrubRead (s : State) (ce ue : List Nat) : State :=
  if !s.bit Reg.NMC_SCRUB_CFG 31 ∨ !s.bit Reg.NMC_NMC_CFG 31 then s
  else match s.nextLive s.nmc.scrub.1 with
    | none => { (s.bump Reg.NMC_SCRUB_PASS) with nmc := { s.nmc with scrub := (0, 0) } }
    | some i =>
      if s.chanUrgent (chanOf i) then s
      else
        let s := s.wakeChan (chanOf i)
        let k := if i = s.nmc.scrub.1 then s.nmc.scrub.2 else 0
        let line := fun j => (s.rankOf i).map (fun r => s.lineOf r k j)
        let queued := fun j => (s.wq (chanOf i)).any (fun x => some x.line == line j)
        let s := s.ceFound i (ce.filter (fun j => !queued j)).length
        let s := s.each (ue.filter (fun j => decide (j < 15) && !queued j)) (fun s j =>
          match line j with
          | some l => if s.poisoned (64 * l) 64 then s else s.drawn.ueFound i (some l) (s.free % 32) 1
          | none => s.drawn.ueFound i none (s.free % 32) 1)
        if k + 1 < nmGroups then { s with nmc := { s.nmc with scrub := (i, k + 1) } }
        else match s.nextLive (i + 1) with
          | some m => { s with nmc := { s.nmc with scrub := (m, 0) } }
          | none => { (s.bump Reg.NMC_SCRUB_PASS) with nmc := { s.nmc with scrub := (0, 0) } }

/-! ### Migration (R302–R304) -/

/-- MAINT_STAT shows the end of a command. -/
def State.maintEnd (s : State) (st : Nat) : State := s.setN Reg.NMC_MAINT_STAT st

/-- The retirement of rank `r` ends, and with it a MAINT_CMD that waits for it. [DESIGN CHOICE, log 96] -/
def State.maintOf (s : State) (r st : Nat) : State :=
  if s.nmc.maint = some r then { s.maintEnd st with nmc := { s.nmc with maint := none } } else s

/-- The oldest queued retirement starts on the lowest ready spare (R302), or finds none (R304). -/
def State.migStart (s : State) : State :=
  match s.nmc.mig, s.nmc.migq with
  | none, (r, cause) :: q =>
    let s := { s with nmc := { s.nmc with migq := q } }
    let src := s.subOf r
    let s := s.ceWindow src
    match [8, 9].find? (fun i => s.slotState i == 1) with
    | some t =>
      let s := (s.setFld (Reg.NMC_RANK_STAT src) 29 3 2).setFld (Reg.NMC_RANK_STAT t) 29 3 3
      let s := s.setN Reg.NMC_MIG_STAT (2 ^ 31 + src * 2 ^ 24 + t * 2 ^ 20)
      let s := { s with nmc := { s.nmc with mig := some ⟨r, src, t, s.now, none⟩ } }
      (s.nmEvent 0x30 [r, t, cause]).irq nmPage 2
    | none =>
      let s := (s.setFld (Reg.NMC_RANK_STAT src) 28 1 1).irq nmPage 3
      let s := s.err nmPage 0x11 r 0
      let s := s.maintOf r 0x11
      if s.nmc.noSpare.contains r then s
      else { (s.nmEvent 0x32 [r, cause]) with nmc := { s.nmc with noSpare := r :: s.nmc.noSpare } }
  | _, _ => s

/-- The last page is copied (R303). -/
def State.migDone (s : State) (m : NmMig) : State :=
  let s := (s.setFld (Reg.NMC_RANK_STAT m.rank) 24 4 m.tgt).setFld (Reg.NMC_RANK_STAT m.tgt) 29 3 0
  let s := s.setFld (Reg.NMC_RANK_STAT m.tgt) 24 4 m.rank
  let s := s.setFld (Reg.NMC_RANK_STAT m.src) 29 3 4
  let s := if 8 ≤ m.src then s.setFld (Reg.NMC_RANK_STAT m.src) 24 4 0xF else s
  let s := s.setN Reg.NMC_MIG_STAT 0
  let s := { s with nmc := { s.nmc with mig := none } }
  let s := s.maintOf m.rank 0
  s.nmEvent 0x31 [m.rank, m.tgt, (s.now - m.start) / 8]

/-- Fewer than `us` microseconds have passed since frame `t`, wherever in their frames the two moments lie. -/
def State.tooSoon (s : State) (us t : Nat) : Bool := decide ((s.now - t + 1) * 125 ≤ us)

/-- One page of the migration is copied (R303): `ce` and `ue` are the lines of the page, 0–59, in which the copy's reads
found errors. [DESIGN CHOICE, log 217] -/
def State.pageCopy (s : State) (ce ue : List Nat) : State :=
  match s.nmc.mig with
  | none => s
  | some m =>
    let d := fun i => Tab.get (fun _ => 0) s.nmc.debt i
    if 4 < d m.src ∨ 4 < d m.tgt ∨ s.chanUrgent (chanOf m.src) ∨ s.chanUrgent (chanOf m.tgt) ∨
      m.last.any (s.tooSoon (s.rn Reg.NMC_MIG_CFG)) then s
    else
      let s := { s with nmc := { s.nmc with mig := some { m with last := some s.now } } }
      let s := (s.wakeChan (chanOf m.src)).wakeChan (chanOf m.tgt)
      let p := s.fld Reg.NMC_MIG_STAT 0 20
      let ch := chanOf m.src
      let mine := (s.wq ch).filter (fun x => (s.loc x.line).rank == m.rank && (s.loc x.line).k / 4 == p)
      let s := s.each mine (fun s x => s.entryOut ch x 0 ⟨0, false⟩)
      let s := s.ceFound m.src ce.length
      let s := s.each (ue.filter (fun i => decide (i < 60))) (fun s i =>
        let l := s.lineOf m.rank (4 * p + i / 15) (i % 15)
        if s.poisoned (64 * l) 64 then s else s.drawn.ueFound m.src (some l) (s.free % 32) 2)
      if p + 1 < 524288 then s.setFld Reg.NMC_MIG_STAT 0 20 (p + 1) else s.migDone m

/-- MAINT_CMD OP RETIRE (R302). [DEDUCED, log 94] -/
def State.maintRetire (s : State) (slot : Nat) : State :=
  if 9 < slot then s.cfgErr nmPage (some 6) 3 Reg.NMC_MAINT_CMD
  else if s.bit Reg.NMC_MAINT_STAT 31 then s.cfgErr nmPage (some 6) 2 Reg.NMC_MAINT_CMD
  else match s.rankOf slot with
    | none => s.maintEnd 3
    | some r =>
      let s := { s.setN Reg.NMC_MAINT_STAT (2 ^ 31) with nmc := { s.nmc with maint := some r } }
      s.retire slot 2

/-! ### Training (R305–R307) -/

/-- The longest run of passing steps: start and length, the lower run on a tie. -/
def bestRun : List Bool → Nat → Nat × Nat → Nat × Nat → Nat × Nat
  | [], _, _, best => best
  | b :: r, i, run, best =>
    if b then
      let run := if run.2 = 0 then (i, 1) else (run.1, run.2 + 1)
      bestRun r (i + 1) run (if best.2 < run.2 then run else best)
    else bestRun r (i + 1) (0, 0) best

/-- The chosen step of a sweep: the centre of the longest run of at least `eye` steps, the lower centre when even (R305).
[DESIGN CHOICE, log 97] -/
def chosenStep (eye : Nat) (pass : List Bool) : Option Nat :=
  let (a, n) := bestRun pass 0 (0, 0) (0, 0)
  if n = 0 ∨ n < eye then none else some (a + (n - 1) / 2)

/-- Periodic retraining of a slot is due (R306): 1 TRN_PERIOD has passed, 2 the highest sensor moved by more than TRN_DTEMP,
3 MAINT_CMD. -/
def State.mayRetrain (s : State) (i trigger : Nat) : Bool :=
  match trigger with
  | 1 => decide (s.fld Reg.NMC_TRN_CFG 0 8 * 480000 ≤ s.now - Tab.get (fun _ => 0) s.nmc.trained i)
  | 2 => decide (s.fld Reg.NMC_TRN_CFG 8 8 <
      (signed 9 (s.rn Reg.PWR_TEMP_MAX) - signed 8 (s.fld (Reg.NMC_RANK_STAT i) 16 8)).natAbs)
  | _ => true

/-- Periodic retraining of a slot starts (R306), or one that MAINT_CMD asks for waits its turn. -/
def State.retrainDue (s : State) (i trigger : Nat) : State :=
  if 9 < i ∨ !s.slotLive i ∨ !s.mayRetrain i trigger ∨
    (trigger ≠ 3 ∧ (s.bit Reg.NMC_NMC_CFG 20 ∨ s.nmc.train.any (fun e => e.1 == i))) then s
  else { s with nmc := { s.nmc with train := s.nmc.train ++ [(i, trigger)] } }

/-- Apply a sweep's chosen step around the current setting of its lane. -/
def State.applySweep (s : State) (i : Nat) (w : Sweep) : State :=
  match chosenStep (s.fld Reg.NMC_TRN_CFG 24 8) w.pass with
  | none => s
  | some k =>
    let lo := match w.kind with
      | 0 => 0
      | 1 => 8
      | _ => 16
    let a := Reg.NMC_SETTING i w.lane
    let v : Int := (s.fld a lo 8 : Int) - s.fld Reg.NMC_TRN_CFG 16 8 + k
    s.setFld a lo 8 (satTo 0 255 v).toNat

/-- A retraining step of a slot (R306, R307); the last one brings the sweeps and the sensor reading; retraining pauses
while TRN_HOST = 1. [DESIGN CHOICE, log 97] -/
def State.retrainStep (s : State) (i : Nat) (sweeps : Option (List Sweep)) (temp : Int) : State :=
  match s.nmc.train.find? (fun e => e.1 == i) with
  | none => s
  | some (_, trigger) =>
    if s.bit Reg.NMC_NMC_CFG 20 ∨ 4 < Tab.get (fun _ => 0) s.nmc.debt i ∨ s.chanUrgent (chanOf i) then s
    else
      let s := s.wakeChan (chanOf i)
      match sweeps with
      | none => s
      | some l =>
        let good := l.all (fun w => (chosenStep (s.fld Reg.NMC_TRN_CFG 24 8) w.pass).isSome)
        let s := { s with nmc := { s.nmc with
          train := s.nmc.train.erase (i, trigger)
          trained := Tab.put (fun _ => 0) s.nmc.trained i s.now } }
        let s := s.setFld (Reg.NMC_RANK_STAT i) 16 8 (unsigned 8 temp)
        let s := if trigger = 3 then s.maintEnd (if good then 0 else 0x0F) else s
        if good then
          ((s.each (l.filter (fun w => decide (w.lane < 18))) (fun s w => s.applySweep i w)).setFld (Reg.NMC_RANK_STAT i) 28 1 0).nmEvent 0x33
            [i, 0, 0, trigger]
        else ((s.setFld (Reg.NMC_RANK_STAT i) 28 1 1).irq nmPage 4).nmEvent 0x33 [i, 1, 0x0F, trigger]

/-- MAINT_CMD OP RETRAIN (R306). [DEDUCED, log 94] -/
def State.maintRetrain (s : State) (i : Nat) : State :=
  if 9 < i then s.cfgErr nmPage (some 6) 3 Reg.NMC_MAINT_CMD
  else if s.bit Reg.NMC_MAINT_STAT 31 then s.cfgErr nmPage (some 6) 2 Reg.NMC_MAINT_CMD
  else if !s.slotLive i then s.maintEnd 13
  else (s.setN Reg.NMC_MAINT_STAT (2 ^ 31)).retrainDue i 3

/-- TRN_GO (R306): one helper step with these mismatches per lane; ignored while TRN_HOST = 0. [DESIGN CHOICE, log 100] -/
def State.trnGo (s : State) (errs : List Nat) : State :=
  if !s.bit Reg.NMC_NMC_CFG 20 then s
  else
    let s := s.each (List.range 18) (fun s d =>
      if s.bit Reg.NMC_TRN_CTL d then s.setN (Reg.NMC_TRN_ERR d) (min 65535 (errs.getD d 0)) else s.setN (Reg.NMC_TRN_ERR d) 0)
    s.setN Reg.NMC_TRN_STAT (2 ^ 30)

/-- TRN_APPLY (R305): the staged settings are loaded into a slot. -/
def State.trnApply (s : State) (i : Nat) : State :=
  if !s.bit Reg.NMC_NMC_CFG 20 then s
  else if 9 < i then s.cfgErr nmPage (some 6) 3 Reg.NMC_TRN_APPLY
  else s.each (List.range 18) (fun s d => s.setN (Reg.NMC_SETTING i d) (s.rn (Reg.NMC_TRN_STAGE d) % 2 ^ 24))

/-- A write of NMC_CFG or TRN_CTL that meets its field ranges: ARRAY is refused unless EN = 0 (R305); page 3 ignores host
writes while TRN_HOST = 0. -/
def State.writeTrn (s : State) (a : Nat) (v : Word) : State :=
  if !s.bit Reg.NMC_NMC_CFG 20 then s
  else if a = Reg.NMC_TRN_CTL ∧ bitOf v.toNat 19 ∧ s.bit Reg.NMC_NMC_CFG 31 then s.cfgErr nmPage (some 6) 3 a
  else s.setReg a (if 0xA3300 ≤ a then v &&& 0xFFFFFF else v)

/-- EN as the NMC is enabled: the CE hour windows count from there (R299). -/
def State.hoursFrom (s : State) : State :=
  { (s.each (List.range 10) (fun s i => s.setN (Reg.NMC_RANK_CE i) 0)) with nmc := { s.nmc with hourBase := s.now, hour := [], noSpare := [] } }

/-- A write of NMC_CFG. -/
def State.writeNmcCfg (s : State) (v : Word) : State :=
  let s' := s.setReg Reg.NMC_NMC_CFG v
  if bitOf v.toNat 31 && !s.bit Reg.NMC_NMC_CFG 31 then s'.hoursFrom else s'

/-- Start-up training (R305): `fails` are the slots with no passing setting on some lane. Spares replace failed ranks in
increasing order; NM_SIZE follows from what is left. [DESIGN CHOICE, log 95; DEDUCED, log 218] -/
def State.nmStartup (s : State) (fails : List Nat) : State :=
  let bad := (List.range 10).filter (fails.contains ·)
  let s := s.each [8, 9] (fun s i => s.setFld (Reg.NMC_RANK_STAT i) 29 3 1)
  let s := { s with nmc := { s.nmc with trained := (List.range 10).foldl (fun l i => Tab.put (fun _ => 0) l i s.now) s.nmc.trained } }
  let s := s.each (List.range 10) (fun s i =>
    s.setFld (Reg.NMC_RANK_STAT i) 16 8 (unsigned 8 (satTo (-128) 127 (signed 9 (s.rn Reg.PWR_TEMP_MAX)))))
  let s := s.each bad (fun s i =>
    (((s.setFld (Reg.NMC_RANK_STAT i) 29 3 5).irq nmPage 4).nmEvent 0x33 [i, 2, 0x0F, 0]))
  let ranks := bad.filter (· < 8)
  let spares := [8, 9].filter (fun i => !bad.contains i)
  let s := s.each (ranks.zip spares) (fun s p =>
    let s := ((s.setFld (Reg.NMC_RANK_STAT p.1) 24 4 p.2).setFld (Reg.NMC_RANK_STAT p.2) 29 3 0).setFld (Reg.NMC_RANK_STAT p.2) 24 4 p.1
    s.nmEvent 0x33 [p.1, 3, 0, 0, p.2])
  match ranks.drop spares.length with
  | [] => s.setN Reg.NMC_NM_STAT 15360
  | r :: q =>
    if (r :: q).all (fun k => k % 2 == r % 2) then
      let s := s.each ((List.range 8).filter (fun k => k % 2 == r % 2 && !ranks.contains k)) (fun s k =>
        s.setFld (Reg.NMC_RANK_STAT k) 29 3 6)
      (s.setN Reg.NMC_NM_STAT (2 ^ 31 + (1 - r % 2) * 2 ^ 30 + 7680)).nmEvent 0x36 [7680, 1 - r % 2]
    else (s.setN Reg.NMC_NM_STAT 0).err nmPage 0x0F 0 0

/-- RANK_STAT with TRN_AGE in minutes. -/
def State.rankStat (s : State) (i : Nat) : Nat :=
  let age := (s.now - Tab.get (fun _ => 0) s.nmc.trained i) / 480000
  putField (s.rn (Reg.NMC_RANK_STAT i)) 0 16 (min 65535 age)

/-! ### Self-refresh and reset (R308, R310) -/

/-- A channel whose idle time has passed enters self-refresh, unless a request aborts the entry (R308).
[DESIGN CHOICE, log 217] -/
def State.selfRefresh (s : State) (ch : Nat) : State :=
  if !s.bit (nmPage + 8) 2 ∨ Tab.get (fun _ => false) s.nmc.sleep ch ∨
    (Tab.get (fun _ => none) s.nmc.active ch).any (s.tooSoon (s.fld Reg.NMC_NMC_CFG 8 8)) then s
  else if s.nmc.reqs.any (fun r => s.chanAt r.line == ch) ∨ s.nmc.train.any (fun e => chanOf e.1 == ch) then s.bump Reg.NMC_SR_ABORT
  else { s with nmc := { s.nmc with sleep := Tab.put (fun _ => false) s.nmc.sleep ch true } }

/-- NMC.RST (R310): the training settings, rank states, NM_STAT and poison marks stay. [DEDUCED, log 98] -/
def State.nmcRst (s : State) : State :=
  if s.anyCtx || !s.allStopped || s.nmc.mig.isSome || !s.nmc.train.isEmpty then s.rstRefused nmPage 2
  else
    let keep := fun a => decide (a = Reg.NMC_NM_STAT) || decide (0xA4100 ≤ a ∧ a < 0xA5000) ||
      decide (0xA2100 ≤ a ∧ a < 0xA21A0 ∧ a % 16 = 0)
    let s := (s.headerReset nmPage).resetRegs (fun a => decide (0xA0000 ≤ a ∧ a < 0xA8000 ∧ 0x100 ≤ a % 0x1000) && !keep a)
    { s with nmc := {
        rhWin := s.nmc.rhWin, clock := s.nmc.clock, debt := s.nmc.debt, credit := s.nmc.credit, rate := s.nmc.rate
        trained := s.nmc.trained, hourBase := s.now } }

/-! ### Meanings -/

/-- NM_PORT_REQUEST (R291). -/
def execNmPortRequest (port : Nat) (write : Bool) (a n : Nat) (data : List Nat) (t : Nat) (s : State) : Res :=
  .next (s.nmRequest port write a n data t)

/-- NM_COMMAND_SLOT (R293). -/
def execNmCommandSlot (ch t : Nat) (e : LineErr) (s : State) : Res := .next (s.commandSlot ch t e)

/-- REFRESH_DUE (R296). -/
def execRefreshDue (i : Nat) (s : State) : Res := .next (s.refreshOwed i)

/-- REFRESH_RATE_READ (R296): the die reports 1×, 2× or 4×. [DESIGN CHOICE, log 99] -/
def execRefreshRateRead (i rate : Nat) (s : State) : Res :=
  .next { s with nmc := { s.nmc with rate := Tab.put (fun _ => 1) s.nmc.rate i rate } }

/-- SCRUB_READ (R301). -/
def execScrubRead (ce ue : List Nat) (s : State) : Res := .next (s.scrubRead ce ue)

/-- CE_HOUR_WINDOW (R299). -/
def execCeHourWindow (i : Nat) (s : State) : Res := .next (s.ceWindow i)

/-- MIGRATION_START (R302). -/
def execMigrationStart (s : State) : Res := .next s.migStart

/-- PAGE_COPY (R303). -/
def execPageCopy (ce ue : List Nat) (s : State) : Res := .next (s.pageCopy ce ue)

/-- RETRAIN_DUE (R306): TRN_PERIOD (1) or the temperature (2). -/
def execRetrainDue (i trigger : Nat) (s : State) : Res :=
  .next (if trigger = 1 ∨ trigger = 2 then s.retrainDue i trigger else s)

/-- RETRAIN_STEP (R306). -/
def execRetrainStep (i : Nat) (sweeps : Option (List Sweep)) (temp : Int) (s : State) : Res :=
  .next (s.retrainStep i sweeps temp)

/-- MAINT_RETIRE (R302). -/
def execMaintRetire (w : Win) (i : Nat) (s : State) : Res :=
  .next (s.hostGuard w Reg.NMC_MAINT_CMD true (·.maintRetire i))

/-- MAINT_RETRAIN (R306). -/
def execMaintRetrain (w : Win) (i : Nat) (s : State) : Res :=
  .next (s.hostGuard w Reg.NMC_MAINT_CMD true (·.maintRetrain i))

/-- TRN_GO (R306). -/
def execTrnGo (w : Win) (errs : List Nat) (s : State) : Res := .next (s.hostGuard w Reg.NMC_TRN_GO true (·.trnGo errs))

/-- TRN_APPLY (R305). -/
def execTrnApply (w : Win) (i : Nat) (s : State) : Res := .next (s.hostGuard w Reg.NMC_TRN_APPLY true (·.trnApply i))

/-- SELF_REFRESH_ENTRY (R308). -/
def execSelfRefreshEntry (ch : Nat) (s : State) : Res := .next (s.selfRefresh ch)

/-- NMC_RST (R310). -/
def execNmcRst (w : Win) (s : State) : Res := .next (s.hostGuard w (nmPage + 0x30) true (·.nmcRst))

end Sys2Proof.Machine
end

