-- ==== Sys2Proof/Machine/Rook.lean ====
section
/-! DEFINITION. Rook's own steps (R325–R352): boot, OTP commands, the TRNG, sessions, the protection table's commits, the
audit base and mirror, attestation. -/

namespace Sys2Proof.Machine
open Sys2Proof

/-- A system event of Rook (R351). -/
def State.rookEvent (s : State) (num : Nat) (p : List Nat) : State := s.sysEvent (s.rn Reg.ROOK_EVQ) num p

/-! ### Boot (R331–R333) -/

/-- Segments of a container: target, offset, length, load address. -/
def segments (b : List Nat) : List (Nat × Nat × Nat × Nat) :=
  (List.range (b.getD 9 0)).map (fun i =>
    let e := 0x40 + 16 * i
    (b.getD e 0, leNat (slice b (e + 4) 4), leNat (slice b (e + 8) 4), leNat (slice b (e + 12) 4)))

/-- A container's form is consistent (R332). [DEDUCED, log 109] -/
def containerOk (b : List Nat) (kind : Nat) : Bool :=
  slice b 0 4 == [0x59, 0x49, 0x4D, 0x47] && leNat (slice b 4 2) == 1 && b.getD 6 0 == kind &&
  decide (1 ≤ b.getD 9 0) && decide (b.getD 9 0 ≤ 16) && leNat (slice b 0x10 4) == b.length &&
  (segments b).all (fun e => e.2.1 % 8 == 0 && decide (0x1600 ≤ e.2.1) && decide (e.2.1 + e.2.2.1 ≤ b.length) &&
    (kind != 1 || (e.1 == 1 && decide (e.2.2.2 + e.2.2.1 ≤ 0x40000))))

/-- The hash enrolled for a SIGNER: the maker root, or a code key of the generation in force. -/
def State.signerHash (s : State) (k : Nat) : List Nat :=
  if k = 0 then s.otpBytes (0x20 + 56) 32 else if k ≤ 4 then s.genBytes (168 + 32 * (k - 1)) 32 else List.replicate 32 0

/-- A public key's hash is the enrolled one; a hash of zeros enrols none (R327). -/
def enrolled (pub hash : List Nat) : Bool := !hash.all (· == 0) && shake pub == hash

/-- The digest of a container (R332). -/
def containerDigest (b : List Nat) : List Nat :=
  shake (b.take 0x140 ++ (segments b).flatMap (fun (e : Nat × Nat × Nat × Nat) => slice b e.2.1 e.2.2.1))

/-- The checks of R333 but the last, in order. -/
def State.checkSigned (s : State) (b : List Nat) (kind : Nat) : Nat :=
  let signer := b.getD 7 0
  if !containerOk b kind then 0x0A
  else if !enrolled (slice b 0x160 1952) (s.signerHash signer) ∨ (kind = 1 ∧ signer ≠ 0) then 4
  else if b.getD 8 0 < s.rollback then 4
  else if !Config.mldsaVerify (slice b 0x160 1952) (b.take 0x160) (slice b 0x900 3309) then 7
  else 0

/-- Every check of R333. [DEDUCED, log 109] -/
def State.checkImage (s : State) (b : List Nat) (kind : Nat) : Nat :=
  let st := s.checkSigned b kind
  if st ≠ 0 then st else if containerDigest b ≠ slice b 0x140 32 then 7 else 0

/-- Set measurement `m` (R331, R333). [DEDUCED, log 157] -/
def State.setMeas (s : State) (m : Nat) (d : List Nat) : State :=
  s.each (List.range 8) (fun s i => s.setN (Reg.ROOK_MEAS (8 * m + i)) (leNat (slice d (4 * i) 4)))

/-- The image runs: it is in the Rook SRAM, measured, and the boot is audited. -/
def State.runImage (s : State) (b : List Nat) (source : Nat) : State :=
  let s := { s with rook := { s.rook with
    waiting := false, dl := [], image := (segments b).flatMap (fun (e : Nat × Nat × Nat × Nat) => slice b e.2.1 e.2.2.1) } }
  let s := (s.setMeas 0 (slice b 0x140 32)).setN Reg.ROOK_BOOT_STAT (source * 4 + s.rook.bootsel)
  s.audit 4 0 0x01 (slice b 0x140 14)

/-- Every source failed: ERR with the last status. [DESIGN CHOICE, log 212] -/
def State.bootFail (s : State) (st source : Nat) : State :=
  (s.setN Reg.ROOK_BOOT_STAT (2 ^ 30 + st * 256 + source * 4 + s.rook.bootsel)).irq 0x1000 3

/-- Longest run of equal bits, and the last bit with its run, over samples. -/
def runOf (l : List Bool) (p : Bool × Nat) : Nat × (Bool × Nat) :=
  l.foldl (fun (m, q) b => let q := if b = q.1 then (b, q.2 + 1) else (b, 1); (max m q.2, q)) (0, p)

/-- A window of samples fails a health test (R335): a run of 41, or its first bit 710 times. -/
def windowFails (l : List Bool) (p : Bool × Nat) : Bool :=
  decide (41 ≤ (runOf l p).1) || decide (710 ≤ (l.filter (· == l.headD false)).length)

/-- The start-up test of 4,096 samples. [DEDUCED, log 114] -/
def startTest (l : List Bool) : Bool :=
  decide (4096 ≤ l.length) && (List.range 4).all (fun i => !windowFails ((l.drop (1024 * i)).take 1024) (false, 0)) &&
  decide ((runOf (l.take 4096) (false, 0)).1 < 41)

/-- Reset release (R331): the OTP gives state, generation and what follows from it; CK; then the image by BOOTSEL. The
TRNG start-up samples and the flash slots' bytes come with the step. [DESIGN CHOICE, log 17, 212] -/
def State.resetRelease (s : State) (bootsel : Nat) (a b : List Nat) (samples : List Bool) : State :=
  if s.rook.otpRead then s else
  let bootsel := bootsel % 4
  let s := { s with
    rook := { s.rook with lc := s.otpState, gen := s.otpGen, bootsel := bootsel, bootAt := s.now, testAt := s.now
                          otpRead := true, waiting := false, dl := [] }
    ciph := { s.ciph with ckGen := s.ciph.ckGen + 1 } }
  let s := s.setN Reg.ROOK_LC_STAT s.rook.lc
  let s := if startTest samples then s.setFld Reg.ROOK_TRNG_STAT 30 1 1 else s
  let s := match s.rook.gen with
    | some _ => (s.setN Reg.ROOK_SESS_IDLE (leNat (s.genBytes 2 2))).setFld Reg.ROOK_ROLE_CFG 0 1 ((s.genBytes 1 1).headD 0)
    | none => s
  let s := s.setFld Reg.ROOK_BOOT_STAT 0 2 bootsel
  if s.rook.lc = 0 then s
  else if bootsel = 1 ∨ bootsel = 3 then { s with rook := { s.rook with waiting := true } }
  else if s.checkImage a 1 = 0 then s.runImage a 0
  else if s.checkImage b 1 = 0 then s.runImage b 1
  else if bootsel = 2 then
    { s.setN Reg.ROOK_BOOT_STAT (s.checkImage b 1 * 256 + 4 + bootsel) with rook := { s.rook with waiting := true } }
  else s.bootFail (s.checkImage b 1) 1

/-- BOOT_DATA appends a word of a host download (R331). [DESIGN CHOICE, log 116] -/
def State.bootData (s : State) (v : Word) : State :=
  if s.rook.waiting then { s with rook := { s.rook with dl := s.rook.dl ++ [v] } } else s

/-- BOOT_CTL.START submits the download. -/
def State.bootStart (s : State) : State :=
  if !s.rook.waiting then s
  else
    let w := s.rook.dl.flatMap (fun v => leBytes 4 v.toNat)
    let b := w.take (leNat (slice w 0x10 4))
    let st := s.checkImage b 1
    if st = 0 then s.runImage b 2
    else (({ s with rook := { s.rook with dl := [] } }).bootFail st 2)

/-- The boot firmware is done (R331, R305): near memory is trained, its ports served. -/
def State.bootDone (s : State) (fails : List Nat) : State :=
  if s.rook.image.isEmpty ∨ s.bit Reg.ROOK_BOOT_STAT 31 then s
  else
    let s := s.nmStartup fails
    let s := if s.nmSize = 0 then s else (s.setFld Reg.NMC_NMC_CFG 31 1 1).hoursFrom
    s.setFld Reg.ROOK_BOOT_STAT 31 1 1

/-! ### Sessions (R336–R338) -/

/-- SESS_STAT as a window reads it. -/
def State.sessStat (s : State) (w : Win) : Nat :=
  let x := s.sess_ w
  let locked := x.lockAt.any (fun t => decide (s.now < t + 480000))
  b2n x.open_ * 2 ^ 31 + b2n x.pend.isSome * 2 ^ 30 + b2n locked * 2 ^ 29 + roleOf w * 2 ^ 24 + x.fails * 2 ^ 16 +
  x.key * 256 + x.status

/-- SESS_CTL.OP = CHALLENGE (R336, R337). -/
def State.challenge (s : State) (w : Win) : State :=
  let x := s.sess_ w
  if s.trngHalted then s.setSess w { x with status := 8 }
  else if x.lockAt.any (fun t => decide (s.now < t + 480000)) then s.setSess w { x with status := 2 }
  else
    let d := fun i => leBytes 8 (Config.freeValue (s.draws + i)).toNat
    let s := s.drawn.drawn.drawn.drawn
    s.setSess w { x with chal := d 0 ++ d 1 ++ d 2 ++ d 3, fresh := some s.now, status := 0 }

/-- The hash enrolled for a role and key (R336). -/
def State.roleHash (s : State) (w : Win) (key : Nat) : List Nat :=
  match w with
  | .operator => s.genBytes (40 + 32 * key) 32
  | .installer => s.otpBytes 0xA0 32
  | .maker => s.otpBytes (0x20 + 56) 32

/-- The lifecycle state permits a session of the role (R324, R326). -/
def State.rolePermitted (s : State) (w : Win) : Bool :=
  match s.rook.lc, w with
  | 1, .maker | 2, .maker | 5, .maker | 2, .installer | 3, .operator | 3, .installer => true
  | 3, .maker => s.consentOpen
  | _, _ => false

/-- Mailbox bytes. -/
def Sess.box (x : Sess) : List Nat := x.mbox.flatMap (fun v => leBytes 4 v.toNat)

/-- The message of a session (R336). -/
def State.sessMsg (s : State) (w : Win) (key : Nat) : List Nat :=
  [0x52, 0x4B, 0x4F, 0x50, 0x45, 0x4E, 0x30, 0x31, roleOf w, if w = .operator then key else 0, 0, 0] ++ s.serial ++ (s.sess_ w).chal

/-- SESS_CTL.OP = OPEN (R336): the challenge is spent and every check judged. [DESIGN CHOICE, log 110] -/
def State.sessOpen (s : State) (w : Win) (key : Nat) : State :=
  let x := s.sess_ w
  if x.pend.isSome then s
  else
    let live := x.fresh.any (fun t => decide (s.now < t + 80000))
    let st := if x.open_ then 2
      else if !live then 0x0C
      else if x.mbox.length ≠ 1316 then 0x0A
      else if !enrolled (slice x.box 0 1952) (s.roleHash w (key % 4)) || !s.rolePermitted w then 4
      else if !Config.mldsaVerify (slice x.box 0 1952) (s.sessMsg w (key % 4)) (slice x.box 1952 3309) then 7
      else 0
    let locked := x.lockAt.any (fun t => decide (s.now < t + 480000))
    s.setSess w { x with pend := some (key % 4, st, locked), fresh := none }

/-- A ROOK_SESSION event: 0 OPEN, 1 CLOSE, 2 REFUSED (R351). -/
def State.sessEvent (s : State) (w : Win) (what key st cause : Nat) : State :=
  (s.irq 0x1000 0).rookEvent 0x50 [winNum w, what, key, st, cause]

/-- Verification ends (R336, R337); the role must still be permitted then. [DESIGN CHOICE, log 110] -/
def State.sessVerify (s : State) (w : Win) : State :=
  let x := s.sess_ w
  match x.pend with
  | none => s
  | some (key, pre, locked) =>
    let st := if pre = 0 && !s.rolePermitted w then 4 else pre
    if st = 0 then
      let s := s.setSess w { x with pend := none, open_ := true, key := key, fails := 0, status := 0, seen := s.now }
      (s.audit (roleOf w) 0 0x02 [key]).sessEvent w 0 key 0 0
    else
      let f := if locked then x.fails else x.fails + 1
      let s := s.setSess w { x with
        pend := none, status := st, fails := if 4 ≤ f then 0 else f, lockAt := if 4 ≤ f then some s.now else x.lockAt
        fresh := if 4 ≤ f then none else x.fresh }
      ((s.bump Reg.ROOK_AUTH_FAIL).audit (roleOf w) st 0x03 [key]).sessEvent w 2 key st 0

/-- A session closes (R338): cause 0 host, 1 idle, 2 consent end, 3 PCIe hot reset. -/
def State.sessClose (s : State) (w : Win) (cause : Nat) : State :=
  let x := s.sess_ w
  if !x.open_ then s
  else
    let s := s.setSess w { x with open_ := false, key := 0 }
    (s.audit (roleOf w) 0 0x04 [x.key, cause]).sessEvent w 1 x.key 0 cause

/-- No access came through a window for SESS_IDLE seconds (R338). -/
def State.sessIdle (s : State) (w : Win) : State :=
  let n := s.rn Reg.ROOK_SESS_IDLE
  if n ≠ 0 ∧ (s.sess_ w).seen + 8000 * n ≤ s.now then s.sessClose w 1 else s

/-- A write of SESS_CTL through a window. -/
def State.writeSessCtl (s : State) (w : Win) (v : Word) : State :=
  match v.toNat / 2 ^ 28 with
  | 1 => s.challenge w
  | 2 => s.sessOpen w (v.toNat % 4)
  | 3 => s.sessClose w 0
  | 4 => s.setSess w { s.sess_ w with mbox := [] }
  | _ => s

/-- A write of MBOX_DATA (R336); the mailbox holds what its 14-bit length can count. [DESIGN CHOICE, log 116] -/
def State.mboxWrite (s : State) (w : Win) (v : Word) : State :=
  let x := s.sess_ w
  if 4095 ≤ x.mbox.length then s else s.setSess w { x with mbox := x.mbox ++ [v] }

/-! ### OTP commands (R325–R330, R334, R350) -/

/-- The lifecycle transition a role may make (R325); the OTP group it burns. -/
def State.lcStep (s : State) (w : Win) (target : Nat) : Option Nat :=
  match s.rook.lc, target, w with
  | 0, 1, .maker => if s.idSealed then some 0 else none
  | 1, 2, .maker => if s.rootSealed then some 1 else none
  | 2, 3, .installer => if s.rook.gen.isSome then some 2 else none
  | 3, 4, .installer => some 3
  | 3, 5, .maker => if s.consentOpen then some 4 else none
  | 5, 4, .maker => some 5
  | _, _, _ => none

/-- The consent ends (R326): an open maker session closes, in DEPLOYED. [DEDUCED, log 115] -/
def State.consentEnd (s : State) : State :=
  let s := { s with rook := { s.rook with consent := none } }
  if s.rook.lc = 3 then s.sessClose .maker 2 else s

/-- ROOK_LIFECYCLE (R325, R330). [DESIGN CHOICE, log 112] -/
def State.cmdLifecycle (s : State) (r : CmdRef) (target : Nat) (vdd : Bool) : State :=
  if s.bit Reg.ROOK_LC_STAT 31 then s.respondA r 0xF0 2 [noObject]
  else if !s.hasRole r.win then (s.noRights r.win 0xF0).respondA r 0xF0 4 [noObject]
  else match s.lcStep r.win target with
    | none => (s.noRights r.win 0xF0).respondA r 0xF0 4 [noObject]
    | some g =>
      if !vdd then s.respondA r 0xF0 13 [noObject]
      else
        let s := s.burn (2 * g) [255, 255]
        let s := (s.setFld Reg.ROOK_LC_STAT 8 3 target).setFld Reg.ROOK_LC_STAT 31 1 1
        let s := s.respondA r 0xF0 0 [noObject]
        if target = 5 then s.consentEnd else s

/-- ROOK_RMA_CONSENT (R326). -/
def State.cmdConsent (s : State) (r : CmdRef) : State :=
  if s.rook.lc ≠ 3 ∨ r.win ≠ .installer then (s.noRights r.win 0xF1).respondA r 0xF1 4 [noObject]
  else ({ s with rook := { s.rook with consent := some s.now } }).respondA r 0xF1 0 [noObject]

/-- The consent's hour ends (R326). -/
def State.consentHour (s : State) : State := if s.rook.consent.isSome ∧ !s.consentOpen then s.consentEnd else s

/-- Reserved bytes of a generation are zero and VER is 1 (R329, R350). -/
def genFormOk (b : List Nat) : Bool :=
  b.getD 0 0 == 1 && decide (b.getD 1 0 < 4) && (slice b 4 4).all (· == 0) && (slice b 296 48).all (· == 0)

/-- OTP_GEN_WRITE (R329, R330, R350). [DESIGN CHOICE, log 112] -/
def State.cmdGenWrite (s : State) (r : CmdRef) (addr : Nat) (vdd : Bool) : State :=
  let b := s.rdBytes addr 344
  if r.win ≠ .installer ∨ (s.rook.lc ≠ 2 ∧ s.rook.lc ≠ 3) then (s.noRights r.win 0xF2).respondA r 0xF2 4 [noObject]
  else if !inNear addr 344 ∨ !genFormOk b then s.respondA r 0xF2 3 [noObject]
  else match [0, 1, 2, 3].find? (fun g => !s.genUsed g) with
    | none => s.respondA r 0xF2 1 [noObject]
    | some g =>
      if !vdd then s.respondA r 0xF2 13 [noObject]
      else (s.burn (0x100 + 0x160 * g) (b ++ leBytes 4 (crc32c b) ++ leBytes 4 (0x5EA10000 + g))).respondA r 0xF2 0 [noObject]

/-- ROLLBACK_SET (R334). -/
def State.cmdRollback (s : State) (r : CmdRef) (n : Nat) (vdd : Bool) : State :=
  if !s.roleRight r.win 0xF3 then (s.noRights r.win 0xF3).respondA r 0xF3 4 [noObject]
  else if 128 < n ∨ n < s.rollback then s.respondA r 0xF3 3 [noObject]
  else if !vdd then s.respondA r 0xF3 13 [noObject]
  else (s.burn 0x10 (leBytes 16 (2 ^ n - 1))).respondA r 0xF3 0 [noObject]

/-- JNL_GRANT (R340). -/
def State.cmdGrant (s : State) (r : CmdRef) (on : Bool) : State :=
  if r.win ≠ .installer then (s.noRights r.win 0xF4).respondA r 0xF4 4 [noObject]
  else (s.setFld Reg.ROOK_ROLE_CFG 0 1 (b2n on)).respondA r 0xF4 0 [noObject]

/-- OTP_IDENTITY (R328, R350): ID_SEED comes from the TRNG. -/
def State.cmdIdentity (s : State) (r : CmdRef) (serial part root : List Nat) (vdd : Bool) : State :=
  if s.trngHalted then s.respondA r 0xF7 8 [noObject]
  else if s.rook.lc ≠ 0 ∨ r.win ≠ .maker then (s.noRights r.win 0xF7).respondA r 0xF7 4 [noObject]
  else if s.otpOnes 0x20 128 ≠ 0 then s.respondA r 0xF7 2 [noObject]
  else if !vdd then s.respondA r 0xF7 13 [noObject]
  else
    let d := fun i => leBytes 8 (Config.freeValue (s.draws + i)).toNat
    let b := slice serial 0 16 ++ slice part 0 8 ++ (d 0 ++ d 1 ++ d 2 ++ d 3) ++ slice root 0 32 ++ List.replicate 32 0
    let s := s.drawn.drawn.drawn.drawn
    (s.burn 0x20 (b ++ leBytes 4 (crc32c b) ++ leBytes 4 0x5EA11D00)).respondA r 0xF7 0 [noObject]

/-- OTP_ROOT_WRITE (R350). -/
def State.cmdRootWrite (s : State) (r : CmdRef) (hash : List Nat) (vdd : Bool) : State :=
  let b := slice hash 0 32
  if s.rook.lc ≠ 1 ∨ r.win ≠ .maker then (s.noRights r.win 0xF9).respondA r 0xF9 4 [noObject]
  else if s.otpOnes 0xA0 40 ≠ 0 then s.respondA r 0xF9 2 [noObject]
  else if !vdd then s.respondA r 0xF9 13 [noObject]
  else (s.burn 0xA0 (b ++ leBytes 4 (crc32c b) ++ leBytes 4 0x5EA11500)).respondA r 0xF9 0 [noObject]

/-! ### Protection table (R343) -/

/-- The live table's bytes and their hash. -/
def State.protBytes (s : State) : List Nat := (List.range 128).flatMap (fun j => leBytes 4 (s.rn (Reg.PROT_PROT_LIVE j)))
def State.protHash (s : State) : List Nat := shake s.protBytes

/-- PROT_CTL.COMMIT. -/
def State.protCommit (s : State) (w : Win) : State :=
  let s := s.each (List.range 128) (fun s j => s.setReg (Reg.PROT_PROT_LIVE j) (s.reg (Reg.PROT_PROT_STAGE j)))
  (s.bump Reg.PROT_PROT_GEN).audit (roleOf w) 0 0x05 s.protHash

/-- PROT_CTL.LOAD. -/
def State.protLoad (s : State) : State :=
  s.each (List.range 128) (fun s j => s.setReg (Reg.PROT_PROT_STAGE j) (s.reg (Reg.PROT_PROT_LIVE j)))

/-- A write of PROT_STAGE: the unused bits stay zero (R341). -/
def State.writeStage (s : State) (a : Nat) (v : Word) : State :=
  s.setReg a (v &&& (if a % 8 = 0 then 0x8FFF0FFF#32 else 0x3F#32))

/-- A write of PROT_CTL; with both bits, LOAD comes first. [DESIGN CHOICE, log 219] -/
def State.writeProtCtl (s : State) (w : Win) (v : Word) : State :=
  let s := if bitOf v.toNat 1 then s.protLoad else s
  if bitOf v.toNat 0 then s.protCommit w else s

/-! ### Audit base and mirror (R346, R347) -/

/-- AUDIT_EPOCH bits set. -/
def State.epochBits (s : State) : Nat := s.otpOnes 0x680 128

/-- The held records are numbered and chained in order. -/
def State.numberAll (s : State) : State :=
  let (s, l) := s.rook.log.foldr (fun r (p : State × List AuditRec) =>
    if r.seq.isSome then (p.1, r :: p.2)
    else
      let q := p.1.numbered r
      (q.1, q.2 :: p.2)) (s, [])
  { s with rook := { s.rook with log := l, base := true, lag := l.length } }

/-- A new epoch (R346): its bit is burned, its first record is ACTION 0x12. [DESIGN CHOICE, log 113] -/
def State.newEpoch (s : State) : State :=
  let e := s.epochBits
  let s := s.burn (0x680 + e / 8) [2 ^ (e % 8)]
  let s := { s with rook := { s.rook with
    nextSeq := (e + 1) * 2 ^ 48
    prevChain := shake ([0x52, 0x4B, 0x41, 0x55, 0x44, 0x49, 0x54] ++ s.serial ++ leBytes 2 (e + 1)) } }
  let first : AuditRec := { seq := none, ftime := s.now % 2 ^ 48, role := 4, status := 0, action := 0x12
                            detail := slice (leBytes 2 (e + 1)) 0 14, chain := [] }
  ({ s with rook := { s.rook with log := s.rook.log ++ [first] } }).numberAll.trimLog

/-- The header at a mirror base is valid and of this device (R347). -/
def State.mirrorValid (s : State) (b : Nat) : Bool :=
  let h := s.rdBytes b 76
  slice h 0 4 == [0x52, 0x4B, 0x41, 0x4D] && slice h 4 16 == s.serial && leNat (slice h 72 4) == crc32c (h.take 72)

/-- Records on chip that have not reached the mirror are written, oldest first. -/
def State.mirrorBacklog (s : State) : State :=
  let l := (s.rook.log.take s.rook.lag).reverse
  let s := { s with rook := { s.rook with lag := 0 } }
  s.each l (fun s r => s.toMirror r)

/-- AUDIT_MIRROR (R346, R347). [DESIGN CHOICE, log 113] -/
def State.cmdMirror (s : State) (r : CmdRef) (b k : Nat) : State :=
  let n := 64 + 64 * 2 ^ k
  if r.win ≠ .installer then (s.noRights r.win 0xF6).respond r 0xF6 4 [noObject]
  else if b % 64 ≠ 0 ∨ k < 10 ∨ 20 < k ∨ !inFar b n then s.respond r 0xF6 3 [noObject]
  else if !s.farReady b n then s.respond r 0xF6 13 [noObject]
  else
    let h := s.rdBytes b 76
    let valid := s.mirrorValid b
    let seq := leNat (slice h 32 8)
    let cont := valid && seq / 2 ^ 48 == s.epochBits
    let s := if s.rook.base then s
      else if cont then
        ({ s with rook := { s.rook with nextSeq := seq + 1, prevChain := slice h 40 32 } }).numberAll
      else if s.epochBits < 1024 then s.newEpoch else s.setFld Reg.AUDIT_AUDIT_STAT 29 1 1
    let i := if valid && h.getD 20 0 == k then leNat (slice h 24 8) + 1 else 0
    let s := { s with rook := { s.rook with mirror := some (b, k, i) } }
    (if s.rook.base then s.mirrorBacklog else s).auditEvent true |>.respond r 0xF6 0 [noObject]

/-- 480,000 frames after boot without AUDIT_MIRROR (R346). -/
def State.auditBase (s : State) : State :=
  if s.rook.base ∨ s.now < s.rook.bootAt + 480000 then s
  else if s.epochBits < 1024 then s.newEpoch else s.setFld Reg.AUDIT_AUDIT_STAT 29 1 1

/-! ### Attestation (R349) -/

/-- The seed of the identity key. -/
def State.idKeySeed (s : State) : List Nat := shake ([0x49, 0x44] ++ s.otpBytes (0x20 + 24) 32)

/-- The identity public key. -/
def State.idPub (s : State) : List Nat := (List.range 1952).map (fun i => (Config.mldsaPub s.idKeySeed i).toNat)

/-- Bytes 0–711 of the report. -/
def State.report (s : State) (challenge : List Nat) : List Nat :=
  let flags := b2n s.trngHalted + 2 * b2n s.rook.base + 4 * b2n s.rook.mirror.isSome +
    8 * b2n (s.sess_ .operator).open_ + 16 * b2n (s.sess_ .installer).open_ + 32 * b2n (s.sess_ .maker).open_
  [0x52, 0x4B, 0x41, 0x54, s.rook.lc + 128 * b2n (s.bit Reg.ROOK_LC_STAT 31), s.rook.gen.getD 0xFF, s.rollback, flags] ++
  s.serial ++ leBytes 6 s.now ++ [0, 0] ++ slice challenge 0 32 ++ s.protHash ++ leBytes 8 s.headSeq ++ slice s.headChain 0 32 ++
  (List.range 136).flatMap (fun j => leBytes 4 (s.rn (Reg.ROOK_MEAS j))) ++ shake s.idPub

/-- ATTEST (R349, R350). -/
def State.cmdAttest (s : State) (r : CmdRef) (challenge : List Nat) (dest : Nat) : State :=
  if !inNear dest (1952 + 4021) then s.respond r 0xF5 3 [noObject]
  else if s.rook.lc = 0 then s.respond r 0xF5 13 [noObject]
  else
    let b := s.report challenge
    let sig := (List.range 3309).map (fun i => (Config.mldsaSign s.idKeySeed b i).toNat)
    (s.wrBytes dest (s.idPub ++ b ++ sig)).respond r 0xF5 0 [noObject]

/-! ### TRNG (R335) -/

/-- A block of 1,024 samples is tested. -/
def State.trngBlock (s : State) (l : List Bool) : State :=
  if s.trngHalted then s
  else
    let bad := windowFails l s.rook.rep
    let s := { s with rook := { s.rook with rep := (runOf l s.rook.rep).2 } }
    if !bad then s
    else
      let s := s.bump Reg.ROOK_TRNG_FAIL
      let fs := s.now :: s.rook.trngFails.filter (fun f => decide (s.now < f + 8000))
      let s := { s with rook := { s.rook with trngFails := fs } }
      if fs.length < 3 then s
      else
        let s := { s with rook := { s.rook with testAt := s.now } }
        ((s.setFld Reg.ROOK_TRNG_STAT 31 1 1).irq 0x1000 1).rookEvent 0x51 [0, fs.length] |>.audit 4 8 0x11 [0]

/-- The start-up test is repeated each second while halted, or until the first pass (R335). [DEDUCED, log 114] -/
def State.trngRetest (s : State) (l : List Bool) : State :=
  if s.now < s.rook.testAt + 8000 then s else
  let s := { s with rook := { s.rook with testAt := s.now } }
  if !startTest l then s
  else if !s.trngHalted then s.setFld Reg.ROOK_TRNG_STAT 30 1 1
  else
    let n := s.rook.trngFails.length
    let s := { s with rook := { s.rook with trngFails := [], rep := (false, 0) } }
    ((s.setFld Reg.ROOK_TRNG_STAT 30 2 1).irq 0x1000 1).rookEvent 0x51 [1, n] |>.audit 4 0 0x11 [1]

/-! ### Register views -/

/-- OTP byte as OTP_RD shows it: ID_SEED and EXPORT_SEED read as zero (R330). -/
def State.otpShown (s : State) (a : Nat) : Nat :=
  if (0x38 ≤ a ∧ a < 0x58) ∨ (0x100 ≤ a ∧ a < 0x680 ∧ 8 ≤ (a - 0x100) % 0x160 ∧ (a - 0x100) % 0x160 < 40) then 0 else s.otpB a

/-- OTP_STAT. -/
def State.otpStat (s : State) : Nat :=
  let map := ((List.range 4).map (fun g => b2n (s.genUsed g) * 2 ^ (16 + g))).sum
  (match s.rook.gen with
   | some g => g * 2 ^ 28
   | none => 2 ^ 30) + map + s.rollback

/-- AUDIT_STAT. -/
def State.auditStat (s : State) : Nat :=
  b2n s.rook.mirror.isSome * 2 ^ 31 + b2n s.rook.base * 2 ^ 30 + b2n (s.bit Reg.AUDIT_AUDIT_STAT 29 && !s.rook.base) * 2 ^ 29 + s.rook.log.length

/-- RMA_STAT. -/
def State.rmaStat (s : State) : Nat :=
  match s.rook.consent with
  | some t => if s.consentOpen then 2 ^ 31 + (t + 28800000 - s.now) / 480000 else 0
  | none => 0

/-- Rook, OTP, PROT and AUDIT registers that are computed when read through a window. -/
def State.rookView (s : State) (w : Win) (a : Nat) : Option Nat :=
  let x := s.sess_ w
  if a = Reg.ROOK_SESS_STAT then some (s.sessStat w)
  else if 0x1110 ≤ a ∧ a < 0x1130 then some (leNat (slice x.chal (a - 0x1110) 4))
  else if a = Reg.ROOK_MBOX_LEN then some (4 * x.mbox.length)
  else if a = Reg.ROOK_RMA_STAT then some s.rmaStat
  else if a = Reg.OTP_OTP_STAT then some s.otpStat
  else if a = Reg.OTP_EPOCH then some s.epochBits
  else if 0x2800 ≤ a ∧ a < 0x3000 then some (leNat ((List.range 4).map (fun i => s.otpShown (a - 0x2800 + i))))
  else if 0x3110 ≤ a ∧ a < 0x3130 then some (leNat (slice s.protHash (a - 0x3110) 4))
  else if a = Reg.AUDIT_AUDIT_STAT then some s.auditStat
  else if a = Reg.AUDIT_HEAD_SEQ_LO then some (s.headSeq % 2 ^ 32)
  else if a = Reg.AUDIT_HEAD_SEQ_HI then some (s.headSeq / 2 ^ 32)
  else if a = Reg.AUDIT_MIRROR_LAG then some s.rook.lag
  else if 0x4140 ≤ a ∧ a < 0x4180 then
    some (match s.rook.log[s.rn Reg.AUDIT_RD_IDX]? with
      | some r => leNat (slice r.bytes (a - 0x4140) 4)
      | none => 0)
  else none

/-! ### Meanings -/

/-- ROOK_LIFECYCLE (R325). -/
def execRookLifecycle (r : CmdRef) (target : Nat) (vdd : Bool) (s : State) : Res := .next (s.carryOut r 0xF0 (·.cmdLifecycle r target vdd))

/-- ROOK_RMA_CONSENT (R326). -/
def execRookRmaConsent (r : CmdRef) (s : State) : Res := .next (s.carryOut r 0xF1 (·.cmdConsent r))

/-- RMA_CONSENT_END (R326). -/
def execRmaConsentEnd (s : State) : Res := .next s.consentHour

/-- OTP_GEN_WRITE (R329). -/
def execOtpGenWrite (r : CmdRef) (addr : Nat) (vdd : Bool) (s : State) : Res := .next (s.carryOut r 0xF2 (·.cmdGenWrite r addr vdd))

/-- ROLLBACK_SET (R334). -/
def execRollbackSet (r : CmdRef) (n : Nat) (vdd : Bool) (s : State) : Res := .next (s.carryOut r 0xF3 (·.cmdRollback r n vdd))

/-- JNL_GRANT (R340). -/
def execJnlGrant (r : CmdRef) (on : Bool) (s : State) : Res := .next (s.carryOut r 0xF4 (·.cmdGrant r on))

/-- ATTEST (R349). -/
def execAttest (r : CmdRef) (challenge : List Nat) (dest : Nat) (s : State) : Res := .next (s.carryOut r 0xF5 (·.cmdAttest r challenge dest))

/-- AUDIT_MIRROR (R347). -/
def execAuditMirror (r : CmdRef) (b k : Nat) (s : State) : Res := .next (s.carryOut r 0xF6 (·.cmdMirror r b k))

/-- OTP_IDENTITY (R328). -/
def execOtpIdentity (r : CmdRef) (serial part root : List Nat) (vdd : Bool) (s : State) : Res :=
  .next (s.carryOut r 0xF7 (·.cmdIdentity r serial part root vdd))

/-- OTP_ROOT_WRITE (R350). -/
def execOtpRootWrite (r : CmdRef) (hash : List Nat) (vdd : Bool) (s : State) : Res := .next (s.carryOut r 0xF9 (·.cmdRootWrite r hash vdd))

/-- CHALLENGE (R336). -/
def execChallenge (w : Win) (s : State) : Res := .next (s.hostGuard w Reg.ROOK_SESS_CTL true (·.challenge w))

/-- MBOX_RESET (R336). -/
def execMboxReset (w : Win) (s : State) : Res :=
  .next (s.hostGuard w Reg.ROOK_SESS_CTL true (fun s => s.setSess w { s.sess_ w with mbox := [] }))

/-- MBOX_DATA (R336). -/
def execMboxData (w : Win) (v : Word) (s : State) : Res := .next (s.hostGuard w Reg.ROOK_MBOX_DATA true (·.mboxWrite w v))

/-- SESSION_OPEN (R336). -/
def execSessionOpen (w : Win) (key : Nat) (s : State) : Res := .next (s.hostGuard w Reg.ROOK_SESS_CTL true (·.sessOpen w key))

/-- SESSION_VERIFY_DONE (R337). -/
def execSessionVerifyDone (w : Win) (s : State) : Res := .next (s.sessVerify w)

/-- SESSION_CLOSE (R338). -/
def execSessionClose (w : Win) (s : State) : Res := .next (s.hostGuard w Reg.ROOK_SESS_CTL true (·.sessClose w 0))

/-- SESSION_IDLE_TIMEOUT (R338). -/
def execSessionIdleTimeout (w : Win) (s : State) : Res := .next (s.sessIdle w)

/-- PROT_COMMIT (R343). -/
def execProtCommit (w : Win) (s : State) : Res := .next (s.hostGuard w Reg.PROT_PROT_CTL true (·.protCommit w))

/-- PROT_LOAD (R343). -/
def execProtLoad (w : Win) (s : State) : Res := .next (s.hostGuard w Reg.PROT_PROT_CTL true (·.protLoad))

/-- AUDIT_BASE_FIX (R346). -/
def execAuditBaseFix (s : State) : Res := .next s.auditBase

/-- TRNG_BLOCK (R335). -/
def execTrngBlock (l : List Bool) (s : State) : Res := .next (s.trngBlock l)

/-- TRNG_RETEST (R335). -/
def execTrngRetest (l : List Bool) (s : State) : Res := .next (s.trngRetest l)

/-- BOOT_DATA (R331). -/
def execBootData (w : Win) (v : Word) (s : State) : Res := .next (s.hostGuard w Reg.ROOK_BOOT_DATA true (·.bootData v))

/-- BOOT_CTL_START (R331). -/
def execBootCtlStart (w : Win) (s : State) : Res := .next (s.hostGuard w Reg.ROOK_BOOT_CTL true (·.bootStart))

/-- BOOT_DONE (R331). -/
def execBootDone (fails : List Nat) (s : State) : Res := .next (s.bootDone fails)

/-- ROOK_RST (R352): pages 1–4. -/
def execRookRst (w : Win) (page : Nat) (s : State) : Res :=
  .next (s.hostGuard w (page * 0x1000 + 0x30) true (·.rstRefused (page * 0x1000) 4))

/-- RESET_RELEASE (R331). [DESIGN CHOICE, log 117] -/
def execResetRelease (bootsel : Nat) (a b : List Nat) (samples : List Bool) (s : State) : Res :=
  .next (s.resetRelease bootsel a b samples)

end Sys2Proof.Machine
end

