-- ==== Sys2Proof/Machine/Ctx.lean ====
section
/-! DEFINITION. Context commands (R128, R129, R131, R134, R144, R145), the close order and what ends a context (R22). -/

namespace Sys2Proof.Machine
open Sys2Proof

/-! ### Lines of contexts (R129) -/

/-- What keeps a line from being bound to a context of `codec`: 13 NOT_READY, 2 BUSY, 3 BAD_PARAM, or 0.
[DEDUCED, log 132] -/
def State.bindStatus (s : State) (i codec : Nat) : Nat :=
  let rate := setRate (s.lineSetCfg i)
  if 2047 < i then stBad
  else if !s.bit (lineCfg i) 31 then stNotReady
  else if s.bound i then stBusy
  else if !(rate == 8000 || rate == 16000) || (codec ≠ 0 && s.codecWide codec != (rate == 16000)) then stBad
  else stOk

/-- The first frame after `n` that is `p` modulo 40. -/
def nextPhase (n p : Nat) : Nat := n + 1 + (p + 40 - (n + 1) % 40) % 40

/-- BOUND is set, and TX_UNDERRUN counts from two frames after the first playout instant (R11). -/
def State.bindLine (s : State) (i : Nat) : State :=
  let s := s.setFld (lineCfg i) 30 1 1
  s.setLine i { s.line_ i with underrunFrom := some (nextPhase s.now (s.fld (lineCfg i) 16 6) + 2) }

/-! ### CTX_OPEN (R128, R133) -/

/-- The context that CTX_OPEN would make, at id `c`. [DEDUCED, log 120] -/
def State.openCtx (s : State) (c : Nat) (f : OpenFields) : Ctx :=
  let line := if f.line = 0xFFFF then none else some f.line
  let bph := match line with
    | some l => s.fld (lineCfg l) 16 6
    | none => if f.bph = 0xFFFF then c % 40 else f.bph
  let pkph := if f.pkph ≠ 0xFFFF then f.pkph
    else if line.isSome then bph else bph + 40 * (c / 40 % max 1 (f.txpt / 5))
  { state := 1, home := (match line with | some l => l / 128 % 16 | none => f.home), evq := f.evq, line := line, net := f.net
    srtp := f.srtp, codec := f.codec
    wide := match line with
      | some l => f.codec == 0 && s.wideLine l
      | none => false
    rxpt := f.rxpt, txpt := f.txpt, nslot := f.nslot, bph := bph, pkph := pkph
    txph := if f.txph = 0xFFFF then (pkph + 2) % max 1 (8 * f.txpt) else f.txph
    minLead := f.minLead, maxLead := f.maxLead, target := 8 * f.minLead
    clu := s.charge f.codec f.rxpt f.txpt line.isSome
    vpt := f.vpt, evPt := f.evPt, cnPt := f.cnPt, evtMode := f.evtMode, winStart := nextPhase s.now bph }

/-- The fields that R133 judges. -/
def Ctx.shape (x : Ctx) : Shape :=
  ⟨x.codec, x.rxpt, x.txpt, x.nslot, x.minLead, x.maxLead, x.bph, x.pkph, x.txph, x.net⟩

/-- BAD_PARAM of CTX_OPEN but for the line and the echo and Sage fields. [DEDUCED, log 132] -/
def State.openBad (s : State) (f : OpenFields) (x : Ctx) : Bool :=
  decide (8191 < f.id ∧ f.id ≠ 0xFFFF) || decide (2047 < f.line ∧ f.line ≠ 0xFFFF) || decide (15 < x.home) ||
  decide (x.evq < 16) || decide (31 < x.evq) || decide (127 < x.vpt) || decide (127 < x.evPt) || decide (127 < x.cnPt) ||
  decide (7 < x.evtMode) || x.srtp.any (fun k => k == 0 || decide (5 < k)) || s.shapeBad x.shape

/-- A resource that the cluster or PRE lacks, or a bad attach field, for a context already in the table of `s`. -/
def State.openAttach (s : State) (c : Nat) (f : OpenFields) : Nat × State :=
  let x := s.ctx_ c
  let a : Nat × Bool × Nat := match f.echo with
    | some e => s.attachStatus c e
    | none => (0, false, 0)
  let g : Nat × Nat := match f.sage with
    | some e => s.sageAttachStatus c e
    | none => (0, 0)
  let bad := a.1 == stBad || g.1 == stBad
  let full := a.1 == stFull || g.1 == stFull || (x.srtp.isSome && decide (1024 < s.storeUsed x.home)) ||
    (x.net && decide (32768 < s.exactUsed + 2))
  if bad then (stBad, s)
  else if full then (stFull, s)
  else
    let s := match f.echo with
      | some e => s.eceAttach c e a.2.1 a.2.2
      | none => s
    let s := match f.sage with
      | some e => s.sageAttach c e g.2
      | none => s
    (stOk, if x.net then s.entriesTake c else s)

/-- The lowest FREE id, 8,192 when there is none. -/
def State.freeId (s : State) : Nat := (firstFrom (fun c => (s.ctx_ c).state == 0) 8192 0).getD 8192

/-- CTX_OPEN wakes the blocks of the home cluster that it needs (R368). -/
def State.openWake (s : State) (home : Nat) (f : OpenFields) : State :=
  let s := s.wake (0x60000 + home * 0x1000)
  let s := if f.echo.isSome then s.wake (ecePage home) else s
  let s := if f.sage.isSome then s.wake (sagePage home) else s
  if f.srtp.isSome then s.wake (ciphPage home) else s

/-- The status of CTX_OPEN and the state after it (R128): the checks in their order; a refusal changes nothing. -/
def State.tryOpen (s : State) (f : OpenFields) : Nat × Nat × State :=
  let c := if f.id = 0xFFFF then s.freeId else f.id
  let x := s.openCtx c f
  let bs := if f.line = 0xFFFF then 0 else s.bindStatus f.line f.codec
  let obj := if f.id = 0xFFFF then 0xFFFFFFFF else f.id
  let t := (s.openWake x.home f).setCtx c x
  let att := t.openAttach c f
  if s.trngHalted then (8, obj, s)
  else if s.openBad f x || bs == stBad || att.1 == stBad then (stBad, obj, s)
  else if 8192 ≤ s.ctxCnt then (5, obj, s)
  else if (s.ctx_ c).state ≠ 0 ∨ bs = stBusy then (stBusy, obj, s)
  else if bs ≠ 0 then (bs, obj, s)
  else if att.1 ≠ 0 ∨ s.overLimit 0 x.clu then (stFull, obj, s)
  else
    let u := att.2
    let u := if f.line = 0xFFFF then u else u.bindLine f.line
    let d := fun i => (Config.freeValue (s.draws + i)).toNat
    let u := u.drawn.drawn.drawn
    let u := u.setCtx c { x with txTs := d 0 % 2 ^ 32, txSeq := d 1 % 2 ^ 16, txSsrc := d 2 % 2 ^ 32 }
    let u := u.setFlow c { held := (s.flow_ c).held, lastCore := none }
    (stOk, c, (u.showTx c).jnlArm c)

/-- CTX_OPEN. -/
def State.cmdOpen (s : State) (r : CmdRef) (f : OpenFields) : State :=
  let a := s.tryOpen f
  a.2.2.respond r 0x01 a.1 [a.2.1]

/-! ### CTX_MODIFY (R129, R133, R144) -/

/-- The values that a CTX_MODIFY is judged by: those last taken, with its changes. -/
def Ctx.modShape (x : Ctx) (f : ModifyFields) : Shape :=
  let ring := x.ringPend.getD (x.nslot, x.rxpt)
  let ph := x.phPend.getD (x.pkph, x.txph)
  { codec := f.codec.getD (x.mod.codec.getD x.codec), rxpt := f.rxpt.getD ring.2, txpt := x.txpt, nslot := f.nslot.getD ring.1
    minLead := f.minLead.getD (x.mod.minLead.getD x.minLead), maxLead := f.maxLead.getD (x.mod.maxLead.getD x.maxLead)
    bph := x.bph, pkph := f.pkph.getD ph.1, txph := f.txph.getD ph.2, net := x.net }

/-- CTX_MODIFY. [DEDUCED, log 134] -/
def State.cmdModify (s : State) (r : CmdRef) (c : Nat) (f : ModifyFields) : State :=
  let x := s.ctx_ c
  let v := x.modShape f
  let rateBad := f.codec.any (fun k => k != 0 && x.line.any (fun l => s.codecWide k != s.wideLine l))
  let clu := s.charge v.codec v.rxpt v.txpt x.line.isSome
  if x.state ≠ 1 then s.respond r 0x02 stNotReady [c]
  else if s.shapeBad v ∨ rateBad ∨ f.evtMode.any (fun e => decide (7 < e)) ∨ f.latch.any (fun l => decide (7 < l) || l % 4 == 3) then
    s.respond r 0x02 stBad [c]
  else if s.overLimit x.clu clu then s.respond r 0x02 stFull [c]
  else
    let m : CtxMod := {
      codec := f.codec.orElse (fun _ => x.mod.codec), minLead := f.minLead.orElse (fun _ => x.mod.minLead)
      maxLead := f.maxLead.orElse (fun _ => x.mod.maxLead), data := f.data.orElse (fun _ => x.mod.data)
      evtMode := f.evtMode.orElse (fun _ => x.mod.evtMode), latch := f.latch.orElse (fun _ => x.mod.latch) }
    let s := s.setCtx c { x with
      mod := m, clu := clu
      phPend := if f.pkph.isSome || f.txph.isSome then some (v.pkph, v.txph) else x.phPend
      ringPend := if f.nslot.isSome || f.rxpt.isSome then some (v.nslot, v.rxpt) else x.ringPend }
    let s := if f.flush then (s.ringClear c).discard c (s.validSlots c).length else s
    s.respond r 0x02 stOk [c]

/-! ### Ending a context (R22) -/

/-- Pool buffers that PKT_IN operands and ready moves of a flow hold. -/
def State.pktBufs (s : State) (c : Nat) : List Nat :=
  let base := s.rn Reg.PRE_POOL_BASE * 0x100000 % 2 ^ 32
  let buf := fun d0 => (d0 + 2 ^ 32 - base) % 2 ^ 32 / 2048
  ((s.turn.posted ++ s.turn.retry).filter (fun o => o.1.flow == c && o.1.type == 3)).map (fun o => buf o.1.d0) ++
  (s.turn.ready.filter (fun m => m.flow == c && m.type == 3)).map (fun m => buf m.d0)

/-- Steps 1 to 6 of the close order; `st` is the state the journal's directory record takes: 2 ENDED, 3 LOST.
[DEDUCED, log 137] -/
def State.endCtx (s : State) (c st : Nat) : State :=
  let x := s.ctx_ c
  -- 1: the classifier entries, and what they have let through
  let s := s.entriesDrop c
  let s := s.each ((s.jbe.inbox.filter (fun p => p.ctx == c)).map (·.buf) ++ s.pktBufs c) (fun s b => s.poolFree b)
  let s := { s with jbe := { s.jbe with inbox := s.jbe.inbox.filter (fun p => p.ctx != c) } }
  -- 2: no more PLAYOUT, no more LINE_BLOCK
  let s := match x.line with
    | some l => (s.setFld (lineCfg l) 30 1 0).setLine l { s.line_ l with underrunFrom := none }
    | none => s
  -- 3: Turn
  let s := { s with turn := { s.turn with
    posted := s.turn.posted.filter (fun o => o.1.flow != c), retry := s.turn.retry.filter (fun o => o.1.flow != c) } }
  let s := (s.dropFlow c none).cancelTimers c
  -- 4, 5, 6: Sage and the ECE, Thyme, CIPH
  let s := ((s.sageRelease c).eceRelease c).thymeEnd c st
  let s := if x.srtp.isSome then s.cipherClear c else s
  -- the partner is split
  let s := match x.mate with
    | some p =>
      let y := s.ctx_ p
      if y.mate = some c then s.setCtx p { y with splitDue := some (st == 3) } else s
    | none => s
  s.setCtx c {}

/-- CTX_CLOSE (R22). [DEDUCED, log 137] -/
def State.cmdClose (s : State) (r : CmdRef) (c : Nat) : State :=
  if (s.ctx_ c).state ≠ 1 then s.respond r 0x03 stNotReady [c]
  else (s.endCtx c 2).respond r 0x03 stOk [c]

/-! ### Queries (R126, R129) -/

/-- The 32-byte entry of R126 as eight words. -/
def State.ctxEntry (s : State) (c : Nat) : List Nat :=
  let x := s.ctx_ c
  let flags := b2n x.line.isSome + 2 * b2n x.net + 4 * b2n x.data + 8 * b2n x.partner.isSome + 16 * b2n x.ringPend.isSome +
    32 * b2n x.srtp.isSome + 64 * b2n (s.hasEce c) + 128 * b2n (s.sageOf c).isSome
  let partner := match x.partner with
    | some p => p + 2 ^ 15 * b2n x.hairpin
    | none => 0xFFFF
  [x.state + flags * 2 ^ 8 + x.home * 2 ^ 16 + x.evq * 2 ^ 24,
   x.line.getD 0xFFFF + partner * 2 ^ 16,
   x.codec + x.rxpt * 2 ^ 8 + x.txpt * 2 ^ 16 + (x.nslot - 1) * 2 ^ 24,
   x.bph + x.latch * 2 ^ 8 + x.pkph * 2 ^ 16,
   x.txph + x.minLead * 2 ^ 16,
   x.maxLead + x.target * 2 ^ 16,
   x.clu + x.vpt * 2 ^ 16 + x.evPt * 2 ^ 24,
   x.cnPt + b2n x.play * 2 ^ 8]

/-- CTX_QUERY: the entry, PPOS, B and the counters of R137. [DESIGN CHOICE, log 135] -/
def State.cmdQuery (s : State) (r : CmdRef) (c : Nat) : State :=
  let x := s.ctx_ c
  if x.state = 0 then s.respond r 0x04 stNotReady [c]
  else s.respond r 0x04 stOk ([c] ++ s.ctxEntry c ++
    [x.ppos, x.b, x.cnt.discard, x.cnt.late, x.cnt.early, x.cnt.dup, x.cnt.rx])

/-- CTX_STATS: the RTP statistics of R127, cleared with CLEAR, J among them. [DESIGN CHOICE, log 135] -/
def State.cmdStats (s : State) (r : CmdRef) (c : Nat) (clear : Bool) : State :=
  let x := s.ctx_ c
  let k := x.cnt
  if x.state = 0 then s.respond r 0x0B stNotReady [c]
  else
    let lost : Int := match k.base with
      | some b => (k.extSeq : Int) + 1 - b - k.pkts
      | none => 0
    let res := [c, k.pkts, k.octets, k.extSeq, unsigned 32 lost, k.jit / 16, k.txPkts, k.txOctets, k.lastTs,
      k.lastTime % 2 ^ 32, k.lastTime / 2 ^ 32]
    let s := if clear then s.setCtx c { x with cnt := { k with
      pkts := 0, octets := 0, base := none, extSeq := 0, jit := 0, txPkts := 0, txOctets := 0, lastTs := 0, lastTime := 0 } } else s
    s.respond r 0x0B stOk res

/-! ### Binding and joining (R129, R134) -/

/-- CTX_BIND_LINE. [DEDUCED, log 133] -/
def State.cmdBind (s : State) (r : CmdRef) (c i : Nat) : State :=
  let x := s.ctx_ c
  let bs := s.bindStatus i x.nextCodec
  let clu := s.charge x.nextCodec x.nextRxpt x.txpt true
  if x.state ≠ 1 ∨ bs = stNotReady then s.respond r 0x05 stNotReady [c]
  else if x.line.isSome ∨ x.mate.isSome ∨ bs = stBusy then s.respond r 0x05 stBusy [c]
  else if bs ≠ stOk ∨ i / 128 ≠ x.home then s.respond r 0x05 stBad [c]
  else if s.overLimit x.clu clu then s.respond r 0x05 stFull [c]
  else
    let s := (s.wake (0x60000 + x.home * 0x1000)).bindLine i
    (s.setCtx c { x with line := some i, bindDue := some true, clu := clu, wide := x.nextCodec == 0 && s.wideLine i }).respond r 0x05
      stOk [c]

/-- CTX_UNBIND_LINE. -/
def State.cmdUnbind (s : State) (r : CmdRef) (c : Nat) : State :=
  let x := s.ctx_ c
  if x.state ≠ 1 ∨ x.line.isNone then s.respond r 0x06 stNotReady [c]
  else if x.hairpin || x.joinDue.any Prod.snd then s.respond r 0x06 stBusy [c]
  else (s.setCtx c { x with bindDue := some false }).respond r 0x06 stOk [c]

/-- CTX_JOIN: at the next playout instant of each. -/
def State.cmdJoin (s : State) (r : CmdRef) (c p mode : Nat) : State :=
  let x := s.ctx_ c
  let y := s.ctx_ p
  let fits := match mode with
    | 0 => x.line.isNone && y.line.isNone && x.net && y.net
    | 1 => x.line.isSome && y.line.isSome && !x.net && !y.net
    | _ => false
  if x.state ≠ 1 ∨ y.state ≠ 1 then s.respond r 0x07 stNotReady [c]
  else if x.mate.isSome ∨ y.mate.isSome then s.respond r 0x07 stBusy [c]
  else if c = p ∨ !fits then s.respond r 0x07 stBad [c]
  else
    ((s.setCtx c { x with joinDue := some (p, mode == 1) }).setCtx p
      { y with joinDue := some (c, mode == 1) }).respond r 0x07 stOk [c]

/-- CTX_SPLIT: at the next playout instant of each. -/
def State.cmdSplit (s : State) (r : CmdRef) (c : Nat) : State :=
  let x := s.ctx_ c
  match x.mate with
  | some p =>
    if x.state ≠ 1 then s.respond r 0x08 stNotReady [c]
    else
      let s := s.setCtx c { x with splitDue := some (x.splitDue == some true) }
      let y := s.ctx_ p
      let s := if y.mate = some c then s.setCtx p { y with splitDue := some (y.splitDue == some true) } else s
      s.respond r 0x08 stOk [c]
  | none => s.respond r 0x08 stNotReady [c]

/-! ### Transmit (R140, R145, R247, R272) -/

/-- A field of the template is out of range, or its keys are held by another entry. -/
def State.templateBad (s : State) (c : Nat) (f : TemplateFields) : Bool :=
  let w := if f.v6 then 128 else 32
  decide (3 < f.mac) || decide (2 ^ 48 ≤ f.dstMac) || decide (2 ^ 48 ≤ f.srcMac) || decide (2 < f.tags.length) ||
  f.tags.any (fun t => decide (65535 < t)) || decide (2 ^ w ≤ f.srcAddr) || decide (2 ^ w ≤ f.dstAddr) ||
  decide (63 < f.dscp) || decide (255 < f.ttl) || decide (2 ^ 20 ≤ f.flow) || decide (65535 < f.srcPort) ||
  decide (65535 < f.dstPort) || f.ssrc.any (fun v => decide (2 ^ 32 ≤ v)) || f.txTs.any (fun v => decide (2 ^ 32 ≤ v)) ||
  f.seq.any (fun v => decide (65535 < v)) || f.rxKey.any (fun k => srtpKeyBad k || !s.srtpOpen c) ||
  s.keysTaken c f.v6 f.srcAddr f.srcPort f.rtcpMux

/-- CTX_SET_TEMPLATE. The two entries of the context are its own since CTX_OPEN, so PRE never lacks them. Receive keys are
installed as KEY_SRTP installs them: a locked-out engine or a fault of its check answers FAULT and nothing changes (R259,
R262). [DESIGN CHOICE, log 214] -/
def State.cmdTemplate (s : State) (r : CmdRef) (c : Nat) (f : TemplateFields) : State :=
  let x := s.ctx_ c
  if x.state ≠ 1 ∨ !x.net then s.respond r 0x09 stNotReady [c]
  else if s.templateBad c f then s.respond r 0x09 stBad [c]
  else if f.rxKey.isSome ∧ s.bit (Reg.CIPH_ENGINE_STAT x.home) 31 then s.respond r 0x09 8 [c]
  else if f.rxKey.isSome ∧ f.fault then (s.cipherFault x.home).respond r 0x09 8 [c]
  else
    let t : Template := { mac := f.mac, dstMac := f.dstMac, srcMac := f.srcMac, tags := f.tags, v6 := f.v6, srcAddr := f.srcAddr
                          dstAddr := f.dstAddr, dscp := f.dscp, ttl := f.ttl, flow := f.flow, srcPort := f.srcPort
                          dstPort := f.dstPort, ssrc := f.ssrc, txTs := f.txTs, seq := f.seq }
    let s := (s.setCtx c { x with template := some t, txTs := f.txTs.getD x.txTs, txSeq := f.seq.getD x.txSeq }).showTx c
    let s := s.entriesKey c f.v6 f.srcAddr f.srcPort f.rtcpMux
    let s := match f.rxKey with
      | some k => s.installKey c 0 k
      | none => s
    s.respond r 0x09 stOk [c]

/-- CTX_SEND_EVENT. -/
def State.cmdSendEvent (s : State) (r : CmdRef) (c code vol dur : Nat) : State :=
  let x := s.ctx_ c
  if x.state ≠ 1 ∨ !x.net ∨ x.evPt = 0 then s.respond r 0x0A stNotReady [c]
  else if x.sending.isSome then s.respond r 0x0A stBusy [c]
  else if 255 < code ∨ 63 < vol ∨ 65535 < dur then s.respond r 0x0A stBad [c]
  else (s.setCtx c { x with sending := some (code, vol, dur), sentEnds := 0 }).respond r 0x0A stOk [c]

/-! ### Meanings -/

/-- CTX_OPEN (R128). -/
def execCtxOpen (r : CmdRef) (f : OpenFields) (s : State) : Res := .next (s.carryOut r 0x01 (·.cmdOpen r f))

/-- CTX_MODIFY (R129). -/
def execCtxModify (r : CmdRef) (c : Nat) (f : ModifyFields) (s : State) : Res := .next (s.carryOut r 0x02 (·.cmdModify r c f))

/-- CTX_CLOSE (R22). -/
def execCtxClose (r : CmdRef) (c : Nat) (s : State) : Res := .next (s.carryOut r 0x03 (·.cmdClose r c))

/-- CTX_QUERY (R129). -/
def execCtxQuery (r : CmdRef) (c : Nat) (s : State) : Res := .next (s.carryOut r 0x04 (·.cmdQuery r c))

/-- CTX_BIND_LINE (R129). -/
def execCtxBindLine (r : CmdRef) (c i : Nat) (s : State) : Res := .next (s.carryOut r 0x05 (·.cmdBind r c i))

/-- CTX_UNBIND_LINE (R129). -/
def execCtxUnbindLine (r : CmdRef) (c : Nat) (s : State) : Res := .next (s.carryOut r 0x06 (·.cmdUnbind r c))

/-- CTX_JOIN (R134). -/
def execCtxJoin (r : CmdRef) (c p mode : Nat) (s : State) : Res := .next (s.carryOut r 0x07 (·.cmdJoin r c p mode))

/-- CTX_SPLIT (R129). -/
def execCtxSplit (r : CmdRef) (c : Nat) (s : State) : Res := .next (s.carryOut r 0x08 (·.cmdSplit r c))

/-- CTX_SET_TEMPLATE (R145). -/
def execCtxSetTemplate (r : CmdRef) (c : Nat) (f : TemplateFields) (s : State) : Res :=
  .next (s.carryOut r 0x09 (·.cmdTemplate r c f))

/-- CTX_SEND_EVENT (R140). -/
def execCtxSendEvent (r : CmdRef) (c code vol dur : Nat) (s : State) : Res := .next (s.carryOut r 0x0A (·.cmdSendEvent r c code vol dur))

/-- CTX_STATS (R129). -/
def execCtxStats (r : CmdRef) (c : Nat) (clear : Bool) (s : State) : Res := .next (s.carryOut r 0x0B (·.cmdStats r c clear))

end Sys2Proof.Machine
end

