-- ==== Sys2Proof/Machine/Operands.lean ====
section
/-! DEFINITION. Operands of the Yathar words (R172–R179, R187, R190, R191): registers with their latencies, accumulators,
addresses and post-modification, the fields of each word and which words are legal. -/

namespace Sys2Proof.Machine
open Sys2Proof

/-! ### Registers and writes in flight (R172, R176, R177, R187) -/

/-- Reset value of a register code (R172). -/
def coreRegReset (code : Nat) : Nat := if code = 0x17 then 0x018000 else if code = 0x2F then 1 else 0

/-- Bits a register holds (R172, R187). -/
def regMask (code : Nat) : Nat :=
  if code < 0x0C then 2 ^ 32 - 1
  else if code < 0x10 then 0xFF
  else if code < 0x28 then 0xFFFFFF
  else if code < 0x2E then 0xFFFF
  else if code = 0x2E then 0x33F1F
  else if code = 0x2F then 0xF7F
  else if code < 0x32 then 0xFFFF
  else if code = 0x32 then 2 ^ 32 - 1
  else 0xFFFF

/-- A register as the words that read in stage D see it. -/
def Core.rawReg (c : Core) (code : Nat) : Nat := Tab.get coreRegReset c.regs code

/-- Apply the bits of a write. -/
def PendW.apply (p : PendW) (v : Nat) : Nat := (v - (v &&& p.mask)) + (p.val &&& p.mask)

/-- A register as bundle `c.bundle` sees it in stage AG; `mac` for the accumulator of an accumulating MAC (R176). -/
def Core.reg (c : Core) (code : Nat) (mac : Bool := false) : Nat :=
  c.pend.foldl (fun v p =>
    if p.reg = code ∧ (if mac then p.dueMac else p.due) ≤ c.bundle then p.apply v else v) (c.rawReg code)

/-- Insert a write, by due bundle and then in issue order (R177). -/
def insertPend (p : PendW) : List PendW → List PendW
  | [] => [p]
  | x :: r => if x.due ≤ p.due then x :: insertPend p r else p :: x :: r

/-- A write `p` that an earlier bundle made to a D register is lost to the write `q` of a later one that the same bundle sees
first, whichever halves they write (R177). -/
def PendW.lostTo (p q : PendW) : Bool := p.reg == q.reg && decide (q.reg < 8) && p.due == q.due && p.issued != q.issued

/-- A write of some bits of a register, seen `lat` bundles on, and `macLat` bundles on by an accumulating MAC (R176, R177).
[DEDUCED, log 149] -/
def Core.put (c : Core) (code mask val lat : Nat) (macLat : Nat := lat) : Core :=
  let q : PendW := ⟨code, mask, val, c.bundle + lat, c.bundle + macLat, c.bundle⟩
  { c with pend := insertPend q (c.pend.filter (fun p => !p.lostTo q)) }

/-- A register set at once, past every write in flight to it. -/
def Core.force (c : Core) (code v : Nat) : Core := { c with regs := Tab.put coreRegReset c.regs code v }

/-- Complete the writes that `done` selects, in order. -/
def Core.complete (c : Core) (done : PendW → Bool) : Core :=
  { c with
    regs := (c.pend.filter done).foldl
      (fun t p => Tab.put coreRegReset t p.reg (p.apply (Tab.get coreRegReset t p.reg))) c.regs
    pend := c.pend.filter (fun p => !done p) }

/-- Every issued write completes (R178). -/
def Core.drain (c : Core) : Core := c.complete (fun _ => true)

/-- ASTAT bits, set together. -/
def Core.flags (c : Core) (mask val lat : Nat) : Core := c.put 0x2E mask val lat

/-- The governing copy of LC, LB or LE (0x28–0x2D at 0x48–0x4D). -/
def govOf (code : Nat) : Nat := code + 0x20

/-- Governing LA of level `v`. -/
def govLA (v : Nat) : Nat := 0x4E + v

/-- What a MOV, LDI, LDIH or POP writes for a register code: each register code in turn with its bits, the place of those
bits in the value, and the latency at which it is seen and, for LC, LB, LE, LA0 and LA1, governs loop-end action (R176).
`load` is the load latency of a POP, 0 otherwise. -/
def regWrites (code load : Nat) : List (Nat × Nat × Nat × Nat) :=
  let m := if code = 0x2F then 0xF5F else regMask code
  let lat := if load = 0 then 1 else load
  let gov := if load = 0 then 4 else load + 3
  if (0x20 ≤ code ∧ code < 0x28) ∨ code = 0x2F then [(code, m, 0, lat + 1)]
  else if 0x28 ≤ code ∧ code < 0x2E then [(code, m, 0, lat), (govOf code, m, 0, gov)]
  else if code = 0x2E then [(code, m, 0, lat + 1), (govLA 0, 1, 16, gov), (govLA 1, 1, 17, gov)]
  else [(code, m, 0, lat)]

/-- A MOV, LDI, LDIH or POP writes a register; `only` masks the bits written. -/
def Core.write (c : Core) (code v load : Nat) (only : Nat := 2 ^ 32 - 1) : Core :=
  (regWrites code load).foldl (fun c e => c.put e.1 (e.2.1 &&& only / 2 ^ e.2.2.1) (v / 2 ^ e.2.2.1) e.2.2.2) c

/-- A register as a word reads it whole: M registers and guard bytes sign-extended, every other zero-extended (R187). -/
def extendReg (code v : Nat) : Nat :=
  if 0x0C ≤ code ∧ code < 0x10 then unsigned 32 (signed 8 v)
  else if 0x18 ≤ code ∧ code < 0x20 then unsigned 32 (signed 24 v)
  else v

/-! ### Accumulators (R172, R180, R181) -/

/-- Accumulator `n`, signed 40 bits. -/
def Core.acc (c : Core) (n : Nat) (mac : Bool := false) : Int :=
  signed 40 (c.reg (0x0C + n) mac * 2 ^ 32 + c.reg (0x08 + n) mac)

/-- MODE as the bundle sees it. -/
def Core.mode (c : Core) : Nat := c.reg 0x2F

/-- An exact result narrowed to 40 bits: clamped with SATA = 1, wrapped with SATA = 0; and whether it needed more
(R180, R181). -/
def Core.narrow (c : Core) (x : Int) : Int × Bool :=
  let lo : Int := -(2 ^ 39)
  let hi : Int := 2 ^ 39 - 1
  let ovf := decide (x < lo ∨ hi < x)
  (if bitOf c.mode 1 then satTo lo hi x else signed 40 (unsigned 40 x), ovf)

/-- Write accumulator `n` with its AV and AOS flags (R181). -/
def Core.putAcc (c : Core) (n : Nat) (x : Int) (lat macLat : Nat) : Core :=
  let r := c.narrow x
  let u := unsigned 40 r.1
  let av := decide (r.1 < -(2 ^ 31) ∨ 2 ^ 31 - 1 < r.1)
  let c := (c.put (0x08 + n) (2 ^ 32 - 1) (u % 2 ^ 32) lat macLat).put (0x0C + n) 0xFF (u / 2 ^ 32) lat macLat
  let c := c.flags (2 ^ (8 + n)) (b2n av * 2 ^ (8 + n)) lat
  if r.2 then c.flags (2 ^ 12) (2 ^ 12) lat else c

/-! ### Output forms (R184) -/

/-- rnd(A) under MODE.RND. -/
def Core.rnd (c : Core) (a : Int) : Int :=
  match fieldOf c.mode 2 2 with
  | 1 => a + (2 ^ 15 - 1) + (unsigned 40 a / 2 ^ 16 % 2 : Nat)
  | 2 => a
  | _ => a + 2 ^ 15

/-- An accumulator in an output form: its 16 or 32 bits and whether a saturation changed it. -/
def Core.outForm (c : Core) (form : Nat) (a : Int) : Nat × Bool :=
  let sats := bitOf c.mode 0
  let r := sra (c.rnd a) 16
  match form with
  | 0 => if sats then (unsigned 16 (satTo (-32768) 32767 r), decide (r < -32768 ∨ 32767 < r)) else (unsigned 16 r, false)
  | 1 => if sats then (unsigned 32 (satTo (-(2 ^ 31)) (2 ^ 31 - 1) a), decide (a < -(2 ^ 31) ∨ 2 ^ 31 - 1 < a))
      else (unsigned 32 a, false)
  | 2 => if sats then (unsigned 16 (satTo (-32768) 32767 a), decide (a < -32768 ∨ 32767 < a)) else (unsigned 16 a, false)
  | _ => (unsigned 32 a, false)

/-- The form is 16 bits wide. -/
def form16 (form : Nat) : Bool := form == 0 || form == 2

/-! ### Data addresses (R173, R174, R190, R191) -/

/-- The bus an access uses. -/
inductive Bus where
  | x
  | y
  | single
  deriving DecidableEq, Repr

/-- Where a data access goes. -/
inductive Place where
  /-- Memory at a device address, with its load latency. -/
  | mem (a lat : Nat)
  /-- A special register, by offset from 0xFF_F000. -/
  | spr (off : Nat)
  deriving DecidableEq, Repr

/-- The place of a data access of `n` bytes, or none: an ADDR exception (R173, R174). [DEDUCED, log 149] -/
def placeOf (g : Nat) (b : Bus) (a n : Nat) : Option Place :=
  if a % n ≠ 0 then none
  else if a < 0x8000 then (if b = .y then none else some (.mem (xramBase g + a) 2))
  else if 0x10000 ≤ a ∧ a < 0x18000 then (if b = .x then none else some (.mem (xramBase g + a) 2))
  else if 0x100000 ≤ a ∧ a < 0x200000 then some (.mem (sramBase (g / 8) + (a - 0x100000)) 5)
  else if 0xFFF000 ≤ a ∧ a < 0x1000000 then (if b = .y ∨ n ≠ 4 then none else some (.spr (a - 0xFFF000)))
  else none

/-- The low `n` bits of `v` in reverse order. -/
def revBits : Nat → Nat → Nat
  | 0, _ => 0
  | n + 1, v => v % 2 * 2 ^ n + revBits n (v / 2)

/-- Pointer `p` after a post-modify by `m` bytes; `byReg` when the modifier is a register (R190, R191). -/
def Core.postMod (c : Core) (p : Nat) (m : Int) (byReg : Bool) : Nat :=
  let v := c.reg (0x10 + p)
  if p = 0 ∧ byReg ∧ bitOf c.mode 6 then
    let n := fieldOf c.mode 8 4 + 1
    let b := c.reg 0x20
    let o := unsigned n ((v : Int) - b)
    (b + revBits n ((revBits n o + revBits n (unsigned n m)) % 2 ^ n)) % 2 ^ 24
  else if p < 4 ∧ c.reg (0x24 + p) ≠ 0 then
    let b := c.reg (0x20 + p)
    (b + (((v : Int) + m - b) % (c.reg (0x24 + p) : Int)).toNat) % 2 ^ 24
  else unsigned 24 ((v : Int) + m)

/-- Bytes of a SIZE code (R185). -/
def sizeBytes (z : Nat) : Nat := if z = 2 then 4 else 2

/-! ### Words and bundles (R175, R179) -/

/-- A PRAM word; addresses beyond 0xBFFF read as a word of the reserved group. [DESIGN CHOICE, log 8] -/
def State.pramWord (s : State) (g a : Nat) : Nat :=
  if 0xC000 ≤ a then 0xF0000000 else (Tab.get (fun _ => 0) s.core.pram (0x3000 * g + a / 4)).toNat

/-- Group of a word. -/
def wGroup (w : Nat) : Nat := fieldOf w 28 3

/-- The last word of its bundle. -/
def wLast (w : Nat) : Bool := bitOf w 31

/-- Group and operation of a word: what names it. [DEDUCED, log 140] -/
def wKey (w : Nat) : Nat :=
  match wGroup w with
  | 0 => fieldOf w 23 2
  | 1 => 0x100 + fieldOf w 22 6
  | 2 => 0x200 + fieldOf w 22 6
  | 3 => 0x300
  | 4 => 0x400 + fieldOf w 25 3
  | 5 => 0x500 + fieldOf w 26 2
  | 6 => 0x600 + fieldOf w 24 4
  | _ => 0x700

/-- The keys that name an operation of R180–R188. [DEDUCED, log 139] -/
def keyKnown (k : Nat) : Bool :=
  k < 3 || (0x100 ≤ k && k ≤ 0x110) || (0x120 ≤ k && k ≤ 0x127) || (0x200 ≤ k && k ≤ 0x204) || k == 0x208 ||
  (0x210 ≤ k && k ≤ 0x216) || k == 0x218 || k == 0x219 || k == 0x21C || k == 0x300 || (0x400 ≤ k && k ≤ 0x405) ||
  (0x500 ≤ k && k ≤ 0x502) || (0x600 ≤ k && k ≤ 0x60A) || k == 0x60F

/-- A transfer word (R188). -/
def isTransfer (k : Nat) : Bool := 0x600 ≤ k && k ≤ 0x606

/-- The fields of a DMOV move are legal (R185). -/
def moveLegal (m : Nat) : Bool :=
  if bitOf m 13 then
    !(bitOf m 12 && fieldOf m 10 2 == 3) && (fieldOf m 3 2 == 3 || fieldOf m 0 3 == 0)
  else m % 2 ^ 13 == 0

/-- The fields of a word are legal for its operation (R179, R180–R189). [DEDUCED, log 152] -/
def wLegal (w : Nat) : Bool :=
  let k := wKey w
  keyKnown k && match wGroup w with
  | 0 =>
    let m := fieldOf w 25 3
    let sgn := fieldOf w 21 2
    m < 6 && sgn < 3 && fieldOf w 0 10 == 0 && (m == 0 || fieldOf w 16 3 == 0) &&
      (!(m == 2 || m == 3) || fieldOf w 13 1 == 0) && (!(m == 4 || m == 5) || sgn == 0)
  | 1 =>
    if k < 0x120 then (if bitOf w 15 then fieldOf w 12 3 == 0 else fieldOf w 0 12 == 0)
    else
      fieldOf w 21 1 == 0 && fieldOf w 0 16 == 0 &&
        (if k == 0x125 || k == 0x126 then true else if k == 0x124 then fieldOf w 16 3 == 0 else fieldOf w 18 1 == 0)
  | 2 =>
    let counted := k ≤ 0x204 || k == 0x208
    let cnt := if bitOf w 15 then fieldOf w 6 9 == 0 else fieldOf w 0 12 == 0
    if counted then cnt && (k != 0x208 || (fieldOf w 21 1 == 0 && fieldOf w 18 1 == 0))
    else if k ≤ 0x214 then fieldOf w 0 16 == 0
    else if k ≤ 0x216 then fieldOf w 0 16 == 0 && fieldOf w 18 1 == 0
    else if k ≤ 0x219 then fieldOf w 0 16 == 0 && fieldOf w 18 1 == 0 && fieldOf w 21 1 == 0
    else fieldOf w 0 13 == 0 && fieldOf w 15 1 == 0 && fieldOf w 18 1 == 0
  | 3 => moveLegal (fieldOf w 14 14) && moveLegal (fieldOf w 0 14)
  | 4 =>
    match fieldOf w 25 3 with
    | 0 => true
    | 1 => fieldOf w 23 2 != 3
    | 2 => fieldOf w 22 1 == 0
    | 3 => fieldOf w 23 2 == 0 && fieldOf w 16 1 == 0
    | _ => fieldOf w 23 2 == 0 && fieldOf w 0 17 == 0 && fieldOf w 17 6 < 0x33
  | 5 =>
    fieldOf w 20 6 < 0x33 && match fieldOf w 26 2 with
    | 0 => fieldOf w 0 14 == 0 && fieldOf w 14 6 < 0x33
    | 1 => fieldOf w 16 3 == 0
    | _ => fieldOf w 16 4 == 0
  | _ =>
    match fieldOf w 24 4 with
    | 0 => fieldOf w 20 4 < 14
    | 1 => fieldOf w 20 4 == 0
    | 2 => fieldOf w 20 4 == 0 && fieldOf w 0 17 == 0
    | 3 => fieldOf w 20 4 == 0 && fieldOf w 0 17 == 0
    | 6 => bitOf w 22 || fieldOf w 6 13 == 0
    | 7 => fieldOf w 22 2 == 0 && fieldOf w 0 19 == 0
    | 9 => fieldOf w 8 16 == 0
    | _ => fieldOf w 0 24 == 0

/-- Address after the bundle at `a`. -/
def State.afterBundle (s : State) (g a : Nat) : Nat := if wLast (s.pramWord g a) then a + 4 else a + 8

/-- The shift count of a SHF word (R183). -/
def Core.shiftCount (c : Core) (w : Nat) : Int :=
  if bitOf w 15 then signed 6 (fieldOf w 0 6) else signed 6 (c.reg (fieldOf w 12 3))

/-- One data access of a word: its bus, address and size. -/
structure Access where
  bus : Bus
  addr : Nat
  n : Nat
  deriving DecidableEq, Repr

/-- The accesses of a memory word (R185, R186). -/
def Core.accesses (c : Core) (w : Nat) : List Access :=
  let p := fun i => c.reg (0x10 + i)
  match wGroup w with
  | 3 =>
    let x := fieldOf w 14 14
    let y := fieldOf w 0 14
    (if bitOf x 13 then [⟨.x, p (fieldOf x 5 2), sizeBytes (fieldOf x 10 2)⟩] else []) ++
    (if bitOf y 13 then [⟨.y, p (4 + fieldOf y 5 2), sizeBytes (fieldOf y 10 2)⟩] else [])
  | 4 =>
    let pn := p (fieldOf w 17 3)
    let a := if bitOf w 16 then pn else unsigned 24 ((pn : Int) + signed 16 (fieldOf w 0 16))
    match fieldOf w 25 3 with
    | 0 => [⟨.single, a, sizeBytes (fieldOf w 23 2)⟩]
    | 1 => [⟨.single, a, sizeBytes (fieldOf w 23 2)⟩]
    | 2 => [⟨.single, a, if form16 (fieldOf w 23 2) then 2 else 4⟩]
    | 4 => [⟨.single, unsigned 24 ((p 7 : Int) - 4), 4⟩]
    | 5 => [⟨.single, p 7, 4⟩]
    | _ => []
  | _ => []

/-- Load latency of the access, 0 where there is none. -/
def accessLat (g : Nat) (a : Access) : Nat :=
  match placeOf g a.bus a.addr a.n with
  | some (.mem _ l) => l
  | some (.spr _) => 3
  | none => 0

/-- Mask of a D register written by SIZE. -/
def sizeMask (z : Nat) : Nat := if z = 0 then 0xFFFF else if z = 1 then 0xFFFF0000 else 2 ^ 32 - 1

/-- The bits that LDIH writes: the high half of a D register, and the whole of any other (R187). -/
def ldihMask (code : Nat) : Nat := if code < 8 then 0xFFFF0000 else 2 ^ 32 - 1

/-- The registers a word writes: code, bits and latency (R177). -/
def Core.dests (c : Core) (g w : Nat) : List (Nat × Nat × Nat) :=
  let all := 2 ^ 32 - 1
  let whole := fun (code load only : Nat) => (regWrites code load).map (fun e => (e.1, e.2.1 &&& only, e.2.2.2))
  let accD := fun n lat => [(0x08 + n, all, lat), (0x0C + n, all, lat)]
  let lats := (c.accesses w).map (accessLat g)
  match wGroup w with
  | 0 =>
    let an := fieldOf w 18 2
    match fieldOf w 25 3 with
    | 0 => accD an 2
    | 2 => (List.range 4).flatMap (accD · 2)
    | 3 => (List.range 4).flatMap (accD · 2)
    | _ => accD an 2 ++ accD (an + 1) 2
  | 1 => if wKey w < 0x110 then [(fieldOf w 19 3, all, 1)] else if wKey w = 0x110 then [] else accD (fieldOf w 19 2) 1
  | 2 =>
    match fieldOf w 22 6 with
    | 0x08 => accD (fieldOf w 19 2) 1
    | 0x12 => [(fieldOf w 19 3, 0xFFFF, 1)]
    | 0x13 => [(fieldOf w 19 3, 0xFFFF, 1)]
    | 0x16 => (fieldOf w 19 3, all, 1) :: accD (fieldOf w 16 2) 1
    | 0x18 => accD (fieldOf w 19 2) 1
    | 0x19 => accD (fieldOf w 19 2) 1
    | _ => [(fieldOf w 19 3, all, 1)]
  | 3 =>
    let mv := fun (m p lat : Nat) =>
      (if !bitOf m 13 then [] else
        (if bitOf m 12 then [] else [(fieldOf m 7 3, sizeMask (fieldOf m 10 2), lat)]) ++
        (if fieldOf m 3 2 = 0 then [] else [(0x10 + p + fieldOf m 5 2, all, 1)]) : List (Nat × Nat × Nat))
    let x := fieldOf w 14 14
    mv x 0 (lats.headD 0) ++ mv (fieldOf w 0 14) 4 (if bitOf x 13 then lats.getD 1 0 else lats.headD 0)
  | 4 =>
    let lat := lats.headD 0
    match fieldOf w 25 3 with
    | 0 => (fieldOf w 20 3, sizeMask (fieldOf w 23 2), lat) :: (if bitOf w 16 then [(0x10 + fieldOf w 17 3, all, 1)] else [])
    | 1 => if bitOf w 16 then [(0x10 + fieldOf w 17 3, all, 1)] else []
    | 2 => if bitOf w 16 then [(0x10 + fieldOf w 17 3, all, 1)] else []
    | 3 => [(0x10 + fieldOf w 20 3, all, 1)]
    | 4 => [(0x17, all, 1)]
    | _ => (0x17, all, 1) :: whole (fieldOf w 17 6) lat all
  | 5 => whole (fieldOf w 20 6) 0 (if fieldOf w 26 2 = 2 then ldihMask (fieldOf w 20 6) else all)
  | _ =>
    match fieldOf w 24 4 with
    | 1 => [(0x30, all, 1)]
    | 3 => [(0x30, all, 1)]
    | 6 => [0x28, 0x2A, 0x2C].flatMap (fun k => [(k + fieldOf w 23 1, all, 1), (govOf (k + fieldOf w 23 1), all, 1)])
    | 7 => [(fieldOf w 19 3, all, 3)]
    | _ => []

/-- Two words of a bundle write one register with the same latency, and not different halves of a D register (R177). -/
def destsClash (a b : List (Nat × Nat × Nat)) : Bool :=
  a.any (fun x => b.any (fun y => x.1 == y.1 && x.2.2 == y.2.2 && !(decide (x.1 < 8) && x.2.1 &&& y.2.1 == 0)))

/-! ### What makes a bundle fault (R173–R177, R188, R189) -/

/-- Loop level `v` is active, as it governs. -/
def Core.loopOn (c : Core) (v : Nat) : Bool := c.reg (govLA v) % 2 == 1

/-- LE of level `v`, as it governs. -/
def Core.loopEndAt (c : Core) (v : Nat) : Nat := c.reg (0x4C + v)

/-- LB of level `v`, as it governs. -/
def Core.loopBegin (c : Core) (v : Nat) : Nat := c.reg (0x4A + v)

/-- Some bundle from `a` on has its last word at `e` (R189). -/
def State.endsBundle (s : State) (g e : Nat) : Nat → Nat → Bool
  | 0, _ => false
  | n + 1, a =>
    let b := s.afterBundle g a
    if b = e + 4 then true else if e + 4 < b then false else s.endsBundle g e n b

/-- The exception the bundle at PC raises: 1 ILLEGAL, or 2 ADDR with the data address; none if it raises none. -/
def State.bundleFault (s : State) (g : Nat) : Option (Nat × Nat) :=
  let c := s.core_ g
  let w := s.pramWord g c.pc
  let two := !wLast w
  let v := s.pramWord g (c.pc + 4)
  let ws := if two then [w, v] else [w]
  let nxt := s.afterBundle g c.pc
  let nxt2 := s.afterBundle g nxt
  let near := fun e => decide (c.pc ≤ e ∧ e < s.afterBundle g nxt2)
  let transfer := ws.any (fun x => isTransfer (wKey x))
  let badLoop := fun lv => c.loopOn lv &&
    ((transfer && near (c.loopEndAt lv)) ||
     (decide (c.pc = c.loopBegin lv) && !s.endsBundle g (c.loopEndAt lv) 12288 c.pc))
  let memWord := fun x => wGroup x == 3 || wGroup x == 4
  let illegal :=
    decide (0xC000 ≤ c.pc) || (two && (decide (c.pc = 0xBFFC) || !wLast v || wGroup w == wGroup v || (memWord w && memWord v))) ||
    ws.any (fun x => !wLegal x) ||
    ws.any (fun x => wKey x == 0x204 && decide (c.shiftCount x < -16 ∨ 15 < c.shiftCount x)) ||
    (two && destsClash (c.dests g w) (c.dests g v)) ||
    (c.branch.any (fun b => b.slots != 0) && transfer) || badLoop 0 || badLoop 1
  if illegal then some (1, 0)
  else ((ws.flatMap c.accesses).find? (fun a => (placeOf g a.bus a.addr a.n).isNone)).map (fun a => (2, a.addr))

end Sys2Proof.Machine
end

