-- ==== Sys2Proof/Machine/Flags.lean ====
section
/-! DEFINITION. Results and flags of the Yathar ALU and shifter (R182, R183). -/

namespace Sys2Proof.Machine
open Sys2Proof

/-- A 32-bit result with its flags. -/
structure AluOut where
  r : Nat
  z : Bool
  n : Bool
  c : Bool
  v : Bool
  deriving DecidableEq, Repr

/-- Z and N from the 32-bit result. -/
def aluOut (r : Nat) (c v : Bool) : AluOut := ⟨r % 2 ^ 32, r % 2 ^ 32 == 0, bitOf r 31, c, v⟩

/-- Signed overflow of an exact sum or difference at width `w`. -/
def overflows (w : Nat) (x : Int) : Bool := decide (x < -(2 ^ (w - 1) : Nat) ∨ (2 ^ (w - 1) : Nat) ≤ x)

/-- Saturate at width `w`. -/
def satW (w : Nat) (x : Int) : Int := satTo (-(2 ^ (w - 1) : Nat)) ((2 ^ (w - 1) : Nat) - 1) x

/-- The exact signed sum or difference, and the carry of the operation: for a subtraction 1 means no borrow. -/
def addSub (w : Nat) (sub : Bool) (a b : Nat) : Int × Bool :=
  if sub then (signed w a - signed w b, decide (b % 2 ^ w ≤ a % 2 ^ w))
  else (signed w a + signed w b, decide (2 ^ w ≤ a % 2 ^ w + b % 2 ^ w))

/-- ADD, SUB, ADDS, SUBS. -/
def aluAdd (sub sat : Bool) (a b : Nat) : AluOut :=
  let x := addSub 32 sub a b
  aluOut (unsigned 32 (if sat then satW 32 x.1 else x.1)) x.2 (overflows 32 x.1)

/-- ADD2, SUB2, ADDS2, SUBS2: N and C from the high half, Z when both halves are zero, V when either overflows. -/
def aluAdd2 (sub sat : Bool) (a b : Nat) : AluOut :=
  let h := addSub 16 sub (a / 2 ^ 16) (b / 2 ^ 16)
  let l := addSub 16 sub (a % 2 ^ 16) (b % 2 ^ 16)
  let f := fun (x : Int) => unsigned 16 (if sat then satW 16 x else x)
  let r := f h.1 * 2 ^ 16 + f l.1
  ⟨r, r == 0, bitOf r 31, h.2, overflows 16 h.1 || overflows 16 l.1⟩

/-- AND, OR, XOR, ANDN: C and V clear. -/
def aluLogic (f : Nat → Nat → Nat) (a b : Nat) : AluOut := aluOut (f a b) false false

/-- MIN and MAX: C is the free value `fc`, which no rule states; V is clear. [DEDUCED, log 151] -/
def aluPick (max : Bool) (fc : Bool) (a b : Nat) : AluOut :=
  let less := decide (signed 32 a < signed 32 b)
  aluOut (if less = max then b else a) fc false

/-- ABS: C is the free value `fc`. [DEDUCED, log 151] -/
def aluAbs (fc : Bool) (a : Nat) : AluOut :=
  let x : Int := (signed 32 a).natAbs
  aluOut (unsigned 32 (satW 32 x)) fc (overflows 32 x)

/-- NEG: the saturated difference from zero. [DEDUCED, log 151] -/
def aluNeg (a : Nat) : AluOut := aluAdd true true 0 a

/-- Bits below the top bit of a `w`-bit value that equal it (R183). -/
def leadSame (w v : Nat) : Nat :=
  ((List.range (w - 1)).takeWhile (fun i => bitOf v (w - 2 - i) == bitOf v (w - 1))).length

/-- e32 (R183). -/
def e32 (v : Nat) : Nat := leadSame 32 v

/-- e16 (R183). -/
def e16 (v : Nat) : Nat := leadSame 16 (v % 2 ^ 16)

/-- eA: −8 to 31 (R183). -/
def eA (a : Int) : Int := (leadSame 40 (unsigned 40 a) : Int) - 8

/-- An exact arithmetic shift: left for a positive count, right rounding down for a negative one. -/
def shiftA (x : Int) (n : Int) : Int := if 0 ≤ n then x * (2 ^ n.toNat : Nat) else sra x (-n).toNat

/-- ASH and ASHS on `w` bits. -/
def shfArith (w : Nat) (sat : Bool) (v : Nat) (n : Int) : Nat :=
  let x := shiftA (signed w v) n
  unsigned w (if sat then satW w x else x)

/-- LSH. -/
def shfLogic (v : Nat) (n : Int) : Nat :=
  if 0 ≤ n then v * 2 ^ n.toNat % 2 ^ 32 else v / 2 ^ (-n).toNat

/-- ROT: rotate left by the count modulo 32. -/
def shfRot (v : Nat) (n : Int) : Nat :=
  let k := (n % 32).toNat
  (v * 2 ^ k + v / 2 ^ (32 - k)) % 2 ^ 32

end Sys2Proof.Machine
end

