-- ==== Sys2Proof/Machine/Yathar.lean ====
section
/-! DEFINITION. A Yathar core at work (R175–R199): its special registers, moves, interrupts and exceptions, and the issue
of one word after the other of the bundle at its PC. A row of the table that names a word issues the next word of the core
when it is that word, and changes nothing otherwise. -/

namespace Sys2Proof.Machine
open Sys2Proof

/-! ### Special registers (R199) -/

/-- Change a core. -/
def State.onCore (s : State) (g : Nat) (f : Core → Core) : State := s.setCore g (f (s.core_ g))

/-- A special register that holds what was written, by offset from 0xFF_F000. -/
def State.spr (s : State) (g off : Nat) : Nat := Tab.get (fun _ => 0) (s.core_ g).spr off

/-- Set it. -/
def State.setSpr (s : State) (g off v : Nat) : State :=
  s.onCore g (fun c => { c with spr := Tab.put (fun _ => 0) c.spr off (v % 2 ^ 32) })

/-- The first CLUS page of cluster `c`. -/
def clusPage (c : Nat) : Nat := 0x60000 + c * 0x1000

/-- A core rings the cores of its cluster that `v` names (R199). -/
def State.dbSend (s : State) (g v : Nat) : State :=
  s.each ((List.range 8).filter (bitOf v)) (fun s k =>
    let t := 8 * (g / 8) + k
    (s.setSpr t 0x34 (bitSet (s.spr t 0x34) (g % 8))).setSpr t 0x18 (bitSet (s.spr t 0x18) 2))

/-! ### Moves in service (R195–R197, R204, R205, R215) -/

/-- The words of a move's descriptor (R209). -/
def State.descriptor (s : State) (m : Move) : List Nat :=
  [m.type * 2 ^ 26 + m.level * 2 ^ 24 + m.rlevel * 2 ^ 22 + b2n m.solo * 2 ^ 21 + b2n m.miss * 2 ^ 20 +
     s.flowHome m.flow * 2 ^ 14 + m.flow, m.stamp, m.wait * 2 ^ 16, m.d0, m.d1, m.d2, m.d3, 0]

/-- The move in service ends: its flow is released, CORE_BUSY counts its time, and the buffer or ring entry that it named is
free (R121, R210, R215, R272). [DEDUCED, log 153] -/
def State.endService (s : State) (g : Nat) : State :=
  let c := s.core_ g
  match c.insv with
  | none => s
  | some m =>
    let s := s.setCore g { c with insv := none, mv := [] }
    let s := (s.release m.flow).addN (Reg.CLUS_CORE_BUSY (g / 8) (g % 8)) (s.time.us - c.takenAt)
    if m.type = 3 then s.poolFree ((m.d0 + 2 ^ 32 - s.rn Reg.PRE_POOL_BASE * 0x100000 % 2 ^ 32) % 2 ^ 32 / 2048)
    else if m.type = 4 then s.sageFree m.flow (m.d0 % 256) else s

/-- The move in service is abandoned (R204, R205). [DEDUCED, log 153] -/
def State.abandonMove (s : State) (g : Nat) : State :=
  if (s.core_ g).insv.isSome then (s.endService g).bump (Reg.CLUS_ABANDON (g / 8)) else s

/-- The move in a core's slot returns to its ready list with its level, ready time and age (R205). -/
def State.returnSlot (s : State) (g : Nat) : State :=
  let c := s.core_ g
  match c.slot with
  | none => s
  | some m =>
    let s := (s.setCore g { c with slot := none }).release m.flow
    let m := { m with wait := 0, levelAt := s.time.us - m.levelAt }
    { s with turn := { s.turn with ready := insertReady m s.turn.ready } }

/-- A word stores to DONE, at core address 0xFF_F120. -/
def Core.storesDone (c : Core) (g w : Nat) : Bool :=
  (wKey w == 0x401 || wKey w == 0x402 || wKey w == 0x404 || (wKey w == 0x300 && bitOf w 26)) &&
  ((c.accesses w).head?.any (fun a => decide (placeOf g a.bus a.addr a.n = some (.spr 0x120))))

/-- TAKE's answer and effect, in the bundle at `b` (R195, R197). -/
def State.takeMove (s : State) (g b : Nat) : State × Nat :=
  let c := s.core_ g
  match c.slot with
  | none => (s, 0)
  | some m =>
    if c.insv.isSome || c.doneAt.any (fun k => decide (c.bundle ≤ k + 1)) ||
        (!wLast (s.pramWord g b) && c.storesDone g (s.pramWord g (b + 4))) then (s, 0)
    else
      let d := s.descriptor m
      (s.setCore g { c with slot := none, insv := some m, mv := d, takenAt := s.time.us, wdog := false }, d.headD 0)

/-- A core stops: nothing of its program is left to issue. [DEDUCED, log 143] -/
def Core.stopped (c : Core) : Core :=
  { c with state := 0, inBundle := none, branch := none, loopEnd := none, trap := none, halting := false, waiting := false }

/-- A store to DONE (R197): the move in service ends with status `st`, and MOVE_CYC stops at a free value.
[DESIGN CHOICE, log 142, 159] -/
def State.done (s : State) (g st : Nat) : State :=
  let c := s.core_ g
  let s := s.onCore g (fun c => { c with doneAt := some c.bundle })
  match c.insv with
  | none => s.err (clusPage (g / 8)) 3 g 0
  | some m =>
    let cyc := s.free % 2 ^ 32
    let s := ((s.drawn.endService g).bump (Reg.CLUS_MOVES (g / 8))).onCore g (fun c => { c with moveCyc := cyc })
    let s := if st = 0 then s else ((s.bump Reg.TURN_DONE_ERR).irq turnPage 3).err turnPage st m.flow 0
    if c.state = 3 then s.onCore g Core.stopped else s

/-! ### Access to special registers -/

/-- A write of DMA_GO with room for it (R203). -/
def State.dmaGo (s : State) (g v : Nat) : State :=
  let d : CDma := ⟨s.spr g 0x300 + 2 ^ 32 * s.spr g 0x304, s.spr g 0x308 + 2 ^ 32 * s.spr g 0x30C, s.spr g 0x310,
    v / 2 ^ 16 % 2 ^ 16, bitOf v 8⟩
  if 4 ≤ (s.core_ g).dma.length then s else s.onCore g (fun c => { c with dma := c.dma ++ [d] })

/-- Read a special register: the state after it and the value (R199, R203, R234). Counts of cycles are free values.
[DESIGN CHOICE, log 142] -/
def State.sprRead (s : State) (g off : Nat) : State × Nat :=
  let c := s.core_ g
  if off = 0 then (s, g / 8 * 2 ^ 16 + g % 8 * 2 ^ 8 + g)
  else if off = 4 then (s, s.now % 2 ^ 32)
  else if off = 8 then (s, s.time.fphase)
  else if off = 0x124 ∧ c.insv.isNone then (s, c.moveCyc)
  else if off = 0x0C ∨ off = 0x2C ∨ off = 0x124 ∨ (off = 0x10 ∧ s.spr g off ≠ 0) then (s.drawn, s.free % 2 ^ 32)
  else if off < 0x30 ∨ off = 0x34 ∨ off = 0x128 ∨ (0x300 ≤ off ∧ off ≤ 0x310) then (s, s.spr g off)
  else if 0x100 ≤ off ∧ off < 0x120 then (s, c.mv.getD ((off - 0x100) / 4) 0)
  else if off = 0x318 then (s, s.spr g off + c.dma.length)
  else if 0x400 ≤ off ∧ off < 0x600 then (s, (Tab.get (fun _ => 0) c.port.txbuf ((off - 0x400) / 4)).toNat)
  else if 0x600 ≤ off ∧ off < 0x700 then (s, (Tab.get (fun _ => 0) c.port.rxbuf ((off - 0x600) / 4)).toNat)
  else match off with
  | 0x700 => (s, c.port.txq)
  | 0x708 => (s, b2n c.port.txBusy * 2 ^ 31 + c.port.txStat)
  | 0x70C => (s, c.port.rxq)
  | 0x714 => (s, c.port.rxHdr)
  | 0x718 => (s, b2n c.port.rxTrunc * 256 + c.port.rxStat)
  | _ => (s, 0)

/-- Write a special register (R199, R203, R234). -/
def State.sprWrite (s : State) (g off v : Nat) : State :=
  let port := fun (f : QPort → QPort) => s.onCore g (fun c => { c with port := f c.port })
  if 0x400 ≤ off ∧ off < 0x600 then
    port (fun p => { p with txbuf := Tab.put (fun _ => 0) p.txbuf ((off - 0x400) / 4) (w32 v) })
  else match off with
  | 0x10 => s.setSpr g off v
  | 0x14 => s.setSpr g off (v % 8)
  | 0x18 => s.setSpr g off (s.spr g off - (s.spr g off &&& v))
  | 0x30 => s.dbSend g v
  | 0x34 => s.setSpr g off (s.spr g off - (s.spr g off &&& v))
  | 0x120 => s.done g (v % 256)
  | 0x128 => s.setSpr g off v
  | 0x200 => s.eceSubmit g v (s.spr g 0x214)
  | 0x208 => s.sageSubmit g (v % 1024) (s.spr g 0x20C)
  | 0x20C => s.setSpr g off v
  | 0x210 => s.jnlSubmit g (v % 64)
  | 0x214 => s.setSpr g off v
  | 0x300 => s.setSpr g off v
  | 0x304 => s.setSpr g off (v % 256)
  | 0x308 => s.setSpr g off v
  | 0x30C => s.setSpr g off (v % 256)
  | 0x310 => s.setSpr g off (v % 2 ^ 21)
  | 0x314 => s.dmaGo g v
  | 0x700 => port (fun p => { p with txq := v % 512 })
  | 0x704 => s.qpCommit g (w32 v)
  | 0x70C => port (fun p => { p with rxq := v % 512 })
  | 0x710 => s.qpPop g
  | _ => s

/-! ### Interrupts, exceptions and halts (R192, R193, R205) -/

/-- Entry to a vector (R178, R192): issued bundles complete, RETI and ASTATI save, IE, LA0 and LA1 clear. -/
def Core.enter (c : Core) (vec ret : Nat) : Core :=
  let c := c.drain
  let a := c.rawReg 0x2E
  let c := ((c.force 0x31 (ret % 2 ^ 16)).force 0x32 a).force 0x2E (putField a 16 2 0)
  let c := ((c.force (govLA 0) 0).force (govLA 1) 0).force 0x2F (bitClear (c.rawReg 0x2F) 4)
  { c with pc := vec, inBundle := none, branch := none, waiting := false }

/-- A core halts with a cause (R205). -/
def State.haltCore (s : State) (g cause : Nat) : State :=
  let cl := g / 8
  let (flow, type) := match (s.core_ g).insv with
    | some m => (m.flow, m.type)
    | none => (0, 0)
  let pc := s.spr g 0x24
  let s := (s.abandonMove g).returnSlot g
  let s := s.onCore g (fun c => { c.stopped with state := 2 })
  let s := s.setN (Reg.CLUS_HALT_INFO cl (g % 8)) (cause * 2 ^ 28 + pc)
  (s.irq (clusPage cl) 0).sysEvent (s.rn (Reg.CLUS_EVQ cl)) 0x20 [g, cause, pc, flow, type]

/-- An exception with its cause and RETI; one raised while EXL = 1 halts the core (R193). [DEDUCED, log 144, 146] -/
def State.exception (s : State) (g cause ret : Nat) : State :=
  let s := s.setSpr g 0x20 cause
  let s := s.onCore g (fun c => { c with trap := none, halting := false })
  if bitOf ((s.core_ g).rawReg 0x2F) 5 then s.haltCore g cause
  else s.onCore g (fun c =>
    let c := c.enter (0x10 * cause) ret
    c.force 0x2F (bitSet (c.rawReg 0x2F) 5))

/-- A precise exception of the bundle at PC: 1 ILLEGAL, 2 ADDR with the data address (R193). [DEDUCED, log 144] -/
def State.precise (s : State) (g cause addr : Nat) : State :=
  let pc := (s.core_ g).pc
  let s := s.setSpr g 0x24 pc
  let s := if cause = 2 then s.setSpr g 0x28 addr else s
  s.exception g cause pc

/-- The restoration of RTI, once the bundle at RETI issues: ASTAT, LA0, LA1 and IE (R192); EXL is clear (R193).
[DEDUCED, log 145] -/
def Core.rtiDone (c : Core) : Core :=
  match c.branch with
  | some b =>
    if b.slots = 0 then
      let a := c.reg 0x32 &&& regMask 0x2E
      let c := { c with branch := none, pend := c.pend.filter (fun p => p.reg != 0x2E && p.reg != govLA 0 && p.reg != govLA 1) }
      let c := ((c.force 0x2E a).force (govLA 0) (a / 2 ^ 16 % 2)).force (govLA 1) (a / 2 ^ 17 % 2)
      c.force 0x2F (bitClear (bitSet (c.rawReg 0x2F) 4) 5)
    else c
  | none => c

/-- The core is at a bundle boundary and runs. -/
def Core.atBoundary (c : Core) : Bool := (c.state == 1 || c.state == 3) && c.inBundle.isNone && c.loopEnd.isNone

/-- The next bundle to issue is a delay slot. -/
def Core.inSlots (c : Core) : Bool := c.branch.any (fun b => b.slots != 0)

/-! ### The end of a bundle (R177, R188, R189, R193) -/

/-- The bundle has issued and the bundle at `next` follows, unless a transfer's delay slots end here; then a HALT or TRAP
of the bundle acts. -/
def State.finish (s : State) (g next : Nat) : State :=
  let c := s.core_ g
  let (pc, branch) : Nat × Option Branch := match c.branch with
    | some ⟨t, 1, r⟩ => (t.getD next, if r then some ⟨none, 0, true⟩ else none)
    | some ⟨t, n + 1, r⟩ => (next, some ⟨t, n, r⟩)
    | _ => (next, c.branch)
  let s := s.setCore g ({ c with pc := pc % 2 ^ 16, branch := branch, inBundle := none, loopEnd := none, bundle := c.bundle + 1 }.complete
    (fun p => decide (p.due ≤ c.bundle)))
  if c.halting then s.haltCore g 5
  else match c.trap with
  | some n => (s.setSpr g 0x1C n).exception g 4 (pc % 2 ^ 16)
  | none => s

/-- Level `v` is active and its LE is one of the words of the bundle from `first` to `last`. -/
def Core.atLoopEnd (c : Core) (v first last : Nat) : Bool :=
  c.loopOn v && (c.loopEndAt v == first || c.loopEndAt v == last)

/-- The last word of the bundle from `first` to `last` has issued: a loop-end action comes first where a level ends here
(R189). -/
def State.bundleEnd (s : State) (g first last : Nat) : State :=
  let c := s.core_ g
  if c.atLoopEnd 0 first last || c.atLoopEnd 1 first last then s.setCore g { c with inBundle := none, loopEnd := some (first, last) }
  else s.finish g (last + 4)

/-- The loop-end action of level `v`, and whether it redirects (R189). [DEDUCED, log 148] -/
def Core.loopAct (c : Core) (v : Nat) : Core × Bool :=
  let lc := c.reg (govOf (0x28 + v))
  let setLC := fun (c : Core) n => (c.put (0x28 + v) 0xFFFF n 1).put (govOf (0x28 + v)) 0xFFFF n 1
  if 1 < lc then (setLC c (lc - 1), true)
  else (((setLC c 0).flags (2 ^ (16 + v)) 0 1).put (govLA v) 1 0 1, false)

/-- LOOP_END_ACTION: level 1 before level 0. -/
def State.loopEndAction (s : State) (g : Nat) : State :=
  let c := s.core_ g
  match c.loopEnd with
  | none => s
  | some (a, b) =>
    let r1 := if c.atLoopEnd 1 a b then c.loopAct 1 else (c, false)
    if r1.2 then (s.setCore g r1.1).finish g (c.loopBegin 1)
    else
      let r0 := if c.atLoopEnd 0 a b then r1.1.loopAct 0 else (r1.1, false)
      (s.setCore g r0.1).finish g (if r0.2 then c.loopBegin 0 else b + 4)

/-! ### Data accesses -/

/-- A load: its value and its latency. -/
def State.loadAt (s : State) (g : Nat) (a : Access) : State × Nat × Nat :=
  match placeOf g a.bus a.addr a.n with
  | some (.mem d l) => (s, s.rdLE d a.n, l)
  | some (.spr off) =>
    let r := s.sprRead g off
    (r.1, r.2, 3)
  | none => (s, 0, 1)

/-- A store. -/
def State.storeAt (s : State) (g : Nat) (a : Access) (v : Nat) : State :=
  match placeOf g a.bus a.addr a.n with
  | some (.mem d _) => s.wrLE d a.n v
  | some (.spr off) => s.sprWrite g off v
  | none => s

/-- A value loaded by SIZE into D register `d`. -/
def Core.putSized (c : Core) (d z v lat : Nat) : Core :=
  match z with
  | 0 => c.put d 0xFFFF v lat
  | 1 => c.put d 0xFFFF0000 (v * 2 ^ 16) lat
  | 2 => c.put d (2 ^ 32 - 1) v lat
  | _ => c.put d (2 ^ 32 - 1) (unsigned 32 (signed 16 v)) lat

/-- The value a store by SIZE takes from a D register. -/
def sized (z v : Nat) : Nat := if z = 0 then v % 2 ^ 16 else if z = 1 then v / 2 ^ 16 else v

/-- A word's access stalls the pipeline (R203, R234): DMA_GO with four transfers outstanding, or a busy queue port. -/
def State.stalls (s : State) (g w : Nat) : Bool :=
  let c := s.core_ g
  let store := if wGroup w = 3 then
      (if bitOf (fieldOf w 14 14) 13 then [bitOf w 26] else []) ++ (if bitOf (fieldOf w 0 14) 13 then [bitOf w 12] else [])
    else [decide (fieldOf w 25 3 = 1 ∨ fieldOf w 25 3 = 2 ∨ fieldOf w 25 3 = 4)]
  ((c.accesses w).zip store).any (fun e =>
    match placeOf g e.1.bus e.1.addr e.1.n with
    | some (.spr off) =>
      if e.2 then (off == 0x314 && decide (4 ≤ c.dma.length)) ||
        (c.port.txBusy && ((decide (0x400 ≤ off) && decide (off < 0x600)) || off == 0x704))
      else c.port.txBusy && off == 0x708
    | _ => false)

/-! ### Issue -/

/-- Issue the next word of core `g` when its key is `key`: `f` gives its effect from the bundle's address and the word.
The first word of a bundle that faults raises the exception instead, under its own key where that names an operation and
under BR's otherwise; a word that stalls does not issue yet. [DEDUCED, log 139] -/
def State.issue (s : State) (g key : Nat) (f : Nat → Nat → State → State) : State :=
  let c := s.core_ g
  match c.inBundle with
  | some b =>
    let w := s.pramWord g (b + 4)
    if (c.state ≠ 1 ∧ c.state ≠ 3) ∨ wKey w ≠ key ∨ s.stalls g w then s
    else (f b w s).bundleEnd g b (b + 4)
  | none =>
    if !c.atBoundary || c.waiting then s
    else
      let w := s.pramWord g c.pc
      let t := s.setCore g c.rtiDone
      match t.bundleFault g with
      | some (cause, addr) => if (if keyKnown (wKey w) then wKey w else 0x600) = key then t.precise g cause addr else s
      | none =>
        if wKey w ≠ key ∨ t.stalls g w then s
        else
          let u := f c.pc w t
          if wLast w then u.bundleEnd g c.pc c.pc else u.onCore g (fun x => { x with inBundle := some c.pc })

/-- Issue a word whose effect is on the core's own registers. [DEDUCED, log 141] -/
def State.issueC (s : State) (g key : Nat) (f : Nat → Core → Core) : State :=
  s.issue g key (fun _ w s => s.onCore g (f w))

/-! ### MAC (R180, R181) -/

/-- The exact product of two halves under SGN, doubled with F. -/
def macProduct (sgn : Nat) (dbl : Bool) (a b : Nat) : Int :=
  let x : Int := if sgn = 1 then (a % 2 ^ 16 : Nat) else signed 16 a
  let y : Int := if sgn = 0 then signed 16 b else (b % 2 ^ 16 : Nat)
  if dbl then 2 * (x * y) else x * y

/-- The accumulators a MAC word updates, each with its sum of products. -/
def Core.macTerms (c : Core) (w : Nat) : List (Nat × Int) :=
  let p := macProduct (fieldOf w 21 2) (bitOf w 20)
  let dx := fieldOf w 13 3
  let x := c.reg dx
  let y := c.reg (fieldOf w 10 3)
  let hi := fun v => v / 2 ^ 16
  let an := fieldOf w 18 2
  let quad := fun yh =>
    let z := c.reg (dx + 1)
    [(0, p x yh), (1, p (hi x) yh), (2, p z yh), (3, p (hi z) yh)]
  match fieldOf w 25 3 with
  | 0 => [(an, p (if bitOf w 17 then hi x else x) (if bitOf w 16 then hi y else y))]
  | 1 => [(an, p x y), (an + 1, p (hi x) (hi y))]
  | 2 => quad y
  | 3 => quad (hi y)
  | 4 => [(an, p x y - p (hi x) (hi y)), (an + 1, p x (hi y) + p (hi x) y)]
  | _ => [(an, p x y + p (hi x) (hi y)), (an + 1, p (hi x) y - p x (hi y))]

/-- A MAC word: `op` 0 MPY, 1 MAC, 2 MSU. -/
def Core.macWord (op w : Nat) (c : Core) : Core :=
  (c.macTerms w).foldl (fun d e =>
    let old := c.acc e.1 true
    d.putAcc e.1 (if op = 0 then e.2 else if op = 1 then old + e.2 else old - e.2) 2 1) c

/-! ### ALU (R182) -/

/-- The second source: DS2, or the immediate, applied to each half in the two-half operations. -/
def Core.aluSrc2 (c : Core) (w : Nat) (two : Bool) : Nat :=
  if bitOf w 15 then
    let i := signed 12 (fieldOf w 0 12)
    if two then unsigned 16 i * 2 ^ 16 + unsigned 16 i else unsigned 32 i
  else c.reg (fieldOf w 12 3)

/-- Set Z, N, C and V from a result; VS collects V. -/
def Core.aluFlags (c : Core) (o : AluOut) : Core :=
  let c := c.flags 0xF (b2n o.z + 2 * b2n o.n + 4 * b2n o.c + 8 * b2n o.v) 1
  if o.v then c.flags 0x10 0x10 1 else c

/-- An ALU word with a D destination. -/
def Core.aluD (f : Nat → Nat → AluOut) (two : Bool) (w : Nat) (c : Core) : Core :=
  let o := f (c.reg (fieldOf w 16 3)) (c.aluSrc2 w two)
  (c.put (fieldOf w 19 3) (2 ^ 32 - 1) o.r 1).aluFlags o

/-- An ALU word with an accumulator destination: Ad, As and the D register DS1. -/
def Core.aluA (f : Int → Int → Nat → Int) (w : Nat) (c : Core) : Core :=
  let d := fieldOf w 19 2
  c.putAcc d (f (c.acc d) (c.acc (fieldOf w 16 2)) (c.reg (fieldOf w 16 3))) 1 1

/-! ### SHF (R183, R184) -/

/-- A SHF word from D register to D register. -/
def Core.shfD (f : Core → Nat → Int → Nat) (w : Nat) (c : Core) : Core :=
  c.put (fieldOf w 19 3) (2 ^ 32 - 1) (f c (c.reg (fieldOf w 16 3)) (c.shiftCount w)) 1

/-- A SHF word that lowers DD.L to a count (EXPB, EXPB2). -/
def Core.shfMin (f : Nat → Nat) (w : Nat) (c : Core) : Core :=
  let d := fieldOf w 19 3
  c.put d 0xFFFF (min (c.reg d % 2 ^ 16) (f (c.reg (fieldOf w 16 3)))) 1

/-- A SHF word from accumulator to accumulator. -/
def Core.shfA (f : Core → Int → Int) (w : Nat) (c : Core) : Core :=
  c.putAcc (fieldOf w 19 2) (f c (c.acc (fieldOf w 16 2))) 1 1

/-- AEXP. -/
def Core.aexp (w : Nat) (c : Core) : Core :=
  c.put (fieldOf w 19 3) (2 ^ 32 - 1) (unsigned 32 (eA (c.acc (fieldOf w 16 2)))) 1

/-- ANORM. -/
def Core.anorm (w : Nat) (c : Core) : Core :=
  let n := fieldOf w 16 2
  let a := c.acc n
  (c.aexp w).putAcc n (shiftA a (eA a)) 1 1

/-- AMV. -/
def Core.amv (w : Nat) (c : Core) : Core :=
  let form := fieldOf w 13 2
  let o := c.outForm form (c.acc (fieldOf w 16 2))
  let v := if form16 form then unsigned 32 (signed 16 o.1) else o.1
  let c := c.put (fieldOf w 19 3) (2 ^ 32 - 1) v 1
  if o.2 then c.flags 0x2000 0x2000 1 else c

/-! ### DMOV and SMOV (R185, R186) -/

/-- The pointer of a move and its access. -/
def Core.moveAccess (c : Core) (b : Bus) (p0 m : Nat) : Access :=
  ⟨b, c.reg (0x10 + p0 + fieldOf m 5 2), sizeBytes (fieldOf m 10 2)⟩

/-- The load of an X-move or Y-move. -/
def State.moveLoad (s : State) (g : Nat) (b : Bus) (p0 m : Nat) : State :=
  if !bitOf m 13 || bitOf m 12 then s
  else
    let r := s.loadAt g ((s.core_ g).moveAccess b p0 m)
    r.1.onCore g (fun c => c.putSized (fieldOf m 7 3) (fieldOf m 10 2) r.2.1 r.2.2)

/-- The store of an X-move or Y-move. -/
def State.moveStore (s : State) (g : Nat) (b : Bus) (p0 m : Nat) : State :=
  if !bitOf m 13 || !bitOf m 12 then s
  else
    let c := s.core_ g
    s.storeAt g (c.moveAccess b p0 m) (sized (fieldOf m 10 2) (c.reg (fieldOf m 7 3)))

/-- The post-modify of a move (R190, R191). -/
def Core.movePost (c : Core) (p0 m : Nat) : Core :=
  let p := p0 + fieldOf m 5 2
  let n : Int := sizeBytes (fieldOf m 10 2)
  let md := fieldOf m 3 2
  if !bitOf m 13 || md == 0 then c
  else c.put (0x10 + p) 0xFFFFFF
    (c.postMod p (if md = 1 then n else if md = 2 then -n else signed 24 (c.reg (0x18 + fieldOf m 0 3))) (md == 3)) 1

/-- A DMOV word: both loads, then both stores, then both post-modifies, all from the values before the bundle.
[DEDUCED, log 141, 150] -/
def State.dmov (s : State) (g w : Nat) : State :=
  let x := fieldOf w 14 14
  let y := fieldOf w 0 14
  let s := (s.moveLoad g .x 0 x).moveLoad g .y 4 y
  let s := s.onCore g (fun c => (c.movePost 0 x).movePost 4 y)
  (s.moveStore g .x 0 x).moveStore g .y 4 y

/-- OFS. -/
def ofsOf (w : Nat) : Int := signed 16 (fieldOf w 0 16)

/-- The post-modify of an SMOV word with PM = 1. -/
def Core.smovPost (c : Core) (w : Nat) : Core :=
  let p := fieldOf w 17 3
  if bitOf w 16 then c.put (0x10 + p) 0xFFFFFF (c.postMod p (ofsOf w) false) 1 else c

/-- The access of an SMOV word. -/
def Core.smovAccess (c : Core) (w : Nat) : Access := (c.accesses w).headD ⟨.single, 0, 4⟩

/-- LD. -/
def State.ld (s : State) (g w : Nat) : State :=
  let r := s.loadAt g ((s.core_ g).smovAccess w)
  r.1.onCore g (fun c => (c.putSized (fieldOf w 20 3) (fieldOf w 23 2) r.2.1 r.2.2).smovPost w)

/-- ST. -/
def State.st (s : State) (g w : Nat) : State :=
  let c := s.core_ g
  (s.setCore g (c.smovPost w)).storeAt g (c.smovAccess w) (sized (fieldOf w 23 2) (c.reg (fieldOf w 20 3)))

/-- STA. -/
def State.sta (s : State) (g w : Nat) : State :=
  let c := s.core_ g
  let o := c.outForm (fieldOf w 23 2) (c.acc (fieldOf w 20 2))
  let d := c.smovPost w
  (s.setCore g (if o.2 then d.flags 0x2000 0x2000 1 else d)).storeAt g (c.smovAccess w) o.1

/-- LEA: no circular reduction. -/
def Core.lea (w : Nat) (c : Core) : Core :=
  c.put (0x10 + fieldOf w 20 3) 0xFFFFFF (unsigned 24 ((c.reg (0x10 + fieldOf w 17 3) : Int) + ofsOf w)) 1

/-- PUSH. -/
def State.push (s : State) (g w : Nat) : State :=
  let c := s.core_ g
  let code := fieldOf w 17 6
  let a := c.smovAccess w
  (s.setCore g (c.put 0x17 0xFFFFFF a.addr 1)).storeAt g a (extendReg code (c.reg code))

/-- POP. -/
def State.pop (s : State) (g w : Nat) : State :=
  let a := (s.core_ g).smovAccess w
  let r := s.loadAt g a
  r.1.onCore g (fun c => (c.put 0x17 0xFFFFFF ((a.addr + 4) % 2 ^ 24) 1).write (fieldOf w 17 6) r.2.1 r.2.2)

/-! ### REG (R187) -/

/-- MOV. -/
def Core.mov (w : Nat) (c : Core) : Core :=
  c.write (fieldOf w 20 6) (extendReg (fieldOf w 14 6) (c.reg (fieldOf w 14 6))) 0

/-- LDI. [DEDUCED, log 152] -/
def Core.ldi (w : Nat) (c : Core) : Core :=
  c.write (fieldOf w 20 6) (if bitOf w 19 then unsigned 32 (signed 16 (fieldOf w 0 16)) else fieldOf w 0 16) 0

/-- LDIH. -/
def Core.ldih (w : Nat) (c : Core) : Core :=
  let d := fieldOf w 20 6
  c.write d (fieldOf w 0 16 * 2 ^ 16 + c.reg d % 2 ^ 16) 0 (ldihMask d)

/-! ### CTL (R188, R189, R193, R195, R196) -/

/-- A condition of BR on ASTAT as stage D sees it. -/
def condHolds (cond a : Nat) : Bool :=
  let z := bitOf a 0
  let n := bitOf a 1
  let c := bitOf a 2
  let v := bitOf a 3
  match cond with
  | 0 => true
  | 1 => z
  | 2 => !z
  | 3 => n != v
  | 4 => n == v
  | 5 => z || n != v
  | 6 => !z && n == v
  | 7 => !c
  | 8 => c
  | 9 => n
  | 10 => !n
  | 11 => v
  | 12 => !v
  | _ => bitOf a 8

/-- A transfer word: its target, none when it is not taken. -/
def Core.transfer (c : Core) (t : Option Nat) (rti : Bool := false) : Core :=
  { c with branch := some ⟨t.map (· % 2 ^ 16), 3, rti⟩ }

/-- Target of BR and CALL in the bundle at `b`. -/
def relTarget (b w : Nat) : Nat := unsigned 16 ((b : Int) + 4 * signed 20 (fieldOf w 0 20))

/-- The bundle after the second delay slot of a transfer in the bundle at `b`. -/
def State.afterSlots (s : State) (g b : Nat) : Nat := s.afterBundle g (s.afterBundle g (s.afterBundle g b))

/-- The pointer of JMP and CALLI, as stage D sees it. -/
def Core.ptrTarget (c : Core) (w : Nat) : Nat := c.rawReg (0x10 + fieldOf w 17 3) % 2 ^ 16

/-- Set RETS. -/
def Core.link (c : Core) (r : Nat) : Core := c.put 0x30 0xFFFF r 1

/-- LOOP. [DEDUCED, log 148] -/
def State.loop (s : State) (g b w : Nat) : State :=
  let v := fieldOf w 23 1
  let lb := s.afterSlots g b
  let le := lb + 4 * fieldOf w 0 6
  s.onCore g (fun c =>
    let n := if bitOf w 22 then fieldOf w 6 16 else c.rawReg (fieldOf w 19 3) % 2 ^ 16
    let both := fun (c : Core) code x => (c.put code 0xFFFF x 1).put (govOf code) 0xFFFF x 1
    let c := both (both (both c (0x2A + v) lb) (0x2C + v) le) (0x28 + v) n
    if n = 0 then c.transfer (some (le + 4))
    else (((c.flags (2 ^ (16 + v)) (2 ^ (16 + v)) 1).put (govLA v) 1 1 1).transfer none))

end Sys2Proof.Machine
end

