-- ==== Sys2Proof/Machine/Words.lean ====
section
/-! DEFINITION. Meanings of the Yathar words (R180–R196): each issues the next word of its core when it is that word. -/

namespace Sys2Proof.Machine
open Sys2Proof

/-- MPY (R180, R181). -/
def execMpy (g : Nat) (s : State) : Res := .next (s.issueC g 0x0 (fun w => Core.macWord 0 w))

/-- MAC (R180, R181). -/
def execMac (g : Nat) (s : State) : Res := .next (s.issueC g 0x1 (fun w => Core.macWord 1 w))

/-- MSU (R180, R181). -/
def execMsu (g : Nat) (s : State) : Res := .next (s.issueC g 0x2 (fun w => Core.macWord 2 w))

/-- ADD (R182). -/
def execAdd (g : Nat) (s : State) : Res := .next (s.issueC g 0x100 (Core.aluD (aluAdd false false) false))

/-- SUB (R182). -/
def execSub (g : Nat) (s : State) : Res := .next (s.issueC g 0x101 (Core.aluD (aluAdd true false) false))

/-- ADDS (R182). -/
def execAdds (g : Nat) (s : State) : Res := .next (s.issueC g 0x102 (Core.aluD (aluAdd false true) false))

/-- SUBS (R182). -/
def execSubs (g : Nat) (s : State) : Res := .next (s.issueC g 0x103 (Core.aluD (aluAdd true true) false))

/-- ADD2 (R182). -/
def execAdd2 (g : Nat) (s : State) : Res := .next (s.issueC g 0x104 (Core.aluD (aluAdd2 false false) true))

/-- SUB2 (R182). -/
def execSub2 (g : Nat) (s : State) : Res := .next (s.issueC g 0x105 (Core.aluD (aluAdd2 true false) true))

/-- ADDS2 (R182). -/
def execAdds2 (g : Nat) (s : State) : Res := .next (s.issueC g 0x106 (Core.aluD (aluAdd2 false true) true))

/-- SUBS2 (R182). -/
def execSubs2 (g : Nat) (s : State) : Res := .next (s.issueC g 0x107 (Core.aluD (aluAdd2 true true) true))

/-- AND (R182). -/
def execAnd (g : Nat) (s : State) : Res := .next (s.issueC g 0x108 (Core.aluD (aluLogic (· &&& ·)) false))

/-- OR (R182). -/
def execOr (g : Nat) (s : State) : Res := .next (s.issueC g 0x109 (Core.aluD (aluLogic (· ||| ·)) false))

/-- XOR (R182). -/
def execXor (g : Nat) (s : State) : Res := .next (s.issueC g 0x10A (Core.aluD (aluLogic (· ^^^ ·)) false))

/-- ANDN (R182). -/
def execAndn (g : Nat) (s : State) : Res := .next (s.issueC g 0x10B (Core.aluD (aluLogic (fun a b => a &&& (2 ^ 32 - 1 - b))) false))

/-- MIN (R182). -/
def execMin (g : Nat) (s : State) : Res :=
  .next (s.issue g 0x10C (fun _ w s => s.drawn.onCore g (Core.aluD (aluPick false (bitOf s.free 0)) false w)))

/-- MAX (R182). -/
def execMax (g : Nat) (s : State) : Res :=
  .next (s.issue g 0x10D (fun _ w s => s.drawn.onCore g (Core.aluD (aluPick true (bitOf s.free 0)) false w)))

/-- ABS (R182). -/
def execAbs (g : Nat) (s : State) : Res :=
  .next (s.issue g 0x10E (fun _ w s => s.drawn.onCore g (Core.aluD (fun a _ => aluAbs (bitOf s.free 0) a) false w)))

/-- NEG (R182). -/
def execNeg (g : Nat) (s : State) : Res := .next (s.issueC g 0x10F (Core.aluD (fun a _ => aluNeg a) false))

/-- CMP (R182). -/
def execCmp (g : Nat) (s : State) : Res := .next (s.issueC g 0x110 (fun w c => c.aluFlags (aluAdd true false (c.reg (fieldOf w 16 3)) (c.aluSrc2 w false))))

/-- AADD (R182). -/
def execAadd (g : Nat) (s : State) : Res := .next (s.issueC g 0x120 (Core.aluA (fun d a _ => d + a)))

/-- ASUB (R182). -/
def execAsub (g : Nat) (s : State) : Res := .next (s.issueC g 0x121 (Core.aluA (fun d a _ => d - a)))

/-- ANEG (R182). -/
def execAneg (g : Nat) (s : State) : Res := .next (s.issueC g 0x122 (Core.aluA (fun _ a _ => -a)))

/-- AABS (R182). -/
def execAabs (g : Nat) (s : State) : Res := .next (s.issueC g 0x123 (Core.aluA (fun _ a _ => (a.natAbs : Int))))

/-- ACLR (R182). -/
def execAclr (g : Nat) (s : State) : Res := .next (s.issueC g 0x124 (Core.aluA (fun _ _ _ => 0)))

/-- ALD (R182). -/
def execAld (g : Nat) (s : State) : Res := .next (s.issueC g 0x125 (Core.aluA (fun _ _ r => signed 32 r)))

/-- ALDH (R182). -/
def execAldh (g : Nat) (s : State) : Res := .next (s.issueC g 0x126 (Core.aluA (fun _ _ r => signed 32 r * 2 ^ 16)))

/-- AMOV (R182). -/
def execAmov (g : Nat) (s : State) : Res := .next (s.issueC g 0x127 (Core.aluA (fun _ a _ => a)))

/-- ASH (R183). -/
def execAsh (g : Nat) (s : State) : Res := .next (s.issueC g 0x200 (Core.shfD (fun _ v n => shfArith 32 false v n)))

/-- LSH (R183). -/
def execLsh (g : Nat) (s : State) : Res := .next (s.issueC g 0x201 (Core.shfD (fun _ v n => shfLogic v n)))

/-- ROT (R183). -/
def execRot (g : Nat) (s : State) : Res := .next (s.issueC g 0x202 (Core.shfD (fun _ v n => shfRot v n)))

/-- ASHS (R183). -/
def execAshs (g : Nat) (s : State) : Res := .next (s.issueC g 0x203 (Core.shfD (fun _ v n => shfArith 32 true v n)))

/-- ASH2 (R183). -/
def execAsh2 (g : Nat) (s : State) : Res := .next (s.issueC g 0x204 (Core.shfD (fun _ v n => shfArith 16 false (v / 2 ^ 16) n * 2 ^ 16 + shfArith 16 false v n)))

/-- EXP (R183). -/
def execExp (g : Nat) (s : State) : Res := .next (s.issueC g 0x210 (Core.shfD (fun _ v _ => e32 v)))

/-- EXP16 (R183). -/
def execExp16 (g : Nat) (s : State) : Res := .next (s.issueC g 0x211 (Core.shfD (fun _ v _ => e16 v)))

/-- NORM (R183). -/
def execNorm (g : Nat) (s : State) : Res := .next (s.issueC g 0x214 (Core.shfD (fun _ v _ => v * 2 ^ e32 v % 2 ^ 32)))

/-- AASH (R183). -/
def execAash (g : Nat) (s : State) : Res := .next (s.issueC g 0x208 (fun w c => Core.shfA (fun d a => shiftA a (d.shiftCount w)) w c))

/-- EXPB (R183). -/
def execExpb (g : Nat) (s : State) : Res := .next (s.issueC g 0x212 (Core.shfMin e32))

/-- EXPB2 (R183). -/
def execExpb2 (g : Nat) (s : State) : Res := .next (s.issueC g 0x213 (Core.shfMin (fun v => min (e16 (v / 2 ^ 16)) (e16 v))))

/-- AEXP (R183). -/
def execAexp (g : Nat) (s : State) : Res := .next (s.issueC g 0x215 (Core.aexp))

/-- ANORM (R183). -/
def execAnorm (g : Nat) (s : State) : Res := .next (s.issueC g 0x216 (Core.anorm))

/-- ASAT (R183). -/
def execAsat (g : Nat) (s : State) : Res := .next (s.issueC g 0x218 (Core.shfA (fun _ a => satTo (-(2 ^ 31)) (2 ^ 31 - 1) a)))

/-- ARND (R183, R184). -/
def execArnd (g : Nat) (s : State) : Res := .next (s.issueC g 0x219 (Core.shfA (fun c a => sra (c.rnd a) 16 * 2 ^ 16)))

/-- AMV (R184). -/
def execAmv (g : Nat) (s : State) : Res := .next (s.issueC g 0x21C (Core.amv))

/-- DMOV (R185). -/
def execDmov (g : Nat) (s : State) : Res := .next (s.issue g 0x300 (fun _ w s => s.dmov g w))

/-- LD (R186). -/
def execLd (g : Nat) (s : State) : Res := .next (s.issue g 0x400 (fun _ w s => s.ld g w))

/-- ST (R186). -/
def execSt (g : Nat) (s : State) : Res := .next (s.issue g 0x401 (fun _ w s => s.st g w))

/-- STA (R184, R186). -/
def execSta (g : Nat) (s : State) : Res := .next (s.issue g 0x402 (fun _ w s => s.sta g w))

/-- LEA (R186). -/
def execLea (g : Nat) (s : State) : Res := .next (s.issueC g 0x403 (Core.lea))

/-- PUSH (R186). -/
def execPush (g : Nat) (s : State) : Res := .next (s.issue g 0x404 (fun _ w s => s.push g w))

/-- POP (R186). -/
def execPop (g : Nat) (s : State) : Res := .next (s.issue g 0x405 (fun _ w s => s.pop g w))

/-- MOV (R187). -/
def execMov (g : Nat) (s : State) : Res := .next (s.issueC g 0x500 (Core.mov))

/-- LDI (R187). -/
def execLdi (g : Nat) (s : State) : Res := .next (s.issueC g 0x501 (Core.ldi))

/-- LDIH (R187). -/
def execLdih (g : Nat) (s : State) : Res := .next (s.issueC g 0x502 (Core.ldih))

/-- BR (R188). [DEDUCED, log 140] -/
def execBr (g : Nat) (s : State) : Res := .next (s.issue g 0x600 (fun b w s => s.onCore g (fun c =>
    c.transfer (if condHolds (fieldOf w 20 4) (c.rawReg 0x2E) then some (relTarget b w) else none))))

/-- CALL (R188). -/
def execCall (g : Nat) (s : State) : Res := .next (s.issue g 0x601 (fun b w s =>
    s.onCore g (fun c => (c.link (s.afterSlots g b)).transfer (some (relTarget b w)))))

/-- JMP (R188). -/
def execJmp (g : Nat) (s : State) : Res := .next (s.issueC g 0x602 (fun w c => c.transfer (some (c.ptrTarget w))))

/-- CALLI (R188). -/
def execCalli (g : Nat) (s : State) : Res := .next (s.issue g 0x603 (fun b w s =>
    s.onCore g (fun c => (c.link (s.afterSlots g b)).transfer (some (c.ptrTarget w)))))

/-- RTS (R188). -/
def execRts (g : Nat) (s : State) : Res := .next (s.issueC g 0x604 (fun _ c => c.transfer (some (c.rawReg 0x30))))

/-- RTI (R192). -/
def execRti (g : Nat) (s : State) : Res := .next (s.issueC g 0x605 (fun _ c => c.transfer (some (c.rawReg 0x31)) true))

/-- LOOP (R189). -/
def execLoop (g : Nat) (s : State) : Res := .next (s.issue g 0x606 (fun b w s => s.loop g b w))

/-- TAKE (R195). -/
def execTake (g : Nat) (s : State) : Res := .next (s.issue g 0x607 (fun b w s =>
    let r := s.takeMove g b
    r.1.onCore g (fun c => c.put (fieldOf w 19 3) (2 ^ 32 - 1) r.2 3)))

/-- WAIT (R196). -/
def execWait (g : Nat) (s : State) : Res := .next (s.issueC g 0x608 (fun _ c => { c with waiting := c.slot.isNone }))

/-- TRAP (R193). -/
def execTrap (g : Nat) (s : State) : Res := .next (s.issueC g 0x609 (fun w c => { c with trap := some (fieldOf w 0 8) }))

/-- HALT (R193, R205). -/
def execHalt (g : Nat) (s : State) : Res := .next (s.issueC g 0x60A (fun _ c => { c with halting := true }))

/-- NOP (R187). -/
def execNop (g : Nat) (s : State) : Res := .next (s.issueC g 0x60F (fun _ c => c))

/-- LOOP_END_ACTION (R189). -/
def execLoopEndAction (g : Nat) (s : State) : Res := .next (s.loopEndAction g)

end Sys2Proof.Machine
end

