-- ==== Sys2Proof/Machine/Cluster.lean ====
section
/-! DEFINITION. Interrupts of a core, its moves' end and its cluster DMA (R192, R197–R199, R202, R203), control of the cores
(R204), signed code (R200) and the cluster reset (R22). -/

namespace Sys2Proof.Machine
open Sys2Proof

/-! ### Interrupts (R192, R198, R199) -/

/-- The interrupt a core would take: 0 DMA, 1 TIMER, 2 DOORBELL. -/
def State.intPending (s : State) (g : Nat) : Option Nat :=
  [0, 1, 2].find? (fun i => bitOf (s.spr g 0x18) i && bitOf (s.spr g 0x14) i)

/-- Interrupt entry at a bundle boundary (R192, R196). -/
def State.interruptEntry (s : State) (g : Nat) : State :=
  let c := s.core_ g
  if !c.atBoundary || c.inSlots || !bitOf (c.reg 0x2F) 4 then s
  else match s.intPending g with
  | some i => s.setCore g (c.rtiDone.enter (0x50 + 0x10 * i) c.pc)
  | none => s

/-- TIMER reaches 0 (R199). -/
def State.timerExpire (s : State) (g : Nat) : State :=
  if s.spr g 0x10 = 0 then s else (s.setSpr g 0x10 0).setSpr g 0x18 (bitSet (s.spr g 0x18) 1)

/-- MOVE_CYC reaches MOVE_LIMIT: WDOG is raised once for the move, at a bundle boundary (R198). [DESIGN CHOICE, log 147] -/
def State.watchdog (s : State) (g : Nat) : State :=
  let c := s.core_ g
  if s.spr g 0x128 = 0 ∨ c.insv.isNone ∨ c.wdog ∨ !c.atBoundary ∨ c.waiting then s
  else (s.setCore g { c.rtiDone with wdog := true }).exception g 3 c.pc

/-! ### Cluster DMA (R202, R203) -/

/-- `n` bytes from `a` lie in the XRAM or the YRAM of a core of cluster `cl`. -/
def inCoreRam (cl a n : Nat) : Bool :=
  let b := xramBase (8 * cl)
  let o := (a - b) % 0x10000
  decide (b ≤ a ∧ a + n ≤ b + 0x100000 ∧ o < 0x8000 ∧ o + n ≤ 0x8000)

/-- A range that the DMA of cluster `cl` reaches. -/
def State.dmaMapped (s : State) (cl a n : Nat) : Bool := s.devMapped a n || inCoreRam cl a n

/-- Bytes read for a requester: a poisoned line reads as zeros (R203). -/
def State.cleanBytes (s : State) (a n : Nat) : List Nat :=
  (List.range n).map (fun i => if s.poisoned (a + i) 1 then 0 else s.rd8 (a + i))

/-- The status of a transfer; none while far memory holds its requests (R203, R313). -/
def State.dmaStatus (s : State) (cl : Nat) (d : CDma) : Option Nat :=
  if d.src % 4 ≠ 0 ∨ d.dst % 4 ≠ 0 ∨ d.len % 4 ≠ 0 ∨ d.len < 4 ∨ 1048576 < d.len ∨
      !s.dmaMapped cl d.src d.len ∨ !s.dmaMapped cl d.dst d.len then some 3
  else
    let f := fun a => if inFar a d.len then s.farStatus a d.len else some 0
    match f d.src, f d.dst with
    | some 0, some 0 => some (if s.poisoned d.src d.len then 0x0E else 0)
    | some 0x0C, _ => some 0x0C
    | _, some 0x0C => some 0x0C
    | _, _ => none

/-- The oldest transfer of a core completes (R203). With TIMEOUT the bytes moved before the loss are a free value.
[DESIGN CHOICE, log 155] -/
def State.dmaDone (s : State) (g : Nat) : State :=
  let cl := g / 8
  match (s.core_ g).dma with
  | [] => s
  | d :: rest =>
    match s.dmaStatus cl d with
    | none => s
    | some st =>
      let n := if st = 3 then 0 else if st = 0x0C then s.free % (d.len / 4) * 4 else d.len
      let s := if st = 0x0C then s.drawn else s
      let s := (s.wrDev d.dst (s.cleanBytes d.src n)).add64 (Reg.CLUS_DMA_BYTES_LO cl) n
      let s := s.onCore g (fun c => { c with dma := rest })
      let s := s.setSpr g 0x318 (st * 2 ^ 24 + d.tag * 2 ^ 8)
      let s := if d.irq then s.setSpr g 0x18 (bitSet (s.spr g 0x18) 0) else s
      if st = 0 then s else (s.bump (Reg.CLUS_DMA_ERR_CNT cl)).irq (clusPage cl) 1

/-! ### Core control (R204) -/

/-- A refused write of CORE_CTL. -/
def State.coreRefused (s : State) (g st : Nat) : State :=
  s.cfgErr (clusPage (g / 8)) (some 2) st (Reg.CLUS_CORE_CTL (g / 8) (g % 8))

/-- START, STOP or DRAIN of core `g`; none where R204 has no row for its state.
[DESIGN CHOICE, log 17; DEDUCED, log 143, 154] -/
def State.coreAct (s : State) (g v : Nat) : Option State :=
  let c := s.core_ g
  let stop := fun (s : State) => ((s.abandonMove g).returnSlot g).onCore g Core.stopped
  match v % 8, c.state with
  | 0, _ => some s
  | 1, 0 => some (((s.wake (clusPage (g / 8))).setCore g { state := 1, spr := c.spr, dma := c.dma, port := c.port }).setN (Reg.CLUS_HALT_INFO (g / 8) (g % 8)) 0)
  | 2, 1 => some (stop s)
  | 2, 2 => some (stop s)
  | 2, 3 => some (stop s)
  | 4, 1 =>
    let s := s.returnSlot g
    some (s.onCore g (fun c => if c.insv.isSome then { c with state := 3 } else c.stopped))
  | _, _ => none

/-- A write of CORE_CTL of core `g` (R204). [DEDUCED, log 154] -/
def State.writeCoreCtl (s : State) (g v : Nat) : State :=
  if 1 < popCount 3 v then s.coreRefused g 3
  else match s.coreAct g v with
  | some t => t.setN (Reg.CLUS_CORE_CTL (g / 8) (g % 8)) (v &&& 0x100)
  | none => s.coreRefused g 2

/-- CORE_STAT as it reads. -/
def State.coreStat (s : State) (g : Nat) : Nat :=
  let c := s.core_ g
  let (t, f) := match c.insv with
    | some m => (m.type, m.flow)
    | none => (0, 0)
  c.state * 2 ^ 30 + b2n c.slot.isSome * 2 ^ 29 + b2n c.insv.isSome * 2 ^ 28 + b2n c.waiting * 2 ^ 27 + t * 2 ^ 18 + f

/-! ### Signed code (R200, R201) -/

/-- Write bytes into the PRAM of core `g`. -/
def State.wrPram (s : State) (g a : Nat) (l : List Nat) : State :=
  s.each (l.zip (List.range l.length)) (fun s e =>
    let k := 0x3000 * g + (a + e.2) / 4
    let old := (Tab.get (fun _ => 0) s.core.pram k).toNat
    { s with core := { s.core with
      pram := Tab.put (fun _ => 0) s.core.pram k (w32 (putField old (8 * ((a + e.2) % 4)) 8 e.1)) } })

/-- Size of a segment target, 0 for an unknown one. -/
def segRoom (t : Nat) : Nat :=
  match t with
  | 0x10 => 0xC000
  | 0x11 => 0x8000
  | 0x12 => 0x8000
  | 0x13 => 0x100000
  | _ => 0

/-- A segment is refused: an unknown target, outside its bounds, or customer code outside its part of PRAM. -/
def segBad (signer : Nat) (e : Nat × Nat × Nat × Nat) : Bool :=
  decide (segRoom e.1 < e.2.2.2 + e.2.2.1) || segRoom e.1 == 0 ||
  (decide (1 ≤ signer) && e.1 == 0x10 && decide (e.2.2.2 < 0x8000))

/-- Write one segment's bytes into a cluster's named cores. -/
def State.wrSegment (s : State) (cl cores : Nat) (target a : Nat) (l : List Nat) : State :=
  if target = 0x13 then s.wrBytes (sramBase cl + a) l
  else s.each ((List.range 8).filter (bitOf cores)) (fun s k =>
    let g := 8 * cl + k
    if target = 0x10 then s.wrPram g a l else s.wrBytes (xramBase g + (if target = 0x12 then 0x10000 else 0) + a) l)

/-- CODE_LOAD (R200). The named clusters wake first (R368). A line of a segment that reads POISON ends the load in the first
cluster, with the bytes before it written; one elsewhere in the image ends it before a byte is written. In either failure
every byte written is zeroed. [DESIGN CHOICE, log 17; DEDUCED, log 156] -/
def State.cmdCodeLoad (s : State) (r : CmdRef) (addr clusters cores : Nat) : State :=
  let ans := fun (s : State) st => s.respondA r 0xF8 st [noObject]
  let total := leNat (s.rdBytes (addr + 0x10) 4)
  let cls := (List.range 16).filter (bitOf clusters)
  let gs := cls.flatMap (fun cl => ((List.range 8).filter (bitOf cores)).map (8 * cl + ·))
  if !s.commandRight r.win 0xF8 then ans (s.noRights r.win 0xF8) 4
  else if cls.isEmpty ∨ cores % 256 = 0 ∨ addr % 8 ≠ 0 ∨ !inNear addr 0x1600 ∨ !inNear addr total then ans s 3
  else if gs.any (fun g => (s.core_ g).state != 0) then ans s 2
  else
    let b := s.rdBytes addr total
    let st := s.checkSigned b 2
    let segs := segments b
    if st ≠ 0 then (if st = 4 then ans (s.noRights r.win 0xF8) 4 else ans s st)
    else if segs.any (segBad (b.getD 7 0)) then ans s 3
    else
      let s := s.each cls (fun s cl => s.wake (clusPage cl))
      let zero := fun (s : State) (cls : List Nat) (l : List (Nat × Nat × Nat × Nat)) =>
        s.each cls (fun s cl => s.each l (fun s e => s.wrSegment cl cores e.1 e.2.2.2 (List.replicate e.2.2.1 0)))
      if s.poisoned addr total then
        let bad := fun (e : Nat × Nat × Nat × Nat) => s.poisoned (addr + e.2.1) e.2.2.1
        let written := match segs.find? bad with
          | some e => segs.takeWhile (fun e => !bad e) ++
              [(e.1, e.2.1, (firstFrom (fun i => s.poisoned (addr + e.2.1 + i) 1) e.2.2.1 0).getD 0, e.2.2.2)]
          | none => []
        ans (zero s (cls.take 1) written) 0x0E
      else if containerDigest b ≠ slice b 0x140 32 then ans (zero s cls segs) 7
      else
        let s := s.each cls (fun s cl =>
          (s.each segs (fun s e => s.wrSegment cl cores e.1 e.2.2.2 (slice b e.2.1 e.2.2.1))).setMeas (1 + cl) (slice b 0x140 32))
        ans s 0

/-! ### The cluster reset (R22) -/

/-- A write of CLUS.RST of cluster `cl` (R22). [DEDUCED, log 158] -/
def State.clusRst (s : State) (cl : Nat) : State :=
  let s := s.each (List.range 8) (fun s k => ((s.abandonMove (8 * cl + k)).returnSlot (8 * cl + k)).setCore (8 * cl + k) {})
  let s := ((s.eceClear cl).sageClear cl).ciphZero cl
  let lost := (s.jbe.ctxs.filter (fun e => e.2.state != 0 && e.2.home == cl)).map (fun e => (e.1, e.2.evq))
  let s := (s.each lost (fun s e => s.endCtx e.1 3)).ciphRebuild cl
  let s := s.each lost (fun s e => s.event e.2 0x81 [e.1, cl, s.now % 2 ^ 32])
  (s.pageReset (clusPage cl) (clusPage (cl + 1))).headerReset (clusPage cl)

/-! ### Meanings -/

/-- INTERRUPT_ENTRY (R192). -/
def execInterruptEntry (g : Nat) (s : State) : Res := .next (s.interruptEntry g)

/-- CORE_TIMER_EXPIRE (R199). -/
def execCoreTimerExpire (g : Nat) (s : State) : Res := .next (s.timerExpire g)

/-- WDOG (R198). -/
def execWdog (g : Nat) (s : State) : Res := .next (s.watchdog g)

/-- DB_SEND (R199). -/
def execDbSend (g : Nat) (v : Word) (s : State) : Res := .next (s.dbSend g v.toNat)

/-- DONE (R197). -/
def execDone (g : Nat) (v : Word) (s : State) : Res := .next (s.done g (v.toNat % 256))

/-- DMA_GO (R203). -/
def execDmaGo (g : Nat) (v : Word) (s : State) : Res := .next (s.dmaGo g v.toNat)

/-- DMA_TRANSFER_DONE (R203). -/
def execDmaTransferDone (g : Nat) (s : State) : Res := .next (s.dmaDone g)

/-- CODE_LOAD (R200). -/
def execCodeLoad (r : CmdRef) (addr clusters cores : Nat) (s : State) : Res := .next (s.carryOut r 0xF8 (·.cmdCodeLoad r addr clusters cores))

/-- The value that commands core `g` through CORE_CTL: DISP as it stands, and one of START (0), STOP (1) and DRAIN (2). -/
def State.ctlValue (s : State) (g i : Nat) : Nat := s.fld (Reg.CLUS_CORE_CTL (g / 8) (g % 8)) 8 1 * 256 + 2 ^ i

/-- A host write of CORE_CTL of one of the 128 cores. -/
def State.hostCore (s : State) (w : Win) (g i : Nat) : State :=
  if g < 128 then s.hostGuard w (Reg.CLUS_CORE_CTL (g / 8) (g % 8)) true (fun t => t.writeCoreCtl g (s.ctlValue g i)) else s

/-- CORE_START (R204). -/
def execCoreStart (w : Win) (g : Nat) (s : State) : Res := .next (s.hostCore w g 0)

/-- CORE_STOP (R204). -/
def execCoreStop (w : Win) (g : Nat) (s : State) : Res := .next (s.hostCore w g 1)

/-- CORE_DRAIN (R204). -/
def execCoreDrain (w : Win) (g : Nat) (s : State) : Res := .next (s.hostCore w g 2)

/-- CLUS_RST (R22). -/
def execClusRst (w : Win) (c : Nat) (s : State) : Res := .next (s.hostGuard w (clusPage c + 0x30) true (·.clusRst c))

end Sys2Proof.Machine
end

