-- ==== Sys2Proof/Machine/Host.lean ====
section
/-! DEFINITION. The HOST and PWR blocks (R353–R371): the PCIe link, MSI-X vectors, host DMA, the device resets, power states
and temperature. -/

namespace Sys2Proof.Machine
open Sys2Proof

/-- First pages of HOST, PWR and MISC. -/
def hostPage : Nat := 0xC0000
def pwrPage : Nat := 0xD0000
def miscPage : Nat := 0xE0000

/-! ### Interrupt sources and vectors (R355, R356) -/

/-- First page of instance `i` of block type `t` (R372). -/
def blkPage (t i : Nat) : Nat :=
  if t = 0 then 0
  else if t = 1 then 0x1000 + i * 0x1000
  else if t = 2 then 0x8000
  else if t ≤ 8 then (t - 2) * 0x10000 + i * 0x1000
  else match t with
    | 9 => 0x70000
    | 10 => 0x78000
    | 11 => 0x80000
    | 12 => 0x88000
    | 13 => 0x90000 + i * 0x1000
    | 14 => 0x98000
    | 15 => 0xA0000
    | 16 => 0xB0000
    | 17 => 0xC0000
    | 18 => 0xD0000
    | _ => 0xE0000

/-- Instances of block type `t`. -/
def blkCount (t : Nat) : Nat := if t = 1 ∨ t = 13 then 4 else if 3 ≤ t ∧ t ≤ 8 then 16 else 1

/-- IRQ_PEND of a block's first page. -/
def State.irqPend (s : State) (page : Nat) : Nat := s.rn (page + 0x10) &&& s.rn (page + 0x14)

/-- IRQ_BLK: the instances of a type that are pending. -/
def State.irqBlk (s : State) (t : Nat) : Nat :=
  ((List.range (blkCount t)).map (fun i => b2n (s.irqPend (blkPage t i) != 0) * 2 ^ i)).sum

/-- QNE of a queue: it holds a committed item (R229). [DEDUCED, log 166] -/
def State.qne (s : State) (q : Nat) : Bool := !(s.que q).items.isEmpty || (s.que q).left != 0

/-- A source is asserted (R355). -/
def State.srcOn (s : State) (k : Nat) : Bool :=
  if k < 16 then s.qne (16 + k)
  else if k < 24 then s.bit (Reg.HOST_STAT (k - 16)) 8
  else s.irqBlk (k - 24) != 0

/-- SRC_EN of a source. -/
def State.srcEn (s : State) (k : Nat) : Bool :=
  if k < 32 then s.bit Reg.HOST_SRC_EN_LO k else s.bit Reg.HOST_SRC_EN_HI (k - 32)

/-- A source that counts drives the vector. -/
def State.vecOn (s : State) (v : Nat) : Bool :=
  (List.range 44).any (fun k => s.srcEn k && s.fld (Reg.HOST_SRC_MAP k) 0 6 == v && s.srcOn k)

/-- A message of the vector is held: its table entry or the function is masked, or MSI-X is off. -/
def State.vecHeld (s : State) (v : Nat) : Bool :=
  !s.host.msixEn || s.host.msixMask || s.bit (Reg.HOST_MSIX_TABLE (4 * v + 3)) 0

/-- The vector's message leaves: address and data of its table entry. [DEDUCED, log 171] -/
def State.vecSend (s : State) (v : Nat) : State :=
  let a := Reg.HOST_MSIX_TABLE (4 * v)
  { s with host := { s.host with
      pba := bitClear s.host.pba v
      lastMsg := Tab.put (fun _ => none) s.host.lastMsg v
        (some (s.time.us, s.rn a + 2 ^ 32 * s.rn (a + 4), s.rn (a + 8))) } }

/-- HOLDOFF µs have passed since the vector's last message. -/
def State.holdoffOk (s : State) (v : Nat) : Bool :=
  match Tab.get (fun _ => none) s.host.lastMsg v with
  | some (t, _) => decide (t + s.fld Reg.HOST_HOLDOFF 0 16 ≤ s.time.us)
  | none => true

/-- An ARMED vector with an asserted source sends, or holds, its message and becomes FIRED. [DEDUCED, log 171] -/
def State.vecTry (s : State) (v : Nat) : State :=
  if 63 < v ∨ bitOf s.host.fired v ∨ !s.vecOn v ∨ !s.holdoffOk v then s
  else
    let s := { s with host := { s.host with fired := bitSet s.host.fired v } }
    if s.vecHeld v then { s with host := { s.host with pba := bitSet s.host.pba v } } else s.vecSend v

/-- Held messages that nothing holds any more are sent. -/
def State.vecRelease (s : State) : State :=
  s.each (List.range 64) (fun s v => if bitOf s.host.pba v && !s.vecHeld v then s.vecSend v else s)

/-- A write of VEC_REARM. -/
def State.vecRearm (s : State) (v : Word) : State :=
  let k := v.toNat % 64
  ({ s with host := { s.host with fired := bitClear s.host.fired k } }).vecTry k

/-- A write into the MSI-X table. -/
def State.msixWrite (s : State) (a : Nat) (v : Word) : State :=
  if 0xC1400 ≤ a ∧ a < 0xC1800 ∧ a % 4 = 0 then (s.setReg a v).vecRelease else s

/-- A write in configuration space. [DEDUCED, log 167] -/
def State.cfgSpace (s : State) (en mask d3 : Bool) : State :=
  ({ s with host := { s.host with msixEn := en, msixMask := mask, d3 := d3 } }).vecRelease

/-! ### Host DMA (R357–R359) -/

/-- The PCIe link is up. -/
def State.linkUp (s : State) : Bool := s.bit Reg.HOST_HOST_STAT 31

/-- Descriptors of a channel's ring. -/
def State.hostRingN (s : State) (k : Nat) : Nat := 16 * 2 ^ s.fld (Reg.HOST_RING_CFG k) 16 4

/-- The ring lies in near memory. -/
def State.ringNear (s : State) (k : Nat) : Bool := s.bit (Reg.HOST_RING_CFG k) 30

/-- Address of the descriptor at HEAD: a PCIe address, or a device address with LOC = 1. -/
def State.descAddr (s : State) (k : Nat) : Nat :=
  let hi := s.rn (Reg.HOST_RING_HI k)
  s.rn (Reg.HOST_RING_LO k) + 2 ^ 32 * (if s.ringNear k then hi % 256 else hi) + 32 * s.rn (Reg.HOST_HEAD k)

/-- The channel is enabled and owns a descriptor. -/
def State.dmaActive (s : State) (k : Nat) : Bool :=
  s.bit (Reg.HOST_RING_CFG k) 31 && s.rn (Reg.HOST_HEAD k) != s.rn (Reg.HOST_TAIL k)

/-- Bytes of the ring's memory. -/
def State.ringRead (s : State) (k a n : Nat) : List Nat :=
  if s.ringNear k then s.rdBytes a n else rdList s.hostMem a n

/-- Write bytes into the ring's memory. -/
def State.ringWrite (s : State) (k a : Nat) (l : List Nat) : State :=
  if s.ringNear k then s.wrDev a l else { s with hostMem := wrList s.hostMem a l }

/-- Bytes with zeros in place of the poisoned ranges (offset, length). -/
def zeroRanges (l : List Nat) (bad : List (Nat × Nat)) : List Nat :=
  (l.zip (List.range l.length)).map (fun e => if bad.any (fun b => decide (b.1 ≤ e.2 ∧ e.2 < b.1 + b.2)) then 0 else e.1)

/-- A descriptor of 32 bytes (R358). -/
structure HostDesc where
  host : Nat
  dev : Nat
  ctl : Nat
  len : Nat
  deriving DecidableEq, Repr

/-- Read it. -/
def HostDesc.ofBytes (b : List Nat) : HostDesc :=
  { host := leNat (slice b 0 8), dev := leNat (slice b 8 5), ctl := b.getD 13 0, len := leNat (slice b 16 4) }

/-- A field is out of range, or the device range is not mapped (R359). -/
def State.descBad (s : State) (d : HostDesc) : Bool :=
  d.host % 4 != 0 || d.dev % 4 != 0 || d.len % 4 != 0 || d.len == 0 || decide (4194304 < d.len) || decide (3 < d.ctl) ||
  !s.devMapped d.dev d.len

/-- Move `m` bytes of a descriptor: the state after, and whether a line or a completion was poisoned. -/
def State.descMove (s : State) (d : HostDesc) (m : Nat) (bad : List (Nat × Nat)) : State × Bool :=
  if bitOf d.ctl 0 then ({ s with hostMem := wrList s.hostMem d.host (s.cleanBytes d.dev m) }, s.poisoned d.dev m)
  else (s.wrDev d.dev (zeroRanges (rdList s.hostMem d.host m) bad), bad.any (fun b => decide (b.1 < m) && decide (0 < b.2)))

/-- STATUS and DONE go into the descriptor, HEAD moves on, and the channel's counts and STAT follow (R359). -/
def State.descEnd (s : State) (k st m : Nat) (irq : Bool) : State :=
  let s := s.ringWrite k (s.descAddr k + 24) [st, 1]
  let s := s.setN (Reg.HOST_HEAD k) ((s.rn (Reg.HOST_HEAD k) + 1) % s.hostRingN k)
  let s := s.add64 (Reg.HOST_BYTES_LO k) m
  let s := s.setFld (Reg.HOST_STAT k) 0 8 st
  let s := if irq || st != 0 then s.setFld (Reg.HOST_STAT k) 8 1 1 else s
  if st = 0 then s else s.bump (Reg.HOST_ERR_CNT k)

/-- The next descriptor of channel `k`. `st` and `n` say how the host's side ended: 0; 0x0A unsupported request or
completer abort, 0x0C no completion, after `n` bytes; `bad` gives the poisoned completions. -/
def State.hostDma (s : State) (k st n : Nat) (bad : List (Nat × Nat)) : State :=
  if 7 < k ∨ !s.dmaActive k ∨ !s.linkUp then s
  else
    let d := HostDesc.ofBytes (s.ringRead k (s.descAddr k) 32)
    let irq := bitOf d.ctl 1
    if s.descBad d then s.descEnd k 3 0 irq
    else match (if inFar d.dev d.len then s.farStatus d.dev d.len else some 0) with
    | none => s
    | some 0 =>
      let st := if st = 0x0A ∨ st = 0x0C then st else 0
      let m := if st = 0 then d.len else min n d.len
      let (t, poison) := s.descMove d m bad
      let t := if st = 0x0A then t.bump Reg.HOST_UR_CNT else if st = 0x0C then t.bump Reg.HOST_CPL_TO_CNT else t
      let t := t.addN Reg.HOST_POISON_CNT bad.length
      t.descEnd k (if st ≠ 0 then st else if poison then 0x0E else 0) m irq
    | some f => s.descEnd k f 0 irq

/-- A write of TAIL: a value beyond the ring is refused. -/
def State.writeHostTail (s : State) (k : Nat) (v : Word) : State :=
  let t := v.toNat % 4096
  if s.hostRingN k ≤ t then s.cfgErr hostPage (some 1) 3 (Reg.HOST_TAIL k) else s.setN (Reg.HOST_TAIL k) t

/-- A write of RING_CFG: refused while EN = 1; enabling clears HEAD and TAIL. -/
def State.writeRingCfg (s : State) (k : Nat) (v : Word) : State :=
  let a := Reg.HOST_RING_CFG k
  if s.bit a 31 then s.cfgErr hostPage (some 1) 2 a
  else if 8 < fieldOf v.toNat 16 4 then s.cfgErr hostPage (some 1) 3 a
  else
    let s := s.setReg a (v &&& 0xC00F0000#32)
    if bitOf v.toNat 31 then (s.setN (Reg.HOST_HEAD k) 0).setN (Reg.HOST_TAIL k) 0 else s

/-- STAT as it reads; ACTIVE while the channel owns a descriptor. -/
def State.hostStat (s : State) (k : Nat) : Nat := s.rn (Reg.HOST_STAT k) + b2n (s.dmaActive k) * 2 ^ 31

/-- A read of STAT clears COMPLETION pending (R359). -/
def State.readHostStat (s : State) (k : Nat) : State :=
  ({ s with rdata := w32 (s.hostStat k) }).setFld (Reg.HOST_STAT k) 8 1 0

/-! ### Resets (R362–R364) -/

/-- Far memory addresses, which no reset of the device touches. -/
def farAddr (a : Nat) : Bool := decide (0x1000000000 ≤ a ∧ a < 0x5000000000)

/-- What every device reset of the cold or warm kind leaves: OTP, far memory, and what lies outside the device.
[DEDUCED, log 18; DESIGN CHOICE, log 170] -/
def State.restart (s : State) : State :=
  { State.reset with
    mem := Tab.drop (fun a => !farAddr a) s.mem
    poison := Tab.drop (fun k => !farAddr (64 * k)) s.poison
    hostMem := s.hostMem
    rdata := s.rdata
    draws := s.draws
    time := { us := s.time.us }
    rook := { otp := s.rook.otp }
    ciph := { ckGen := s.ciph.ckGen }
    host := { gpioIn := s.host.gpioIn }
    pending := s.pending }

/-- Registers that a warm reset keeps: the HOST block and RST_CAUSE. [DEDUCED, log 168] -/
def warmKept (a : Nat) : Bool := decide (0xC0000 ≤ a ∧ a < 0xC4000) || a == Reg.TOP_RST_CAUSE

/-- Every host DMA channel disabled. -/
def State.dmaOff (s : State) : State :=
  s.each (List.range 8) (fun s k => s.setFld (Reg.HOST_RING_CFG k) 31 1 0)

/-- A warm reset; `cause` is its bit of RST_CAUSE. [DEDUCED, log 18, 168, 175] -/
def State.warmReset (s : State) (cause : Nat) : State :=
  let t := { s.restart with
    regs := Tab.drop (fun a => !warmKept a) s.regs
    host := { gpioIn := s.host.gpioIn, d3 := s.host.d3, msixEn := s.host.msixEn, msixMask := s.host.msixMask
              fired := s.host.fired, pba := s.host.pba, lastMsg := s.host.lastMsg, trip := s.host.trip } }
  t.dmaOff.setN Reg.TOP_RST_CAUSE (bitSet (t.rn Reg.TOP_RST_CAUSE) cause)

/-- A write of SW_WARM. -/
def State.swWarm (s : State) (v : Word) : State := if v = 0x5A5A0002#32 then s.warmReset 2 else s

/-- A PCIe hot reset or link-down (R363). [DEDUCED, log 169] -/
def State.hotReset (s : State) : State :=
  let s := ((s.sessClose .operator 3).sessClose .installer 3).sessClose .maker 3
  let n := s.rn Reg.HOST_HOT_RST_CNT + 1
  let s := s.dmaOff
  let s := s.each (List.range 8) (fun s k => (s.setN (Reg.HOST_HEAD k) 0).setN (Reg.HOST_TAIL k) 0)
  let s := s.resetRegs (fun a => decide (0xC0000 ≤ a ∧ a < 0xC2000) || decide (0xC3000 ≤ a ∧ a < 0xC4000))
  let s := { s with host := { s.host with d3 := false, msixEn := false, msixMask := false, fired := 0, pba := 0, lastMsg := [] } }
  let s := (s.setN Reg.HOST_HOT_RST_CNT n).irq hostPage 0
  let s := s.setN Reg.TOP_RST_CAUSE (bitSet (s.rn Reg.TOP_RST_CAUSE) 3)
  s.sysEvent (s.rn Reg.HOST_EVQ) 0x70 [wrap32 n]

/-- The HOST block reset: a descriptor in progress is written back FLUSHED when its ring is reachable (R364). -/
def State.hostRst (s : State) : State :=
  let s := s.each (List.range 8) (fun s k =>
    if s.dmaActive k && (s.ringNear k || s.linkUp) then s.ringWrite k (s.descAddr k + 24) [9, 1] else s)
  let s := s.headerReset hostPage
  let s := s.resetRegs (fun a => decide (hostPage ≤ a ∧ a < 0xC4000 ∧ 0x100 ≤ a % 0x1000) &&
    a != Reg.HOST_HOST_STAT && !decide (0xC1400 ≤ a ∧ a < 0xC1800))
  { s with host := { s.host with fired := 0, pba := 0, lastMsg := [] } }

/-- The TOP page's reset is always refused (R364). -/
def State.topRst (s : State) : State := s.rstRefused 0 3

/-- The JBE reset (R364). -/
def State.jbeRst (s : State) : State :=
  if s.anyCtx then s.rstRefused 0x80000 2
  else (s.headerReset 0x80000).resetRegs (fun a => decide (0x80100 ≤ a ∧ a < 0x81000) ||
    decide (Reg.JBE_CODEC_TBL 0x20 ≤ a ∧ a < Reg.JBE_CODEC_TBL 0x40))

/-- The PWR reset: sensors untouched, ALERT_L released (R364). -/
def State.pwrRst (s : State) : State :=
  let s := (s.headerReset pwrPage).resetRegs (fun a => a == Reg.PWR_PWR_CFG || a == Reg.PWR_EVQ)
  { s with host := { s.host with alarm := false, peak := none } }

/-- The MISC reset: controllers idle, transfers abandoned, GPIO pins inputs (R364). [DEDUCED, log 176] -/
def State.miscRst (s : State) : State :=
  let s := (s.headerReset miscPage).setN Reg.MISC_GPIO_DIR 0
  { s with host := { s.host with spi := none, i2c := [], uartTx := [] } }

/-! ### Power states (R366–R368) -/

/-- An instance, slot or key in the first `n` places of a table from `k`. -/
def anyIn {α : Type} (t : Tab (Option α)) (k n : Nat) : Bool :=
  t.any (fun e => decide (k ≤ e.1) && decide (e.1 < k + n) && e.2.isSome)

/-- Cores of cluster `c`. -/
def State.coresOf (s : State) (c : Nat) : List Core := (List.range 8).map (fun k => s.core_ (8 * c + k))

/-- POWER of a page: 0 run; 1 idle; 2 nap; 3 off. -/
def State.power (s : State) (page : Nat) : Nat := s.fld (page + 0x0C) 4 2

/-- Conditions of R367 that the state shows; durations and a block's idle datapath are the event's own.
[DESIGN CHOICE, log 11] -/
def State.maySleep (s : State) (i : PageInfo) (st : Nat) : Bool :=
  let c := i.inst
  let quiet := s.openCtxs.isEmpty && s.qm.queues.all (fun e => !e.2.en || !s.qne e.1)
  match i.type with
  | 8 =>
    let dma := (s.coresOf c).all (fun x => x.dma.isEmpty)
    if st = 3 then (s.coresOf c).all (fun x => x.state == 0) && s.jbe.ctxs.all (fun e => e.2.state == 0 || e.2.home != c) &&
      (List.range 64).all (fun n => !s.bit (Reg.TURN_SYSFLOW_CFG n) 31 || s.fld (Reg.TURN_SYSFLOW_CFG n) 16 4 != c) &&
      (List.range 128).all (fun l => !s.bit (Reg.LDC_LINE_CFG c l) 31) &&
      s.power (ecePage c) == 3 && s.power (sagePage c) == 3 && s.power (ciphPage c) == 3
    else dma && (s.coresOf c).all (fun x => x.state == 0 || (x.waiting && x.slot.isNone))
  | 5 => st == 1 || !anyIn s.ece.insts (256 * c) 256
  | 6 => st == 1 || !anyIn s.sage.slots (512 * c) 512
  | 7 => if st = 3 then (s.eng c).jobs.isEmpty && (s.eng c).slots.all (fun e => e.2.state == 0) && s.storeUsed c == 0
    else (s.eng c).jobs.isEmpty && (s.eng c).rx.isEmpty && (s.eng c).tx.isEmpty
  | 3 | 4 => st != 3 && (List.range 8).all (fun l => s.linkState (8 * c + l) == 0) &&
    (List.range 128).all (fun l => !s.bit (Reg.LDC_LINE_CFG c l) 31)
  | 9 | 10 | 11 | 12 | 14 => st == 1 || (st == 2 && quiet)
  | 13 => st != 3 && !s.bit (macPage c + 8) 0
  | 16 => st != 3 && (List.range 2).all (fun p => !s.bit (Reg.CXL_PORT_CTL p) 0)
  | 15 => st == 1
  | _ => st == 1

/-- A block enters a deeper power state that its SLEEP_ALLOW bit permits. -/
def State.blockSleep (s : State) (page st : Nat) : State :=
  match pageInfo page with
  | some i =>
    if 1 ≤ st ∧ st ≤ 3 ∧ s.bit (i.first + 8) st ∧ s.power i.first < st ∧ s.maySleep i st then s.setFld (i.first + 0x0C) 4 2 st
    else s
  | none => s

/-- Work wakes a block. [DEDUCED, log 174] -/
def State.blockWake (s : State) (page : Nat) : State :=
  match pageInfo page with
  | some i => s.wake i.first
  | none => s

/-! ### Temperature (R370, R371) -/

/-- TEMP of a sensor. -/
def State.temp (s : State) (i : Nat) : Int := signed 9 (s.rn (Reg.PWR_TEMP i))

/-- The PWR_ALARM event: state SET 1 or CLEAR 0, sensor, reading. [DESIGN CHOICE, log 173] -/
def State.pwrEvent (s : State) (on : Bool) (sensor : Nat) : State :=
  (s.irq pwrPage (if on then 0 else 1)).sysEvent (s.rn Reg.PWR_EVQ) 0x60 [b2n on, sensor, unsigned 32 (s.temp sensor)]

/-- The sensors are read. [DESIGN CHOICE, log 173] -/
def State.tempSample (s : State) (l : List Int) : State :=
  let s := s.each (((List.range 8).zip l)) (fun s e => s.setN (Reg.PWR_TEMP e.1) (unsigned 9 e.2))
  let hot := (List.range 8).foldl (fun b i => if s.temp b < s.temp i then i else b) 0
  let m := s.temp hot
  let s := s.setN Reg.PWR_TEMP_MAX (unsigned 9 m)
  let s := { s with host := { s.host with peak := some (match s.host.peak with | some p => max p m | none => m) } }
  let thr : Int := s.fld Reg.PWR_PWR_CFG 16 8
  let hyst : Int := s.fld Reg.PWR_PWR_CFG 24 4
  if !s.host.alarm ∧ thr ≤ m then ({ s with host := { s.host with alarm := true } }).pwrEvent true hot
  else if s.host.alarm ∧ m < thr - hyst then ({ s with host := { s.host with alarm := false } }).pwrEvent false hot
  else s

/-- Pin ALERT_L is low (R370). -/
def State.alertLow (s : State) : Bool := s.host.alarm && s.bit Reg.PWR_PWR_CFG 31

/-! ### Meanings -/

/-- COLD_RESET (R363). -/
def execColdReset (s : State) : Res := .next s.restart

/-- WARM_RESET (R363). -/
def execWarmReset (s : State) : Res := .next (s.warmReset 1)

/-- SW_WARM (R362). -/
def execSwWarm (w : Win) (v : Word) (s : State) : Res := .next (s.hostGuard w Reg.TOP_SW_WARM true (·.swWarm v))

/-- PCIE_HOT_RESET (R363). -/
def execPcieHotReset (s : State) : Res := .next s.hotReset

/-- HOST_DMA_DESCRIPTOR (R359). -/
def execHostDmaDescriptor (k st n : Nat) (bad : List (Nat × Nat)) (s : State) : Res := .next (s.hostDma k st n bad)

/-- DMA_TAIL_WRITE (R357). -/
def execDmaTailWrite (w : Win) (k : Nat) (v : Word) (s : State) : Res :=
  .next (if k < 8 then s.hostGuard w (Reg.HOST_TAIL k) true (·.writeHostTail k v) else s)

/-- RING_CFG_ENABLE (R357): a write of RING_CFG with EN = 1. -/
def execRingCfgEnable (w : Win) (k : Nat) (v : Word) (s : State) : Res :=
  .next (if k < 8 then s.hostGuard w (Reg.HOST_RING_CFG k) true (·.writeRingCfg k (v ||| 0x80000000#32)) else s)

/-- DMA_STAT_READ (R359). -/
def execDmaStatRead (w : Win) (k : Nat) (s : State) : Res :=
  .next (if k < 8 then s.hostGuard w (Reg.HOST_STAT k) false (·.readHostStat k) else s)

/-- VECTOR_FIRE (R356): `dus` µs have passed since the last event the model saw. -/
def execVectorFire (v dus : Nat) (s : State) : Res :=
  .next (({ s with time := { s.time with us := s.time.us + dus } }).vecTry v)

/-- VEC_REARM (R356). -/
def execVecRearm (w : Win) (v : Word) (s : State) : Res := .next (s.hostGuard w Reg.HOST_VEC_REARM true (·.vecRearm v))

/-- MSIX_TABLE_WRITE (R354). -/
def execMsixTableWrite (w : Win) (a : Nat) (v : Word) (s : State) : Res := .next (s.hostGuard w a true (·.msixWrite a v))

/-- BLOCK_SLEEP (R367). -/
def execBlockSleep (page st : Nat) (s : State) : Res := .next (s.blockSleep page st)

/-- BLOCK_WAKE (R368). -/
def execBlockWake (page : Nat) (s : State) : Res := .next (s.blockWake page)

/-- TEMP_SAMPLE (R370). -/
def execTempSample (readings : List Int) (s : State) : Res := .next (s.tempSample readings)

/-- THERMTRIP (R371). [DESIGN CHOICE, log 5] -/
def execThermtrip (s : State) : Res := .next { s with host := { s.host with trip := true } }

/-- TOP_RST (R364). -/
def execTopRst (w : Win) (s : State) : Res := .next (s.hostGuard w 0x30 true (·.topRst))

/-- JBE_RST (R364). -/
def execJbeRst (w : Win) (s : State) : Res := .next (s.hostGuard w 0x80030 true (·.jbeRst))

/-- HOST_RST (R364). -/
def execHostRst (w : Win) (s : State) : Res := .next (s.hostGuard w (hostPage + 0x30) true (·.hostRst))

/-- PWR_RST (R364). -/
def execPwrRst (w : Win) (s : State) : Res := .next (s.hostGuard w (pwrPage + 0x30) true (·.pwrRst))

/-- MISC_RST (R364). -/
def execMiscRst (w : Win) (s : State) : Res := .next (s.hostGuard w (miscPage + 0x30) true (·.miscRst))

/-- PCIE_LINK_UP (R353). -/
def execPcieLinkUp (gen width : Nat) (s : State) : Res :=
  .next (if 1 ≤ gen ∧ gen ≤ 4 ∧ 1 ≤ width ∧ width ≤ 2 then
    s.setN Reg.HOST_HOST_STAT (2 ^ 31 + gen * 2 ^ 24 + width * 2 ^ 16) else s)

/-- CONFIG_SPACE_WRITE (R353, R356). -/
def execConfigSpaceWrite (msixEn msixMask d3 : Bool) (s : State) : Res := .next (s.cfgSpace msixEn msixMask d3)

end Sys2Proof.Machine
end

