-- ==== Sys2Proof/Machine/Misc.lean ====
section
/-! DEFINITION. The MISC pages (R379): SPI flash, UART, I²C and GPIO controllers. -/

namespace Sys2Proof.Machine
open Sys2Proof

/-! ### SPI -/

/-- Rook owns the SPI controller until BOOT_STAT.DONE: a write of an SPI register is ignored and records BUSY. -/
def State.spiOwned (s : State) (a : Nat) (k : State → State) : State :=
  if s.bit Reg.ROOK_BOOT_STAT 31 then k s else s.err miscPage 2 (a - miscPage) a

/-- A write of SPI_CMD with GO: BUSY while a transfer runs, BAD_PARAM for a length outside 1–256. [DEDUCED, log 177] -/
def State.spiGo (s : State) (v : Word) : State :=
  let op := v.toNat % 4
  let n := s.fld Reg.MISC_SPI_LEN 0 9
  if s.host.spi.isSome then s.setN Reg.MISC_SPI_STAT 2
  else if op ≠ 2 ∧ (n = 0 ∨ 256 < n) then s.setN Reg.MISC_SPI_STAT 3
  else { s with host := { s.host with spi := some (op, fieldOf v.toNat 16 8) } }

/-- A write of SPI_CMD. [DEDUCED, log 177] -/
def State.writeSpiCmd (s : State) (v : Word) : State :=
  s.spiOwned Reg.MISC_SPI_CMD (fun s => if bitOf v.toNat 31 then s.spiGo v else s)

/-- Bytes into a data buffer of words at `a`, byte 0 first. -/
def State.bufPut (s : State) (a : Nat) (l : List Nat) : State :=
  s.each (l.zip (List.range l.length)) (fun s e => s.setFld (a + 4 * (e.2 / 4)) (8 * (e.2 % 4)) 8 e.1)

/-- The SPI transfer ends: 0 OK, else TIMEOUT; a read leaves its bytes in SPI_BUF. -/
def State.spiEnd (s : State) (st : Nat) (data : List Nat) : State :=
  match s.host.spi with
  | none => s
  | some (op, _) =>
    let st := if st = 0 then 0 else 0x0C
    let s := if st = 0 ∧ (op = 0 ∨ op = 3) then s.bufPut (Reg.MISC_SPI_BUF 0) (slice data 0 (s.fld Reg.MISC_SPI_LEN 0 9)) else s
    ({ s with host := { s.host with spi := none } }).setN Reg.MISC_SPI_STAT st |>.irq miscPage 0

/-- SPI_STAT as it reads. -/
def State.spiStat (s : State) : Nat := s.rn Reg.MISC_SPI_STAT + b2n s.host.spi.isSome * 2 ^ 31

/-- SPI_CMD with GO and the OP of a row. -/
def spiWord (v : Word) (op : Nat) : Word := w32 (bitSet (putField v.toNat 0 2 op) 31)

/-! ### UART -/

/-- The UART is enabled. -/
def State.uartOn (s : State) : Bool := s.bit Reg.MISC_UART_CFG 31

/-- A byte into the transmit FIFO; dropped when the FIFO is full. -/
def State.uartPut (s : State) (v : Word) : State :=
  if 16 ≤ s.host.uartTx.length then s
  else { s with host := { s.host with uartTx := s.host.uartTx ++ [v.toNat % 256] } }

/-- A read of UART_RX pops the oldest received byte. -/
def State.uartPop (s : State) : State :=
  match s.host.uartRx with
  | b :: r => { s with rdata := w32 (256 + b), host := { s.host with uartRx := r } }
  | [] => { s with rdata := 0 }

/-- A byte arrives. [DEDUCED, log 178] -/
def State.uartArrive (s : State) (b : Nat) (framing : Bool) : State :=
  if !s.uartOn then s
  else if framing then { s with host := { s.host with uartFrm := true } }
  else if 16 ≤ s.host.uartRx.length then { s with host := { s.host with uartOvr := true } }
  else ({ s with host := { s.host with uartRx := s.host.uartRx ++ [b % 256] } }).irq miscPage 1

/-- The UART has sent a byte. -/
def State.uartSent (s : State) : State :=
  match s.host.uartTx with
  | _ :: r =>
    if s.uartOn then
      let s := { s with host := { s.host with uartTx := r } }
      if r.isEmpty then s.irq miscPage 2 else s
    else s
  | [] => s

/-- UART_STAT as it reads. -/
def State.uartStat (s : State) : Nat :=
  s.host.uartRx.length * 2 ^ 16 + s.host.uartTx.length * 2 ^ 8 + b2n s.host.uartOvr * 2 + b2n s.host.uartFrm

/-! ### I²C -/

/-- The transfer that controller `i` runs. -/
def State.i2c_ (s : State) (i : Nat) : Option (Bool × Nat × Nat) := Tab.get (fun _ => none) s.host.i2c i

/-- Replace it. -/
def State.setI2c (s : State) (i : Nat) (x : Option (Bool × Nat × Nat)) : State :=
  { s with host := { s.host with i2c := Tab.put (fun _ => none) s.host.i2c i x } }

/-- A write of I2C_CMD; a controller that is not enabled starts nothing. [DEDUCED, log 178] -/
def State.writeI2cCmd (s : State) (i : Nat) (v : Word) : State :=
  let n := v.toNat % 64
  if 1 < i ∨ !bitOf v.toNat 31 ∨ !s.bit (Reg.MISC_I2C_CFG i) 31 then s
  else if (s.i2c_ i).isSome then s.setFld (Reg.MISC_I2C_STAT i) 8 8 2
  else if n = 0 ∨ 32 < n then s.setFld (Reg.MISC_I2C_STAT i) 8 8 3
  else (s.setN (Reg.MISC_I2C_STAT i) 0).setI2c i (some (bitOf v.toNat 16, fieldOf v.toNat 8 7, n))

/-- An I²C transfer ends after `n` bytes: OK, DATA_ERR for a NACK, or TIMEOUT. -/
def State.i2cEnd (s : State) (i st n : Nat) (data : List Nat) : State :=
  match s.i2c_ i with
  | none => s
  | some (read, _, len) =>
    let st := if st = 0 then 0 else if st = 0x0A then 0x0A else 0x0C
    let m := if st = 0 then len else min n len
    let s := if read then s.bufPut (Reg.MISC_I2C_BUF i 0) (slice data 0 m) else s
    ((s.setI2c i none).setN (Reg.MISC_I2C_STAT i) (m + st * 256)).irq miscPage (3 + i)

/-- I2C_STAT as it reads. -/
def State.i2cStat (s : State) (i : Nat) : Nat := s.rn (Reg.MISC_I2C_STAT i) + b2n (s.i2c_ i).isSome * 2 ^ 31

/-- I2C_CMD with GO and READ as a row has it. -/
def i2cWord (v : Word) (read : Bool) : Word := w32 (bitSet (putField v.toNat 16 1 (b2n read)) 31)

/-! ### GPIO -/

/-- Levels on the pins: driven by GPIO_OUT where GPIO_DIR is 1, by the board elsewhere. -/
def State.gpioPins (s : State) : Nat :=
  let d := s.fld Reg.MISC_GPIO_DIR 0 16
  (d &&& s.fld Reg.MISC_GPIO_OUT 0 16) ||| ((d ^^^ 0xFFFF) &&& s.host.gpioIn)

/-- Enabled edges between two levels set GPIO_HIT. -/
def State.gpioEdges (s : State) (old new : Nat) : State :=
  let e := s.rn Reg.MISC_GPIO_EDGE
  let hit := (new &&& (old ^^^ 0xFFFF) &&& e % 65536) ||| (old &&& (new ^^^ 0xFFFF) &&& e / 65536)
  if hit = 0 then s else (s.setN Reg.MISC_GPIO_HIT (s.rn Reg.MISC_GPIO_HIT ||| hit)).irq miscPage 5

/-- A change of what drives the pins. [DEDUCED, log 179] -/
def State.gpioChange (s : State) (f : State → State) : State :=
  let t := f s
  t.gpioEdges s.gpioPins t.gpioPins

/-! ### Meanings -/

/-- SPI_READ (R379). -/
def execSpiRead (w : Win) (v : Word) (s : State) : Res :=
  .next (s.hostGuard w Reg.MISC_SPI_CMD true (·.writeSpiCmd (spiWord v 0)))

/-- SPI_PROGRAM (R379). -/
def execSpiProgram (w : Win) (v : Word) (s : State) : Res :=
  .next (s.hostGuard w Reg.MISC_SPI_CMD true (·.writeSpiCmd (spiWord v 1)))

/-- SPI_ERASE (R379). -/
def execSpiErase (w : Win) (v : Word) (s : State) : Res :=
  .next (s.hostGuard w Reg.MISC_SPI_CMD true (·.writeSpiCmd (spiWord v 2)))

/-- SPI_REGISTER_READ (R379). -/
def execSpiRegisterRead (w : Win) (v : Word) (s : State) : Res :=
  .next (s.hostGuard w Reg.MISC_SPI_CMD true (·.writeSpiCmd (spiWord v 3)))

/-- SPI_DONE (R379). -/
def execSpiDone (st : Nat) (data : List Nat) (s : State) : Res := .next (s.spiEnd st data)

/-- UART_TX (R379). -/
def execUartTx (w : Win) (v : Word) (s : State) : Res := .next (s.hostGuard w Reg.MISC_UART_TX true (·.uartPut v))

/-- UART_RX (R379). -/
def execUartRx (w : Win) (s : State) : Res := .next (s.hostGuard w Reg.MISC_UART_RX false (·.uartPop))

/-- UART_RX_BYTE (R379). -/
def execUartRxByte (byte : Nat) (framing : Bool) (s : State) : Res := .next (s.uartArrive byte framing)

/-- UART_TX_BYTE (R379). -/
def execUartTxByte (s : State) : Res := .next s.uartSent

/-- I2C_READ (R379). -/
def execI2cRead (w : Win) (i : Nat) (v : Word) (s : State) : Res :=
  .next (if i < 2 then s.hostGuard w (Reg.MISC_I2C_CMD i) true (·.writeI2cCmd i (i2cWord v true)) else s)

/-- I2C_WRITE (R379). -/
def execI2cWrite (w : Win) (i : Nat) (v : Word) (s : State) : Res :=
  .next (if i < 2 then s.hostGuard w (Reg.MISC_I2C_CMD i) true (·.writeI2cCmd i (i2cWord v false)) else s)

/-- I2C_DONE (R379). -/
def execI2cDone (i st n : Nat) (data : List Nat) (s : State) : Res := .next (s.i2cEnd i st n data)

/-- GPIO_EDGE (R379): the levels that the board drives change. -/
def execGpioEdge (levels : Nat) (s : State) : Res :=
  .next (s.gpioChange (fun s => { s with host := { s.host with gpioIn := levels % 65536 } }))

end Sys2Proof.Machine
end

