-- ==== Sys2Proof/Machine/Time.lean ====
section
/-! DEFINITION. The TIME block (R26–R38): DPLL source selection, PPS and PTP time, sync triggers, DSYNC. -/

namespace Sys2Proof.Machine
open Sys2Proof

/-- The TIME page. -/
def timePage : Nat := 0x8000

/-- An event of the TIME block (R38). -/
def State.timeEvent (s : State) (num : Nat) (payload : List Nat) : State :=
  s.sysEvent (s.rn Reg.TIME_EVQ) num payload

/-- DPLL_STAT.STATE: 0 FREERUN; 1 ACQUIRE; 2 LOCKED; 3 HOLDOVER. -/
def State.dpllState (s : State) : Nat := s.fld Reg.TIME_DPLL_STAT 0 2

/-- DPLL_STAT.SRC. -/
def State.dpllSrc (s : State) : Nat := s.fld Reg.TIME_DPLL_STAT 4 3

/-- Source `i` is qualified. -/
def State.qualified (s : State) (i : Nat) : Bool := s.bit Reg.TIME_DPLL_STAT (16 + i)

/-- PHASE_ERR shows the last error of the selected time source, and 0 while none is selected (R38).
[DESIGN CHOICE, log 190] -/
def State.showPhase (s : State) : State :=
  s.setN Reg.TIME_PHASE_ERR (if 2 ≤ s.dpllSrc then unsigned 32 (Tab.get (fun _ => 0) s.time.phErr s.dpllSrc) else 0)

/-- Enter a state with a source selected; a change sets IRQ_RAW.STATE and posts event 0x10 (R29). The lock criteria of R30
are timed from the entry into ACQUIRE. -/
def State.setDpll (s : State) (st src : Nat) : State :=
  if s.dpllState = st ∧ s.dpllSrc = src then s
  else
    let s := ((s.setFld Reg.TIME_DPLL_STAT 0 2 st).setFld Reg.TIME_DPLL_STAT 4 3 src).showPhase
    let s := if st = 1 then { s with time := { s.time with critAt := s.now } } else s
    (s.irq timePage 0).timeEvent 0x10 [st, src]

/-- Priority of source `i` in SRC_CFG; XTAL has none (R29). -/
def State.prio (s : State) (i : Nat) : Nat := if i = 0 then 0 else s.fld Reg.TIME_SRC_CFG (8 + 4 * i) 4

/-- Source `a` ranks above source `b`: lower non-zero priority, then lower number; every such source ranks above XTAL
(R29). -/
def State.ranksAbove (s : State) (a b : Nat) : Bool :=
  decide (s.prio a ≠ 0) && (decide (b = 0) || decide (s.prio b = 0) || decide (s.prio a < s.prio b) ||
    (decide (s.prio a = s.prio b) && decide (a < b)))

/-- The best qualified source with a non-zero priority, if there is one (R29). -/
def State.bestSource (s : State) : Option Nat :=
  [1, 2, 3, 4].foldl (fun best i =>
    if s.qualified i && decide (s.prio i ≠ 0) then
      match best with
      | none => some i
      | some j => if s.ranksAbove i j then some i else some j
    else best) none

/-- How the source is selected: SRC_CFG.MODE, the reserved 3 being free run; a follower of DSYNC selects source 4 as a
manual mode does (R29, R36). [DESIGN CHOICE, log 188] -/
def State.dpllMode (s : State) : Nat :=
  if s.fld Reg.TIME_DSYNC_CFG 0 2 = 2 then 1 else s.fld Reg.TIME_SRC_CFG 0 2

/-- The source that a manual mode follows (R29, R36). [DESIGN CHOICE, log 188] -/
def State.manualSrc (s : State) : Nat :=
  if s.fld Reg.TIME_DSYNC_CFG 0 2 = 2 then 4 else s.fld Reg.TIME_SRC_CFG 4 3

/-- The DPLL follows XTAL, in FREERUN or in HOLDOVER (R29). -/
def State.onXtal (s : State) : Bool := s.dpllState == 0 || s.dpllState == 3

/-- The qualification criterion of a source as far as counted edges and samples show it; TREF's is the input's (R29).
[DESIGN CHOICE, log 189] -/
def State.meetsQual (s : State) (src : Nat) : Bool :=
  match src with
  | 1 => true
  | 2 => decide (10 ≤ s.time.ppsGood)
  | 3 => decide (8 ≤ s.time.ptpGood)
  | 4 => decide (16 ≤ s.time.dsyncGood)
  | _ => false

/-- The loss criterion of a source, at the end of the frame in progress: no PPSIN edge for 1.5 s, no PTP sample for
PTP_TIMEOUT seconds, 8 frames without a DSYNCI pulse; TREF's is the input's (R29). [DEDUCED, log 192] -/
def State.meetsLoss (s : State) (src : Nat) : Bool :=
  match src with
  | 1 => true
  | 2 => s.time.ppsLast.any (fun u => decide (u + 73728000 ≤ s.now * 6144 + 6143))
  | 3 => s.time.ptpAt.any (fun f => decide (f + 8000 * s.fld Reg.TIME_PTP_TIMEOUT 0 8 ≤ s.now))
  | 4 => s.time.dsyncAt.any (fun u => decide (u / 6144 + 9 ≤ s.now))
  | _ => false

/-- The best qualified source is selected at once while the DPLL follows XTAL (R29). -/
def State.selectBest (s : State) : State :=
  if s.onXtal then
    match s.bestSource with
    | some b => s.setDpll 1 b
    | none => s
  else s

/-- A source qualifies (R29, R30). -/
def State.sourceQualify (s : State) (src : Nat) : State :=
  if !s.meetsQual src || s.qualified src then s
  else
    let s := s.setN Reg.TIME_DPLL_STAT (bitSet (s.rn Reg.TIME_DPLL_STAT) (16 + src))
    let s := { s with time := { s.time with qualAt := Tab.put (fun _ => 0) s.time.qualAt src s.now } }
    let s := if src = 4 then s.setFld Reg.TIME_DSYNC_STAT 0 1 1 else s
    match s.dpllMode with
    | 0 => s.selectBest
    | 1 => if s.manualSrc = src && s.onXtal then s.setDpll 1 src else s
    | _ => s

/-- Where the DPLL goes when the source it follows is lost (R30). [DESIGN CHOICE, log 20, 22] -/
def State.afterLoss (s : State) : State :=
  let toHold : State → Nat → State := fun s src =>
    if s.dpllState = 2 then
      ((s.setN Reg.TIME_HO_FREQ s.free).setN Reg.TIME_FREQ_OFFSET s.free).drawn.setDpll 3 src
    else s.setDpll 0 src
  if s.dpllMode = 0 then
    match s.bestSource with
    | some b => s.setDpll 1 b
    | none => toHold s 0
  else toHold s s.dpllSrc

/-- A source is lost (R30). -/
def State.sourceLost (s : State) (src : Nat) : State :=
  if !s.meetsLoss src || !s.qualified src then s
  else
    let sel := decide (s.dpllSrc = src) && !s.onXtal
    let s := s.setN Reg.TIME_DPLL_STAT (bitClear (s.rn Reg.TIME_DPLL_STAT) (16 + src))
    let t := s.time
    let s := { s with time := { t with
      ppsGood := if src = 2 then 0 else t.ppsGood
      ptpGood := if src = 3 then 0 else t.ptpGood
      dsyncGood := if src = 4 then 0 else t.dsyncGood } }
    let s := (s.irq timePage 1).timeEvent 0x11 [src]
    if sel then s.afterLoss else s

/-- A phase error of time source `src` in ns (R38). While that source is selected it is PHASE_ERR, moves the DPLL's
frequency, and breaks the lock criterion beyond LOCK_THRESH (R30). [DESIGN CHOICE, log 22, 190, 191] -/
def State.phaseSample (s : State) (src : Nat) (err : Int) : State :=
  let s := { s with time := { s.time with phErr := Tab.put (fun _ => 0) s.time.phErr src err } }
  if s.dpllSrc ≠ src then s
  else
    let s := if s.fld Reg.TIME_DPLL_CFG 16 12 < err.natAbs then { s with time := { s.time with critAt := s.now } } else s
    (s.showPhase.setN Reg.TIME_FREQ_OFFSET s.free).drawn

/-- SCLK in a frame, read as the distance from the nearest frame boundary, in ns: positive where local time is ahead of
the reference. [DESIGN CHOICE, log 190] -/
def phaseNs (d : Int) : Int :=
  let m := d % 6144
  (if m < 3072 then m else m - 6144) * 125000 / 6144

/-- One phase sample from the PTP source (R28, R29). [DESIGN CHOICE, log 189] -/
def State.ptpSample (s : State) (v : Word) : State :=
  let x := signed 32 v.toNat
  let good := decide (x.natAbs ≤ s.fld Reg.TIME_DPLL_CFG 16 12 * 100)
  let s := { s with time := { s.time with ptpGood := if good then s.time.ptpGood + 1 else 0, ptpAt := some s.now } }
  s.phaseSample 3 x

/-- A PPSIN edge `ph` SCLK into the frame (R28, R33): the stamp, the spacing of 1 s ± 1 µs, which is 49 SCLK, and the phase
of the frame boundary against the edge. [DESIGN CHOICE, log 189] -/
def State.ppsinEdge (s : State) (ph : Nat) : State :=
  let t := s.now * 6144 + ph
  let good := match s.time.ppsLast with
    | some u => decide (t - u + 49 ≥ 49152000 ∧ t - u ≤ 49152000 + 49)
    | none => false
  let s := s.setN Reg.TIME_PPSIN_STAMP (s.now % 8000 * 2 ^ 16 + copyPhase ph)
  let s := { s with time := { s.time with
      fphase := copyPhase ph, ppsLast := some t, ppsMiss := false, ppsGood := if good then s.time.ppsGood + 1 else 0 } }
  s.phaseSample 2 (phaseNs ph)

/-- The alignment error in SCLK that a DSYNCI pulse `ph` SCLK into the frame shows: the nearest frame start against the edge minus
COMP (R36). [DESIGN CHOICE, log 213] -/
def State.alignErr (s : State) (ph : Nat) : Int :=
  let d : Int := ((ph : Int) - (s.fld Reg.TIME_DSYNC_CFG 8 6 : Int)) % 6144
  if d < 3072 then d else d - 6144

/-- A DSYNCI pulse `ph` SCLK into the frame (R36): its distance from one frame after the pulse before counts toward
qualification; the alignment error, frame start against edge minus COMP, is shown and moves a follower; a 3-SCLK pulse marks
the second boundary. [DESIGN CHOICE, log 187, 189, 190] -/
def State.dsyncPulse (s : State) (ph : Nat) (wide : Bool) : State :=
  let t := s.now * 6144 + ph
  let good := s.time.dsyncAt.any (fun u => decide (u + 6142 ≤ t ∧ t ≤ u + 6146))
  let err := s.alignErr ph
  let opened := if ph < s.fld Reg.TIME_DSYNC_CFG 8 6 + 3072 then s.now else s.now + 1
  let s := s.setFld Reg.TIME_DSYNC_STAT 8 8 (unsigned 8 (satTo (-128) 127 err))
  let s := { s with time := { s.time with
    fphase := copyPhase ph
    dsyncAt := some t
    wideAt := if wide then some opened else s.time.wideAt
    dsyncGood := if good then s.time.dsyncGood + 1 else 0
    dsyncBad := if err.natAbs ≤ 2 then 0 else s.time.dsyncBad + 1 } }
  s.phaseSample 4 (phaseNs err)

/-- A NOW or LSYNC trigger, with the mask latched: its sync frame is the next frame (R34). [DESIGN CHOICE, log 24] -/
def State.takeTrigger (s : State) : State :=
  let s := { s with time := { s.time with
    trig := s.time.trig ++ [(s.now + 1, s.fld Reg.TIME_SYNC_CTRL 0 16)] } }
  s.setFld Reg.TIME_SYNC_STAT 1 1 1

/-- Arm SYNC_AT with the current mask (R34, R35): a frame that has begun is taken as the next frame, with LATE set.
[DESIGN CHOICE, log 24] -/
def State.armSync (s : State) : State :=
  let f := s.rn Reg.TIME_SYNC_AT_LO + 2 ^ 32 * s.fld Reg.TIME_SYNC_AT_HI 0 16
  let late := decide (f ≤ s.now)
  let s := { s with time := { s.time with
    armed := some (if late then s.now + 1 else f, s.fld Reg.TIME_SYNC_CTRL 0 16) } }
  let s := (s.setFld Reg.TIME_SYNC_STAT 0 1 1).setFld Reg.TIME_SYNC_CTRL 18 1 1
  if late then (s.setFld Reg.TIME_SYNC_STAT 2 1 1).irq timePage 5 else s

/-- A write of SYNC_CTRL (R34, R35): LSYNC_EN and BANK_MASK are stored, then NOW and AT_ARM act with the new mask. -/
def State.writeSyncCtrl (s : State) (v : Word) : State :=
  let s := s.setFld Reg.TIME_SYNC_CTRL 0 17 v.toNat
  let s := if bitOf v.toNat 17 then s.takeTrigger else s
  if bitOf v.toNat 18 then s.armSync else s

/-- The source after a write of SRC_CFG or DSYNC_CFG (R29, R30, R36). [DESIGN CHOICE, log 20] -/
def State.reselect (s : State) : State :=
  match s.dpllMode with
  | 0 => s.selectBest
  | 1 =>
    let m := s.manualSrc
    if m ≠ 0 ∧ m = s.dpllSrc ∧ s.dpllState ≠ 0 then s
    else if m ≠ 0 && s.qualified m then s.setDpll 1 m else s.setDpll 0 m
  | _ => s.setDpll 0 0

/-- A write of SRC_CFG (R29, R30, R38). [DESIGN CHOICE, log 23] -/
def State.writeSrcCfg (s : State) (v : Word) : State :=
  if 4 < fieldOf v.toNat 4 3 then s.cfgErr timePage none 3 Reg.TIME_SRC_CFG
  else (s.setReg Reg.TIME_SRC_CFG (v &&& 0xFFFF173#32)).reselect

/-- A write of DSYNC_CFG: a device that becomes or ceases to be a follower selects its source anew (R36).
[DESIGN CHOICE, log 188] -/
def State.writeDsyncCfg (s : State) (v : Word) : State :=
  let was := s.fld Reg.TIME_DSYNC_CFG 0 2
  let s := s.setReg Reg.TIME_DSYNC_CFG (v &&& 0x3F07#32)
  if (was = 2) = (s.fld Reg.TIME_DSYNC_CFG 0 2 = 2) then s else s.reselect

/-- PTPT_SEC, 48 bits. -/
def State.ptptSec (s : State) : Nat := s.rn Reg.TIME_PTPT_SEC_LO + 2 ^ 32 * s.fld Reg.TIME_PTPT_SEC_HI 0 16

/-- The frame now opening is a second boundary (R32). -/
def State.secondBoundary (s : State) : Bool := decide (s.now % 8000 = s.rn Reg.TIME_SEC_OFS)

/-- What TIME does as a frame opens: a second boundary moves the PTP seconds and raises PPSOUT (R32, R33); DSYNCO is
driven (R36). -/
def State.timeOpen (s : State) : State :=
  let sec := s.secondBoundary
  let s := if !sec then s else
    let v := if s.bit Reg.TIME_PTPT_SET_HI 31 then
        s.rn Reg.TIME_PTPT_SET_LO + 2 ^ 32 * s.fld Reg.TIME_PTPT_SET_HI 0 16
      else s.ptptSec + 1
    let s := (s.setN Reg.TIME_PTPT_SEC_LO v).setN Reg.TIME_PTPT_SEC_HI (v / 2 ^ 32 % 2 ^ 16)
    let s := s.setFld Reg.TIME_PTPT_SET_HI 31 1 0
    if s.bit Reg.TIME_PPSOUT_CFG 16 then { s with time := { s.time with ppsOut := some s.now } } else s
  let role := s.fld Reg.TIME_DSYNC_CFG 0 2
  let drive := decide (role = 1) || (decide (role = 2) && s.bit Reg.TIME_DSYNC_CFG 2)
  { s with time := { s.time with dsyncOut := if drive then (if sec then 3 else 1) else 0 } }

/-- The TIME page's registers at their reset values; what R31 keeps is kept, the DPLL's current frequency included. -/
def State.timeRegsReset (s : State) : State :=
  s.resetRegs (fun a => decide (0x8100 ≤ a ∧ a < 0x9000 ∧ a ≠ Reg.TIME_SEC_OFS ∧ a ≠ Reg.TIME_PTPT_SEC_LO ∧
    a ≠ Reg.TIME_PTPT_SEC_HI ∧ a ≠ Reg.TIME_FREQ_OFFSET))

/-- TIME.RST (R31): FREERUN at the current frequency, the registers at reset, an armed SYNC_AT discarded; FTIME and the
seconds go on. SYNC_STAT.PENDING is reset with the registers, while a NOW or LSYNC trigger taken before stays pending. A
change of STATE or SRC is reported as any other (R29), to the queue that EVQ named. [DESIGN CHOICE, log 21, 24, 193] -/
def State.timeRst (s : State) : State :=
  let moved := decide (s.dpllState ≠ 0 ∨ s.dpllSrc ≠ 0)
  let evq := s.rn Reg.TIME_EVQ
  let s := (s.headerReset timePage).timeRegsReset
  let s := { s with time := { s.time with
      armed := none, ppsGood := 0, ptpGood := 0, dsyncGood := 0, dsyncBad := 0, qualAt := [], critAt := 0, lockAt := 0 } }
  if moved then (s.irq timePage 0).sysEvent evq 0x10 [0, 0] else s

/-! ### Meanings of the rows that the frame does not carry -/

/-- PPSOUT_FALL (R33): high for WIDTH ms, which is 8 × WIDTH frames. -/
def execPpsoutFall (s : State) : Res :=
  .next (match s.time.ppsOut with
    | some f => if f + 8 * s.fld Reg.TIME_PPSOUT_CFG 0 9 ≤ s.now then
        { s with time := { s.time with ppsOut := none } } else s
    | none => s)

/-- PPSIN_EDGE (R33). -/
def execPpsinEdge (ph : Nat) (s : State) : Res := .next (s.ppsinEdge ph)

/-- PPSIN_MISS (R33): no edge for 1.5 s after the last one, which is 73,728,000 SCLK. [DEDUCED, log 192] -/
def execPpsinMiss (s : State) : Res :=
  .next (if !s.time.ppsMiss && s.time.ppsLast.any (fun u => decide (u + 73728000 ≤ s.now * 6144 + 6143)) then
      ({ s with time := { s.time with ppsMiss := true } }.irq timePage 2).timeEvent 0x12 []
    else s)

/-- PTP_OFFSET_WRITE (R28). -/
def execPtpOffsetWrite (w : Win) (v : Word) (s : State) : Res :=
  .next (s.hostGuard w Reg.TIME_PTP_OFFSET true (·.ptpSample v))

/-- SOURCE_QUALIFY (R29). -/
def execSourceQualify (src : Nat) (s : State) : Res := .next (s.sourceQualify src)

/-- SOURCE_LOST (R30). -/
def execSourceLost (src : Nat) (s : State) : Res := .next (s.sourceLost src)

/-- REVERTIVE_SELECT (R29): a source that ranks above the selected one, qualified for 60 s = 480,000 frames. -/
def execRevertiveSelect (src : Nat) (s : State) : Res :=
  .next (if s.dpllMode = 0 ∧ ¬ s.onXtal ∧ src ≤ 4 ∧ s.qualified src ∧ s.ranksAbove src s.dpllSrc ∧
      Tab.get (fun _ => 0) s.time.qualAt src + 480000 ≤ s.now
    then s.setDpll 1 src else s)

/-- DPLL_LOCK (R30): the criteria have held for 60 s = 480,000 frames; a time source's phase error is within LOCK_THRESH.
The frequency error of R30 is not in State: the command says that it has held. [DESIGN CHOICE, log 191] -/
def execDpllLock (s : State) : Res :=
  .next (if s.dpllState = 1 ∧ s.time.critAt + 480000 ≤ s.now ∧
      (signed 32 (s.rn Reg.TIME_PHASE_ERR)).natAbs ≤ s.fld Reg.TIME_DPLL_CFG 16 12 then
      { s with time := { s.time with lockAt := s.now } }.setDpll 2 s.dpllSrc else s)

/-- HO_QUAL_SET (R30): LOCKED for 24 h = 691,200,000 frames. [DESIGN CHOICE, log 21] -/
def execHoQualSet (s : State) : Res :=
  .next (if s.dpllState = 2 ∧ s.time.lockAt + 691200000 ≤ s.now then s.setFld Reg.TIME_DPLL_STAT 8 1 1 else s)

/-- PTPT_SET_ARM (R32). -/
def execPtptSetArm (w : Win) (v : Word) (s : State) : Res :=
  .next (s.hostGuard w Reg.TIME_PTPT_SET_HI true
    (fun s => (s.setFld Reg.TIME_PTPT_SET_HI 0 16 v.toNat).setFld Reg.TIME_PTPT_SET_HI 31 1 1))

/-- SYNC_CTRL_NOW (R34). -/
def execSyncCtrlNow (w : Win) (v : Word) (s : State) : Res :=
  .next (s.hostGuard w Reg.TIME_SYNC_CTRL true (fun s => s.writeSyncCtrl (v ||| 0x20000#32)))

/-- AT_ARM (R35). -/
def execAtArm (w : Win) (v : Word) (s : State) : Res :=
  .next (s.hostGuard w Reg.TIME_SYNC_CTRL true (fun s => s.writeSyncCtrl (v ||| 0x40000#32)))

/-- LSYNC_EDGE (R34). -/
def execLsyncEdge (ph : Nat) (s : State) : Res :=
  .next (if s.bit Reg.TIME_SYNC_CTRL 16 then { s with time := { s.time with fphase := copyPhase ph } }.takeTrigger else s)

/-- DSYNCI_PULSE (R36): the pulse whose alignment error is `err`. [DESIGN CHOICE, log 213] -/
def execDsynciPulse (ph : Nat) (wide : Bool) (err : Int) (s : State) : Res :=
  .next (if err = s.alignErr ph then s.dsyncPulse ph wide else s)

/-- DSYNC_ERR (R36): the error has been beyond ±2 SCLK for 8 frames in a row. -/
def execDsyncErr (s : State) : Res :=
  .next (if 8 ≤ s.time.dsyncBad ∧ s.bit Reg.TIME_DSYNC_STAT 0 then
      ((s.setFld Reg.TIME_DSYNC_STAT 0 1 0).irq timePage 3).timeEvent 0x13 [] else s)

/-- TIME_RST (R31). -/
def execTimeRst (w : Win) (s : State) : Res := .next (s.hostGuard w 0x8030 true (·.timeRst))

end Sys2Proof.Machine
end

