-- ==== Sys2Proof/Machine/Regio.lean ====
section
/-! DEFINITION. Generic register accesses (R5–R8, R373–R378): what a write of each register does and what a read of it
returns, by page. -/

namespace Sys2Proof.Machine
open Sys2Proof

/-! ### Interrupt bits (R376) -/

/-- IRQ_RAW bits that a block's chapter defines. -/
def irqMask (i : PageInfo) : Nat :=
  match i.type with
  | 0 => 0
  | 1 => if i.inst = 0 then 0xF else if i.inst = 1 then 0 else if i.inst = 2 then 1 else 3
  | 2 => 0x3F
  | 3 => 0x3F
  | 4 => 0x1F
  | 5 => 0x7F
  | 6 => 0xF
  | 7 => 0x7F
  | 8 => 7
  | 9 => 0x3F
  | 10 => 7
  | 11 => 0xF
  | 12 => 3
  | 13 => 0x3FF
  | 14 => 0x1F
  | 15 => 0x7F
  | 16 => 0x1F
  | 17 => 3
  | 18 => 7
  | _ => 0x3F

/-- The CFG_ERR bit of a block, where it has one. -/
def cfgBit (t : Nat) : Option Nat :=
  match t with
  | 3 => some 5
  | 4 => some 4
  | 5 => some 6
  | 6 => some 3
  | 7 => some 6
  | 8 => some 2
  | 9 => some 5
  | 10 => some 2
  | 11 => some 3
  | 12 => some 1
  | 13 => some 9
  | 14 => some 4
  | 15 => some 6
  | 16 => some 4
  | 17 => some 1
  | 18 => some 2
  | _ => none

/-- A write of IRQ_FORCE sets IRQ_RAW bits as a real cause would. -/
def State.irqForce (s : State) (i : PageInfo) (v : Word) : State :=
  if i.pageNo ≠ 0 then s
  else s.setReg (i.first + 0x10) (s.reg (i.first + 0x10) ||| (v &&& w32 (irqMask i)))

/-! ### Writes -/

/-- The block reset of a page. -/
def State.pageRst (s : State) (i : PageInfo) : State :=
  match i.type with
  | 0 => s.topRst
  | 1 => s.rstRefused i.first 4
  | 2 => s.timeRst
  | 3 => s.linkRst i.inst
  | 4 => s.ldcRst i.inst
  | 5 => s.eceRst i.inst
  | 6 => s.sageRst i.inst
  | 7 => s.ciphRst i.inst
  | 8 => s.clusRst i.inst
  | 9 => s.turnRst
  | 10 => s.qmRst
  | 11 => s.jbeRst
  | 12 => s.preRst
  | 13 => s.macRst i.inst
  | 14 => s.thymeRst
  | 15 => s.nmcRst
  | 16 => s.cxlRst
  | 17 => s.hostRst
  | 18 => s.pwrRst
  | _ => s.miscRst

/-- A write of the common header (R374, R375). -/
def State.headerWrite (s : State) (i : PageInfo) (o : Nat) (v : Word) : State :=
  let a := i.first + o
  if i.pageNo ≠ 0 then s
  else if o = 8 then
    if i.type = 13 then
      let t := s.setFld a 0 4 v.toNat
      if bitOf v.toNat 0 then t else t.netLink i.inst false 0
    else s.setFld a 1 3 (v.toNat / 2)
  else if o = 0x10 then s.setReg a (s.reg a &&& ~~~v)
  else if o = 0x14 then s.setReg a (v &&& w32 (irqMask i))
  else if o = 0x1C then s.irqForce i v
  else if o = 0x30 ∧ v = rstKey then s.pageRst i
  else s

/-- Some field of the value is outside its range. -/
def RegRow.refuses (r : RegRow) (v : Word) : Bool :=
  r.chk.any (fun (lo, w, least, most) => decide (fieldOf v.toNat lo w < least) || decide (most < fieldOf v.toNat lo w))

/-- What a write stores under the access codes (R7). -/
def RegRow.stored (r : RegRow) (old v : Word) : Word :=
  (old &&& ~~~(w32 r.w) &&& ~~~(v &&& w32 r.c)) ||| (v &&& w32 r.w)

/-- A refused write. -/
def State.refuse_ (s : State) (i : PageInfo) (st a : Nat) : State := s.cfgErr i.first (cfgBit i.type) st a

/-- A write that stores its value, or refuses it for its range and goes on with `k` otherwise. -/
def State.checked (s : State) (i : PageInfo) (a : Nat) (v : Word) (k : RegRow → State) : State :=
  match rowAt a with
  | none => s
  | some r => if r.refuses v then s.refuse_ i 3 a else k r

/-- The write of a register without a further effect. -/
def State.plain (s : State) (i : PageInfo) (a : Nat) (v : Word) : State :=
  s.checked i a v (fun r => s.setReg a (r.stored (s.reg a) v))

/-- Rook's pages. -/
def State.rookWrite (s : State) (i : PageInfo) (w : Win) (a : Nat) (v : Word) : State :=
  if a = Reg.ROOK_SESS_CTL then s.writeSessCtl w v
  else if a = Reg.ROOK_MBOX_DATA then s.mboxWrite w v
  else if a = Reg.ROOK_BOOT_DATA then s.bootData v
  else if a = Reg.ROOK_BOOT_CTL then (if bitOf v.toNat 0 then s.bootStart else s)
  else if a = Reg.PROT_PROT_CTL then s.writeProtCtl w v
  else if 0x3200 ≤ a ∧ a < 0x3400 then s.writeStage a v
  else s.plain i a v

/-- TIME. -/
def State.timeWrite (s : State) (i : PageInfo) (a : Nat) (v : Word) : State :=
  if a = Reg.TIME_SRC_CFG then s.writeSrcCfg v
  else if a = Reg.TIME_DSYNC_CFG then s.writeDsyncCfg v
  else if a = Reg.TIME_PTP_OFFSET then s.ptpSample v
  else if a = Reg.TIME_SYNC_CTRL then s.writeSyncCtrl v
  else s.plain i a v

/-- LINK b. -/
def State.linkWrite (s : State) (i : PageInfo) (o : Nat) (v : Word) : State :=
  let a := i.first + o
  if o = 0x100 then s.writeBankCfg i.inst v
  else if 0x200 ≤ o ∧ o < 0x300 ∧ o % 0x20 = 0 then s.writeLnkCtrl (8 * i.inst + (o - 0x200) / 0x20) v
  else s.plain i a v

/-- LDC b. -/
def State.ldcWrite (s : State) (i : PageInfo) (o : Nat) (v : Word) : State :=
  let b := i.inst
  if o = 0x104 then s.ldcSync b (if bitOf v.toNat 8 then 0xFF else v.toNat % 256)
  else if 0x200 ≤ o ∧ o < 0x300 then
    let st := (o - 0x200) / 0x20
    let f := o % 0x20
    if f = 8 then s.writeSetCtrl b st v
    else if f = 0 ∨ f = 4 ∨ f = 0x10 then s.writeSet b st f v
    else s
  else if o = 0x304 then s.writeCoef b v
  else if 0x400 ≤ o ∧ o < 0x600 then s.writeLineCfg (128 * b + (o - 0x400) / 4) v
  else s.plain i (i.first + o) v

/-- ECE c: profiles. -/
def State.eceWrite (s : State) (i : PageInfo) (o : Nat) (v : Word) : State :=
  let a := i.first + o
  if 0x200 ≤ o ∧ o < 0x280 then s.checked i a v (fun r => s.writeEcePrf i.inst a (v &&& w32 r.w)) else s.plain i a v

/-- SAGE c: profiles and CPT entries. -/
def State.sageWrite (s : State) (i : PageInfo) (o : Nat) (v : Word) : State :=
  let a := i.first + o
  if 0x200 ≤ o ∧ o < 0x500 then s.checked i a v (fun r => s.writeSagePrf i.inst a (v &&& w32 r.w)) else s.plain i a v

/-- CIPH c: RWL fields and LOCK (R240). -/
def State.ciphWrite (s : State) (i : PageInfo) (o : Nat) (v : Word) : State :=
  let a := i.first + o
  if o = 0x100 ∧ s.bit (Reg.CIPH_LOCK i.inst) 0 then s
  else if o = 0x104 then (if bitOf v.toNat 0 then s.setN a 1 else s)
  else s.plain i a v

/-- CLUS c. -/
def State.clusWrite (s : State) (i : PageInfo) (o : Nat) (v : Word) : State :=
  if 0x100 ≤ o ∧ o < 0x120 then s.writeCoreCtl (8 * i.inst + (o - 0x100) / 4) v.toNat else s.plain i (i.first + o) v

/-- TURN. -/
def State.turnWrite (s : State) (i : PageInfo) (a : Nat) (v : Word) : State :=
  if a = Reg.TURN_AFF_CFG ∧ fieldOf v.toNat 8 8 < fieldOf v.toNat 0 8 then s.refuse_ i 3 a
  else if a = Reg.TURN_SYS_POST then s.sysPost (v.toNat % 64)
  else if 0x71100 ≤ a ∧ a < 0x71200 then s.writeSysflow ((a - 0x71100) / 4) v
  else s.plain i a v

/-- QM. -/
def State.qmWrite (s : State) (i : PageInfo) (a : Nat) (v : Word) : State :=
  if a = Reg.QM_QFLUSH then s.flush (v.toNat % 512)
  else if 0x79100 ≤ a ∧ a < 0x79900 then s.writeQcfg ((a - 0x79100) / 4) v
  else s.plain i a v

/-- JBE: CODEC_TBL (R130). -/
def State.jbeWrite (s : State) (i : PageInfo) (a : Nat) (v : Word) : State :=
  if 0x81100 ≤ a ∧ a < 0x81200 then
    let k := (a - 0x81100) / 4
    if k < 0x0A then s.setFld a 31 1 (v.toNat / 2 ^ 31)
    else if k < 0x20 then s
    else if bitOf v.toNat 31 ∧ (fieldOf v.toNat 24 4 = 0 ∨ fieldOf v.toNat 0 8 = 0) then s.refuse_ i 3 a
    else s.setReg a (v &&& 0xFF0000FF#32)
  else s.plain i a v

/-- PRE: the pool and the rules. -/
def State.preWrite (s : State) (i : PageInfo) (a : Nat) (v : Word) : State :=
  if (a = Reg.PRE_POOL_BASE ∨ a = Reg.PRE_POOL_CNT) ∧ s.openCtxs ≠ [] then s.refuse_ i 2 a
  else if 0x8A000 ≤ a then
    let f := (a % 0x1000 - 0x100) % 0x18
    if f = 0 then
      if fieldOf v.toNat 26 2 = 1 ∧ 32 < fieldOf v.toNat 0 8 then s.refuse_ i 3 a else s.plain i a v
    else if s.bit (a - f) 31 then s.refuse_ i 2 a
    else s.plain i a v
  else s.plain i a v

/-- MAC m. -/
def State.macWrite (s : State) (i : PageInfo) (o : Nat) (v : Word) : State :=
  let a := i.first + o
  if o = 0x100 ∧ s.bit (i.first + 8) 0 ∧ (v ^^^ s.reg a) &&& 0x1B#32 ≠ 0 then s.refuse_ i 2 a
  else if o = 0x114 ∧ fieldOf v.toNat 8 8 ≤ fieldOf v.toNat 0 8 then s.refuse_ i 3 a
  else if (o = 0x120 ∨ o = 0x124) ∧ ¬ (-512 ≤ signed 32 v.toNat ∧ signed 32 v.toNat ≤ 511) then s.refuse_ i 3 a
  else if 0x200 ≤ o ∧ o < 0x280 ∧ o % 0x20 = 8 then s.writeRxrCfg i.inst ((o - 0x200) / 0x20) v
  else if 0x200 ≤ o ∧ o < 0x280 ∧ o % 0x20 = 0x10 then s.writeRxTail i.inst ((o - 0x200) / 0x20) v
  else if 0x300 ≤ o ∧ o < 0x340 ∧ o % 0x20 = 8 then s.writeTxrCfg i.inst ((o - 0x300) / 0x20) v
  else if 0x300 ≤ o ∧ o < 0x340 ∧ o % 0x20 = 0x10 then s.writeTxTail i.inst ((o - 0x300) / 0x20) v
  else s.plain i a v

/-- THYME: the regions do not change while EN = 1. -/
def State.thymeWrite (s : State) (i : PageInfo) (a : Nat) (v : Word) : State :=
  if a = Reg.THYME_THYME_CFG then s.writeThymeCfg v
  else if Reg.THYME_JNL_BASE_LO ≤ a ∧ a ≤ Reg.THYME_JS_BASE ∧ s.thymeEn then s.refuse_ i 3 a
  else s.plain i a v

/-- NMC. The mismatches that a plain write of TRN_GO finds are free values; the row TRN_GO brings them. -/
def State.nmcWrite (s : State) (i : PageInfo) (a : Nat) (v : Word) : State :=
  if a = Reg.NMC_MAINT_CMD then
    match v.toNat / 2 ^ 28 with
    | 1 => s.maintRetire (v.toNat % 16)
    | 2 => s.maintRetrain (v.toNat % 16)
    | _ => s.refuse_ i 3 a
  else if a = Reg.NMC_NMC_CFG then s.checked i a v (fun r => s.writeNmcCfg (r.stored (s.reg a) v))
  else if a = Reg.NMC_TRN_APPLY then s.trnApply (v.toNat % 16)
  else if a = Reg.NMC_TRN_GO then
    { s with draws := s.draws + 18 }.trnGo ((List.range 18).map (fun d => (Config.freeValue (s.draws + d)).toNat % 65536))
  else if 0xA3100 ≤ a ∧ a < 0xA4000 then s.checked i a v (fun r => s.writeTrn a (r.stored (s.reg a) v))
  else s.plain i a v

/-- CXL. -/
def State.cxlWrite (s : State) (i : PageInfo) (a : Nat) (v : Word) : State :=
  let d := (a - 0xB2100) / 0x20
  if a = Reg.CXL_CXL_CFG then (if s.cxlCfgBusy v then s.writeCxlCfg v else s.checked i a v (fun _ => s.writeCxlCfg v))
  else if a = Reg.CXL_PORT_CTL 0 ∨ a = Reg.CXL_PORT_CTL 1 then s.writePortCtl ((a - 0xB1100) / 0x40) v
  else if 0xB2100 ≤ a ∧ a < 0xB2180 then
    if a % 0x20 = 8 then (if !s.decOn d && decide (6 < fieldOf v.toNat 8 4) then s.refuse_ i 3 a else s.writeDecCtl d v)
    else if s.decOn d then s
    else s.plain i a v
  else if a = Reg.CXL_XIO_CTL ∧ bitOf v.toNat 31 then s.xioGo v
  else s.plain i a v

/-- HOST. -/
def State.hostWrite (s : State) (i : PageInfo) (a : Nat) (v : Word) : State :=
  let k := (a - 0xC2100) / 0x40
  if a = Reg.HOST_VEC_REARM then s.vecRearm v
  else if 0xC1400 ≤ a ∧ a < 0xC1800 then s.msixWrite a v
  else if 0xC2100 ≤ a ∧ a < 0xC2300 ∧ a % 0x40 = 8 then s.writeRingCfg k v
  else if 0xC2100 ≤ a ∧ a < 0xC2300 ∧ a % 0x40 = 0x10 then s.writeHostTail k v
  else s.plain i a v

/-- MISC. -/
def State.miscWrite (s : State) (i : PageInfo) (a : Nat) (v : Word) : State :=
  if a = Reg.MISC_SPI_CMD then s.writeSpiCmd v
  else if 0xE0100 ≤ a ∧ a < 0xE0300 then s.spiOwned a (fun s => s.plain i a v)
  else if a = Reg.MISC_UART_TX then s.uartPut v
  else if a = Reg.MISC_I2C_CMD 0 then s.writeI2cCmd 0 v
  else if a = Reg.MISC_I2C_CMD 1 then s.writeI2cCmd 1 v
  else if a = Reg.MISC_GPIO_DIR ∨ a = Reg.MISC_GPIO_OUT then s.gpioChange (fun s => s.plain i a v)
  else s.plain i a v

/-- A write of a queue span (R222–R224). -/
def State.spanWrite (s : State) (w : Win) (q o : Nat) (v : Word) : State :=
  if o < 0x400 then s.dataWrite w q v
  else if o = 0x400 then s.commitWrite w q v
  else if o = 0x404 ∧ v = 1 ∧ (s.que q).resv.any (fun r => r.win == w) then s.endResv q 9
  else s

/-- A register write that the guard has let through. -/
def State.regWrite (s : State) (w : Win) (a : Nat) (v : Word) : State :=
  if a % 4 ≠ 0 then s
  else if 0x400000 ≤ a ∧ a < 0x500000 then s.spanWrite w ((a - 0x400000) / 0x800) (a % 0x800) v
  else match pageInfo (a / 0x1000) with
  | none => s
  | some i =>
    let o := a % 0x1000
    if o < 0x100 then s.headerWrite i o v
    else match i.type with
    | 0 => if a = Reg.TOP_SW_WARM then s.swWarm v else s.plain i a v
    | 1 => s.rookWrite i w a v
    | 2 => s.timeWrite i a v
    | 3 => s.linkWrite i o v
    | 4 => s.ldcWrite i o v
    | 5 => s.eceWrite i o v
    | 6 => s.sageWrite i o v
    | 7 => s.ciphWrite i o v
    | 8 => s.clusWrite i o v
    | 9 => s.turnWrite i a v
    | 10 => s.qmWrite i a v
    | 11 => s.jbeWrite i a v
    | 12 => s.preWrite i a v
    | 13 => s.macWrite i o v
    | 14 => s.thymeWrite i a v
    | 15 => s.nmcWrite i a v
    | 16 => s.cxlWrite i a v
    | 17 => s.hostWrite i a v
    | 19 => s.miscWrite i a v
    | _ => s.plain i a v

/-! ### Reads -/

/-- STAT of a block (R375). Whether work is in progress is free but while a reset runs. [DESIGN CHOICE, log 13] -/
def State.statView (s : State) (i : PageInfo) : Nat :=
  let p := i.first
  let running := s.rn (p + 0x34) == 4
  let nap := i.type == 15 && (List.range 5).all (fun ch => !s.chanLive ch || Tab.get (fun _ => false) s.nmc.sleep ch)
  let ready := if i.type = 15 then s.bit Reg.NMC_NMC_CFG 31 && s.nmSize != 0 else !running
  (if nap then 2 else s.power p) * 16 + b2n (s.rn (p + 0x20) != 0) * 4 + b2n (running || bitOf s.free 0) * 2 + b2n ready

/-- The common header as it reads. -/
def State.headerView (s : State) (i : PageInfo) (o : Nat) : Nat :=
  if o = 0 then pageId i
  else if o = 4 then pageCap i
  else if i.pageNo ≠ 0 then 0
  else if o = 0x0C then s.statView i
  else if o = 0x18 then s.irqPend i.first
  else if o = 0x2C then s.free % 2 ^ 32
  else if o = 0x1C ∨ o = 0x30 ∨ 0x38 ≤ o then 0
  else s.rn (i.first + o)

/-- FLOW_STAT of a flow (R214). -/
def State.flowStat (s : State) (f : Nat) : Nat :=
  let x := s.flow_ f
  let mode := if !s.flowLive f then 0 else if 8192 ≤ f then 3 else if s.lineFlow f then 2 else 1
  b2n x.held * 2 ^ 31 + mode * 2 ^ 28 + s.flowHome f * 2 ^ 24 + b2n x.lastCore.isSome * 2 ^ 23 + x.lastCore.getD 0 * 2 ^ 16 +
  min 65535 (s.turn.ready.filter (fun m => m.flow == f)).length

/-- Reserved store entries in use. -/
def State.reservedTotal (s : State) : Nat :=
  s.turn.flows.foldl (fun n e => n + (e.2.unmatched.filter (fun h => !h.shared)).length) 0 +
  s.turn.ready.foldl (fun n m => n + m.res) 0 + s.placed.foldl (fun n m => n + m.res) 0

/-- QSTAT of a queue. -/
def State.qstat (s : State) (q : Nat) : Nat :=
  let x := s.que q
  let hold := x.resv.any (fun r => r.at_ == x.rd)
  b2n x.pend.isSome * 2 ^ 31 + s.fld (Reg.QM_QSTAT q) 30 1 * 2 ^ 30 + b2n x.resv.isSome * 2 ^ 29 + b2n hold * 2 ^ 28 +
  (match x.resv with | some r => winNum r.win | none => 0) * 2 ^ 26 + x.occ

/-- Words of the regions of enabled queues. -/
def State.wordsUsed (s : State) : Nat := s.qm.queues.foldl (fun n e => if e.2.en then n + e.2.S else n) 0

/-- A queue span as it reads through a window. -/
def State.spanView (s : State) (w : Win) (q o : Nat) : Nat :=
  let x := s.que q
  let y := x.winQ w
  if o = 0x408 then b2n y.drop.isSome * 2 ^ 17 + b2n (x.resv.any (fun r => r.win == w)) * 2 ^ 16 + y.pstat
  else if o = 0x40C then x.occ
  else if o = 0x410 then x.free
  else if o = 0x414 then x.left
  else 0

/-- Registers of the line side and the clusters that are computed when read. -/
def State.lineView (s : State) (i : PageInfo) (o : Nat) : Option Nat :=
  let c := i.inst
  match i.type with
  | 3 => if 0x200 ≤ o ∧ o < 0x300 ∧ o % 0x20 = 0x1C then some (s.link_ (8 * c + (o - 0x200) / 0x20)).mgmt.length else none
  | 4 =>
    if 0x180 ≤ o ∧ o < 0x1A0 then some (Config.hbCoef ((o - 0x180) / 4)).toNat
    else if 0x200 ≤ o ∧ o < 0x300 ∧ o % 0x20 = 0x0C then
      let st := (o - 0x200) / 0x20
      some (putField (s.rn (i.first + o)) 16 8 ((List.range 128).filter (fun l =>
        s.bit (Reg.LDC_LINE_CFG c l) 31 && s.fld (Reg.LDC_LINE_CFG c l) 24 3 == st)).length)
    else none
  | 5 => if o = 0x108 then some (s.eceUnits c) else if 0x800 ≤ o ∧ o < 0xC00 then some (s.instStat c ((o - 0x800) / 4)) else none
  | 6 => if o = 0x108 then some (s.sageSlots c) else if 0x800 ≤ o then some (s.streamStat c ((o - 0x800) / 4)) else none
  | 7 =>
    if o = 0x108 then some (s.engineStat c)
    else if o = 0x10C then some (s.keysUsed c)
    else if o = 0x114 then some (s.free % 2 ^ 32)
    else if 0x200 ≤ o ∧ o < 0x300 then
      some (if o % 8 = 0 then s.slotAttr c ((o - 0x200) / 8) else (s.keySlot c ((o - 0x200) / 8)).fixed)
    else none
  | 8 => if 0x120 ≤ o ∧ o < 0x140 then some (s.coreStat (8 * c + (o - 0x120) / 4)) else none
  | _ => none

/-- Registers of the central blocks that are computed when read. -/
def State.centralView (s : State) (a : Nat) : Option Nat :=
  if a = Reg.TURN_STORE_STAT then some (s.sharedUsed * 2 ^ 16 + s.reservedTotal)
  else if 0x70118 ≤ a ∧ a < 0x70128 then some (s.turn.ready.filter (fun m => m.level == (a - 0x70118) / 4)).length
  else if a = Reg.TURN_HELD then some (s.bgHeld * 2 ^ 16 + s.placed.length)
  else if a = Reg.TURN_HG_ARMED then some (s.turn.timers.filter (fun e => e.2.isSome)).length
  else if a = Reg.TURN_FLOW_STAT then some (s.flowStat (s.rn Reg.TURN_FLOW_SEL))
  else if a = Reg.QM_WORDS_USED then some s.wordsUsed
  else if 0x78200 ≤ a ∧ a < 0x78240 then
    some ((List.range 32).map (fun j => b2n (s.qne (32 * ((a - 0x78200) / 4) + j)) * 2 ^ j)).sum
  else if 0x7A100 ≤ a ∧ a < 0x7A900 then some (s.qstat ((a - 0x7A100) / 4))
  else if 0x7C100 ≤ a ∧ a < 0x7C900 then some (s.que ((a - 0x7C100) / 4)).rsv
  else if 0x7D100 ≤ a ∧ a < 0x7D900 then some (s.que ((a - 0x7D100) / 4)).rd
  else if 0x7E100 ≤ a ∧ a < 0x7E900 then some (s.que ((a - 0x7E100) / 4)).wr
  else if a = Reg.JBE_CLU_USED then some s.cluUsed
  else if a = Reg.JBE_CTX_CNT then some s.ctxCnt
  else if 0x81200 ≤ a ∧ a < 0x81240 then some (s.clusLoad ((a - 0x81200) / 4))
  else if a = Reg.PRE_POOL_FREE then some s.poolLeft
  else if a = Reg.PRE_EXACT_USED then some s.exactUsed
  else if 0x90000 ≤ a ∧ a < 0x94000 ∧ a % 0x1000 = 0x118 then some (s.fifoStat ((a - 0x90000) / 0x1000))
  else none

/-- Registers of TIME, THYME, NMC, CXL, HOST, PWR and MISC that are computed when read; counts of what no command shows are
free. [DESIGN CHOICE, log 106] -/
def State.otherView (s : State) (a : Nat) : Option Nat :=
  if a = Reg.TIME_FTIME_LO then some s.now
  else if a = Reg.TIME_FTIME_HI then some (s.now / 2 ^ 32 % 65536)
  else if a = Reg.TIME_FPHASE then some s.time.fphase
  else if a = Reg.THYME_THYME_STAT then some s.thymeStat
  else if a = Reg.THYME_SEQ_LO then some s.thyme.seq
  else if a = Reg.THYME_SEQ_HI then some (s.thyme.seq / 2 ^ 32 % 65536)
  else if a = Reg.THYME_JOB_Q then some s.thyme.jobs.length
  else if a = Reg.NMC_REF_STAT then some s.refStat
  else if 0xA2100 ≤ a ∧ a < 0xA21A0 ∧ a % 16 = 0 then some (s.rankStat ((a - 0xA2100) / 16))
  else if 0xA2100 ≤ a ∧ a < 0xA21A0 ∧ a % 16 = 4 then some ((s.ceWindow ((a - 0xA2104) / 16)).rn a)
  else if a = Reg.CXL_CXL_STAT then some s.cxlStat
  else if a = Reg.CXL_LINK_CE 0 ∨ a = Reg.CXL_LINK_CE 1 ∨ a = Reg.HOST_CE_CNT ∨ a = Reg.HOST_UE_CNT then some (s.free % 2 ^ 32)
  else if 0xC0110 ≤ a ∧ a < 0xC0118 then
    let k := if a = Reg.HOST_SRC_STAT_LO then 0 else 32
    some ((List.range 32).map (fun j => if k + j < 44 then b2n (s.srcOn (k + j)) * 2 ^ j else 0)).sum
  else if a = Reg.HOST_VEC_FIRED_LO then some s.host.fired
  else if a = Reg.HOST_VEC_FIRED_HI then some (s.host.fired / 2 ^ 32)
  else if 0xC0300 ≤ a ∧ a < 0xC0350 then some (s.irqBlk ((a - 0xC0300) / 4))
  else if a = Reg.HOST_MSIX_PBA 0 then some s.host.pba
  else if a = Reg.HOST_MSIX_PBA 1 then some (s.host.pba / 2 ^ 32)
  else if 0xC2100 ≤ a ∧ a < 0xC2300 ∧ a % 0x40 = 0x14 then some (s.hostStat ((a - 0xC2100) / 0x40))
  else if a = Reg.PWR_TEMP_PEAK then some (match s.host.peak with | some p => unsigned 9 p | none => 0)
  else if a = Reg.PWR_ENERGY_TOT_LO ∨ a = Reg.PWR_ENERGY_TOT_HI then some (s.free % 2 ^ 32)
  else if a = Reg.PWR_POWER_AVG then some (s.free % 2 ^ 17)
  else if a = Reg.PWR_OFF_MAP ∨ a = Reg.PWR_NAP_MAP then
    let st := if a = Reg.PWR_OFF_MAP then 3 else 2
    some ((List.range 16).map (fun c => b2n (s.power (clusPage c) == st) * 2 ^ c)).sum
  else if a = Reg.MISC_SPI_STAT then some s.spiStat
  else if a = Reg.MISC_UART_STAT then some s.uartStat
  else if a = Reg.MISC_I2C_STAT 0 then some (s.i2cStat 0)
  else if a = Reg.MISC_I2C_STAT 1 then some (s.i2cStat 1)
  else if a = Reg.MISC_GPIO_IN then some s.gpioPins
  else none

/-- What a register reads as; unassigned offsets and write-only registers read zero (R7, R373). -/
def State.regView (s : State) (w : Win) (a : Nat) : Word :=
  if a % 4 ≠ 0 then 0
  else if 0x400000 ≤ a ∧ a < 0x500000 then w32 (s.spanView w ((a - 0x400000) / 0x800) (a % 0x800))
  else match pageInfo (a / 0x1000) with
  | none => 0
  | some i =>
    let o := a % 0x1000
    if o < 0x100 then w32 (s.headerView i o)
    else match rowAt a with
    | none => 0
    | some r =>
      if r.wo then 0
      else
        let v := if i.type = 1 then s.rookView w a
          else if 3 ≤ i.type ∧ i.type ≤ 8 then s.lineView i o
          else if 9 ≤ i.type ∧ i.type ≤ 13 then s.centralView a
          else s.otherView a
        match v with
        | some n => w32 n
        | none => s.reg a

/-- What a read of the low word of a pair snapshots (R8); FTIME_LO snapshots FPHASE as well. [DEDUCED, log 180] -/
def snapOf (a : Nat) : List Nat :=
  let o := a % 0x1000
  if a = Reg.TIME_FTIME_LO then [Reg.TIME_FTIME_HI, Reg.TIME_FPHASE]
  else if a = Reg.TIME_PTPT_SEC_LO ∨ a = Reg.AUDIT_HEAD_SEQ_LO ∨ a = Reg.TURN_DISP_LO ∨ a = Reg.THYME_SEQ_LO ∨
      a = Reg.PWR_ENERGY_TOT_LO ∨ (0x60000 ≤ a ∧ a < 0x70000 ∧ o = 0x188) ∨
      (0x90000 ≤ a ∧ a < 0x94000 ∧ 0x400 ≤ o ∧ o < 0x480 ∧ o % 8 = 0) ∨
      (0xB1000 ≤ a ∧ a < 0xB1180 ∧ 0x100 ≤ o ∧ (o % 0x40 = 0x18 ∨ o % 0x40 = 0x20)) ∨
      (0xC2100 ≤ a ∧ a < 0xC2300 ∧ o % 0x40 = 0x1C) then [a + 4]
  else []

/-- A register that a read clears. -/
def readClears (a : Nat) : Bool :=
  (a % 0x1000 == 0x28 && (pageInfo (a / 0x1000)).any (fun i => i.pageNo == 0)) || (rowAt a).any (·.rc)

/-- A read clears an RC register (R7). -/
def State.clearRc (s : State) (a : Nat) : State :=
  if !readClears a then s
  else if a = Reg.PWR_TEMP_PEAK then { s with host := { s.host with peak := none } }
  else s.setN a 0

/-- A read of a pair's low word: the high words are held, and a statistic clears in both (R8). [DEDUCED, log 180] -/
def State.readLow (s : State) (w : Win) (a : Nat) : State :=
  let t := s.each (snapOf a) (fun t h =>
    { t with host := { t.host with snap := Tab.put (fun _ => none) t.host.snap h (some (s.regView w h).toNat) } })
  let t := { t with rdata := s.regView w a, draws := s.draws + 1 }
  if readClears a then t.each (a :: snapOf a) (fun t h => t.setN h 0) else t

/-- A read of any other register: a held high word is what was snapshotted; an RC register clears. -/
def State.readOther (s : State) (w : Win) (a : Nat) : State :=
  match Tab.get (fun _ => none) s.host.snap a with
  | some v => { s with rdata := w32 v }
  | none =>
    let t := { s with rdata := s.regView w a, draws := s.draws + 1 }
    if (snapOf (a - 4)).contains a then t else t.clearRc a

/-- A register read that the guard has let through. [DESIGN CHOICE, log 13, 14] -/
def State.readReg (s : State) (w : Win) (a : Nat) : State :=
  if a % 4 ≠ 0 then { s with rdata := 0 }
  else if 0x400000 ≤ a ∧ a < 0x500000 ∧ a % 0x800 < 0x400 then s.dataRead ((a - 0x400000) / 0x800)
  else if 0x20000 ≤ a ∧ a < 0x30000 ∧ a % 0x1000 = 0x304 then s.readCoef ((a - 0x20000) / 0x1000)
  else if 0xC2100 ≤ a ∧ a < 0xC2300 ∧ a % 0x40 = 0x14 then s.readHostStat ((a - 0xC2100) / 0x40)
  else if a = Reg.MISC_UART_RX then s.uartPop
  else if snapOf a ≠ [] then s.readLow w a
  else s.readOther w a

/-- An access that is not 32 bits wide, or not aligned: recorded in TOP_ERR when no earlier one is (R5).
[DEDUCED, log 119] -/
def State.wrongWidth (s : State) (w : Win) (write : Bool) (be a : Nat) : State :=
  if !s.rook.otpRead || s.host.d3 then (if write then s else { s with rdata := 0xFFFFFFFF })
  else
    let s := if write then s else { s with rdata := 0xFFFFFFFF }
    if s.bit Reg.TOP_TOP_ERR 31 then s
    else s.setN Reg.TOP_TOP_ERR (2 ^ 31 + b2n write * 2 ^ 30 + winNum w * 2 ^ 28 + be % 16 * 2 ^ 24 + a % 2 ^ 24)

/-! ### Meanings -/

/-- IRQ_FORCE (R376). -/
def execIrqForce (w : Win) (page : Nat) (v : Word) (s : State) : Res :=
  .next (s.hostGuard w (page * 0x1000 + 0x1C) true (fun s =>
    match pageInfo page with
    | some i => s.irqForce i v
    | none => s))

/-- WRONG_WIDTH_ACCESS (R5). -/
def execWrongWidthAccess (w : Win) (write : Bool) (be a : Nat) (s : State) : Res := .next (s.wrongWidth w write be a)

/-- CLEAR_ON_READ (R7). -/
def execClearOnRead (w : Win) (a : Nat) (s : State) : Res := .next (s.hostGuard w a false (·.readReg w a))

/-- COUNTER_LOW_READ (R8). -/
def execCounterLowRead (w : Win) (a : Nat) (s : State) : Res :=
  .next (s.hostGuard w a false (fun s => if snapOf a = [] then s.readReg w a else s.readLow w a))

/-- REGISTER_WRITE (R7). -/
def execRegisterWrite (w : Win) (a : Nat) (v : Word) (s : State) : Res := .next (s.hostGuard w a true (·.regWrite w a v))

/-- DENIED_READ (R342): the guard denies the read; a read that is allowed is carried out. -/
def execDeniedRead (w : Win) (a : Nat) (s : State) : Res := .next (s.hostGuard w a false (·.readReg w a))

end Sys2Proof.Machine
end

