-- ==== Sys2Proof/Machine/Frame.lean ====
section
/-! DEFINITION. The frame boundary (R26, R31): the order in which the blocks act as a frame opens, and the DPLL's one step. -/

namespace Sys2Proof.Machine
open Sys2Proof

/-- One line's samples of frame `n` pass the ECE, the store, Sage and the journal, in that order (R10); a PACKET instance feeds the
journal of its context itself (R148). -/
def State.linePass (s : State) (n : Nat) (o : LineOut) : State :=
  let r := s.eceLine n o
  let s := (r.1.storeSamples n r.2.1).sageLine r.2.2
  match r.2.2.ctx with
  | some c => if (s.eceOf c).any (fun e => e.2.packet) then s else s.jnlFrame c n r.2.2.xs r.2.2.ys
  | none => s

/-- Frame `n` opens. LINK takes the LDI frames of the frame before; ECE, Sage and Thyme take what was asked for in it; the
lines pass LDC, ECE, Sage and the journal; then the JBE claims its playout instants, Turn and PRE act, and CIPH offers the
results it holds and goes on with its streaming job. -/
def State.openFrame (s : State) (n : Nat) : State :=
  let s := { s with time := { s.time with ftime := n, fphase := 0, us := s.time.us - s.time.us % 125 + 125 } }
  let s := (s.timeOpen.linkOpen n).jbeData
  let s := ((s.eceOpen.sageOpen n).thymeOpen n).jbeBound n
  let r := s.ldcOpen n
  let s := r.1.each r.2 (fun s o => s.linePass n o)
  let s := s.each (Tab.keys s.ece.insts) (fun s k => s.bgFrame n k)
  let s := ((s.jbeOpen n).linkDone.turnOpen).txSlots n
  (s.each (Tab.keys s.ciph.engines) (fun s c => s.ciphOpen c)).rhWindow n

/-- Some LDC line is enabled. [DEDUCED, log 25] -/
def State.anyLine (s : State) : Bool :=
  s.regs.any (fun e => decide (0x20400 ≤ e.1 ∧ e.1 < 0x30000 ∧ 0x400 ≤ e.1 % 0x1000 ∧ e.1 % 0x1000 < 0x600) &&
    bitOf e.2.toNat 31)

/-- The DPLL may step (R31): permitted, no context, no line, a time source selected, the error above LOCK_THRESH.
[DEDUCED, log 25] -/
def State.mayStep (s : State) : Bool :=
  s.bit Reg.TIME_DPLL_CFG 4 && !s.anyCtx && !s.anyLine && decide (2 ≤ s.dpllSrc ∧ s.dpllSrc ≤ 4) &&
  (s.dpllState == 1 || s.dpllState == 2) &&
  decide (s.fld Reg.TIME_DPLL_CFG 16 12 < (signed 32 (s.rn Reg.TIME_PHASE_ERR)).natAbs)

/-- SEC_OFS after a follower's step, where the frame that would have been `n` opens as frame `m`: the second boundary that
the last 3-SCLK pulse showed (R32, R36). [DESIGN CHOICE, log 187] -/
def State.stepSec (s : State) (n m : Nat) : State :=
  match s.time.wideAt with
  | some w => s.setN Reg.TIME_SEC_OFS ((m + 8000 - (n - w) % 8000) % 8000)
  | none => s

/-- The step: the frame in progress is lengthened to the reference's boundary; FTIME increments once and is then set; the
phase error is gone. [DEDUCED, log 26] -/
def State.dpllStep (s : State) : State :=
  let n := s.now + 1
  let e := s.rn Reg.TIME_DSYNC_EPOCH_LO + 2 ^ 32 * s.fld Reg.TIME_DSYNC_EPOCH_HI 0 16
  let s := s.setFld Reg.TIME_DPLL_CFG 4 1 0
  let s := { s with time := { s.time with phErr := Tab.put (fun _ => 0) s.time.phErr s.dpllSrc 0 } }.showPhase
  if s.dpllSrc = 4 then
    if n < e then ((s.stepSec n e).setFld Reg.TIME_DSYNC_STAT 2 1 1).openFrame e
    else ((s.stepSec n n).setFld Reg.TIME_DSYNC_STAT 1 2 1).openFrame n
  else (s.setN Reg.TIME_SEC_OFS 0).openFrame ((n / 8000 + 1) * 8000)

/-! ### Meanings -/

/-- FRAME_TICK (R26). -/
def execFrameTick (s : State) : Res := .next (s.openFrame (s.now + 1))

/-- DPLL_STEP (R31): the step that removes the phase error `err`, the one PHASE_ERR shows. [DESIGN CHOICE, log 213] -/
def execDpllStep (err : Int) (s : State) : Res :=
  .next (if s.mayStep ∧ err = signed 32 (s.rn Reg.TIME_PHASE_ERR) then s.dpllStep else s)

end Sys2Proof.Machine
end

