-- ==== Sys2Proof/Machine/Dispatch.lean ====
section
/-! DEFINITION. The meaning of every command, one arm per row of the opcode table. -/

namespace Sys2Proof.Machine
open Sys2Proof

/-- A command's effect on everything but the queue. -/
def exec (i : Instr) (s : State) : Host.Outcome State Fault Refusal :=
  match i with
  | .frameTick => Sys2Proof.Machine.execFrameTick s
  | .ppsoutFall => Sys2Proof.Machine.execPpsoutFall s
  | .ppsinEdge ph => Sys2Proof.Machine.execPpsinEdge ph s
  | .ppsinMiss => Sys2Proof.Machine.execPpsinMiss s
  | .ptpOffsetWrite w v => Sys2Proof.Machine.execPtpOffsetWrite w v s
  | .sourceQualify src => Sys2Proof.Machine.execSourceQualify src s
  | .sourceLost src => Sys2Proof.Machine.execSourceLost src s
  | .revertiveSelect src => Sys2Proof.Machine.execRevertiveSelect src s
  | .dpllLock => Sys2Proof.Machine.execDpllLock s
  | .hoQualSet => Sys2Proof.Machine.execHoQualSet s
  | .dpllStep err => Sys2Proof.Machine.execDpllStep err s
  | .ptptSetArm w v => Sys2Proof.Machine.execPtptSetArm w v s
  | .syncCtrlNow w v => Sys2Proof.Machine.execSyncCtrlNow w v s
  | .atArm w v => Sys2Proof.Machine.execAtArm w v s
  | .lsyncEdge ph => Sys2Proof.Machine.execLsyncEdge ph s
  | .dsynciPulse ph wide err => Sys2Proof.Machine.execDsynciPulse ph wide err s
  | .dsyncErr => Sys2Proof.Machine.execDsyncErr s
  | .timeRst w => Sys2Proof.Machine.execTimeRst w s
  | .ldiFrame link ph bytes => Sys2Proof.Machine.execLdiFrame link ph bytes s
  | .ldoFrameStart link => Sys2Proof.Machine.execLdoFrameStart link s
  | .linkEnSet w link => Sys2Proof.Machine.execLinkEnSet w link s
  | .linkEnClear w link => Sys2Proof.Machine.execLinkEnClear w link s
  | .tapScanStep link => Sys2Proof.Machine.execTapScanStep link s
  | .linkUp link => Sys2Proof.Machine.execLinkUp link s
  | .confirmTimeout link => Sys2Proof.Machine.execConfirmTimeout link s
  | .clkLoss bank => Sys2Proof.Machine.execClkLoss bank s
  | .fsErr bank => Sys2Proof.Machine.execFsErr bank s
  | .syncLoss link => Sys2Proof.Machine.execSyncLoss link s
  | .crcLimit link => Sys2Proof.Machine.execCrcLimit link s
  | .clockRegularRetrain bank => Sys2Proof.Machine.execClockRegularRetrain bank s
  | .noEyeRetry link => Sys2Proof.Machine.execNoEyeRetry link s
  | .lnkCtrlRetrain w link v => Sys2Proof.Machine.execLnkCtrlRetrain w link v s
  | .tapManWrite w link v => Sys2Proof.Machine.execTapManWrite w link v s
  | .statusDebounce line bit => Sys2Proof.Machine.execStatusDebounce line bit s
  | .cadenceStep line => Sys2Proof.Machine.execCadenceStep line s
  | .lineSet r line mode ilim ringSel polSoft testRly feOpt => Sys2Proof.Machine.execLineSet r line mode ilim ringSel polSoft testRly feOpt s
  | .lineRing r line profile ringSel cycles => Sys2Proof.Machine.execLineRing r line profile ringSel cycles s
  | .lineRingStop r line => Sys2Proof.Machine.execLineRingStop r line s
  | .linkMgmtSend r link len payload => Sys2Proof.Machine.execLinkMgmtSend r link len payload s
  | .linkRetrain r link fast => Sys2Proof.Machine.execLinkRetrain r link fast s
  | .linkRst w bank => Sys2Proof.Machine.execLinkRst w bank s
  | .lineEnable w line v => Sys2Proof.Machine.execLineEnable w line v s
  | .lineDisable w line => Sys2Proof.Machine.execLineDisable w line s
  | .lineSetChange w line set => Sys2Proof.Machine.execLineSetChange w line set s
  | .linePhaseWrite w line phase => Sys2Proof.Machine.execLinePhaseWrite w line phase s
  | .lineBphWrite w line bph => Sys2Proof.Machine.execLineBphWrite w line bph s
  | .ldcLinkSync w bank mask => Sys2Proof.Machine.execLdcLinkSync w bank mask s
  | .ldcBankSync w bank => Sys2Proof.Machine.execLdcBankSync w bank s
  | .swapRequest w bank set v => Sys2Proof.Machine.execSwapRequest w bank set v s
  | .fadeEnd bank set => Sys2Proof.Machine.execFadeEnd bank set s
  | .coefDataWrite w bank v => Sys2Proof.Machine.execCoefDataWrite w bank v s
  | .coefDataRead w bank => Sys2Proof.Machine.execCoefDataRead w bank s
  | .lineMeas r line start len freq dest => Sys2Proof.Machine.execLineMeas r line start len freq dest s
  | .lineMeasDone line => Sys2Proof.Machine.execLineMeasDone line s
  | .ldcRst w bank => Sys2Proof.Machine.execLdcRst w bank s
  | .eceSubmit g v => Sys2Proof.Machine.execEceSubmit g v s
  | .packetBlockDone cluster => Sys2Proof.Machine.execPacketBlockDone cluster s
  | .focusPlace cluster unit => Sys2Proof.Machine.execFocusPlace cluster unit s
  | .dtHangEnd cluster unit => Sys2Proof.Machine.execDtHangEnd cluster unit s
  | .toneReenable cluster unit => Sys2Proof.Machine.execToneReenable cluster unit s
  | .erleDrop cluster unit => Sys2Proof.Machine.execErleDrop cluster unit s
  | .dtLong cluster unit => Sys2Proof.Machine.execDtLong cluster unit s
  | .replayStart cluster => Sys2Proof.Machine.execReplayStart cluster s
  | .replayFallback cluster unit => Sys2Proof.Machine.execReplayFallback cluster unit s
  | .replayCatchUp cluster unit => Sys2Proof.Machine.execReplayCatchUp cluster unit s
  | .comparisonEnd cluster unit => Sys2Proof.Machine.execComparisonEnd cluster unit s
  | .eceFadeEnd cluster unit => Sys2Proof.Machine.execEceFadeEnd cluster unit s
  | .eceAttach r ctx f => Sys2Proof.Machine.execEceAttach r ctx f s
  | .eceModify r ctx f => Sys2Proof.Machine.execEceModify r ctx f s
  | .eceDetach r ctx => Sys2Proof.Machine.execEceDetach r ctx s
  | .eceQuery r ctx => Sys2Proof.Machine.execEceQuery r ctx s
  | .eceReconverge r ctx len => Sys2Proof.Machine.execEceReconverge r ctx len s
  | .eceLoad r ctx addr => Sys2Proof.Machine.execEceLoad r ctx addr s
  | .eceSwap r ctx => Sys2Proof.Machine.execEceSwap r ctx s
  | .eceRead r ctx addr background => Sys2Proof.Machine.execEceRead r ctx addr background s
  | .eceRst w cluster => Sys2Proof.Machine.execEceRst w cluster s
  | .sageSubmit g v => Sys2Proof.Machine.execSageSubmit g v s
  | .sageBlockRead cluster stream => Sys2Proof.Machine.execSageBlockRead cluster stream s
  | .sageAttach r ctx f => Sys2Proof.Machine.execSageAttach r ctx f s
  | .sageModify r ctx f => Sys2Proof.Machine.execSageModify r ctx f s
  | .sageDetach r ctx => Sys2Proof.Machine.execSageDetach r ctx s
  | .sageQuery r ctx => Sys2Proof.Machine.execSageQuery r ctx s
  | .sageRst w cluster => Sys2Proof.Machine.execSageRst w cluster s
  | .ctxOpen r f => Sys2Proof.Machine.execCtxOpen r f s
  | .ctxModify r ctx f => Sys2Proof.Machine.execCtxModify r ctx f s
  | .ctxClose r ctx => Sys2Proof.Machine.execCtxClose r ctx s
  | .ctxQuery r ctx => Sys2Proof.Machine.execCtxQuery r ctx s
  | .ctxBindLine r ctx line => Sys2Proof.Machine.execCtxBindLine r ctx line s
  | .ctxUnbindLine r ctx => Sys2Proof.Machine.execCtxUnbindLine r ctx s
  | .ctxJoin r ctx partner mode => Sys2Proof.Machine.execCtxJoin r ctx partner mode s
  | .ctxSplit r ctx => Sys2Proof.Machine.execCtxSplit r ctx s
  | .ctxSetTemplate r ctx f => Sys2Proof.Machine.execCtxSetTemplate r ctx f s
  | .ctxSendEvent r ctx code vol dur => Sys2Proof.Machine.execCtxSendEvent r ctx code vol dur s
  | .ctxStats r ctx clear => Sys2Proof.Machine.execCtxStats r ctx clear s
  | .rxPacketJudge ctx => Sys2Proof.Machine.execRxPacketJudge ctx s
  | .adaptWindowEnd ctx => Sys2Proof.Machine.execAdaptWindowEnd ctx s
  | .rxEventTimeout ctx => Sys2Proof.Machine.execRxEventTimeout ctx s
  | .ringApply ctx => Sys2Proof.Machine.execRingApply ctx s
  | .preTxTake cluster => Sys2Proof.Machine.execPreTxTake cluster s
  | .jnlSubmit g v => Sys2Proof.Machine.execJnlSubmit g v s
  | .thymeBlockCode ctx => Sys2Proof.Machine.execThymeBlockCode ctx s
  | .thymeSlotWrite => Sys2Proof.Machine.execThymeSlotWrite s
  | .thymeSet r ctx f => Sys2Proof.Machine.execThymeSet r ctx f s
  | .thymeRead r ctx mask first count decode dest => Sys2Proof.Machine.execThymeRead r ctx mask first count decode dest s
  | .thymeCopy r ctx mask first last dest len => Sys2Proof.Machine.execThymeCopy r ctx mask first last dest len s
  | .thymeStop r ctx => Sys2Proof.Machine.execThymeStop r ctx s
  | .thymeQuery r ctx => Sys2Proof.Machine.execThymeQuery r ctx s
  | .thymeCode r f => Sys2Proof.Machine.execThymeCode r f s
  | .thymeCodeDone => Sys2Proof.Machine.execThymeCodeDone s
  | .thymeKey r gen => Sys2Proof.Machine.execThymeKey r gen s
  | .thymeEnable w v => Sys2Proof.Machine.execThymeEnable w v s
  | .thymeDisable w v => Sys2Proof.Machine.execThymeDisable w v s
  | .thymeRst w => Sys2Proof.Machine.execThymeRst w s
  | .mpy g => Sys2Proof.Machine.execMpy g s
  | .mac g => Sys2Proof.Machine.execMac g s
  | .msu g => Sys2Proof.Machine.execMsu g s
  | .add g => Sys2Proof.Machine.execAdd g s
  | .sub g => Sys2Proof.Machine.execSub g s
  | .adds g => Sys2Proof.Machine.execAdds g s
  | .subs g => Sys2Proof.Machine.execSubs g s
  | .add2 g => Sys2Proof.Machine.execAdd2 g s
  | .sub2 g => Sys2Proof.Machine.execSub2 g s
  | .adds2 g => Sys2Proof.Machine.execAdds2 g s
  | .subs2 g => Sys2Proof.Machine.execSubs2 g s
  | .and g => Sys2Proof.Machine.execAnd g s
  | .or g => Sys2Proof.Machine.execOr g s
  | .xor g => Sys2Proof.Machine.execXor g s
  | .andn g => Sys2Proof.Machine.execAndn g s
  | .min g => Sys2Proof.Machine.execMin g s
  | .max g => Sys2Proof.Machine.execMax g s
  | .abs g => Sys2Proof.Machine.execAbs g s
  | .neg g => Sys2Proof.Machine.execNeg g s
  | .cmp g => Sys2Proof.Machine.execCmp g s
  | .aadd g => Sys2Proof.Machine.execAadd g s
  | .asub g => Sys2Proof.Machine.execAsub g s
  | .aneg g => Sys2Proof.Machine.execAneg g s
  | .aabs g => Sys2Proof.Machine.execAabs g s
  | .aclr g => Sys2Proof.Machine.execAclr g s
  | .ald g => Sys2Proof.Machine.execAld g s
  | .aldh g => Sys2Proof.Machine.execAldh g s
  | .amov g => Sys2Proof.Machine.execAmov g s
  | .ash g => Sys2Proof.Machine.execAsh g s
  | .lsh g => Sys2Proof.Machine.execLsh g s
  | .rot g => Sys2Proof.Machine.execRot g s
  | .ashs g => Sys2Proof.Machine.execAshs g s
  | .ash2 g => Sys2Proof.Machine.execAsh2 g s
  | .aash g => Sys2Proof.Machine.execAash g s
  | .exp g => Sys2Proof.Machine.execExp g s
  | .exp16 g => Sys2Proof.Machine.execExp16 g s
  | .expb g => Sys2Proof.Machine.execExpb g s
  | .expb2 g => Sys2Proof.Machine.execExpb2 g s
  | .norm g => Sys2Proof.Machine.execNorm g s
  | .aexp g => Sys2Proof.Machine.execAexp g s
  | .anorm g => Sys2Proof.Machine.execAnorm g s
  | .asat g => Sys2Proof.Machine.execAsat g s
  | .arnd g => Sys2Proof.Machine.execArnd g s
  | .amv g => Sys2Proof.Machine.execAmv g s
  | .dmov g => Sys2Proof.Machine.execDmov g s
  | .ld g => Sys2Proof.Machine.execLd g s
  | .st g => Sys2Proof.Machine.execSt g s
  | .sta g => Sys2Proof.Machine.execSta g s
  | .lea g => Sys2Proof.Machine.execLea g s
  | .push g => Sys2Proof.Machine.execPush g s
  | .pop g => Sys2Proof.Machine.execPop g s
  | .mov g => Sys2Proof.Machine.execMov g s
  | .ldi g => Sys2Proof.Machine.execLdi g s
  | .ldih g => Sys2Proof.Machine.execLdih g s
  | .br g => Sys2Proof.Machine.execBr g s
  | .call g => Sys2Proof.Machine.execCall g s
  | .jmp g => Sys2Proof.Machine.execJmp g s
  | .calli g => Sys2Proof.Machine.execCalli g s
  | .rts g => Sys2Proof.Machine.execRts g s
  | .rti g => Sys2Proof.Machine.execRti g s
  | .loop g => Sys2Proof.Machine.execLoop g s
  | .loopEndAction g => Sys2Proof.Machine.execLoopEndAction g s
  | .take g => Sys2Proof.Machine.execTake g s
  | .wait g => Sys2Proof.Machine.execWait g s
  | .trap g => Sys2Proof.Machine.execTrap g s
  | .halt g => Sys2Proof.Machine.execHalt g s
  | .nop g => Sys2Proof.Machine.execNop g s
  | .interruptEntry g => Sys2Proof.Machine.execInterruptEntry g s
  | .coreTimerExpire g => Sys2Proof.Machine.execCoreTimerExpire g s
  | .wdog g => Sys2Proof.Machine.execWdog g s
  | .dbSend g v => Sys2Proof.Machine.execDbSend g v s
  | .done g v => Sys2Proof.Machine.execDone g v s
  | .dmaGo g v => Sys2Proof.Machine.execDmaGo g v s
  | .dmaTransferDone g => Sys2Proof.Machine.execDmaTransferDone g s
  | .codeLoad r addr clusters cores => Sys2Proof.Machine.execCodeLoad r addr clusters cores s
  | .coreStart w g => Sys2Proof.Machine.execCoreStart w g s
  | .coreStop w g => Sys2Proof.Machine.execCoreStop w g s
  | .coreDrain w g => Sys2Proof.Machine.execCoreDrain w g s
  | .clusRst w c => Sys2Proof.Machine.execClusRst w c s
  | .operandAccept => Sys2Proof.Machine.execOperandAccept s
  | .dispatchPeriod dus => Sys2Proof.Machine.execDispatchPeriod dus s
  | .movePromotion dus => Sys2Proof.Machine.execMovePromotion dus s
  | .hourglassFire ph => Sys2Proof.Machine.execHourglassFire ph s
  | .post => Sys2Proof.Machine.execPost s
  | .timerSet => Sys2Proof.Machine.execTimerSet s
  | .timerCancel => Sys2Proof.Machine.execTimerCancel s
  | .sysPost w idx => Sys2Proof.Machine.execSysPost w idx s
  | .sysflowDisable w n => Sys2Proof.Machine.execSysflowDisable w n s
  | .turnRst w => Sys2Proof.Machine.execTurnRst w s
  | .queueDataWrite w q v => Sys2Proof.Machine.execQueueDataWrite w q v s
  | .commit w q v => Sys2Proof.Machine.execCommit w q v s
  | .abort w q v => Sys2Proof.Machine.execAbort w q v s
  | .reservationTimeout q => Sys2Proof.Machine.execReservationTimeout q s
  | .queueDataRead w q => Sys2Proof.Machine.execQueueDataRead w q s
  | .qpCommit g v => Sys2Proof.Machine.execQpCommit g v s
  | .commitAccept q => Sys2Proof.Machine.execCommitAccept q s
  | .qpPop g => Sys2Proof.Machine.execQpPop g s
  | .qflush w q => Sys2Proof.Machine.execQflush w q s
  | .qcfgEnable w q size base => Sys2Proof.Machine.execQcfgEnable w q size base s
  | .qcfgDisable w q v => Sys2Proof.Machine.execQcfgDisable w q v s
  | .qcfgResize w q size base => Sys2Proof.Machine.execQcfgResize w q size base s
  | .queueResizeApply q => Sys2Proof.Machine.execQueueResizeApply q s
  | .commandTake q => Sys2Proof.Machine.execCommandTake q s
  | .responseWrite q => Sys2Proof.Machine.execResponseWrite q s
  | .eventPost q => Sys2Proof.Machine.execEventPost q s
  | .qmRst w => Sys2Proof.Machine.execQmRst w s
  | .srtpRxPacket cluster fault => Sys2Proof.Machine.execSrtpRxPacket cluster fault s
  | .srtpTxPacket cluster fault => Sys2Proof.Machine.execSrtpTxPacket cluster fault s
  | .ciphJournalSlot cluster fault => Sys2Proof.Machine.execCiphJournalSlot cluster fault s
  | .ciphJobTake cluster => Sys2Proof.Machine.execCiphJobTake cluster s
  | .ciphJobDone cluster fault => Sys2Proof.Machine.execCiphJobDone cluster fault s
  | .keySrtp r ctx dir k fault => Sys2Proof.Machine.execKeySrtp r ctx dir k fault s
  | .keySrtpClear r ctx dir => Sys2Proof.Machine.execKeySrtpClear r ctx dir s
  | .keySlotLoad r cluster slot addr => Sys2Proof.Machine.execKeySlotLoad r cluster slot addr s
  | .keySlotGen r cluster slot alg usage fixed addr => Sys2Proof.Machine.execKeySlotGen r cluster slot alg usage fixed addr s
  | .keySlotClear r cluster slot => Sys2Proof.Machine.execKeySlotClear r cluster slot s
  | .keySlotQuery r cluster slot => Sys2Proof.Machine.execKeySlotQuery r cluster slot s
  | .srtpQuery r ctx dir => Sys2Proof.Machine.execSrtpQuery r ctx dir s
  | .ciphLockSet w cluster => Sys2Proof.Machine.execCiphLockSet w cluster s
  | .ciphRst w cluster => Sys2Proof.Machine.execCiphRst w cluster s
  | .ciphRebuilt cluster => Sys2Proof.Machine.execCiphRebuilt cluster s
  | .macRxFrame mac f => Sys2Proof.Machine.execMacRxFrame mac f s
  | .pauseExpire mac => Sys2Proof.Machine.execPauseExpire mac s
  | .pauseSend mac => Sys2Proof.Machine.execPauseSend mac s
  | .pauseXon mac => Sys2Proof.Machine.execPauseXon mac s
  | .preClassify mac => Sys2Proof.Machine.execPreClassify mac s
  | .rxRingDma mac ring => Sys2Proof.Machine.execRxRingDma mac ring s
  | .rxrTailWrite w mac ring v => Sys2Proof.Machine.execRxrTailWrite w mac ring v s
  | .txrTailWrite w mac ring v => Sys2Proof.Machine.execTxrTailWrite w mac ring v s
  | .rxRingDisable w mac ring => Sys2Proof.Machine.execRxRingDisable w mac ring s
  | .macTxStart mac at_ => Sys2Proof.Machine.execMacTxStart mac at_ s
  | .macTxDone mac => Sys2Proof.Machine.execMacTxDone mac s
  | .txStale mac => Sys2Proof.Machine.execTxStale mac s
  | .netLink mac up fault => Sys2Proof.Machine.execNetLink mac up fault s
  | .netEntryAdd r f => Sys2Proof.Machine.execNetEntryAdd r f s
  | .netEntryDel r v6 addr port => Sys2Proof.Machine.execNetEntryDel r v6 addr port s
  | .netQuery r => Sys2Proof.Machine.execNetQuery r s
  | .macRst w mac => Sys2Proof.Machine.execMacRst w mac s
  | .preRst w => Sys2Proof.Machine.execPreRst w s
  | .nmPortRequest port write addr len data t => Sys2Proof.Machine.execNmPortRequest port write addr len data t s
  | .nmCommandSlot ch t e => Sys2Proof.Machine.execNmCommandSlot ch t e s
  | .refreshDue slot => Sys2Proof.Machine.execRefreshDue slot s
  | .refreshRateRead slot rate => Sys2Proof.Machine.execRefreshRateRead slot rate s
  | .scrubRead ce ue => Sys2Proof.Machine.execScrubRead ce ue s
  | .ceHourWindow slot => Sys2Proof.Machine.execCeHourWindow slot s
  | .migrationStart => Sys2Proof.Machine.execMigrationStart s
  | .pageCopy ce ue => Sys2Proof.Machine.execPageCopy ce ue s
  | .retrainDue slot trigger => Sys2Proof.Machine.execRetrainDue slot trigger s
  | .retrainStep slot sweeps temp => Sys2Proof.Machine.execRetrainStep slot sweeps temp s
  | .maintRetire w slot => Sys2Proof.Machine.execMaintRetire w slot s
  | .maintRetrain w slot => Sys2Proof.Machine.execMaintRetrain w slot s
  | .trnGo w errs => Sys2Proof.Machine.execTrnGo w errs s
  | .trnApply w slot => Sys2Proof.Machine.execTrnApply w slot s
  | .selfRefreshEntry ch => Sys2Proof.Machine.execSelfRefreshEntry ch s
  | .nmcRst w => Sys2Proof.Machine.execNmcRst w s
  | .cxlPortEnable w p => Sys2Proof.Machine.execCxlPortEnable w p s
  | .cxlPortDisable w p lost => Sys2Proof.Machine.execCxlPortDisable w p lost s
  | .cxlTrainDone p width speed cause => Sys2Proof.Machine.execCxlTrainDone p width speed cause s
  | .activate w p active => Sys2Proof.Machine.execActivate w p active s
  | .xioGo w v => Sys2Proof.Machine.execXioGo w v s
  | .xioComplete e => Sys2Proof.Machine.execXioComplete e s
  | .decCommit w d v => Sys2Proof.Machine.execDecCommit w d v s
  | .decUncommit w d => Sys2Proof.Machine.execDecUncommit w d s
  | .cxlMemReadDone p addr poison => Sys2Proof.Machine.execCxlMemReadDone p addr poison s
  | .cxlRecovery p => Sys2Proof.Machine.execCxlRecovery p s
  | .cxlL0Return p => Sys2Proof.Machine.execCxlL0Return p s
  | .recovTimeout p lost => Sys2Proof.Machine.execRecovTimeout p lost s
  | .memTimeout p lost => Sys2Proof.Machine.execMemTimeout p lost s
  | .cxlViral p lost => Sys2Proof.Machine.execCxlViral p lost s
  | .cxlRst w => Sys2Proof.Machine.execCxlRst w s
  | .rookLifecycle r target vdd => Sys2Proof.Machine.execRookLifecycle r target vdd s
  | .rookRmaConsent r => Sys2Proof.Machine.execRookRmaConsent r s
  | .rmaConsentEnd => Sys2Proof.Machine.execRmaConsentEnd s
  | .otpGenWrite r addr vdd => Sys2Proof.Machine.execOtpGenWrite r addr vdd s
  | .rollbackSet r n vdd => Sys2Proof.Machine.execRollbackSet r n vdd s
  | .jnlGrant r on => Sys2Proof.Machine.execJnlGrant r on s
  | .attest r challenge dest => Sys2Proof.Machine.execAttest r challenge dest s
  | .auditMirror r base k => Sys2Proof.Machine.execAuditMirror r base k s
  | .otpIdentity r serial part root vdd => Sys2Proof.Machine.execOtpIdentity r serial part root vdd s
  | .otpRootWrite r hash vdd => Sys2Proof.Machine.execOtpRootWrite r hash vdd s
  | .challenge w => Sys2Proof.Machine.execChallenge w s
  | .mboxReset w => Sys2Proof.Machine.execMboxReset w s
  | .mboxData w v => Sys2Proof.Machine.execMboxData w v s
  | .sessionOpen w key => Sys2Proof.Machine.execSessionOpen w key s
  | .sessionVerifyDone w => Sys2Proof.Machine.execSessionVerifyDone w s
  | .sessionClose w => Sys2Proof.Machine.execSessionClose w s
  | .sessionIdleTimeout w => Sys2Proof.Machine.execSessionIdleTimeout w s
  | .protCommit w => Sys2Proof.Machine.execProtCommit w s
  | .protLoad w => Sys2Proof.Machine.execProtLoad w s
  | .auditBaseFix => Sys2Proof.Machine.execAuditBaseFix s
  | .trngBlock samples => Sys2Proof.Machine.execTrngBlock samples s
  | .trngRetest samples => Sys2Proof.Machine.execTrngRetest samples s
  | .bootData w v => Sys2Proof.Machine.execBootData w v s
  | .bootCtlStart w => Sys2Proof.Machine.execBootCtlStart w s
  | .bootDone fails => Sys2Proof.Machine.execBootDone fails s
  | .rookRst w page => Sys2Proof.Machine.execRookRst w page s
  | .coldReset => Sys2Proof.Machine.execColdReset s
  | .warmReset => Sys2Proof.Machine.execWarmReset s
  | .swWarm w v => Sys2Proof.Machine.execSwWarm w v s
  | .pcieHotReset => Sys2Proof.Machine.execPcieHotReset s
  | .hostDmaDescriptor k st n bad => Sys2Proof.Machine.execHostDmaDescriptor k st n bad s
  | .dmaTailWrite w k v => Sys2Proof.Machine.execDmaTailWrite w k v s
  | .ringCfgEnable w k v => Sys2Proof.Machine.execRingCfgEnable w k v s
  | .dmaStatRead w k => Sys2Proof.Machine.execDmaStatRead w k s
  | .vectorFire v dus => Sys2Proof.Machine.execVectorFire v dus s
  | .vecRearm w v => Sys2Proof.Machine.execVecRearm w v s
  | .msixTableWrite w a v => Sys2Proof.Machine.execMsixTableWrite w a v s
  | .blockSleep page state => Sys2Proof.Machine.execBlockSleep page state s
  | .blockWake page => Sys2Proof.Machine.execBlockWake page s
  | .tempSample readings => Sys2Proof.Machine.execTempSample readings s
  | .thermtrip => Sys2Proof.Machine.execThermtrip s
  | .topRst w => Sys2Proof.Machine.execTopRst w s
  | .jbeRst w => Sys2Proof.Machine.execJbeRst w s
  | .hostRst w => Sys2Proof.Machine.execHostRst w s
  | .pwrRst w => Sys2Proof.Machine.execPwrRst w s
  | .miscRst w => Sys2Proof.Machine.execMiscRst w s
  | .irqForce w page v => Sys2Proof.Machine.execIrqForce w page v s
  | .wrongWidthAccess w write be a => Sys2Proof.Machine.execWrongWidthAccess w write be a s
  | .clearOnRead w a => Sys2Proof.Machine.execClearOnRead w a s
  | .counterLowRead w a => Sys2Proof.Machine.execCounterLowRead w a s
  | .registerWrite w a v => Sys2Proof.Machine.execRegisterWrite w a v s
  | .spiRead w v => Sys2Proof.Machine.execSpiRead w v s
  | .spiProgram w v => Sys2Proof.Machine.execSpiProgram w v s
  | .spiErase w v => Sys2Proof.Machine.execSpiErase w v s
  | .spiRegisterRead w v => Sys2Proof.Machine.execSpiRegisterRead w v s
  | .spiDone st data => Sys2Proof.Machine.execSpiDone st data s
  | .uartTx w v => Sys2Proof.Machine.execUartTx w v s
  | .uartRx w => Sys2Proof.Machine.execUartRx w s
  | .uartRxByte byte framing => Sys2Proof.Machine.execUartRxByte byte framing s
  | .uartTxByte => Sys2Proof.Machine.execUartTxByte s
  | .i2cRead w k v => Sys2Proof.Machine.execI2cRead w k v s
  | .i2cWrite w k v => Sys2Proof.Machine.execI2cWrite w k v s
  | .i2cDone k st n data => Sys2Proof.Machine.execI2cDone k st n data s
  | .gpioEdge levels => Sys2Proof.Machine.execGpioEdge levels s
  | .resetRelease bootsel slotA slotB samples => Sys2Proof.Machine.execResetRelease bootsel slotA slotB samples s
  | .pcieLinkUp gen width => Sys2Proof.Machine.execPcieLinkUp gen width s
  | .configSpaceWrite msixEn msixMask d3 => Sys2Proof.Machine.execConfigSpaceWrite msixEn msixMask d3 s
  | .deniedRead w a => Sys2Proof.Machine.execDeniedRead w a s

end Sys2Proof.Machine
end

