-- ==== Sys2Proof/Machine/Step.lean ====
section
/-! DEFINITION. One step: the command at the front of the queue takes effect; with none waiting the block idles. -/

namespace Sys2Proof.Machine
open Sys2Proof

/-- Take the command at the front of the queue and answer its outcome on the state with the rest waiting. An empty queue
idles: DESIGN CHOICE, time passes only by the rows that stand for it. [DESIGN CHOICE, log 2, 3, 185] -/
def step (s : State) : Host.Outcome State Fault Refusal :=
  match s.pending with
  | [] => .next s
  | c :: rest => exec c { s with pending := rest }

/-- The state with the command that a word spells put at the front of the queue. [DESIGN CHOICE, log 1] -/
def State.withFetchWord (s : State) (nbits w : Nat) : State :=
  match decodeTableWord nbits w with
  | some c => { s with pending := c :: s.pending }
  | none => s

end Sys2Proof.Machine
end

