-- ==== Sys2Proof/Machine/Pins.lean ====
section
/-! DEFINITION. The levels of the output pins that follow the device's state (R386); true is high. PORST_L and WARMRST_L low
are the reset commands, and the serial interfaces are commands of their own, so their pins have no level here. -/

namespace Sys2Proof.Machine
open Sys2Proof

/-- LOCKO: high while DPLL_STAT.STATE = LOCKED. [DESIGN CHOICE, log 184] -/
def State.pinLocko (s : State) : Bool := s.dpllState == 2

/-- PPSOUT: high from a second boundary for PPSOUT_CFG.WIDTH ms (R33). -/
def State.pinPpsout (s : State) : Bool := s.time.ppsOut.isSome

/-- Width in SCLK of the pulse on DSYNCO in this frame; 0 for none (R36). -/
def State.pinDsynco (s : State) : Nat := s.time.dsyncOut

/-- BOOTDONE: follows BOOT_STAT.DONE. -/
def State.pinBootdone (s : State) : Bool := s.bit Reg.ROOK_BOOT_STAT 31

/-- XPERSTp_L: low while CXL port `p` is DISABLED; in X8 mode both follow port 0. [DESIGN CHOICE, log 184] -/
def State.pinXperst (s : State) (p : Nat) : Bool := s.cxlState (if s.bit Reg.CXL_CXL_CFG 0 then p else 0) != 0

/-- SPI_RST_L: low in reset, and high from 1 ms after reset release. [DESIGN CHOICE, log 184] -/
def State.pinSpiRst (s : State) : Bool := s.rook.otpRead && decide (s.rook.bootAt + 8 ≤ s.now)

/-- THERMTRIP_L (R371). -/
def State.pinThermtrip (s : State) : Bool := !s.host.trip

/-- ALERT_L (R370). -/
def State.pinAlert (s : State) : Bool := !s.alertLow

/-- LDO of link `l` is driven; otherwise differential 0, as while the link is DISABLED. [DESIGN CHOICE, log 186] -/
def State.pinLdo (s : State) (l : Nat) : Bool := s.linkState l != 0

/-- GPIO0–15: driven as GPIO_OUT where GPIO_DIR is 1, and as the board drives them elsewhere (R379).
[DESIGN CHOICE, log 186] -/
def State.pinGpio (s : State) (i : Nat) : Bool := bitOf s.gpioPins i

end Sys2Proof.Machine
end

