-- ==== Sys2Proof/Safety.lean ====
section
/-! DEFINITION. What a safe run keeps: the sparse tables of memory, registers and poison marks stay in their one canonical
form, so that equal contents are equal data. Beside it the terms that statements use: when a host access is let through,
and what OTP bits have been programmed. -/

namespace Sys2Proof.Machine
open Sys2Proof

/-- A memory in canonical form: addresses strictly rising, and no entry equal to the 0 that an unlisted byte reads as. -/
def Memory.wf (m : List Host.Cell) : Bool := Tab.wf byte0 m

/-- The registers in canonical form: offsets strictly rising, no entry equal to its reset value. -/
def Regs.wf (t : Tab Word) : Bool := Tab.wf regReset t

/-- Poison marks in canonical form. -/
def Poison.wf (t : Tab Bool) : Bool := Tab.wf (fun _ => false) t

/-- Every sparse table that statements read is in canonical form: device and host memory, registers, poison marks, OTP. -/
def State.canonical (s : State) : Bool :=
  Memory.wf s.mem && Memory.wf s.hostMem && Regs.wf s.regs && Poison.wf s.poison && Memory.wf s.rook.otp

/-- The state in which an access through window `w` acts: the window has been seen in this frame (R338). -/
def State.seenBy (s : State) (w : Win) : State := s.setSess w { s.sess_ w with seen := s.now }

/-- The state in which a taken command acts: the command of reference `r` and opcode `op` is marked as begun (R20, R22). -/
def State.begun (s : State) (r : CmdRef) (op : Nat) : State :=
  { s with qm := { s.qm with taken := beginFirst r op s.qm.taken } }

/-- The state after an accepted write of LINE_CFG (R68): EN = 1 wakes the cluster and its LDC, BOUND is kept, and the value waits
for the frame that begins after the write. -/
def State.lineCfgTaken (s : State) (i n : Nat) : State :=
  let u := if bitOf n 31 then (s.wake (0x60000 + i / 128 * 0x1000)).wake (0x20000 + i / 128 * 0x1000) else s
  { u.setN (lineCfg i) (putField n 30 1 (b2n (u.bound i))) with ldc := { u.ldc with dirty := u.ldc.dirty ++ [i] } }

/-- A host access to offset `a` is let through: Rook has read the OTP, the device is not in D3hot, the window has the right
(R341, R342), and no block reset that runs ignores it (R353, R378). -/
def State.opens (s : State) (w : Win) (a : Nat) (wr : Bool) : Bool :=
  s.rook.otpRead && !s.host.d3 && (s.seenBy w).allowed w a wr && !(wr && (s.seenBy w).rstRunning a)

/-- Bit `i` of OTP byte `a` is programmed (R327). -/
def State.otpBit (s : State) (a i : Nat) : Bool := bitOf (s.otpB a) i

/-- The word that core `g` issues next when nothing holds it back: the address of its bundle, the word, and the state it acts
on. A core in a bundle issues the second word; one at a bundle boundary that neither waits nor faults issues the first, with
a restoration by RTI done (R175, R192). -/
def State.toIssue (s : State) (g : Nat) : Option (Nat × Nat × State) :=
  let c := s.core_ g
  match c.inBundle with
  | some b =>
    let w := s.pramWord g (b + 4)
    if (c.state = 1 ∨ c.state = 3) ∧ s.stalls g w = false then some (b, w, s) else none
  | none =>
    let t := s.setCore g c.rtiDone
    let w := s.pramWord g c.pc
    if c.atBoundary = true ∧ c.waiting = false ∧ t.bundleFault g = none ∧ t.stalls g w = false then some (c.pc, w, t) else none

/-- What follows the word's effect `u`: the bundle ends with its last word, and stays open after the first of two (R175). -/
def State.issued (s u : State) (g : Nat) : State :=
  match (s.core_ g).inBundle with
  | some b => u.bundleEnd g b (b + 4)
  | none =>
    let pc := (s.core_ g).pc
    if wLast (s.pramWord g pc) then u.bundleEnd g pc pc else u.onCore g (fun x => { x with inBundle := some pc })

end Sys2Proof.Machine
end

