-- ==== Sys2Proof/Certificates/Slice0/Obligations.lean ====
section
/-! DEFINITION. The statements for the provers: what the commands do, what they leave alone, and what every step keeps. -/

open Sys2Proof Sys2Proof.Machine

/-- TIME: the pins PPSOUT, PPSIN, LSYNC and DSYNCI act at their edges, and DSYNC errors are reported. For every state and
operands that meet the conditions named, exec answers the next state given. PPSOUT_FALL lowers the pin after WIDTH ms.
PPSIN_EDGE stores the stamp FTIME mod 8,000 and FPHASE (6,143 at most: log 7) and counts a good edge 1 s after the
last, any other edge starting the count again; the phase of the frame boundary is a phase sample of source 2.
PPSIN_MISS, 1.5 s after an edge and once, sets IRQ_RAW bit 2 and posts event 0x12. LSYNC_EDGE, when enabled, takes a
trigger whose sync frame is the next frame with the mask latched. DSYNCI_PULSE shows its distance from the frame start
minus COMP in SCLK, counts pulses one frame apart, ends a run of bad frames within 2 SCLK and counts it beyond, and is
a phase sample of source 4; a row that gives another error than that names no pulse (log 4). DSYNC_ERR drops ALIGNED
after 8 bad frames and posts event 0x13. A phase sample of a source not selected is kept and nothing else. -/
def Obligations.TimePinsAreStampedAndCounted : Prop :=
  (∀ (s : State) (f : Nat), s.time.ppsOut = some f → f + 8 * s.fld Reg.TIME_PPSOUT_CFG 0 9 ≤ s.now →
    exec .ppsoutFall s = .next { s with time := { s.time with ppsOut := none } }) ∧
  (∀ (s : State) (ph u : Nat), s.time.ppsLast = some u → u + 49151951 ≤ s.now * 6144 + ph →
    s.now * 6144 + ph ≤ u + 49152049 →
    exec (.ppsinEdge ph) s = .next (State.phaseSample { s.setN Reg.TIME_PPSIN_STAMP (s.now % 8000 * 2 ^ 16 + min ph 6143) with
      time := { s.time with fphase := min ph 6143, ppsLast := some (s.now * 6144 + ph), ppsMiss := false,
                            ppsGood := s.time.ppsGood + 1 } } 2 (phaseNs ph))) ∧
  (∀ (s : State) (ph : Nat), (∀ u, s.time.ppsLast = some u → u ≤ s.now * 6144 + ph →
      (s.now * 6144 + ph < u + 49151951 ∨ u + 49152049 < s.now * 6144 + ph)) →
    exec (.ppsinEdge ph) s = .next (State.phaseSample { s.setN Reg.TIME_PPSIN_STAMP (s.now % 8000 * 2 ^ 16 + min ph 6143) with
      time := { s.time with fphase := min ph 6143, ppsLast := some (s.now * 6144 + ph), ppsMiss := false,
                            ppsGood := 0 } } 2 (phaseNs ph))) ∧
  (∀ (s : State) (u : Nat), s.time.ppsMiss = false → s.time.ppsLast = some u → u + 73728000 ≤ s.now * 6144 + 6143 →
    exec .ppsinMiss s = .next ((State.irq { s with time := { s.time with ppsMiss := true } } 0x8000 2).timeEvent 0x12 [])) ∧
  (∀ (s : State) (ph : Nat), s.bit Reg.TIME_SYNC_CTRL 16 = true →
    exec (.lsyncEdge ph) s = .next ({ s with time := { s.time with
      fphase := min ph 6143, trig := s.time.trig ++ [(s.now + 1, s.fld Reg.TIME_SYNC_CTRL 0 16)] } }.setFld
        Reg.TIME_SYNC_STAT 1 1 1)) ∧
  (∀ (s : State) (ph : Nat) (wide : Bool),
    let d : Int := ((ph : Int) - (s.fld Reg.TIME_DSYNC_CFG 8 6 : Int)) % 6144
    let err : Int := if d < 3072 then d else d - 6144
    exec (.dsynciPulse ph wide err) s = .next (State.phaseSample
      { s.setFld Reg.TIME_DSYNC_STAT 8 8 (unsigned 8 (satTo (-128) 127 err)) with time := { s.time with
          fphase := min ph 6143, dsyncAt := some (s.now * 6144 + ph)
          wideAt := if wide = true then some (if ph < s.fld Reg.TIME_DSYNC_CFG 8 6 + 3072 then s.now else s.now + 1) else s.time.wideAt
          dsyncGood := if s.time.dsyncAt.any (fun u =>
              decide (u + 6142 ≤ s.now * 6144 + ph ∧ s.now * 6144 + ph ≤ u + 6146)) = true then s.time.dsyncGood + 1 else 0
          dsyncBad := if err.natAbs ≤ 2 then 0 else s.time.dsyncBad + 1 } } 4 (phaseNs err)) ∧
    ∀ x : Int, x ≠ err → exec (.dsynciPulse ph wide x) s = .next s) ∧
  (∀ s : State, 8 ≤ s.time.dsyncBad → s.bit Reg.TIME_DSYNC_STAT 0 = true →
    exec .dsyncErr s = .next (((s.setFld Reg.TIME_DSYNC_STAT 0 1 0).irq 0x8000 3).timeEvent 0x13 [])) ∧
  (∀ (s : State) (src : Nat) (err : Int), s.dpllSrc ≠ src →
    s.phaseSample src err = { s with time := { s.time with phErr := Tab.put (fun _ => 0) s.time.phErr src err } })

/-- TIME: host triggers latch mask and frame, PTPT_SET arms, and TIME.RST keeps FTIME and the seconds. For every access
that the gate lets through, exec answers a next state: PTPT_SET_ARM stores SEC_HI and sets ARM; SYNC_CTRL_NOW takes a
trigger with sync frame FTIME + 1 and the BANK_MASK just written; AT_ARM arms the SYNC_AT frame with that mask, or the
next frame with LATE and IRQ_RAW bit 5 where that frame has begun; TIME_RST leaves FTIME and FPHASE, discards an armed
SYNC_AT, keeps a NOW or LSYNC trigger, SEC_OFS, PTPT_SEC and the current frequency, and returns every other register
of the page at 0x100 and above to its reset value. Canonical state is a premise where a register is read back after
its write. -/
def Obligations.HostTriggersAreLatchedAndTimeResetKeepsTime : Prop :=
  (∀ (s : State) (w : Win) (v : Word), s.opens w Reg.TIME_PTPT_SET_HI true = true →
    exec (.ptptSetArm w v) s = .next (((s.seenBy w).setFld Reg.TIME_PTPT_SET_HI 0 16 v.toNat).setFld
      Reg.TIME_PTPT_SET_HI 31 1 1)) ∧
  (∀ (s : State) (w : Win) (v : Word), s.canonical = true → s.opens w Reg.TIME_SYNC_CTRL true = true →
    bitOf v.toNat 18 = false →
    ∃ t, exec (.syncCtrlNow w v) s = .next t ∧ t.time.trig = s.time.trig ++ [(s.now + 1, v.toNat % 2 ^ 16)] ∧
      t.bit Reg.TIME_SYNC_STAT 1 = true ∧ t.time.armed = s.time.armed) ∧
  (∀ (s : State) (w : Win) (v : Word), s.canonical = true → s.opens w Reg.TIME_SYNC_CTRL true = true →
    bitOf v.toNat 17 = false →
    ∃ t, exec (.atArm w v) s = .next t ∧
      t.time.armed = some (if s.rn Reg.TIME_SYNC_AT_LO + 2 ^ 32 * s.fld Reg.TIME_SYNC_AT_HI 0 16 ≤ s.now then s.now + 1
        else s.rn Reg.TIME_SYNC_AT_LO + 2 ^ 32 * s.fld Reg.TIME_SYNC_AT_HI 0 16, v.toNat % 2 ^ 16) ∧
      t.time.trig = s.time.trig) ∧
  (∀ (s : State) (w : Win), s.canonical = true → s.opens w 0x8030 true = true →
    ∃ t, exec (.timeRst w) s = .next t ∧ t.time.ftime = s.time.ftime ∧ t.time.fphase = s.time.fphase ∧
      t.time.armed = none ∧ t.time.trig = s.time.trig ∧
      (∀ a, 0x8100 ≤ a → a < 0x9000 → a ≠ Reg.TIME_SEC_OFS → a ≠ Reg.TIME_PTPT_SEC_LO → a ≠ Reg.TIME_PTPT_SEC_HI →
        a ≠ Reg.TIME_FREQ_OFFSET → t.reg a = regReset a) ∧
      t.reg Reg.TIME_SEC_OFS = s.reg Reg.TIME_SEC_OFS ∧ t.reg Reg.TIME_PTPT_SEC_LO = s.reg Reg.TIME_PTPT_SEC_LO ∧
      t.reg Reg.TIME_PTPT_SEC_HI = s.reg Reg.TIME_PTPT_SEC_HI ∧ t.reg Reg.TIME_FREQ_OFFSET = s.reg Reg.TIME_FREQ_OFFSET)

/-- LINK: training, confirmation and the ways into them complete with the state changes of the training rules. For every
state and operands that meet the conditions named, exec answers the next state given. TAP_SCAN_STEP ends a tap after
TRAIN_FRAMES frames: a tap whose frames were all good is marked in the map, and the next tap or the end of the scan
follows. LINK_UP takes the link to UP after 8 good frames. CONFIRM_TIMEOUT after 64 frames takes it DOWN with cause
NO_EYE, or begins a full scan after a fast one. LINK_RETRAIN begins training of a link that is UP or DOWN and answers
OK. NO_EYE_RETRY retrains 8,000 frames after NO_EYE. CLOCK_REGULAR_RETRAIN retrains each link of the bank that its
clock took down. LNK_CTRL_RETRAIN and TAP_MAN_WRITE act through the gate on LNK_CTRL; LINK_EN_SET and LINK_EN_CLEAR
set and clear one bit of BANK_CFG there: the enable that rises begins the training of its link, the enable that falls
marks a link that is not disabled for the next boundary. -/
def Obligations.LinksTrainAndComeUp : Prop :=
  (∀ (s : State) (l : Nat) (fast : Bool) (lo hi tap n g map : Nat),
    (s.link_ l).training = some (.scan fast lo hi tap n g map) → s.linkState l = 1 → s.trainFrames l ≤ n →
    exec (.tapScanStep l) s = .next (
      if tap < hi then s.setLink l { s.link_ l with
        training := some (.scan fast lo hi (tap + 1) 0 0 (if g = n then bitSet map tap else map)) }
      else s.scanEnd l (if g = n then bitSet map tap else map) fast)) ∧
  (∀ (s : State) (l : Nat) (fast : Bool) (n g : Nat),
    (s.link_ l).training = some (.confirm fast n g) → s.linkState l = 1 → 8 ≤ g →
    exec (.linkUp l) s = .next
      ((s.setLink l { s.link_ l with training := none, noSync := 0, crcAt := [] }).setLinkState l 2 0)) ∧
  (∀ (s : State) (l n g : Nat) (fast : Bool), (s.link_ l).training = some (.confirm fast n g) → s.linkState l = 1 →
    64 ≤ n → g < 8 →
    exec (.confirmTimeout l) s = .next (if fast = true then s.beginTraining l false else s.linkDown l 6)) ∧
  (∀ (s : State) (r : CmdRef) (l : Nat) (fast : Bool), s.cmdDue r 0x63 = true → l ≤ 127 →
    s.linkState l = 2 ∨ s.linkState l = 3 →
    exec (.linkRetrain r l fast) s = .next (((s.begun r 0x63).beginTraining l fast).respond r 0x63 0 [l])) ∧
  (∀ (s : State) (l : Nat), s.linkState l = 3 → s.fld (lnkStat l) 27 3 = 6 → s.autoRetrain l = true →
    (s.link_ l).downAt + 8000 ≤ s.now → exec (.noEyeRetry l) s = .next (s.beginTraining l false)) ∧
  (∀ (s : State) (b : Nat), exec (.clockRegularRetrain b) s = .next (
    State.each ((s.setFld (Reg.LINK_BANK_STAT b) 0 2 3).setBank b
        { (s.setFld (Reg.LINK_BANK_STAT b) 0 2 3).bank_ b with regular := 8 })
      ([0, 1, 2, 3, 4, 5, 6, 7].map (8 * b + ·)) (fun s l =>
        if s.linkState l = 3 ∧ (s.fld (lnkStat l) 27 3 = 2 ∨ s.fld (lnkStat l) 27 3 = 3) ∧ s.autoRetrain l = true
        then s.beginTraining l false else s))) ∧
  (∀ (s : State) (w : Win) (l : Nat) (v : Word), s.opens w (Reg.LINK_LNK_CTRL (l / 8) (l % 8)) true = true →
    exec (.lnkCtrlRetrain w l v) s = .next ((s.seenBy w).writeLnkCtrl l (v ||| 0x10000#32))) ∧
  (∀ (s : State) (w : Win) (l : Nat) (v : Word), s.opens w (Reg.LINK_LNK_CTRL (l / 8) (l % 8)) true = true →
    exec (.tapManWrite w l v) s = .next ((s.seenBy w).writeLnkCtrl l (v ||| 0x1000#32))) ∧
  (∀ (s : State) (w : Win) (l : Nat), s.opens w (Reg.LINK_BANK_CFG (l / 8)) true = true →
    exec (.linkEnSet w l) s =
      .next ((s.seenBy w).writeBankCfg (l / 8) (w32 (bitSet (s.rn (Reg.LINK_BANK_CFG (l / 8))) (l % 8))))) ∧
  (∀ (s : State) (w : Win) (l : Nat), s.opens w (Reg.LINK_BANK_CFG (l / 8)) true = true →
    exec (.linkEnClear w l) s =
      .next ((s.seenBy w).writeBankCfg (l / 8) (w32 (bitClear (s.rn (Reg.LINK_BANK_CFG (l / 8))) (l % 8))))) ∧
  (∀ (s : State) (b k : Nat), k < 8 → s.rn (Reg.LINK_BANK_CFG b) = 0 → (s.link_ (8 * b + k)).disabling = false →
    s.writeBankCfg b (w32 (2 ^ k)) = (s.setN (Reg.LINK_BANK_CFG b) (2 ^ k)).beginTraining (8 * b + k) false) ∧
  (∀ (s : State) (b k : Nat), k < 8 → s.rn (Reg.LINK_BANK_CFG b) = 2 ^ k →
    s.linkState (8 * b + k) ≠ 0 →
    s.writeBankCfg b 0 = (s.setN (Reg.LINK_BANK_CFG b) 0).setLink (8 * b + k)
        { s.link_ (8 * b + k) with disabling := true })

/-- LINK: a lost clock, lost frame pulses, lost sync and too many CRC errors take links DOWN with their cause. For every
state that meets the conditions named, exec answers the next state given. CLK_LOSS clears the bank's clock-present bit
and takes every UP link of the bank DOWN with cause 2, FS_ERR clears the frame-present bit and does so with cause 3.
SYNC_LOSS acts on an UP link after four frames without the sync word with cause 4, and CRC_LIMIT once the errors of
the last second reach CRC_LIMIT with cause 5; both then retrain where AUTO_RETRAIN is set, fast where BANK_CFG bit 10
asks for it. -/
def Obligations.LinksGoDownForTheirCauses : Prop :=
  (∀ (s : State) (b : Nat), exec (.clkLoss b) s = .next (
    State.each ((s.setFld (Reg.LINK_BANK_STAT b) 0 1 0).setBank b { s.bank_ b with regular := 0 })
      ([0, 1, 2, 3, 4, 5, 6, 7].map (8 * b + ·)) (fun s l => if s.linkState l = 2 then s.linkDown l 2 else s))) ∧
  (∀ (s : State) (b : Nat), exec (.fsErr b) s = .next (
    State.each ((s.setFld (Reg.LINK_BANK_STAT b) 1 1 0).setBank b { s.bank_ b with regular := 0 })
      ([0, 1, 2, 3, 4, 5, 6, 7].map (8 * b + ·)) (fun s l => if s.linkState l = 2 then s.linkDown l 3 else s))) ∧
  (∀ (s : State) (l : Nat), s.linkState l = 2 → 4 ≤ (s.link_ l).noSync →
    let d := s.linkDown l 4
    exec (.syncLoss l) s = .next (
      if d.bit (Reg.LINK_BANK_CFG (l / 8)) 9 = true then d.beginTraining l (d.bit (Reg.LINK_BANK_CFG (l / 8)) 10) else d)) ∧
  (∀ (s : State) (l : Nat), s.linkState l = 2 → s.fld (Reg.LINK_CRC_LIMIT (l / 8)) 0 8 ≤ (s.link_ l).crcAt.length →
    let d := s.linkDown l 5
    exec (.crcLimit l) s = .next (
      if d.bit (Reg.LINK_BANK_CFG (l / 8)) 9 = true then d.beginTraining l (d.bit (Reg.LINK_BANK_CFG (l / 8)) 10) else d))

/-- LINK: LINE_SET, LINE_RING, its stop, cadence steps, debounced status and management messages complete. For every state
and operands that meet the conditions named, exec answers the next state given. LINE_SET with legal fields (TEST_RLY
other than 0 from the installer alone) on a line without a cadence puts mode, current limit, ring select, polarity,
test relay and front-end option into the line's control word and answers OK. LINE_RING on an idle line starts the
cadence of its profile at the next close with mode 4 and answers OK. Its stop restores mode and RING_ON and owes a
done event, on a line without a cadence it only answers OK, and a line above 2,047 or a RING_SEL above 15 is
BAD_PARAM. CADENCE_STEP, once the part in progress expires at the next close, makes that close apply the step.
STATUS_DEBOUNCE of GND_KEY stores the new value, clears its count and posts LINE_GND_KEY; each of the bits 11 to 15
whose count has run clears its count and shows its new value. LINK_MGMT_SEND queues a message with the link's next SEQ
and answers it. -/
def Obligations.LineCommandsSetControlWordsAndCadences : Prop :=
  (∀ (s : State) (r : CmdRef) (i mode ilim ringSel polSoft testRly feOpt : Nat), s.cmdDue r 0x60 = true → i ≤ 2047 →
    mode < 7 → mode ≠ 4 → ilim < 256 → ringSel < 16 → polSoft < 2 → feOpt < 16 → testRly < 4 →
    (testRly = 0 ∨ r.win = .installer) → (s.line_ i).cadence = none →
    exec (.lineSet r i mode ilim ringSel polSoft testRly feOpt) s = .next (((s.begun r 0x60).setLine i { s.line_ i with
      ctl := lineSetWord (s.line_ i).ctl mode ilim ringSel polSoft testRly feOpt }).respond r 0x60 0 [i])) ∧
  (∀ (s : State) (r : CmdRef) (i p ringSel cycles on off : Nat), s.cmdDue r 0x61 = true → i ≤ 2047 → p ≤ 7 →
    ringSel ≤ 15 → (s.cadence (i / 128) p).getD 0 (0, 0) = (on, off) → (on, off) ≠ (0, 0) →
    s.bit (lineStat i) 15 = false → s.bit (lineStat i) 14 = false → (s.line_ i).cadence = none →
    exec (.lineRing r i p ringSel cycles) s = .next (((s.begun r 0x61).setLine i { s.line_ i with
      cadence := some { segs := s.cadence (i / 128) p, seg := 0, on := decide (0 < on)
                        due := s.now + 1 + (if 0 < on then on else off), cycles := cycles
                        done := 0, prevMode := fieldOf (s.line_ i).ctl 28 4, prevOn := fieldOf (s.line_ i).ctl 11 1 }
      stepDue := false
      ctl := setRingOn (putField (putField (s.line_ i).ctl 28 4 4) 12 4 ringSel) (decide (0 < on)) }).respond r 0x61 0 [i])) ∧
  (∀ (s : State) (r : CmdRef) (i : Nat) (c : Cadence), s.cmdDue r 0x61 = true → i ≤ 2047 → (s.begun r 0x61).cmdField r 0x61 2 ≤ 15 →
    (s.line_ i).cadence = some c →
    exec (.lineRingStop r i) s = .next (((s.begun r 0x61).setLine i { s.line_ i with
      cadence := none, stepDue := false
      ctl := setRingOn (putField (s.line_ i).ctl 28 4 c.prevMode) (decide (c.prevOn = 1))
      doneDue := (s.line_ i).doneDue ++ [c.done] }).respond r 0x61 0 [i])) ∧
  (∀ (s : State) (r : CmdRef) (i : Nat), s.cmdDue r 0x61 = true → i ≤ 2047 → (s.begun r 0x61).cmdField r 0x61 2 ≤ 15 →
    (s.line_ i).cadence = none →
    exec (.lineRingStop r i) s = .next ((s.begun r 0x61).respond r 0x61 0 [i])) ∧
  (∀ (s : State) (r : CmdRef) (i : Nat), s.cmdDue r 0x61 = true → 2047 < i ∨ 15 < (s.begun r 0x61).cmdField r 0x61 2 →
    exec (.lineRingStop r i) s = .next ((s.begun r 0x61).respond r 0x61 3 [i])) ∧
  (∀ (s : State) (i : Nat) (c : Cadence), (s.line_ i).cadence = some c → c.due ≤ s.now + 1 →
    exec (.cadenceStep i) s = .next (s.setLine i { s.line_ i with stepDue := true })) ∧
  (∀ (x : Line) (on off : Nat) (c : Cadence), x.stepDue = true → x.cadence = some c → c.on = true →
    c.segs.getD c.seg (0, 0) = (on, off) → 0 < off →
    x.step = { x with stepDue := false, cadence := some { c with on := false, due := c.due + off }
                      ctl := setRingOn x.ctl false }) ∧
  (∀ (s : State) (i : Nat) (d : Deb), Tab.get (fun _ => {}) (s.line_ i).deb 13 = d → s.debCount (i / 128) 13 ≤ d.count →
    s.linkState (i / 16) = 2 →
    exec (.statusDebounce i 13) s = .next (((s.setFld (lineStat i) 13 1 (b2n d.value)).setLine i { s.line_ i with
      deb := Tab.put (fun _ => {}) (s.line_ i).deb 13 {} }).lineEvent (i / 128) 3 0xE2
        [i, b2n d.value, d.stamp % 2 ^ 32])) ∧
  (∀ (s : State) (r : CmdRef) (l len : Nat) (p : List Nat), s.cmdDue r 0x62 = true → 1 ≤ len → len ≤ 62 → l ≤ 127 →
    (s.link_ l).mgmt.length < 4 → s.linkState l ≠ 0 →
    exec (.linkMgmtSend r l len p) s = .next (((s.begun r 0x62).setLink l { s.link_ l with
      mgmt := (s.link_ l).mgmt ++ [⟨(s.link_ l).mgmtSeq, slice p 0 len⟩]
      mgmtSeq := ((s.link_ l).mgmtSeq + 1) % 256 }).respond r 0x62 0 [l, (s.link_ l).mgmtSeq]))

/-- LINK: a good LDI frame is held for the next frame, a closed LDO frame leaves, and LINK.RST resets an unbound bank. For
every state and operands that meet the conditions named, exec answers a next state as given. LDI_FRAME on an UP link
with sync word, CRC and FCNT in order that has received nothing else in this frame is held as that frame's reception,
sets LNK_STAT.FCNT, and checks the phase; on a link in training it counts toward the tap or the confirmation.
LDO_FRAME_START sends the frame closed at FPHASE 0, takes its message from the queue and shows its control words in
LINE_CTL; a second start in the frame sends a repeat with zero PCM and SLIP, and counts the transmit slip. LINK_RST of
a bank with no bound line returns its header and registers to reset values and its links to no state; with a bound
line it is refused with BUSY. -/
def Obligations.LinkFramesAreTakenAndSent : Prop :=
  (∀ (s : State) (l ph : Nat) (f : FrameBytes), s.canonical = true → s.linkState l = 2 → syncOk f = true → crcOk f = true →
    (s.link_ l).rx = none → (f.drop 2).headD 0 = (s.fld (lnkStat l) 16 8 + 1) % 256 →
    ∃ t, exec (.ldiFrame l ph f) s = .next t ∧ t.time.fphase = min ph 6143 ∧ t.mem = s.mem ∧ t.time.ftime = s.time.ftime ∧
      t.link.lines = s.link.lines ∧ t.link.links = Tab.put (fun _ => {}) s.link.links l { s.link_ l with
        noSync := 0, crcAt := (s.link_ l).crcAt.filter (fun c => s.now < c + 8000)
        rx := some ⟨true, (f.drop 2).headD 0, (f.drop 3).headD 0, f⟩ }) ∧
  (∀ (s : State) (l ph : Nat) (f : FrameBytes), s.linkState l = 1 ∨ s.linkState l = 3 →
    ∃ t, exec (.ldiFrame l ph f) s = .next t ∧ t.link.links = Tab.put (fun _ => {}) s.link.links l { s.link_ l with
        training := (s.link_ l).training.map (Training.count (syncOk f && crcOk f))
        rx := some ⟨syncOk f && crcOk f, (f.drop 2).headD 0, (f.drop 3).headD 0, f⟩ }) ∧
  (∀ (s : State) (l : Nat) (f : LdoFrame), s.linkState l ≠ 0 → (s.link_ l).started = 0 → (s.link_ l).closed = some f →
    exec (.ldoFrameStart l) s = .next ((s.setLink l { s.link_ l with
      sent := some f, closed := none, started := 1
      mgmt := if f.mgmt.isSome then (s.link_ l).mgmt.tail else (s.link_ l).mgmt }).showCtl l f.ctl)) ∧
  (∀ (s : State) (l : Nat) (g : LdoFrame), s.linkState l ≠ 0 → 0 < (s.link_ l).started → (s.link_ l).sent = some g →
    let ctl := (linesOf l).map (fun i => (s.line_ i).ctl)
    exec (.ldoFrameStart l) s = .next ((((s.setLink l { s.link_ l with
      sent := some { fcnt := g.fcnt, underrun := false, slip := true, pcm := List.replicate 16 [0, 0, 0, 0], ctl := ctl, mgmt := none }
      started := (s.link_ l).started + 1 }).showCtl l ctl).zeroRef l).slip (l / 8) true 0)) ∧
  (∀ (s : State) (w : Win) (b : Nat), s.opens w (0x10000 + b * 0x1000 + 0x30) true = true →
    (∀ i, i < 128 → (s.seenBy w).bound (128 * b + i) = false) →
    ∃ t, exec (.linkRst w b) s = .next t ∧ (∀ l, l / 8 = b → t.link_ l = {}) ∧ (∀ l, l / 8 ≠ b → t.link_ l = s.link_ l) ∧
      (∀ a, 0x10000 + b * 0x1000 + 0x100 ≤ a → a < 0x10000 + b * 0x1000 + 0x1000 → t.reg a = regReset a)) ∧
  (∀ (s : State) (w : Win) (b i : Nat), s.opens w (0x10000 + b * 0x1000 + 0x30) true = true → i < 128 →
    (s.seenBy w).bound (128 * b + i) = true →
    exec (.linkRst w b) s = .next ((s.seenBy w).rstRefused (0x10000 + b * 0x1000) 2))

/-- LDC: writes of LINE_CFG by their rows are stored with BOUND kept and wait for the next frame. For an access let
through and a new value that LINE_CFG accepts, LINE_ENABLE sets EN beside the value written, LINE_DISABLE clears EN,
LINE_SET_CHANGE, LINE_PHASE_WRITE and LINE_BPH_WRITE replace their field: exec answers the state with the value
stored, BOUND kept, cluster and LDC woken where EN = 1, and the line noted for the frame that begins after the write.
A value is accepted on an unbound line if its BPH is below 40, and on a bound line if EN, BPH and the set stay; BPH 40
and above on an unbound line is refused with BAD_PARAM, a clear of EN on a bound line with BUSY, and a refused write
is recorded with CFG_ERR. -/
def Obligations.LineConfigurationWritesWaitForTheNextFrame : Prop :=
  (∀ (s : State) (w : Win) (i : Nat) (v : Word), s.opens w (lineCfg i) true = true →
    let n := ((v ||| 0x80000000#32) &&& 0x873F7F00#32).toNat
    (s.seenBy w).lineCfgStatus i n = 0 → exec (.lineEnable w i v) s = .next ((s.seenBy w).lineCfgTaken i n)) ∧
  (∀ (s : State) (w : Win) (i : Nat), s.opens w (lineCfg i) true = true →
    let n := ((s.reg (lineCfg i) &&& 0x7FFFFFFF#32) &&& 0x873F7F00#32).toNat
    (s.seenBy w).lineCfgStatus i n = 0 → exec (.lineDisable w i) s = .next ((s.seenBy w).lineCfgTaken i n)) ∧
  (∀ (s : State) (w : Win) (i x : Nat), s.opens w (lineCfg i) true = true →
    let n := (w32 (putField (s.rn (lineCfg i)) 24 3 x) &&& 0x873F7F00#32).toNat
    (s.seenBy w).lineCfgStatus i n = 0 → exec (.lineSetChange w i x) s = .next ((s.seenBy w).lineCfgTaken i n)) ∧
  (∀ (s : State) (w : Win) (i x : Nat), s.opens w (lineCfg i) true = true →
    let n := (w32 (putField (s.rn (lineCfg i)) 8 7 x) &&& 0x873F7F00#32).toNat
    (s.seenBy w).lineCfgStatus i n = 0 → exec (.linePhaseWrite w i x) s = .next ((s.seenBy w).lineCfgTaken i n)) ∧
  (∀ (s : State) (w : Win) (i x : Nat), s.opens w (lineCfg i) true = true →
    let n := (w32 (putField (s.rn (lineCfg i)) 16 6 x) &&& 0x873F7F00#32).toNat
    (s.seenBy w).lineCfgStatus i n = 0 → exec (.lineBphWrite w i x) s = .next ((s.seenBy w).lineCfgTaken i n)) ∧
  (∀ (s : State) (i n : Nat), s.bound i = false → s.lineCfgStatus i n = if fieldOf n 16 6 < 40 then 0 else 3) ∧
  (∀ (s : State) (i n : Nat), s.bound i = true → fieldOf n 16 6 < 40 → bitOf n 31 = true →
    fieldOf n 16 6 = s.fld (lineCfg i) 16 6 → fieldOf n 24 3 = s.fld (lineCfg i) 24 3 → s.lineCfgStatus i n = 0) ∧
  (∀ (s : State) (w : Win) (i : Nat), s.opens w (lineCfg i) true = true → s.bound i = true →
    s.bit (lineCfg i) 31 = true →
    exec (.lineDisable w i) s = .next ((s.seenBy w).cfgErr (0x20000 + i / 128 * 0x1000) (some 4) 2 (lineCfg i)))

/-- LDC: sync triggers, filter swaps, coefficient access and line measurements complete by their rules. For every state
and operands that meet the conditions named, exec answers the next state given. LDC_LINK_SYNC and LDC_BANK_SYNC take a
trigger for the next frame with the links named or all eight. SWAP_REQUEST of an FIR set with no swap pending starts a
fade at the next frame, or becomes the pending swap while a fade runs or is to start. FADE_END of a full fade changes
the active bank, ends the fade, leaves a pending swap owed to the next frame boundary and sets IRQ_RAW bit 1.
COEF_DATA_WRITE of a free set stores the low 20 bits and COEF_DATA_READ returns the coefficient; both step the index.
LINE_MEAS of an enabled line starts at START, or at the next frame where START is 0 or past, and answers OK;
LINE_MEAS_DONE ends a full window; LDC_RST empties the fades of the bank's sets and completes at the next frame. -/
def Obligations.DecimatorSyncsSwapsCoefficientsAndMeasurements : Prop :=
  (∀ (s : State) (w : Win) (b mask : Nat), s.opens w (Reg.LDC_LDC_SYNC b) true = true →
    exec (.ldcLinkSync w b mask) s = .next { s.seenBy w with
      ldc := { s.ldc with trig := s.ldc.trig ++ [(b, s.now + 1, mask % 256)] } }) ∧
  (∀ (s : State) (w : Win) (b : Nat), s.opens w (Reg.LDC_LDC_SYNC b) true = true →
    exec (.ldcBankSync w b) s = .next { s.seenBy w with
      ldc := { s.ldc with trig := s.ldc.trig ++ [(b, s.now + 1, 255)] } }) ∧
  (∀ (s : State) (w : Win) (b st : Nat) (v : Word), s.opens w (Reg.LDC_SET_CTRL b st) true = true →
    bitOf (v ||| 0x10000#32).toNat 16 = true →
    s3mode (s.rn (Reg.LDC_SET_CFG b st)) = 0 → s.bit (Reg.LDC_SET_STAT b st) 2 = false → st < 8 →
    let u := (s.seenBy w).setReg (Reg.LDC_SET_CTRL b st) ((v ||| 0x10000#32) &&& 0xF07#32)
    exec (.swapRequest w b st v) s = .next (
      if (s.set_ (8 * b + st)).fade = none ∧ (s.set_ (8 * b + st)).starting = false then
        u.setSet (8 * b + st) { s.set_ (8 * b + st) with starting := true }
      else u.setFld (Reg.LDC_SET_STAT b st) 2 1 1)) ∧
  (∀ (s : State) (b st m k : Nat), (s.set_ (8 * b + st)).fade = some (m, k) → 2 ^ k ≤ m →
    exec (.fadeEnd b st) s = .next (((s.setN (Reg.LDC_SET_STAT b st)
        (putField (s.rn (Reg.LDC_SET_STAT b st)) 0 2 (1 - s.fld (Reg.LDC_SET_STAT b st) 0 1))).setSet (8 * b + st)
        { fade := none, starting := false
          owed := (s.setFld (Reg.LDC_SET_STAT b st) 0 2 (1 - s.fld (Reg.LDC_SET_STAT b st) 0 1)).bit (Reg.LDC_SET_STAT b st) 2
          }).irq (0x20000 + b * 0x1000) 1)) ∧
  (∀ (s : State) (w : Win) (b : Nat) (v : Word),
    let st := s.fld (Reg.LDC_COEF_SEL b) 8 3
    s.opens w (Reg.LDC_COEF_DATA b) true = true → s.setUsed b st = false → (s.set_ (8 * b + st)).fade = none →
    (s.set_ (8 * b + st)).starting = false → s.bit (Reg.LDC_SET_STAT b st) 2 = false →
    s.fld (Reg.LDC_COEF_SEL b) 0 8 ≤ s.fld (Reg.LDC_SET_CFG b st) 0 8 →
    exec (.coefDataWrite w b v) s = .next (State.coefNext { s.seenBy w with ldc := { s.ldc with
      coefs := Tab.put coefReset s.ldc.coefs (coefKey b st (s.fld (Reg.LDC_COEF_SEL b) 11 1) (s.fld (Reg.LDC_COEF_SEL b) 0 8))
        (v.toNat % 2 ^ 20) } } b)) ∧
  (∀ (s : State) (w : Win) (b : Nat), s.opens w (Reg.LDC_COEF_DATA b) false = true →
    exec (.coefDataRead w b) s = .next (State.coefNext { s.seenBy w with rdata := w32 (s.coef b (s.fld (Reg.LDC_COEF_SEL b) 8 3)
      (s.fld (Reg.LDC_COEF_SEL b) 11 1) (s.fld (Reg.LDC_COEF_SEL b) 0 8)) } b)) ∧
  (∀ (s : State) (r : CmdRef) (i start len freq dest : Nat), s.cmdDue r 0x64 = true → i ≤ 2047 →
    s.bit (lineCfg i) 31 = true → (s.dec_ i).meas = none → s.measCount (i / 128) < 16 → 1 ≤ len → len ≤ 65536 →
    freq < setRate (s.lineSetCfg i) * 5 → (dest = 0 ∨ dest % 8 = 0 ∧ inNear dest (4 * len) = true) →
    let ahead := (start + 2 ^ 32 - (s.now + 1) % 2 ^ 32) % 2 ^ 32
    exec (.lineMeas r i start len freq dest) s = .next ((((s.begun r 0x64).setDec i { s.dec_ i with
      meas := some { start := if start = 0 ∨ 2 ^ 31 ≤ ahead then s.now + 1 else s.now + 1 + ahead
                     len := len, freq := freq, dest := dest, rate := setRate (s.lineSetCfg i) } }).showMeas (i / 128)).respond r
        0x64 0 [i])) ∧
  (∀ (s : State) (i : Nat) (m : Meas), (s.dec_ i).meas = some m → m.len ≤ m.count →
    exec (.lineMeasDone i) s = .next (s.endMeas i 0)) ∧
  (∀ (s : State) (w : Win) (b : Nat), s.opens w (0x20000 + b * 0x1000 + 0x30) true = true →
    ∃ t, exec (.ldcRst w b) s = .next t ∧ (∀ k, k / 8 = b → t.set_ k = {}) ∧ b ∈ t.ldc.rst)

/-- ECE: submits, holdovers, triggers, replays, comparisons and fades act on the instance they name. For every state and
operands that meet the conditions named, exec answers the next state given, for an instance x at unit k. ECE_SUBMIT of
a free PACKET unit queues the block with the core's JNL_TIME; PACKET_BLOCK_DONE takes the cluster's oldest block, runs
it and counts it late where a frame lies between; FOCUS_PLACE places a due window; DT_HANG_END clears DT once the
sample time has passed its hangover; TONE_REENABLE leaves NLP-off or bypass after the low time and posts ECE_TONE;
ERLE_DROP and DT_LONG, off link faults, take their triggers; REPLAY_START takes the oldest trigger with slots free and
copies the live filter, from the journal where it serves and else from at most 2,048 frames of the ring;
REPLAY_FALLBACK restarts a failed replay from the ring with R = 2,048 frames; REPLAY_CATCH_UP opens the comparison;
COMPARISON_END asks for the swap where the far end was active long enough and the margin is reached, and ends with
KEPT otherwise; ECE_FADE_END of a full fade counts the swap, posts its event and releases the slot unless a swap is
pending. -/
def Obligations.EchoEngineEventsActOnTheirInstance : Prop :=
  (∀ (s : State) (g : Nat) (v : Word) (x : Ece), s.ece_ (256 * (g / 8) + v.toNat % 256) = some x → x.packet = true →
    (∀ b ∈ s.ece.blocks, b.inst ≠ 256 * (g / 8) + v.toNat % 256) →
    exec (.eceSubmit g v) s = .next { s with ece := { s.ece with blocks := s.ece.blocks ++
      [⟨256 * (g / 8) + v.toNat % 256, v.toNat / 2 ^ 16, s.now, Tab.get (fun _ => 0) (s.core_ g).spr 0x214⟩] } }) ∧
  (∀ (s : State) (cl : Nat) (b : EceBlock) (x : Ece), s.ece.blocks.find? (fun b => b.inst / 256 == cl) = some b →
    s.ece_ b.inst = some x →
    let t := State.packetBlock { s with ece := { s.ece with blocks := s.ece.blocks.erase b } } b (if x.fresh then x.init else x)
    exec (.packetBlockDone cl) s = .next (if b.frame + 1 < t.now then t.bump (Reg.ECE_PKT_LATE cl) else t)) ∧
  (∀ (s : State) (cl un : Nat) (x : Ece), s.ece_ (256 * cl + un) = some x → x.focusDue = true →
    exec (.focusPlace cl un) s = .next (s.setEce (256 * cl + un) (some { x with
      focusDue := false, focus := focusBest x.h (min (((s.eceP cl x.prof).flen + 1) * 64) x.taps) }))) ∧
  (∀ (s : State) (cl un : Nat) (x : Ece), s.ece_ (256 * cl + un) = some x → x.dt = true →
    x.dtAt + fieldOf (s.ecePrf cl x.prof 2) 16 8 * x.per ≤ (if x.packet then x.cnt else s.now * x.per) →
    exec (.dtHangEnd cl un) s = .next (s.setEce (256 * cl + un) (some { x with dt := false, dtSince := none }))) ∧
  (∀ (s : State) (cl un f : Nat) (x : Ece), s.ece_ (256 * cl + un) = some x → x.tone ≠ 0 → x.lowSince = some f →
    f + 16 * fieldOf (s.ecePrf cl x.prof 5) 16 8 ≤ x.frame s.now →
    exec (.toneReenable cl un) s = .next ((s.setEce (256 * cl + un) (some { x with tone := 0, lowSince := none })).toneEvent
      (256 * cl + un) x 2)) ∧
  (∀ (s : State) (cl un f : Nat) (x : Ece), un < 256 → s.ece_ (256 * cl + un) = some x → x.faulted = false →
    x.dropSince = some f → f + 8 * max 1 (fieldOf (s.ecePrf cl x.prof 4) 12 8) ≤ x.frame s.now →
    s.trigStatus (256 * cl + un) x = 0 →
    exec (.erleDrop cl un) s = .next (s.acceptTrig (256 * cl + un) 1 (fieldOf (s.ecePrf cl x.prof 5) 8 8) x)) ∧
  (∀ (s : State) (cl un f : Nat) (x : Ece), un < 256 → s.ece_ (256 * cl + un) = some x → x.faulted = false →
    x.dtSince = some f → fieldOf (s.ecePrf cl x.prof 2) 8 8 ≠ 0 →
    f + 64 * fieldOf (s.ecePrf cl x.prof 2) 8 8 ≤ x.frame s.now → s.trigStatus (256 * cl + un) x = 0 →
    exec (.dtLong cl un) s = .next (s.acceptTrig (256 * cl + un) 2 (fieldOf (s.ecePrf cl x.prof 5) 8 8) x)) ∧
  (∀ (s : State) (cl : Nat) (t : EceTrig) (x : Ece), s.ece.trigs.find? (fun t => t.inst / 256 == cl) = some t →
    s.ece_ t.inst = some x → x.bg = none → s.slotsUsed cl true + x.per ≤ s.fld (Reg.ECE_ECE_CFG cl) 0 5 →
    s.slotsUsed cl false + x.per ≤ 16 →
    let j := s.journalOn x.ctx
    exec (.replayStart cl) s = .next (State.setEce { s with ece := { s.ece with trigs := s.ece.trigs.erase t } } t.inst
      (some { x with bg := some (s.replayBg t.inst x (if j = true then t.r else min t.r 2048) j false) }))) ∧
  (∀ (s : State) (cl un : Nat) (x : Ece) (b : EceBg), s.ece_ (256 * cl + un) = some x → x.bg = some b → b.failed = true →
    exec (.replayFallback cl un) s = .next (((s.setEce (256 * cl + un)
      (some { x with bg := some (s.replayBg (256 * cl + un) x 2048 false true) })).bump
        (Reg.ECE_FALLBACK_CNT cl)).irq (0x30000 + cl * 0x1000) 4)) ∧
  (∀ (s : State) (cl un : Nat) (x : Ece) (b : EceBg), s.ece_ (256 * cl + un) = some x → x.bg = some b → b.phase = 1 →
    b.retro = true → x.cnt ≤ b.pos →
    exec (.replayCatchUp cl un) s = .next (s.setEce (256 * cl + un) (some { x with bg := some { b with phase := 2 } }))) ∧
  (∀ (s : State) (cl un : Nat) (x : Ece) (b : EceBg), un < 256 → s.ece_ (256 * cl + un) = some x → x.bg = some b →
    b.phase = 2 → 512 * x.per ≤ b.seen →
    exec (.comparisonEnd cl un) s = .next (
      if 256 * x.per ≤ b.far ∧ ratioGe b.eLive b.eBg (fieldOf (s.ecePrf cl x.prof 4) 6 6) = true ∧
          (b.eBg ≠ b.eLive ∨ b.eLive ≠ 0) then
        (s.eceSwapReq (256 * cl + un) { x with bg := some { b with phase := 3 } }).1
      else (s.reconvDone (256 * cl + un) x 1 0).setEce (256 * cl + un) (some { x with bg := none }))) ∧
  (∀ (s : State) (cl un : Nat) (x : Ece) (f : EceFade) (b : EceBg), un < 256 → s.ece_ (256 * cl + un) = some x →
    x.ended = some f → x.bg = some b →
    let t := s.bump (Reg.ECE_SWAP_CNT cl)
    exec (.eceFadeEnd cl un) s = .next ((if b.retro = true then t.reconvDone (256 * cl + un) x 0 0
        else t.eceEvent x 0xA3 [x.ctx, un, b2n f.pending, t.now % 2 ^ 32]).setEce (256 * cl + un) (some { x with
      ended := none, swaps := x.swaps + 1
      bg := if x.pend = true then some { b with retro := false, phase := 0 } else none })))

/-- ECE: the ECE commands attach, change, query, load, swap, read and detach instances and answer OK. For every state and
operands that meet the conditions named, and a command that is taken and due, exec answers the next state given.
ECE_ATTACH of an open context without an instance and with legal fields wakes the ECE and takes the unit the cluster
has free, at the line's rate for a LINE instance. On an attached instance x at k: ECE_MODIFY with legal fields
abandons a retro-convergence where it re-initialises, and notes the changes for the next frame; ECE_DETACH abandons
and releases; ECE_QUERY answers the instance's figures; ECE_RECONVERGE with 25 to 200, or 0 for the profile's length,
accepts a trigger of cause HOST; ECE_LOAD reads Q2.22 taps from near memory into the background filter; ECE_SWAP with
a filter that waits and no swap pending starts a fade at the next frame, or is pending behind the running one;
ECE_READ writes the live or background taps to near memory as 32-bit words. ECE_RST resets the header at once and the
cluster's instances at the next frame. -/
def Obligations.EchoCommandsCompleteForAttachedInstances : Prop :=
  (∀ (s : State) (r : CmdRef) (c un : Nat) (f : EchoFields), s.cmdDue r 0x20 = true → (s.ctx_ c).state = 1 →
    s.eceOf c = none → f.kind ≤ 1 → f.rate ≤ 1 → 2 ≤ f.tlen → f.tlen ≤ 16 → f.bulk ≤ 255 → f.prof ≤ 3 →
    (f.kind = 0 → (s.ctx_ c).line ≠ none) →
    let wide := if f.kind = 1 then f.rate == 1 else (s.ctx_ c).line.any (fun l => s.wideLine l)
    s.freeUnit (s.ctx_ c).home wide = some un →
    exec (.eceAttach r c f) s = .next ((((s.begun r 0x20).wake (0x30000 + (s.ctx_ c).home * 0x1000)).eceAttach c f wide un).respond
      r 0x20 0 [c, un])) ∧
  (∀ (s : State) (r : CmdRef) (c k : Nat) (x : Ece) (f : EchoChange), s.cmdDue r 0x21 = true → s.eceOf c = some (k, x) →
    s.echoBad x f = false →
    let b := s.begun r 0x21
    let t := if (f.kind.isSome || f.tlen.isSome || f.bulk.isSome) = true then b.abandon k (some 3) else b
    exec (.eceModify r c f) s = .next ((t.onEce k (fun y => { y with next := some {
      kind := (f.kind.map (· == 1)).orElse (fun _ => (y.next.getD {}).kind)
      tlen := f.tlen.orElse (fun _ => (y.next.getD {}).tlen)
      bulk := f.bulk.orElse (fun _ => (y.next.getD {}).bulk)
      prof := f.prof.orElse (fun _ => (y.next.getD {}).prof)
      freeze := f.freeze.orElse (fun _ => (y.next.getD {}).freeze)
      bypass := f.bypass.orElse (fun _ => (y.next.getD {}).bypass) } })).respond r 0x21 0 [c, k % 256])) ∧
  (∀ (s : State) (r : CmdRef) (c k : Nat) (x : Ece), s.cmdDue r 0x22 = true → s.eceOf c = some (k, x) →
    exec (.eceDetach r c) s =
      .next ((((s.begun r 0x22).abandon k (some 9)).eceRelease c).respond r 0x22 0 [c, k % 256])) ∧
  (∀ (s : State) (r : CmdRef) (c k : Nat) (x : Ece), s.cmdDue r 0x23 = true → s.eceOf c = some (k, x) →
    exec (.eceQuery r c) s = .next ((s.begun r 0x23).respond r 0x23 0 [c, k % 256, s.eceState k x, s.eceErl k x, x.erleHalf,
      if x.measured then erleDb x.ty x.te else 0, x.pn / 2 ^ 20, x.focus, x.adapted, x.dtSamples / x.per,
      x.triggers, x.swaps])) ∧
  (∀ (s : State) (r : CmdRef) (c k n : Nat) (x : Ece), s.cmdDue r 0x24 = true → s.eceOf c = some (k, x) →
    let r10 := if n = 0 then fieldOf (s.ecePrf (k / 256) x.prof 5) 8 8 else n
    25 ≤ r10 → r10 ≤ 200 → s.trigStatus k x = 0 →
    exec (.eceReconverge r c n) s = .next (((s.begun r 0x24).acceptTrig k 0 r10 x).respond r 0x24 0 [c, k % 256])) ∧
  (∀ (s : State) (r : CmdRef) (c k a : Nat) (x : Ece), s.cmdDue r 0x25 = true → s.eceOf c = some (k, x) → x.bg = none →
    s.slotsUsed (k / 256) false + x.per ≤ 16 → inNear a (4 * x.taps) = true →
    exec (.eceLoad r c a) s = .next (((s.begun r 0x25).setEce k (some { x with
      bg := some { phase := 0, h := (List.range x.taps).map (fun i => signed 24 (s.rdLE (a + 4 * i) 4)),
                   retro := false } })).respond r 0x25 0 [c, k % 256])) ∧
  (∀ (s : State) (r : CmdRef) (c k : Nat) (x : Ece) (b : EceBg), s.cmdDue r 0x26 = true → s.eceOf c = some (k, x) →
    x.bg = some b → b.phase ≠ 1 → b.phase ≠ 2 → x.pend = false →
    exec (.eceSwap r c) s = .next (((s.begun r 0x26).setEce k (some (
      if x.fade = none ∧ x.ended = none ∧ x.starting = false then { x with starting := true }
      else { x with pend := true }))).respond r 0x26 0 [c, k % 256])) ∧
  (∀ (s : State) (r : CmdRef) (c k a : Nat) (x : Ece) (back : Bool) (h : List Int), s.cmdDue r 0x27 = true →
    s.eceOf c = some (k, x) → (if back = true then x.bg.map (·.h) else some x.h) = some h → inNear a (4 * x.taps) = true →
    exec (.eceRead r c a back) s = .next (((s.begun r 0x27).wrBytes a (((List.range x.taps).map (fun i => h.getD i 0)).flatMap
      (fun v => leBytes 4 (unsigned 32 v)))).respond r 0x27 0 [c, k % 256])) ∧
  (∀ (s : State) (w : Win) (cl : Nat), s.opens w (0x30000 + cl * 0x1000 + 0x30) true = true →
    ∃ t, exec (.eceRst w cl) s = .next t ∧ t.ece.insts = s.ece.insts ∧ t.ece.rst = s.ece.rst ++ [cl] ∧
      (∀ a, 0x30000 + cl * 0x1000 ≤ a → a < 0x30000 + cl * 0x1000 + 0x2C → t.reg a = regReset a))

/-- Sage: block submits are held and read a frame later, commands attach, change, query and detach, reset waits a frame.
For every state and operands that meet the conditions named, exec answers the next state given. SAGE_SUBMIT to a free
packet stream holds the block with its time, and to a slot without an attachment counts SUBMIT_OVR and sets IRQ_RAW
bit 1. SAGE_BLOCK_READ of a block submitted in an earlier frame frees the block, moves the block end to 40 frames past
its time, marks a gap before it as lost samples with GAP_CNT and IRQ_RAW bit 2, and feeds the 40 or 80 samples; of
stream 1 it does so once stream 0 of the slot waits for no read. A due SAGE_ATTACH of an open context takes the lowest
free slot; SAGE_MODIFY with legal fields notes changes for the next frame; SAGE_DETACH marks the slot as leaving;
SAGE_QUERY answers both streams. SAGE_RST resets the header at once and keeps the slots until the next frame. -/
def Obligations.SageSubmitsCommandsAndResetComplete : Prop :=
  (∀ (s : State) (g : Nat) (v : Word), s.slot_ (512 * (g / 8) + v.toNat % 1024 / 2) = none →
    exec (.sageSubmit g v) s = .next ((s.bump (Reg.SAGE_SUBMIT_OVR (g / 8))).irq (0x40000 + g / 8 * 0x1000) 1)) ∧
  (∀ (s : State) (g : Nat) (v : Word) (x : SageSlot), s.slot_ (512 * (g / 8) + v.toNat % 1024 / 2) = some x →
    s.sageCore x = true → x.fresh = false →
    let st := if v.toNat % 2 = 0 then x.s0 else x.s1
    let t := near32 s.now (Tab.get (fun _ => 0) (s.core_ g).spr 0x20C)
    st.block = none → (∀ e, st.blockEnd = some e → e ≤ t) →
    exec (.sageSubmit g v) s = .next (s.onStream (512 * (g / 8) + v.toNat % 1024 / 2) (v.toNat % 2) (fun y =>
      { y with block := some (s.now, t) }))) ∧
  (∀ (s : State) (cl v f t : Nat) (x : SageSlot), v % 2 = 0 → s.slot_ (512 * cl + v / 2) = some x →
    x.s0.block = some (f, t) → f < s.now →
    let k := 512 * cl + v / 2
    let u := s.onStream k 0 (fun y => { y with block := none, blockEnd := some (t + 40) })
    let e := x.s0.blockEnd.getD t
    let per := if x.wide = true then 2 else 1
    exec (.sageBlockRead cl v) s = .next (State.sageFeed
      (if e < t then ((u.bump (Reg.SAGE_GAP_CNT cl)).irq (0x40000 + cl * 0x1000) 2).sageFeed k 0 e x.wide
        (List.replicate ((t - e) * per) none) else u) k 0 t x.wide
      ((List.range (40 * per)).map (fun i => some (signed 16
        (s.rdLE (sramBase cl + s.rn (Reg.SAGE_SB_BASE cl) + 2 * (k % 512) * 0xA0 + 2 * i) 2)))))) ∧
  (∀ (s : State) (cl v f t : Nat) (x : SageSlot), v % 2 = 1 → s.slot_ (512 * cl + v / 2) = some x →
    x.s0.block = none → x.s1.block = some (f, t) → f < s.now →
    let k := 512 * cl + v / 2
    let u := s.onStream k 1 (fun y => { y with block := none, blockEnd := some (t + 40) })
    let e := x.s1.blockEnd.getD t
    let per := if x.wide = true then 2 else 1
    exec (.sageBlockRead cl v) s = .next (State.sageFeed
      (if e < t then ((u.bump (Reg.SAGE_GAP_CNT cl)).irq (0x40000 + cl * 0x1000) 2).sageFeed k 1 e x.wide
        (List.replicate ((t - e) * per) none) else u) k 1 t x.wide
      ((List.range (40 * per)).map (fun i => some (signed 16
        (s.rdLE (sramBase cl + s.rn (Reg.SAGE_SB_BASE cl) + (2 * (k % 512) + 1) * 0xA0 + 2 * i) 2)))))) ∧
  (∀ (s : State) (r : CmdRef) (c i : Nat) (f : SageFields), s.cmdDue r 0x30 = true → s.sageAttachStatus c f = (0, i) →
    exec (.sageAttach r c f) s = .next ((((s.begun r 0x30).wake (0x40000 + (s.ctx_ c).home * 0x1000)).sageAttach c f i).respond
      r 0x30 0 [c, i])) ∧
  (∀ (s : State) (c i : Nat) (f : SageFields), (s.ctx_ c).state = 1 → s.sage.slots.any (fun e => e.2.any (fun y => y.ctx == c)) = false →
    f.prof0 ≤ 7 → f.prof1 ≤ 7 → f.rate ≤ 1 →
    firstFrom (fun i => (s.slot_ (512 * (s.ctx_ c).home + i)).isNone) 512 0 = some i → s.sageAttachStatus c f = (0, i)) ∧
  (∀ (s : State) (r : CmdRef) (c k : Nat) (x : SageSlot) (f : SageChange), s.cmdDue r 0x31 = true → s.sageOf c = some (k, x) →
    (∀ p, f.prof0 = some p → p ≤ 7) → (∀ p, f.prof1 = some p → p ≤ 7) →
    (∀ m, f.mask0 = some m → m ≤ 0x1FF) → (∀ m, f.mask1 = some m → m ≤ 0x1FF) →
    exec (.sageModify r c f) s = .next (((s.begun r 0x31).setSlot k (some { x with
      next := some (sageNext x.next f) })).respond r 0x31 0 [c])) ∧
  (∀ (s : State) (r : CmdRef) (c k : Nat) (x : SageSlot), s.cmdDue r 0x32 = true → s.sageOf c = some (k, x) →
    exec (.sageDetach r c) s =
      .next (((s.begun r 0x32).setSlot k (some { x with leaving := true })).respond r 0x32 0 [c])) ∧
  (∀ (s : State) (r : CmdRef) (c k : Nat) (x : SageSlot), s.cmdDue r 0x33 = true → s.sageOf c = some (k, x) →
    exec (.sageQuery r c) s = .next ((s.begun r 0x33).respond r 0x33 0 (c :: (x.s0.query ++ x.s1.query)))) ∧
  (∀ (s : State) (w : Win) (cl : Nat), s.opens w (0x40000 + cl * 0x1000 + 0x30) true = true →
    ∃ t, exec (.sageRst w cl) s = .next t ∧ t.sage.slots = s.sage.slots ∧ t.sage.rst = s.sage.rst ++ [cl] ∧
      (∀ a, 0x40000 + cl * 0x1000 ≤ a → a < 0x40000 + cl * 0x1000 + 0x2C → t.reg a = regReset a))

/-- Contexts: CTX_OPEN makes a context with free TX start values, and the other context commands complete on open
contexts. For every state and operands that meet the conditions named, and a command that is taken and due, exec
answers the next state given. CTX_OPEN with legal fields, a FREE id, a line that can be bound or none, room for what
it attaches and load within the limit makes the context of openCtx with free TX start values (log 12), its line bound,
its journal armed, and answers the id; with no echo, Sage and SRTP and room in the exact table, nothing it attaches is
lacking. On an OPEN context: CTX_MODIFY with legal fields is held for the next playout instant or the next boundary of
the ring, FLUSH discarding what the ring holds; CTX_CLOSE ends it by the close order; CTX_QUERY and CTX_STATS answer
its entry and counts, CLEAR returning the counts to 0; CTX_BIND_LINE of an enabled free line of its cluster sets BOUND
and the line; CTX_UNBIND_LINE marks the unbinding; CTX_JOIN makes partners of two packet or two line contexts at their
next playout instants; CTX_SPLIT marks both; CTX_SET_TEMPLATE stores the template and installs receive keys;
CTX_SEND_EVENT starts an event. -/
def Obligations.ContextCommandsCompleteForOpenContexts : Prop :=
  (∀ (s : State) (r : CmdRef) (f : OpenFields), s.cmdDue r 0x01 = true →
    let c := if f.id = 0xFFFF then s.freeId else f.id
    let x := s.openCtx c f
    let a := (((s.begun r 0x01).openWake x.home f).setCtx c x).openAttach c f
    let u := if f.line = 0xFFFF then a.2 else a.2.bindLine f.line
    s.trngHalted = false → s.openBad f x = false → (f.line = 0xFFFF ∨ s.bindStatus f.line f.codec = 0) → s.ctxCnt < 8192 →
    (s.ctx_ c).state = 0 → s.overLimit 0 x.clu = false → a.1 = 0 →
    exec (.ctxOpen r f) s = .next (((((u.drawn.drawn.drawn.setCtx c { x with
      txTs := (Config.freeValue s.draws).toNat % 2 ^ 32, txSeq := (Config.freeValue (s.draws + 1)).toNat % 2 ^ 16,
      txSsrc := (Config.freeValue (s.draws + 2)).toNat % 2 ^ 32 }).setFlow c
        { held := (s.flow_ c).held, lastCore := none }).showTx c).jnlArm c).respond r 0x01 0 [c])) ∧
  (∀ (t : State) (c : Nat) (f : OpenFields), f.echo = none → f.sage = none → (t.ctx_ c).srtp = none → t.exactUsed + 2 ≤ 32768 →
    t.openAttach c f = (0, if (t.ctx_ c).net = true then t.entriesTake c else t)) ∧
  (∀ (s : State) (r : CmdRef) (c : Nat) (f : ModifyFields), s.cmdDue r 0x02 = true →
    let x := s.ctx_ c
    let v := x.modShape f
    x.state = 1 → s.shapeBad v = false →
    f.codec.any (fun k => k != 0 && x.line.any (fun l => s.codecWide k != s.wideLine l)) = false →
    (∀ e, f.evtMode = some e → e ≤ 7) → (∀ l, f.latch = some l → l ≤ 7 ∧ l % 4 ≠ 3) →
    s.overLimit x.clu (s.charge v.codec v.rxpt v.txpt x.line.isSome) = false →
    let t := (s.begun r 0x02).setCtx c { x with
      clu := s.charge v.codec v.rxpt v.txpt x.line.isSome
      mod := { codec := f.codec.orElse (fun _ => x.mod.codec), minLead := f.minLead.orElse (fun _ => x.mod.minLead)
               maxLead := f.maxLead.orElse (fun _ => x.mod.maxLead), data := f.data.orElse (fun _ => x.mod.data)
               evtMode := f.evtMode.orElse (fun _ => x.mod.evtMode), latch := f.latch.orElse (fun _ => x.mod.latch) }
      phPend := if (f.pkph.isSome || f.txph.isSome) = true then some (v.pkph, v.txph) else x.phPend
      ringPend := if (f.nslot.isSome || f.rxpt.isSome) = true then some (v.nslot, v.rxpt) else x.ringPend }
    exec (.ctxModify r c f) s = .next (State.respond
      (if f.flush = true then (t.ringClear c).discard c (t.validSlots c).length else t) r 0x02 0 [c])) ∧
  (∀ (s : State) (r : CmdRef) (c : Nat), s.cmdDue r 0x03 = true → (s.ctx_ c).state = 1 →
    exec (.ctxClose r c) s = .next (((s.begun r 0x03).endCtx c 2).respond r 0x03 0 [c])) ∧
  (∀ (s : State) (r : CmdRef) (c : Nat), s.cmdDue r 0x04 = true → (s.ctx_ c).state ≠ 0 →
    exec (.ctxQuery r c) s = .next ((s.begun r 0x04).respond r 0x04 0 ([c] ++ s.ctxEntry c ++ [(s.ctx_ c).ppos, (s.ctx_ c).b,
      (s.ctx_ c).cnt.discard, (s.ctx_ c).cnt.late, (s.ctx_ c).cnt.early, (s.ctx_ c).cnt.dup, (s.ctx_ c).cnt.rx]))) ∧
  (∀ (s : State) (r : CmdRef) (c : Nat) (clear : Bool), s.cmdDue r 0x0B = true → (s.ctx_ c).state ≠ 0 →
    let k := (s.ctx_ c).cnt
    let lost : Int := match k.base with | some b => (k.extSeq : Int) + 1 - b - k.pkts | none => 0
    let b := s.begun r 0x0B
    exec (.ctxStats r c clear) s = .next (State.respond (if clear = true then b.setCtx c { s.ctx_ c with cnt := { k with
        pkts := 0, octets := 0, base := none, extSeq := 0, jit := 0, txPkts := 0, txOctets := 0, lastTs := 0, lastTime := 0 } }
      else b) r 0x0B 0 [c, k.pkts, k.octets, k.extSeq, unsigned 32 lost, k.jit / 16, k.txPkts, k.txOctets, k.lastTs,
      k.lastTime % 2 ^ 32, k.lastTime / 2 ^ 32])) ∧
  (∀ (s : State) (r : CmdRef) (c i : Nat), s.cmdDue r 0x05 = true →
    let x := s.ctx_ c
    x.state = 1 → x.line = none → x.mate = none → s.bindStatus i x.nextCodec = 0 → i / 128 = x.home →
    s.overLimit x.clu (s.charge x.nextCodec x.nextRxpt x.txpt true) = false →
    let u := ((s.begun r 0x05).wake (0x60000 + x.home * 0x1000)).bindLine i
    exec (.ctxBindLine r c i) s = .next ((u.setCtx c { x with
      line := some i, bindDue := some true, clu := s.charge x.nextCodec x.nextRxpt x.txpt true
      wide := x.nextCodec == 0 && u.wideLine i }).respond r 0x05 0 [c])) ∧
  (∀ (s : State) (r : CmdRef) (c i : Nat), s.cmdDue r 0x06 = true → (s.ctx_ c).state = 1 → (s.ctx_ c).line = some i →
    (s.ctx_ c).hairpin = false → (s.ctx_ c).joinDue.any Prod.snd = false →
    exec (.ctxUnbindLine r c) s =
      .next (((s.begun r 0x06).setCtx c { s.ctx_ c with bindDue := some false }).respond r 0x06 0 [c])) ∧
  (∀ (s : State) (r : CmdRef) (c p mode : Nat) (x y : Ctx), s.cmdDue r 0x07 = true → s.ctx_ c = x → s.ctx_ p = y → c ≠ p →
    x.state = 1 → y.state = 1 → x.mate = none → y.mate = none →
    (mode = 0 ∧ x.line = none ∧ y.line = none ∧ x.net = true ∧ y.net = true ∨
     mode = 1 ∧ x.line ≠ none ∧ y.line ≠ none ∧ x.net = false ∧ y.net = false) →
    exec (.ctxJoin r c p mode) s = .next ((((s.begun r 0x07).setCtx c { x with joinDue := some (p, mode == 1) }).setCtx p
      { y with joinDue := some (c, mode == 1) }).respond r 0x07 0 [c])) ∧
  (∀ (s : State) (r : CmdRef) (c p : Nat), s.cmdDue r 0x08 = true → (s.ctx_ c).mate = some p → (s.ctx_ c).state = 1 →
    let u := (s.begun r 0x08).setCtx c { s.ctx_ c with splitDue := some ((s.ctx_ c).splitDue == some true) }
    exec (.ctxSplit r c) s = .next (State.respond (if (u.ctx_ p).mate = some c then
      u.setCtx p { u.ctx_ p with splitDue := some ((u.ctx_ p).splitDue == some true) } else u) r 0x08 0 [c])) ∧
  (∀ (s : State) (r : CmdRef) (c : Nat) (f : TemplateFields), s.cmdDue r 0x09 = true → (s.ctx_ c).state = 1 →
    (s.ctx_ c).net = true → s.templateBad c f = false →
    (f.rxKey = none ∨ f.fault = false ∧ s.bit (Reg.CIPH_ENGINE_STAT (s.ctx_ c).home) 31 = false) →
    let t := (((s.begun r 0x09).setCtx c { s.ctx_ c with
      template := some { mac := f.mac, dstMac := f.dstMac, srcMac := f.srcMac, tags := f.tags, v6 := f.v6,
                         srcAddr := f.srcAddr, dstAddr := f.dstAddr, dscp := f.dscp, ttl := f.ttl, flow := f.flow,
                         srcPort := f.srcPort, dstPort := f.dstPort, ssrc := f.ssrc, txTs := f.txTs, seq := f.seq }
      txTs := f.txTs.getD (s.ctx_ c).txTs, txSeq := f.seq.getD (s.ctx_ c).txSeq }).showTx c).entriesKey c f.v6 f.srcAddr
        f.srcPort f.rtcpMux
    exec (.ctxSetTemplate r c f) s = .next (State.respond
      (match f.rxKey with | some k => t.installKey c 0 k | none => t) r 0x09 0 [c])) ∧
  (∀ (s : State) (r : CmdRef) (c code vol dur : Nat), s.cmdDue r 0x0A = true → (s.ctx_ c).state = 1 → (s.ctx_ c).net = true →
    (s.ctx_ c).evPt ≠ 0 → (s.ctx_ c).sending = none → code ≤ 255 → vol ≤ 63 → dur ≤ 65535 →
    exec (.ctxSendEvent r c code vol dur) s = .next (((s.begun r 0x0A).setCtx c { s.ctx_ c with
      sending := some (code, vol, dur), sentEnds := 0 }).respond r 0x0A 0 [c]))

/-- JBE and PRE: packets are judged, windows adapt, events time out, ring changes apply and transmit items are taken. For
every state and operands that meet the conditions named, exec answers the next state given. RX_PACKET_JUDGE takes the
oldest waiting packet of the context: in a context that is not OPEN its buffer is freed; a T.38 packet of a CODEC 9
context is posted as PKT_IN; any other is counted as received, its source noted, and judged as an event where its
payload type is the event type, as voice otherwise. A voice packet of legal length in play is placed by its lead: one
whose instant is past counts late, one beyond the ring counts early, as long as such a run is short. ADAPT_WINDOW_END
after ADAPT_WIN sets TARGET to ceil(JIT_K x J / 8) within the leads, asks for the correction where the least lead lies
outside the band, and starts the next window; a context in data mode only starts it. RX_EVENT_TIMEOUT after 1,600
frames ends an active event. RING_APPLY at a boundary with no valid slot applies the pending NSLOT and RXPT and posts
CTX_RING. PRE_TX_TAKE of a good item takes a pool buffer and stages the packet for its slot; a bad item is counted in
TX_DROP. -/
def Obligations.JitterBufferEventsAct : Prop :=
  (∀ (s : State) (c : Nat) (k : RtpPacket), s.jbe.inbox.find? (fun k => k.ctx == c) = some k → (s.ctx_ k.ctx).state ≠ 1 →
    exec (.rxPacketJudge c) s = .next (State.poolFree
      { s with jbe := { s.jbe with inbox := s.jbe.inbox.eraseP (fun k => k.ctx == c) } } k.buf)) ∧
  (∀ (s : State) (c : Nat) (k : RtpPacket), s.jbe.inbox.find? (fun k => k.ctx == c) = some k → (s.ctx_ k.ctx).state = 1 →
    (s.ctx_ k.ctx).codec = 9 →
    exec (.rxPacketJudge c) s = .next (State.post
      { s with jbe := { s.jbe with inbox := s.jbe.inbox.eraseP (fun k => k.ctx == c) } } ⟨3, k.ctx, s.now % 2 ^ 32,
        s.poolAddr k.buf % 2 ^ 32, k.payload.length * 2 ^ 16 + k.arrival % 2 ^ 16⟩ .keep)) ∧
  (∀ (s : State) (c : Nat) (k : RtpPacket), s.jbe.inbox.find? (fun k => k.ctx == c) = some k → (s.ctx_ k.ctx).state = 1 →
    (s.ctx_ k.ctx).codec ≠ 9 →
    let x := s.ctx_ k.ctx
    let u := State.sourceSeen ((State.poolFree
      { s with jbe := { s.jbe with inbox := s.jbe.inbox.eraseP (fun k => k.ctx == c) } } k.buf).setCtx k.ctx (x.received k)) k.ctx k
    exec (.rxPacketJudge c) s =
      .next (if x.evPt ≠ 0 ∧ k.pt = x.evPt then u.judgeEvent k.ctx k else u.judgeVoice k.ctx k)) ∧
  (∀ (s : State) (c : Nat) (p : RtpPacket) (cn : Bool),
    let x := s.ctx_ c
    let lead : Int := ((x.pos : Int) + signed 32 (p.ts + 2 ^ 32 - x.ppos)) / (s.pts x : Int) * s.pts x - x.pos
    x.run < s.fld Reg.JBE_LATCH_CFG 8 8 →
    (lead < 0 → s.judgePlaced c p cn = (s.setCtx c { x with
      run := x.run + 1, winLate := true, cnt := { x.cnt with late := x.cnt.late + 1 } }).jbeCount Reg.JBE_LATE_CNT 1) ∧
    (0 ≤ lead → ((x.nslot - 1) * s.pts x : Nat) ≤ lead → s.judgePlaced c p cn = (s.setCtx c { x with
      run := x.run + 1, cnt := { x.cnt with early := x.cnt.early + 1 } }).jbeCount Reg.JBE_EARLY_CNT 1)) ∧
  (∀ (s : State) (c : Nat), (s.ctx_ c).state = 1 → (s.ctx_ c).winStart + 80 * s.fld Reg.JBE_ADAPT_CFG 22 10 ≤ s.now →
    let x := s.ctx_ c
    let y := { x with winStart := x.winStart + 80 * s.fld Reg.JBE_ADAPT_CFG 22 10, leadMin := none, winLate := false, winCount := 0 }
    let t := max (8 * x.minLead) (min (8 * x.maxLead) (ceilDiv (s.fld Reg.JBE_ADAPT_CFG 16 6 * x.cnt.jit) 128))
    let lmin : Int := if x.winLate = true then -1 else x.leadMin.getD 0
    let adj := if x.winCount = 0 then x.adj
      else if (t : Int) + s.fld Reg.JBE_ADAPT_CFG 8 8 < lmin ∨ lmin < t then (lmin - t) * (s.codecClock x.codec : Int) / 8000
      else 0
    exec (.adaptWindowEnd c) s = .next (s.setCtx c (if x.data = true then y else { y with target := t, adj := adj }))) ∧
  (∀ (s : State) (c : Nat) (e : RxEvent), (s.ctx_ c).event = some e → e.last + 1600 ≤ s.now → e.active = true →
    exec (.rxEventTimeout c) s = .next (((s.setCtx c { s.ctx_ c with event := some { e with active := false } }).showEvent
      c).rxEventPost c e true)) ∧
  (∀ (s : State) (c n p : Nat), (s.ctx_ c).ringPend = some (n, p) → (s.ctx_ c).state = 1 → s.now % 40 = (s.ctx_ c).bph →
    s.validSlots c = [] →
    exec (.ringApply c) s = .next ((s.setCtx c { s.ctx_ c with
      nslot := n, rxpt := p, ringPend := none, play := false, b := 0, pos := 0, lostN := none, cn := false }).event
        (s.ctx_ c).evq 0x85 [c, n, p])) ∧
  (∀ (s : State) (cl k : Nat) (h : Word) (w : List Word) (o : Option Win),
    s.poolPick = some k → s.frontItem (s.fld Reg.PRE_PRE_CFG 16 9 + cl) = some (h, w, o) →
    let q := s.fld Reg.PRE_PRE_CFG 16 9 + cl
    let u := s.popItem q
    let fc := s.frontFrame q
    let c := (w.getD 0 0).toNat % 2 ^ 13
    let n := (w.getD 2 0).toNat % 2 ^ 16
    let x := u.ctx_ c
    exec (.preTxTake cl) s = .next (
      if x.state ≠ 1 ∨ x.net = false ∨ (x.codec ≠ 9 ∧ fieldOf (w.getD 0 0).toNat 29 2 = 3) ∨ n = 0 ∨ 480 < n then
        u.bump Reg.JBE_TX_DROP
      else { u.poolTake k with net := { (u.poolTake k).net with items := (u.poolTake k).net.items ++
        [{ ctx := c, buf := k, marker := bitOf (w.getD 0 0).toNat 31, ptsel := fieldOf (w.getD 0 0).toNat 29 2,
           tsOfs := (w.getD 1 0).toNat, payload := slice (wordsToBytes ((w.drop 3).map (·.toNat))) 0 n,
           slot := x.slotOf fc, late := decide (x.slotOf fc ≤ fc) || decide (x.slotOf fc ≤ u.now) }] } }))

/-- TIME: the DPLL commands qualify, lose, select and lock sources as R29 and R30 say. For every state and operands that
meet the conditions named, exec answers the next state given. PTP_OFFSET_WRITE through the gate counts a sample within
LOCK_THRESH x 100 and starts the count again at any other; where PTP is followed it is the phase error, with a free
frequency offset (log 12), and one beyond LOCK_THRESH starts the lock time anew. SOURCE_QUALIFY of a source that meets
its criterion and is not qualified sets its bit in DPLL_STAT and keeps the frame; from XTAL the best source is
selected in automatic mode, the named one in manual mode. SOURCE_LOST of a source whose loss criterion holds clears
its bit and its count, sets IRQ_RAW bit 1 and posts event 0x11, and the DPLL leaves a source it follows.
REVERTIVE_SELECT after 480,000 frames selects a source that ranks above; DPLL_LOCK enters LOCKED once the criteria
have held for 480,000 frames; HO_QUAL_SET after 691,200,000 frames in LOCKED sets HO_QUAL. An edge, pulse or sample of
the source followed moves PHASE_ERR. -/
def Obligations.DpllCommandsActOnTheirSource : Prop :=
  (∀ (s : State) (w : Win) (v : Word), s.opens w Reg.TIME_PTP_OFFSET true = true →
    exec (.ptpOffsetWrite w v) s = .next (State.phaseSample { s.seenBy w with time := { s.time with
      ptpAt := some s.now
      ptpGood := if (signed 32 v.toNat).natAbs ≤ s.fld Reg.TIME_DPLL_CFG 16 12 * 100 then s.time.ptpGood + 1 else 0 } } 3
        (signed 32 v.toNat))) ∧
  (∀ (s : State) (src : Nat) (err : Int), s.dpllSrc = src → 2 ≤ src → Tab.wf (fun _ => 0) s.time.phErr = true →
    let t : State := { s with time := { s.time with
        phErr := Tab.put (fun _ => 0) s.time.phErr src err
        critAt := if s.fld Reg.TIME_DPLL_CFG 16 12 < err.natAbs then s.now else s.time.critAt } }
    s.phaseSample src err = ((t.setN Reg.TIME_PHASE_ERR (unsigned 32 err)).setN Reg.TIME_FREQ_OFFSET s.free).drawn) ∧
  (∀ (s : State) (src : Nat), s.qualified src = false →
    (src = 1 ∨ src = 2 ∧ 10 ≤ s.time.ppsGood ∨ src = 3 ∧ 8 ≤ s.time.ptpGood ∨ src = 4 ∧ 16 ≤ s.time.dsyncGood) →
    let u := { s.setN Reg.TIME_DPLL_STAT (bitSet (s.rn Reg.TIME_DPLL_STAT) (16 + src)) with
      time := { s.time with qualAt := Tab.put (fun _ => 0) s.time.qualAt src s.now } }
    let x := if src = 4 then u.setFld Reg.TIME_DSYNC_STAT 0 1 1 else u
    exec (.sourceQualify src) s = .next (
      if x.dpllMode = 0 then (if x.onXtal = true then (match x.bestSource with | some b => x.setDpll 1 b | none => x) else x)
      else if x.dpllMode = 1 ∧ x.manualSrc = src ∧ x.onXtal = true then x.setDpll 1 src else x)) ∧
  (∀ (s : State) (src : Nat), s.qualified src = true → s.meetsLoss src = true →
    let x := ((State.irq { s.setN Reg.TIME_DPLL_STAT (bitClear (s.rn Reg.TIME_DPLL_STAT) (16 + src)) with
      time := { s.time with ppsGood := if src = 2 then 0 else s.time.ppsGood
                            ptpGood := if src = 3 then 0 else s.time.ptpGood
                            dsyncGood := if src = 4 then 0 else s.time.dsyncGood } } 0x8000 1).timeEvent 0x11 [src])
    exec (.sourceLost src) s = .next (if s.dpllSrc = src ∧ s.onXtal = false then x.afterLoss else x)) ∧
  (∀ (s : State) (src : Nat), s.dpllMode = 0 → s.onXtal = false → src ≤ 4 → s.qualified src = true →
    s.ranksAbove src s.dpllSrc = true → Tab.get (fun _ => 0) s.time.qualAt src + 480000 ≤ s.now →
    exec (.revertiveSelect src) s = .next (s.setDpll 1 src)) ∧
  (∀ s : State, s.dpllState = 1 → s.time.critAt + 480000 ≤ s.now →
    (signed 32 (s.rn Reg.TIME_PHASE_ERR)).natAbs ≤ s.fld Reg.TIME_DPLL_CFG 16 12 →
    exec .dpllLock s = .next (State.setDpll { s with time := { s.time with lockAt := s.now } } 2 s.dpllSrc)) ∧
  (∀ s : State, s.dpllState = 2 → s.time.lockAt + 691200000 ≤ s.now →
    exec .hoQualSet s = .next (s.setFld Reg.TIME_DPLL_STAT 8 1 1))

/-- FRAME_TICK opens the next frame: FTIME counts by one and FPHASE is 0; a DPLL step opens the frame its source gives.
From every state FRAME_TICK answers a state with FTIME one more and FPHASE 0. A DPLL_STEP that R31 permits (STEP_EN,
no context and no line in use, a time source followed in ACQUIRE or LOCKED, PHASE_ERR above LOCK_THRESH and removed by
the step) opens, where PPSIN or PTP is followed, the multiple of 8,000 after FTIME + 1, and where DSYNC is followed
the frame of DSYNC_EPOCH if that is later than the next one, the next one otherwise. No other part of opening a frame
moves FTIME: that the whole of it keeps FTIME is what the statement says. -/
def Obligations.FramesOpenInOrderAndTheDpllSteps : Prop :=
  (∀ s : State, ∃ t, exec .frameTick s = .next t ∧ t.time.ftime = s.time.ftime + 1 ∧ t.time.fphase = 0) ∧
  (∀ (s : State) (err : Int), s.mayStep = true → err = signed 32 (s.rn Reg.TIME_PHASE_ERR) → s.dpllSrc = 2 ∨ s.dpllSrc = 3 →
    ∃ t, exec (.dpllStep err) s = .next t ∧ t.time.ftime = ((s.time.ftime + 1) / 8000 + 1) * 8000 ∧ t.time.fphase = 0) ∧
  (∀ (s : State) (err : Int), s.mayStep = true → err = signed 32 (s.rn Reg.TIME_PHASE_ERR) → s.dpllSrc = 4 →
    ∃ t, exec (.dpllStep err) s = .next t ∧ t.time.fphase = 0 ∧
      t.time.ftime = max (s.rn Reg.TIME_DSYNC_EPOCH_LO + 2 ^ 32 * s.fld Reg.TIME_DSYNC_EPOCH_HI 0 16) (s.time.ftime + 1))

/-- Thyme: submits are held, blocks are coded into two slots, slots reach far memory, and enable, disable and reset act
whole. For every state and operands that meet the conditions named, exec answers the next state given. JNL_SUBMIT of a
good entry not yet waiting is held; any other counts SUBMIT_OVR and sets IRQ_RAW bit 3. THYME_BLOCK_CODE of a ready
block stages one slot of each stream with the block number, END where the epoch is to end with this block, and moves
the epoch to the next block. THYME_SLOT_WRITE writes the oldest slot that waits for no cipher to its address, counts
it, keeps the largest delay, and with the stream 1 slot moves the epoch's last block, rewrites the directory after 50
blocks and advances the copy. THYME_ENABLE of a legal configuration stores it, makes a new key (free, log 12), reports
a loss as ended and arms every open context, and only stores it where Thyme was enabled; THYME_DISABLE ends the copies
and drops the journals; THYME_RST ends copies and jobs and leaves no Thyme state and its registers at reset. -/
def Obligations.JournalBlocksAreCodedWrittenAndKept : Prop :=
  (∀ (s : State) (g : Nat) (v : Word),
    let i := v.toNat % 64
    exec (.jnlSubmit g v) s = .next (
      if s.thyme.subs.contains (g / 8, i) = false ∧ s.jsGood (s.jsEntry (g / 8) i) = true then
        { s with thyme := { s.thyme with subs := s.thyme.subs ++ [(g / 8, i)] } }
      else (s.bump Reg.THYME_SUBMIT_OVR).irq 0x98000 3)) ∧
  (∀ (s : State) (c : Nat) (e : Epoch), s.blockReady c = true → s.epoch c = some e →
    ∃ t x y, exec (.thymeBlockCode c) s = .next t ∧ t.thyme.slots = s.thyme.slots ++ [x, y] ∧
      x.ctx = c ∧ x.stream = 0 ∧ x.block = e.next ∧ x.endFrame = 160 * e.next + e.bph + 160 ∧
      y.ctx = c ∧ y.stream = 1 ∧ y.block = e.next ∧ y.endFrame = 160 * e.next + e.bph + 160 ∧
      bitOf (x.bytes.getD 6 0) 4 = s.lastBlock c ∧ bitOf (y.bytes.getD 6 0) 4 = s.lastBlock c ∧
      t.thyme.copies = s.thyme.copies ∧ t.time = s.time ∧ t.jbe = s.jbe) ∧
  (∀ (s : State) (x : JSlot), s.thyme.slots.find? (fun x => !x.plain) = some x →
    let u := ((({ s with thyme := { s.thyme with slots := s.thyme.slots.erase x } } : State).wrDev x.addr x.bytes).bump
      Reg.THYME_BLK_CNT).maxN Reg.THYME_LAT_MAX (min 1023 (s.now - x.endFrame))
    exec .thymeSlotWrite s = .next (match u.epoch x.ctx with
      | none => u
      | some e =>
        if x.stream = 0 ∨ x.block < e.ep then u
        else
          let e := { e with last := some x.block, kgenW := x.kgen, since := e.since + 1 }
          (if e.since < 50 then u.setEpoch x.ctx (some e)
            else (u.setEpoch x.ctx (some { e with since := 0 })).wrDev (u.jdirBase + x.ctx * 64) (e.record 1 0).bytes).copyOn x.ctx)) ∧
  (∀ (s : State) (w : Win) (v : Word), s.opens w Reg.THYME_THYME_CFG true = true →
    let n := (v ||| 0x80000000#32).toNat
    1 ≤ fieldOf n 12 9 → fieldOf n 12 9 ≤ 300 → 1 ≤ fieldOf n 0 9 → fieldOf n 0 9 ≤ 300 → s.regionsOk = true →
    let t := (s.seenBy w).setReg Reg.THYME_THYME_CFG ((v ||| 0x80000000#32) &&& 0xFF1FF1FF#32)
    let u := t.newKey
    let x : State := if u.thyme.lost then
        ({ u with thyme := { u.thyme with lost := false } }.irq 0x98000 0).event (u.rn Reg.THYME_EVQ) 0xC1 [1, u.now % 2 ^ 32]
      else u
    (s.thymeEn = true → exec (.thymeEnable w v) s = .next t) ∧
    (s.thymeEn = false → s.trngHalted = false → s.farReady s.jnlBase (8192 * s.creg) = true →
      s.farReady s.jdirBase 0x80000 = true →
      exec (.thymeEnable w v) s = .next (x.each x.openCtxs (fun s c => s.jnlArm c)))) ∧
  (∀ (s : State) (w : Win) (v : Word), s.opens w Reg.THYME_THYME_CFG true = true →
    let n := (v &&& 0x7FFFFFFF#32).toNat
    1 ≤ fieldOf n 12 9 → fieldOf n 12 9 ≤ 300 → 1 ≤ fieldOf n 0 9 → fieldOf n 0 9 ≤ 300 → s.thymeEn = true →
    let u := (s.seenBy w).setReg Reg.THYME_THYME_CFG ((v &&& 0x7FFFFFFF#32) &&& 0xFF1FF1FF#32)
    let x := u.each u.thyme.copies (fun s x => s.endCopy x 3)
    exec (.thymeDisable w v) s = .next { x with thyme := { x.thyme with ctxs := [], slots := [], subs := [] } }) ∧
  (∀ (s : State) (w : Win), s.opens w 0x98030 true = true →
    let u := s.seenBy w
    let x := u.each u.thyme.copies (fun s x => s.endCopy x 2)
    let y := x.each x.thyme.jobs (fun s j => s.respond j.r 0x45 9 [0xFFFFFFFF, 0, 0, 0])
    exec (.thymeRst w) s = .next { (y.headerReset 0x98000).pageReset 0x98000 0x9C000 with thyme := {} })

/-- Thyme: THYME_SET, READ, COPY, STOP, QUERY, CODE and KEY answer OK and act, and a coder job finishes. For every state
in which the command is the next of its context or block, on a context and fields that R164 to R167 accept, exec
answers the next state given. THYME_SET stores the settings and lets the epoch begin, go on with a new table, or end
at the next block. THYME_READ writes the slots' bytes to DEST and answers the gaps, the CRC failures and the blocks
without a key, with the status of the worst of them. THYME_COPY adds a copy, advances it, and ends it at once where no
epoch can give its open end. THYME_STOP ends the copy with event 0xC0 reason 2, or answers NOT_READY where none runs.
THYME_QUERY answers the record. THYME_CODE queues the job, and THYME_CODE_DONE writes what it coded or decoded, keeps
what it saves, counts it and answers with FFFF_FFFF, as the job names no object. THYME_KEY answers the key blob of a
held generation. From a window without the right THYME_STOP and THYME_QUERY are audited and answer NO_RIGHTS. -/
def Obligations.JournalCommandsAnswerAndCodeJobsFinish : Prop :=
  (∀ (s : State) (r : CmdRef) (c : Nat) (f : JournalFields), s.cmdDue r 0x40 = true → s.setStatus c f = 0 →
    let b := s.begun r 0x40
    let j := (s.jctx c).getD { cfg := ⟨false, f.preset, f.table, f.depth, f.enc⟩ }
    let g : JCfg := ⟨f.on, f.preset, f.table, f.depth, f.enc⟩
    exec (.thymeSet r c f) s = .next ((b.setJctx c (some (
      if f.on = false then { j with cfg := g, begin_ := false, end_ := j.epoch.isSome }
      else if j.cfg = ⟨true, f.preset, j.cfg.table, f.depth, f.enc⟩ ∧ j.epoch.all (fun e => e.wide == s.ctxWide c) = true ∧
        (j.epoch.isSome = true ∨ j.begin_ = true) then { j with cfg := g, table := some f.table }
      else { j with cfg := g, begin_ := true, end_ := false }))).respond r 0x40 0 [c])) ∧
  (∀ (s : State) (r : CmdRef) (c mask first count dest : Nat) (decode : Bool), s.cmdDue r 0x41 = true →
    s.readStatus r.win c mask first count = 0 →
    inNear dest ((maskStreams mask).length * count * (if decode then (if (s.jrec c).wide then 640 else 320)
      else (s.jrec c).stride)) = true →
    let l := (maskStreams mask).flatMap (fun k => (List.range count).map (fun i => s.readSlot c k (first + i) decode))
    exec (.thymeRead r c mask first count decode dest) s = .next (((s.begun r 0x41).wrDev dest (l.flatMap (·.bytes))).respondA r 0x41
      (if l.any (·.poison) then 0x0E else if l.any (·.nokey) then 0x0D else if l.any (·.crc) then 0x0A
       else if l.any (·.reduced) then 0x0B else 0)
      [c, (l.filter (·.gap)).length, (l.filter (·.crc)).length, (l.filter (·.nokey)).length])) ∧
  (∀ (s : State) (r : CmdRef) (c mask first dest len : Nat) (last : Option Nat), s.cmdDue r 0x42 = true →
    s.copyStatus r.win c mask first last dest len = 0 →
    let u := (s.begun r 0x42).respondA r 0x42 0 [c]
    let t := ({ u with thyme := { u.thyme with copies := u.thyme.copies ++
      [{ ctx := c, mask := mask % 4, next := first, last := last, dest := dest, len := len }] } } : State).copyOn c
    exec (.thymeCopy r c mask first last dest len) s = .next (
      if last.isNone = true ∧ (t.epoch c).isNone = true then (match t.thyme.copies.find? (fun y => y.ctx == c) with
        | some y => t.endCopy y 3
        | none => t)
      else t)) ∧
  (∀ (s : State) (r : CmdRef) (c : Nat), s.cmdDue r 0x43 = true → s.journalRight r.win = true →
    exec (.thymeStop r c) s = .next (match s.thyme.copies.find? (fun x => x.ctx == c) with
      | some x => (({ s.begun r 0x43 with thyme := { s.thyme with
          copies := s.thyme.copies.filter (fun y => y.ctx != x.ctx) } } : State).event (s.ctx_ x.ctx).evq 0xC0
            [x.ctx, 2, x.copied, x.next % 2 ^ 32, x.next / 2 ^ 32]).respond r 0x43 0 [c]
      | none => (s.begun r 0x43).respond r 0x43 0x0D [c])) ∧
  (∀ (s : State) (r : CmdRef) (c : Nat), s.cmdDue r 0x44 = true → s.journalRight r.win = true →
    exec (.thymeQuery r c) s = .next ((s.begun r 0x44).respond r 0x44 0
      (c :: (List.range 16).map (fun i => leNat (slice (s.jrec c).bytes (4 * i) 4))))) ∧
  (∀ (s : State) (r : CmdRef) (c : Nat), s.journalRight r.win = false →
    (s.cmdDue r 0x43 = true →
      exec (.thymeStop r c) s = .next (((s.begun r 0x43).audit (winNum r.win + 1) 4 0x0D [0x43]).respond r 0x43 4 [c])) ∧
    (s.cmdDue r 0x44 = true →
      exec (.thymeQuery r c) s = .next (((s.begun r 0x44).audit (winNum r.win + 1) 4 0x0D [0x44]).respond r 0x44 4 [c]))) ∧
  (∀ (s : State) (r : CmdRef) (f : CoderFields), s.cmdDue r 0x45 = true → s.codeStatus f = 0 →
    exec (.thymeCode r f) s = .next { s.begun r 0x45 with thyme := { s.thyme with
      jobs := s.thyme.jobs ++ [⟨r, f.decode, f.rate == 1, f.table, f.inp, f.inLen, f.out, f.outLen, f.state, f.start⟩] } }) ∧
  (∀ (s : State) (j : JJob) (l : List JJob), s.thyme.jobs = j :: l →
    let t : State := { s with thyme := { s.thyme with jobs := l } }
    let v : JSave := if j.start then { seq := s.free % 2 ^ 48 } else JSave.ofBytes (s.readRecord 0 j.state 64)
    let u := (if j.start then t.drawn else t).bump Reg.THYME_JOB_CNT
    (j.decode = false →
      let xs := (List.range (j.inLen / 2)).map (fun i => signed 16 (leNat (slice (s.rdBytes j.inp j.inLen) (2 * i) 2)))
      let x := jobEncode (if j.wide then 320 else 160) j.table j.outLen (3 * xs.length + 3) { sv := v } xs
      exec .thymeCodeDone s = .next (((u.wrDev j.out (bitsBytes x.out)).jobKeep j.state x.sv).respond j.r 0x45 0
        [0xFFFFFFFF, x.taken, x.out.length / 8, b2n x.more])) ∧
    (j.decode = true →
      let bits := v.bits ++ bytesBits (s.rdBytes j.inp j.inLen)
      let p := jobDecode j.outLen (v.al + bits.length) (bits.length + 1) { sv := { v with bits := [] } } bits
      let hold := p.2.length % 32
      exec .thymeCodeDone s = .next (((u.wrDev j.out (pcmBytes p.1.pcm)).jobKeep j.state
        { p.1.sv with bits := p.2.take hold, al := (v.al + bits.length - p.2.length) % 32 }).respond j.r 0x45 0
        [0xFFFFFFFF, (bits.length - (p.2.length - hold)) / 8 - v.bits.length / 8, 2 * p.1.pcm.length, b2n p.1.more]))) ∧
  (∀ (s : State) (r : CmdRef) (g x k : Nat), s.cmdDue r 0x46 = true → r.win = .installer → s.kx = some x → s.jkey g = some k →
    exec (.thymeKey r g) s = .next ((s.begun r 0x46).respondA r 0x46 0
      (g :: (List.range 14).map (fun i => leNat (slice (keyBlob x 2 1 0 g (beBytes 16 k)) (4 * i) 4)))))

/-- CXL: ports are enabled, train, activate, recover, are lost and are reset, each change with its event. For every state
and operands that meet the conditions named, exec answers the next state given. A change of state writes STATE, sets
IRQ_RAW bit 0 and posts event 0x40 with the cause, the width and the speed. CXL_PORT_ENABLE of a disabled port goes to
TRAINING (1), of port 1 in MODE 0 is BAD_PARAM; CXL_TRAIN_DONE without a cause goes to LINKUP (3) with width and
speed, with one to ABSENT (2); ACTIVATE of an active expander goes to READY (4), of one not active sets bit 23;
CXL_RECOVERY keeps the state it left and goes to RECOVERY (5); CXL_L0_RETURN counts and goes back; CXL_PORT_DISABLE,
RECOV_TIMEOUT, MEM_TIMEOUT and CXL_VIRAL of a port in use make it LOST (6) with causes 4, 1, 2 and 3, count the writes
lost, set IRQ_RAW bit 1 and tell the users of far memory; CXL_RST with no link up leaves the registers at reset. -/
def Obligations.CxlPortsGoThroughTheirStates : Prop :=
  (∀ (s : State) (p st cause : Nat),
    let x := (s.setFld (Reg.CXL_PORT_STAT p) 28 4 st).irq 0xB0000 0
    let u := if cause = 0 then x else x.setFld (Reg.CXL_PORT_STAT p) 24 4 cause
    s.cxlGo p st cause = u.event (u.rn Reg.CXL_EVQ) 0x80 [0x40, p, st, cause, u.fld (Reg.CXL_PORT_STAT p) 8 4,
      u.fld (Reg.CXL_PORT_STAT p) 0 6, u.now]) ∧
  (∀ (s : State) (w : Win) (p : Nat), s.opens w (Reg.CXL_PORT_CTL p) true = true →
    let u := s.seenBy w
    exec (.cxlPortEnable w p) s = .next (
      if s.bit (Reg.CXL_PORT_CTL p) 0 = true then u
      else if p = 1 ∧ s.bit Reg.CXL_CXL_CFG 0 = false then
        (u.err 0xB0000 3 (Reg.CXL_PORT_CTL p - 0xB0000) (Reg.CXL_PORT_CTL p)).irq 0xB0000 4
      else (u.setFld (Reg.CXL_PORT_CTL p) 0 1 1).cxlGo p 1 0)) ∧
  (∀ (s : State) (w : Win) (p lost : Nat), s.opens w (Reg.CXL_PORT_CTL p) true = true →
    s.bit (Reg.CXL_PORT_CTL p) 0 = true →
    let u := (s.seenBy w).setFld (Reg.CXL_PORT_CTL p) 0 1 0
    exec (.cxlPortDisable w p lost) s = .next (
      if u.cxlState p = 4 ∨ u.cxlState p = 5 then
        (((u.addN (Reg.CXL_WR_LOST p) lost).irq 0xB0000 1).cxlGo p 6 4).farLoss
      else u.cxlGo p 0 0)) ∧
  (∀ (s : State) (p width speed cause : Nat), s.cxlState p = 1 →
    exec (.cxlTrainDone p width speed cause) s = .next (
      if cause = 0 then ((s.setFld (Reg.CXL_PORT_STAT p) 8 4 width).setFld (Reg.CXL_PORT_STAT p) 0 6 speed).cxlGo p 3 0
      else s.cxlGo p 2 cause)) ∧
  (∀ (s : State) (w : Win) (p : Nat) (active : Bool), s.opens w (Reg.CXL_PORT_CTL p) true = true → s.cxlState p = 3 →
    exec (.activate w p active) s = .next (
      if active = true then ((s.seenBy w).setFld (Reg.CXL_PORT_STAT p) 23 1 0).cxlGo p 4 0
      else (s.seenBy w).setFld (Reg.CXL_PORT_STAT p) 23 1 1)) ∧
  (∀ (s : State) (p : Nat), s.cxlState p = 3 ∨ s.cxlState p = 4 →
    exec (.cxlRecovery p) s = .next (({ s with cxl := { s.cxl with
      prior := Tab.put (fun _ => 0) s.cxl.prior p (s.cxlState p)
      recovAt := Tab.put (fun _ => 0) s.cxl.recovAt p s.now } } : State).cxlGo p 5 0)) ∧
  (∀ (s : State) (p : Nat), s.cxlState p = 5 →
    s.now < Tab.get (fun _ => 0) s.cxl.recovAt p + 8 * s.fld Reg.CXL_CXL_CFG 16 8 →
    exec (.cxlL0Return p) s = .next ((s.bump (Reg.CXL_LINK_RECOV p)).cxlGo p (Tab.get (fun _ => 0) s.cxl.prior p) 0)) ∧
  (∀ (s : State) (p lost : Nat), s.cxlState p = 5 →
    exec (.recovTimeout p lost) s = .next ((((s.addN (Reg.CXL_WR_LOST p) lost).irq 0xB0000 1).cxlGo p 6 1).farLoss)) ∧
  (∀ (s : State) (p lost : Nat), s.cxlState p = 4 ∨ s.cxlState p = 5 →
    exec (.memTimeout p lost) s = .next ((((s.addN (Reg.CXL_WR_LOST p) lost).irq 0xB0000 1).cxlGo p 6 2).farLoss)) ∧
  (∀ (s : State) (p lost : Nat), 3 ≤ s.cxlState p → s.cxlState p ≤ 5 →
    let u := s.irq 0xB0000 3
    exec (.cxlViral p lost) s = .next (((((u.event (u.rn Reg.CXL_EVQ) 0x80 [0x42, p, s.now]).addN
      (Reg.CXL_WR_LOST p) lost).irq 0xB0000 1).cxlGo p 6 3).farLoss)) ∧
  (∀ (s : State) (w : Win), s.opens w 0xB0030 true = true → (∀ p, p ≤ 1 → s.cxlState p < 3 ∨ 5 < s.cxlState p) →
    exec (.cxlRst w) s = .next { ((s.seenBy w).headerReset 0xB0000).pageReset 0xB0000 0xB4000 with cxl := {} }) ∧
  (∀ (s : State) (a : Nat), 0xB0000 ≤ a → a < 0xB4000 → 0x100 ≤ a % 0x1000 →
    (s.pageReset 0xB0000 0xB4000).reg a = regReset a)

/-- CXL: decoders commit and uncommit, configuration accesses run and end, and memory reads bring their poison. For every
state and operands that meet the conditions named, exec answers the next state given. DEC_COMMIT of legal fields
stores them and sets COMMIT and COMMITTED, of others sets COMMIT_ERR and IRQ_RAW bit 4 with BAD_PARAM; DEC_UNCOMMIT of
a committed decoder that Thyme does not need clears both bits, of one it needs is refused with BUSY. XIO_GO with a
usable port sets BUSY in XIO_STAT, with none answers NOT_READY (13), and for a memory address in a committed range
BAD_PARAM (3); XIO_COMPLETE stores the data of a read and the status, TIMEOUT only 50 ms (400 frames) after the GO.
CXL_MEM_READ_DONE marks the line's poison and counts 64 bytes, and a poisoned line counts, and at most once in 8,000
frames sets IRQ_RAW bit 2 and posts event 0x41 with the number of lines since the last. -/
def Obligations.CxlDecodersAndConfigurationAccessesAct : Prop :=
  (∀ (s : State) (w : Win) (d : Nat) (v : Word), s.opens w (Reg.CXL_DEC_CTL d) true = true → s.decOn d = false →
    fieldOf v.toNat 8 4 ≤ 6 →
    let u := (s.seenBy w).setReg (Reg.CXL_DEC_CTL d) (v &&& 0xF11#32)
    exec (.decCommit w d v) s = .next (
      if u.commitBad d = false then (u.setFld (Reg.CXL_DEC_CTL d) 30 2 3).setFld (Reg.CXL_DEC_CTL d) 29 1 0
      else ((u.setFld (Reg.CXL_DEC_CTL d) 29 1 1).err 0xB0000 3 (Reg.CXL_DEC_CTL d - 0xB0000) (Reg.CXL_DEC_CTL d)).irq
        0xB0000 4)) ∧
  (∀ (s : State) (w : Win) (d : Nat), s.opens w (Reg.CXL_DEC_CTL d) true = true → s.decOn d = true →
    exec (.decUncommit w d) s = .next (
      if s.decNeeded d = false then (s.seenBy w).setFld (Reg.CXL_DEC_CTL d) 30 2 0
      else ((s.seenBy w).err 0xB0000 2 (Reg.CXL_DEC_CTL d - 0xB0000) (Reg.CXL_DEC_CTL d)).irq 0xB0000 4)) ∧
  (∀ (s : State) (w : Win) (v : Word), s.opens w Reg.CXL_XIO_CTL true = true → s.bit Reg.CXL_XIO_STAT 31 = false →
    let u := (s.seenBy w).setReg Reg.CXL_XIO_CTL (v &&& 0x3100000F#32)
    let st := u.cxlState (u.fld Reg.CXL_XIO_CTL 24 1)
    exec (.xioGo w v) s = .next (
      if st ≠ 3 ∧ st ≠ 4 then u.setN Reg.CXL_XIO_STAT 13
      else if u.bit Reg.CXL_XIO_CTL 29 = true ∧ u.xioHits = true then u.setN Reg.CXL_XIO_STAT 3
      else { u.setN Reg.CXL_XIO_STAT 0x80000000 with
        cxl := { u.cxl with xioAt := u.now, xioWr := (u.setN Reg.CXL_XIO_STAT 0x80000000).bit Reg.CXL_XIO_CTL 28 } })) ∧
  (∀ (s : State) (e : XioEnd), s.bit Reg.CXL_XIO_STAT 31 = true →
    exec (.xioComplete e) s = .next (match e with
      | .ok d => (if s.cxl.xioWr = true then s else s.setReg Reg.CXL_XIO_DATA d).setN Reg.CXL_XIO_STAT 0
      | .unsupported => s.setN Reg.CXL_XIO_STAT 3
      | .abort => s.setN Reg.CXL_XIO_STAT 10
      | .timeout => if s.cxl.xioAt + 400 ≤ s.now then s.setN Reg.CXL_XIO_STAT 12 else s)) ∧
  (∀ (s : State) (p a : Nat) (poison : Bool), s.cxlState p = 4 →
    let x := (s.setPoison a poison).add64 (Reg.CXL_RD_BYTES_LO p) 64
    let y := x.bump (Reg.CXL_POISON_RD p)
    let u := y.irq 0xB0000 2
    let kept := fun (s : State) (v : Nat × Nat) => ({ s with cxl := { s.cxl with
      poison := Tab.put (fun _ => none) s.cxl.poison p (some v) } } : State)
    let post := fun n => kept (u.event (u.rn Reg.CXL_EVQ) 0x80 [0x41, p, a % 2 ^ 32, a / 2 ^ 32, n]) (s.now, 0)
    exec (.cxlMemReadDone p a poison) s = .next (
      if poison = false then x
      else match Tab.get (fun _ => none) s.cxl.poison p with
        | none => post 1
        | some (t, n) => if t + 8000 ≤ s.now then post (n + 1) else kept y (t, n + 1)))

/-- Turn: OPERAND_ACCEPT readies, pairs, holds, discards or refuses the oldest operand as R207, R208 and R215 say. For the
oldest posted operand, taken off the list, exec answers the next state given, in every case. Of a FREE flow it is
discarded and BADFLOW counts; stale, or a second of the type and stamp that waits, it counts STALE_OP; neither is
refused. Where it needs a shared entry and none is free the producer's reaction of R215 follows, with REFUSED counted
and IRQ_RAW bit 1 set (SYS_POST sets REFUSED; a kept operand waits for the next frame; a boundary operand past its
block is dropped with OP_DROP and bit 2). Otherwise, outside LINE matching it readies one move alone at its type's
level, and a boundary operand moves the flow's last boundary; of a LINE flow the first of a boundary waits, its
partner readies one move LINE_BLOCK with both, an earlier one is readied alone while the other waits, and a later one
readies the waiting one alone and waits itself. -/
def Obligations.TurnMatchesOperandsIntoMoves : Prop :=
  (∀ (s : State) (type flow stamp : Nat) (solo miss : Bool) (a b : Nat × Nat) (res shr : Nat),
    let lvl := s.typeLevel type
    let m : Move := ⟨type, flow, lvl, lvl, solo, miss, stamp, s.time.us, s.time.us, 0, a.1, a.2, b.1, b.2, res, shr⟩
    s.readyMove type flow stamp solo miss a b res shr = { s with turn := { s.turn with ready := insertReady m s.turn.ready } }) ∧
  (∀ (s : State) (o : Operand) (sh : Bool),
    (o.type = 1 → s.solo ⟨o, sh⟩ =
      (s.readyMove 1 o.flow o.stamp true true (o.d0, o.d1) (0, 0) (1 - b2n sh) (b2n sh)).bump Reg.TURN_UNMATCHED) ∧
    (o.type = 2 → s.solo ⟨o, sh⟩ =
      (s.readyMove 1 o.flow o.stamp true false (0, 0) (o.d0, o.d1) (1 - b2n sh) (b2n sh)).bump Reg.TURN_UNMATCHED)) ∧
  (∀ (s : State) (o : Operand) (p : Producer) (l : List (Operand × Producer)), s.turn.posted = (o, p) :: l →
    let u : State := { s with turn := { s.turn with posted := l } }
    let f := u.flow_ o.flow
    let sh := b2n (u.needsShared o)
    (u.flowLive o.flow = false ∨ o.boundary = true ∧ (f.lastF.any (fun k => notAfter32 o.stamp k) = true ∨
        u.lineFlow o.flow = true ∧ f.unmatched.head?.any (fun h => h.op.stamp == o.stamp && h.op.type == o.type) = true) →
      exec .operandAccept s = .next (u.bump (if u.flowLive o.flow = true then Reg.TURN_STALE_OP else Reg.TURN_BADFLOW))) ∧
    (u.discards o = false → u.needsShared o = true → 16384 ≤ u.sharedUsed →
      let v := (u.bump Reg.TURN_REFUSED).irq 0x70000 1
      let kept : State := { v with turn := { v.turn with retry := v.turn.retry ++ [(o, p)] } }
      exec .operandAccept s = .next (match p with
        | .boundary k => if k ≤ u.now then (v.bump Reg.TURN_OP_DROP).irq 0x70000 2 else kept
        | .host => v.setN Reg.TURN_SYS_POST_STAT 1
        | _ => kept)) ∧
    (u.discards o = false → u.needsShared o = false ∨ u.sharedUsed < 16384 → u.lineFlow o.flow = false ∨ o.boundary = false →
      let v := u.readyMove o.type o.flow o.stamp false false (o.d0, o.d1) (0, 0) (1 - sh) sh
      exec .operandAccept s = .next (if o.boundary = true then v.setFlow o.flow { f with lastF := some o.stamp } else v)) ∧
    (u.discards o = false → u.needsShared o = false ∨ u.sharedUsed < 16384 → u.lineFlow o.flow = true → o.boundary = true →
      exec .operandAccept s = .next (match f.unmatched with
        | [] => u.setFlow o.flow { f with unmatched := [⟨o, u.needsShared o⟩] }
        | g :: rest =>
          if g.op.stamp = o.stamp then
            let x := if o.type = 1 then (o, g.op) else (g.op, o)
            (u.readyMove 1 o.flow o.stamp false false (x.1.d0, x.1.d1) (x.2.d0, x.2.d1)
              (2 - (sh + b2n g.shared)) (sh + b2n g.shared)).setFlow o.flow { f with unmatched := rest, lastF := some o.stamp }
          else if notAfter32 o.stamp g.op.stamp = true then
            (u.solo ⟨o, u.needsShared o⟩).setFlow o.flow { f with lastF := some o.stamp }
          else (u.solo g).setFlow o.flow { f with
            unmatched := rest ++ [⟨o, u.needsShared o⟩], lastF := some g.op.stamp })))

/-- Turn: moves are placed and promoted, timers fire, and requests from cores and the host act. For every state and
operands that meet the conditions named, exec answers the next state given. DISPATCH_PERIOD moves the time on, counts
a background move that the cap holds back, and places the chosen move: its flow is held, its core's slot takes it,
DISP and AGE_MAX follow. MOVE_PROMOTION lifts every move whose age reached its limit by one level and counts it.
HOURGLASS_FIRE fires every timer that is due and was not armed in this frame, by due frame and id: a one-shot timer is
disarmed, a periodic one rearmed, each posts a TIMER operand. POST, TIMER_SET and TIMER_CANCEL act on the front
request of their kind, a refused POST stays there until the next frame, and a malformed one counts TREQ_ERR. SYS_POST
readies a SYSTEM move, or is refused or discarded; SYSFLOW_DISABLE discards the flow's moves into BADFLOW; TURN_RST
with no context and all cores stopped clears Turn. -/
def Obligations.TurnPlacesPromotesTimesAndTakesRequests : Prop :=
  (∀ (s : State) (dus : Nat),
    let x : State := { s with time := { s.time with us := s.time.us + dus } }
    let u := if x.bgBlocked = true then x.bump Reg.TURN_BG_BLOCK else x
    exec (.dispatchPeriod dus) s = .next (match u.choose with
      | none => u
      | some (m, k) =>
        let wait := min 65535 (u.time.us - m.ready)
        let v := ({ u with turn := { u.turn with ready := u.turn.ready.erase m, lastPlaced := k } } : State).setFlow m.flow
          { u.flow_ m.flow with held := true, lastCore := some k }
        let w := v.setCore k { v.core_ k with
          slot := some { m with wait := wait, levelAt := u.time.us - m.levelAt }, waiting := false }
        (w.add64 Reg.TURN_DISP_LO 1).maxN (Reg.TURN_AGE_MAX m.level) wait)) ∧
  (∀ (s : State) (dus : Nat),
    let u : State := { s with time := { s.time with us := s.time.us + dus } }
    let due := fun (m : Move) => decide (m.level ≠ 0) && decide (u.ageLimit m.level ≤ u.time.us - m.levelAt)
    let up := u.turn.ready.map (fun m => if due m then { m with level := m.level - 1, levelAt := u.time.us } else m)
    let v : State := { u with turn := { u.turn with ready := up } }
    exec (.movePromotion dus) s = .next (v.each (u.turn.ready.filter due) (fun s m =>
      if m.level = 1 then
        let x := (s.bump Reg.TURN_PROMO1).irq 0x70000 0
        if m.rlevel ≤ 1 then x.bump Reg.TURN_PROMO1_V else x
      else if m.level = 3 then s.bump Reg.TURN_PROMO3
      else if m.level = 2 then s.bump Reg.TURN_PROMO2
      else s.bump Reg.TURN_PROMO1))) ∧
  (∀ (s : State) (ph : Nat),
    let n := s.now % 2 ^ 32
    let due := s.turn.timers.filterMap (fun e => e.2.bind (fun t =>
      if pastDue t.due n = true ∧ t.armed ≠ s.now then some (e.1, t) else none))
    let late := fun (e : Nat × Timer) => (n + 2 ^ 32 - e.2.due) % 2 ^ 32
    let l := sortBy (fun a b => decide (late b < late a) || (late a == late b && decide (a.1 ≤ b.1))) due
    let x := s.each l (fun s e => s.fire e.1 e.2)
    exec (.hourglassFire ph) s = .next (if l = [] then s else x.maxN Reg.TURN_HG_MAXFIRE ph)) ∧
  (∀ (s : State) (id : Nat) (t : Timer),
    let r := if t.period = 0 then (0, 0) else rearm t.due t.period (s.now % 2 ^ 32)
    s.fire id t = ((s.setTimer id (if t.period = 0 then none else some { t with due := r.1 })).post
      ⟨6, t.flow, s.now % 2 ^ 32, r.2 % 2 ^ 16 * 2 ^ 16 + id, t.user⟩ .keep).bump Reg.TURN_HG_FIRED) ∧
  (∀ (s : State) (hdr : Word) (ws : List Word) (o : Option Win), s.frontItem s.treqQ = some (hdr, ws, o) →
    s.turn.reqHeld = false →
    let u := s.popItem s.treqQ
    (∀ w1, s.readTreq hdr ws = .bad w1 → exec .post s =
      .next (((u.bump Reg.TURN_TREQ_ERR).irq 0x70000 4).err 0x70000 3 (w1 % 2 ^ 24) w1)) ∧
    (∀ ty f a b, s.readTreq hdr ws = .post ty f a b → exec .post s = .next (
      if s.flowLive f = true ∧ 16384 ≤ s.sharedUsed then
        (({ s with turn := { s.turn with reqHeld := true } } : State).bump Reg.TURN_REFUSED).irq 0x70000 1
      else if s.flowLive f = false then u.bump Reg.TURN_BADFLOW
      else u.readyMove ty f (s.now % 2 ^ 32) false false (a, b) (0, 0) 0 1)) ∧
    (∀ id f due p x, s.readTreq hdr ws = .set id f due p x →
      let v := u.setTimer id (some ⟨f, due % 2 ^ 32, p, x, s.now⟩)
      exec .timerSet s = .next (if pastDue (due % 2 ^ 32) (s.now % 2 ^ 32) = true then v.bump Reg.TURN_HG_PAST else v)) ∧
    (∀ id, s.readTreq hdr ws = .cancel id → exec .timerCancel s = .next (u.setTimer id none))) ∧
  (∀ (s : State) (w : Win) (i : Nat), s.opens w Reg.TURN_SYS_POST true = true →
    let u := s.seenBy w
    let f := 8192 + i % 64
    exec (.sysPost w i) s = .next (
      if s.flowLive f = false then u.bump Reg.TURN_BADFLOW
      else if 16384 ≤ s.sharedUsed then ((u.bump Reg.TURN_REFUSED).irq 0x70000 1).setN Reg.TURN_SYS_POST_STAT 1
      else u.readyMove 0x3F f (s.now % 2 ^ 32) false false (s.rn Reg.TURN_SYS_POST_D0, s.rn Reg.TURN_SYS_POST_D1) (0, 0) 0 1)) ∧
  (∀ (s : State) (w : Win) (n : Nat), s.opens w (Reg.TURN_SYSFLOW_CFG n) true = true →
    let f := 8192 + n
    let u := (s.seenBy w).setReg (Reg.TURN_SYSFLOW_CFG n) ((s.reg (Reg.TURN_SYSFLOW_CFG n) &&& 0x7FFFFFFF#32) &&& 0x800F0000#32)
    let v := u.setFlow f { u.flow_ f with unmatched := [] }
    exec (.sysflowDisable w n) s = .next (
      if s.bit (Reg.TURN_SYSFLOW_CFG n) 31 = true then
        ({ v with turn := { v.turn with ready := v.turn.ready.filter (fun m => m.flow != f) } } : State).addN Reg.TURN_BADFLOW
          ((u.flow_ f).unmatched.length + (u.turn.ready.filter (fun m => m.flow == f)).length)
      else u)) ∧
  (∀ (s : State) (w : Win), s.opens w 0x70030 true = true → s.anyCtx = false → s.allStopped = true →
    exec (.turnRst w) s = .next { ((s.seenBy w).headerReset 0x70000).pageReset 0x70000 0x74000 with turn := {} }) ∧
  (∀ (s : State) (a : Nat), 0x70000 ≤ a → a < 0x74000 → 0x100 ≤ a % 0x1000 →
    (s.pageReset 0x70000 0x74000).reg a = regReset a)

/-- QM: data writes reserve and fill an item, COMMIT makes it whole, and every other end rolls WR back. With x the queue
and u the state after the access is let through, exec answers the next state given, in every case. QUEUE_DATA_WRITE to
a disabled queue counts QDROP and makes the window drop with NOT_READY; a window that drops writes nothing; with no
reservation it makes one with a zero header word and the word, or drops with FULL and counts ABORTS where two words do
not fit; against another window's it drops with BUSY; it adds a word to its own, which ends with BAD_PARAM past the
longest item and with FULL in a full ring. COMMIT to a disabled queue reports NOT_READY and counts QDROP; while
dropping it reports the kept status; of the window's own reservation with a right header it writes the header, makes
the item and reports OK, with a wrong one rolls WR back and counts BAD_COMMIT. ABORT and RESERVATION_TIMEOUT end a
reservation: WR rolls back, ABORTS counts, the window drops with FLUSHED or TIMEOUT. QUEUE_DATA_READ returns the next
word of a whole item, an empty queue's marker, or 0 at a reserved header. -/
def Obligations.QueueReservationsWriteAndCommitItems : Prop :=
  (∀ (s : State) (w : Win) (q : Nat) (v : Word), s.opens w (0x400000 + q * 0x800) true = true →
    let u := s.seenBy w
    let x := s.que q
    let drop := fun (st : Nat) => u.setQue q (x.setWin w { x.winQ w with drop := some st })
    exec (.queueDataWrite w q v) s = .next (
      if x.en = false then (drop 13).bump (Reg.QM_QDROP q)
      else if (x.winQ w).drop.isSome = true then u
      else match x.resv with
        | none =>
          if x.free < 2 then (drop 1).bump Reg.QM_ABORTS
          else (u.putWords x x.wr [0, v]).setQue q { x with resv := some ⟨w, x.wr, 1⟩, wr := (x.wr + 2) % (2 * x.S) }
        | some r =>
          if r.win ≠ w then drop 2
          else if min 1023 (x.S / 4 - 1) < r.n + 1 then u.endResv q 3
          else if x.free = 0 then u.endResv q 1
          else (u.putWords x x.wr [v]).setQue q { x with resv := some { r with n := r.n + 1 }, wr := (x.wr + 1) % (2 * x.S) })) ∧
  (∀ (s : State) (q st : Nat),
    let x := s.que q
    s.endResv q st = (match x.resv with
      | none => s
      | some r => (s.setQue q ({ x with wr := r.at_, resv := none }.setWin r.win
          { x.winQ r.win with drop := some st })).bump Reg.QM_ABORTS)) ∧
  (∀ (s : State) (w : Win) (q : Nat) (v : Word), s.opens w (0x400000 + q * 0x800 + 0x400) true = true →
    let u := s.seenBy w
    let x := s.que q
    let report := fun (st : Nat) => x.setWin w { pstat := st, drop := none }
    exec (.commit w q v) s = .next (
      if x.en = false then (u.setQue q (report 13)).bump (Reg.QM_QDROP q)
      else match (x.winQ w).drop, x.resv with
        | some st, _ => u.setQue q (report st)
        | none, some r =>
          if r.win ≠ w then u.setQue q (report 2)
          else if hdrOk v = true ∧ v.toNat % 2 ^ 16 = r.n then
            (u.putWords x r.at_ [v]).setQue q { report 0 with resv := none, items := x.items ++ [(r.n + 1, some w, u.now)] }
          else (u.setQue q { report 3 with resv := none, wr := r.at_ }).bump Reg.QM_BAD_COMMIT
        | none, none =>
          if ¬ (hdrOk v = true ∧ v.toNat % 2 ^ 16 = 0) then (u.setQue q (report 3)).bump Reg.QM_BAD_COMMIT
          else if x.free = 0 then u.setQue q (report 1)
          else (u.putWords x x.wr [v]).setQue q { report 0 with
            wr := (x.wr + 1) % (2 * x.S), items := x.items ++ [(1, some w, u.now)] })) ∧
  (∀ (s : State) (w : Win) (q : Nat) (v : Word), s.opens w (0x400000 + q * 0x800 + 0x404) true = true →
    let u := s.seenBy w
    let x := s.que q
    exec (.abort w q v) s = .next (
      if x.en = false then (u.setQue q (x.setWin w { x.winQ w with drop := some 13 })).bump (Reg.QM_QDROP q)
      else if v = 1 ∧ x.resv.any (fun r => r.win == w) = true then u.endResv q 9
      else u)) ∧
  (∀ (s : State) (q : Nat), exec (.reservationTimeout q) s = .next (
    if (s.que q).resv.isSome = true then (s.endResv q 12).irq 0x78000 1 else s)) ∧
  (∀ (s : State) (w : Win) (q : Nat), s.opens w (0x400000 + q * 0x800) false = true →
    let x := s.que q
    let get := fun (v : Word) => ({ s.seenBy w with rdata := v } : State)
    let v := s.sram (x.word x.rd)
    exec (.queueDataRead w q) s = .next (
      if x.en = false ∨ x.rd = x.wr then get (w32 (0xD1CE0000 + q))
      else if x.resv.any (fun r => r.at_ == x.rd) = true then get 0
      else (get v).setQue q (if x.left = 0
        then { x with rd := (x.rd + 1) % (2 * x.S), left := v.toNat % 2 ^ 16, items := x.items.tail }
        else { x with rd := (x.rd + 1) % (2 * x.S), left := x.left - 1 })))

/-- QM: queues are enabled, resized, disabled, flushed and reset as R220 and R230 to R235 say. For every state and fields
that the encoding admits, exec answers the next state given. A write of QCFG that breaks R220 is ignored: BAD_PARAM
and the queue are recorded and IRQ_RAW bit 2 is set. QCFG_ENABLE of a disabled queue otherwise stores QCFG and starts
an empty ring; of an enabled queue it, as QCFG_RESIZE, keeps a new size or base pending, and QUEUE_RESIZE_APPLY takes
them once the ring is empty with no reservation and no reader. QCFG_DISABLE flushes the queue and disables it with RSV
0; the responses it had reserved space for are lost. QFLUSH discards the committed items that nobody reads, ends a
reservation and counts the items. QM_RST with no context and every core stopped empties the queues, the outbox and the
commands in progress and resets the registers; otherwise it is ignored with BUSY. -/
def Obligations.QueuesAreConfiguredFlushedAndReset : Prop :=
  (∀ (s : State) (w : Win) (q size base : Nat), s.opens w (Reg.QM_QCFG q) true = true → size < 16 → base < 2048 →
    let u := s.seenBy w
    let t := u.setN (Reg.QM_QCFG q) (0x80000000 + size * 0x10000 + base)
    let x := s.que q
    exec (.qcfgEnable w q size base) s = .next (
      if u.qcfgBad q size base true = true then (u.err 0x78000 3 q (Reg.QM_QCFG q)).irq 0x78000 2
      else if x.en = false then
        t.setQue q { x with en := true, size := size, base := base, rd := 0, wr := 0, items := [], left := 0, pend := none }
      else t.setQue q { x with pend := if size = x.size ∧ base = x.base then none else some (size, base) })) ∧
  (∀ (s : State) (w : Win) (q size base : Nat), s.opens w (Reg.QM_QCFG q) true = true → s.bit (Reg.QM_QCFG q) 31 = true →
    size < 16 → base < 2048 →
    let u := s.seenBy w
    let t := u.setReg (Reg.QM_QCFG q)
      (w32 (putField (putField (s.rn (Reg.QM_QCFG q)) 16 4 size) 0 11 base) &&& 0x800F07FF#32)
    let x := s.que q
    exec (.qcfgResize w q size base) s = .next (
      if u.qcfgBad q size base true = true then (u.err 0x78000 3 q (Reg.QM_QCFG q)).irq 0x78000 2
      else if x.en = false then
        t.setQue q { x with en := true, size := size, base := base, rd := 0, wr := 0, items := [], left := 0, pend := none }
      else t.setQue q { x with pend := if size = x.size ∧ base = x.base then none else some (size, base) })) ∧
  (∀ (s : State) (w : Win) (q : Nat) (v : Word), s.opens w (Reg.QM_QCFG q) true = true →
    let n := (v &&& 0x7FFFFFFF#32).toNat
    let u := s.seenBy w
    let t := (u.setReg (Reg.QM_QCFG q) ((v &&& 0x7FFFFFFF#32) &&& 0x800F07FF#32)).flush q
    let y := { t.que q with en := false, size := fieldOf n 16 4, base := fieldOf n 0 11, rsv := 0, pend := none, left := 0 }
    exec (.qcfgDisable w q v) s = .next (
      if 8 < fieldOf n 16 4 then (u.err 0x78000 3 q (Reg.QM_QCFG q)).irq 0x78000 2 else (t.setQue q y).orphans q)) ∧
  (∀ (s : State) (q : Nat), s.orphans q = { s with qm := { s.qm with
    outbox := s.qm.outbox.map (fun o => if o.q = q ∧ o.resp.isSome = true then { o with lost := true } else o)
    taken := s.qm.taken.map (fun t => if t.q + 16 = q then { t with orphan := true } else t) } }) ∧
  (∀ (s : State) (q : Nat),
    let x := s.que q
    exec (.queueResizeApply q) s = .next (match x.pend with
      | none => s
      | some p => if x.rd = x.wr ∧ x.resv.isNone = true ∧ x.left = 0 then
          s.setQue q { x with size := p.1, base := p.2, rd := 0, wr := 0, pend := none }
        else s)) ∧
  (∀ (s : State) (w : Win) (q : Nat), s.opens w Reg.QM_QFLUSH true = true →
    exec (.qflush w q) s = .next ((s.seenBy w).flush (q % 512))) ∧
  (∀ (s : State) (q : Nat),
    let t := s.endResv q 9
    let x := t.que q
    s.flush q = (t.setQue q { x with items := [], wr := (x.rd + x.left) % (2 * x.S) }).addN Reg.QM_FLUSH_ITEMS x.items.length) ∧
  (∀ (s : State) (w : Win), s.opens w 0x78030 true = true →
    let u := s.seenBy w
    let t := (u.headerReset 0x78000).pageReset 0x78000 0x80000
    exec (.qmRst w) s = .next (
      if s.anyCtx = true ∨ s.allStopped = false then (u.err 0x78000 2 0x30 0x78030).setN 0x78034 2
      else { t with qm := { t.qm with queues := [], outbox := [], taken := [], served := 15, stalled := [] } })) ∧
  (∀ (s : State) (a : Nat), 0x78000 ≤ a → a < 0x80000 → 0x100 ≤ a % 0x1000 →
    (s.pageReset 0x78000 0x80000).reg a = regReset a)

/-- QM and command processor: core commits, pops, command taking, responses and events. For every state and operands that
meet the conditions named, exec answers the next state given. QP_COMMIT hands the core's buffered words over with the
header and sets BUSY. COMMIT_ACCEPT with no reservation judges the oldest item for the queue and, OK, writes it whole;
NOT_READY counts QDROP, BAD_PARAM counts BAD_COMMIT; the committer learns the status. QP_POP takes one whole item into
the core's buffer. COMMAND_TAKE of the queue served next reserves the response's space and passes a command of a
window with the right on; without the right it is audited and answered NO_RIGHTS, a malformed item is answered
BAD_PARAM, and CTX_SEND_EVENT posts a HOST_CMD operand to the context's flow, or waits where Turn has no entry; of any
other queue nothing happens. RESPONSE_WRITE and EVENT_POST write the oldest response or event for the queue, an event
with its sequence number; a response of a queue disabled since counts QDROP; an event that does not fit counts QDROP
and sets OVF and IRQ_RAW bit 0. An item of no words answers opcode 0. -/
def Obligations.CommandsAreTakenAndAnswered : Prop :=
  (∀ (s : State) (g : Nat) (v : Word), (s.core_ g).port.txBusy = false →
    let ws := (List.range (min (v.toNat % 2 ^ 16) 128)).map (fun i => Tab.get (fun _ => 0) (s.core_ g).port.txbuf i)
    let t := s.setCore g { s.core_ g with port := { (s.core_ g).port with txBusy := true } }
    exec (.qpCommit g v) s = .next { t with qm := { s.qm with commits := s.qm.commits ++ [⟨(s.core_ g).port.txq, .core g, v.toNat, ws⟩] } }) ∧
  (∀ (s : State) (q : Nat) (c : Commit), s.qm.commits.find? (fun c => c.q == q) = some c → (s.que q).resv = none →
    let x := s.que q
    let u : State := { s with qm := { s.qm with commits := s.qm.commits.eraseP (fun c => c.q == q) } }
    let st := if x.en = false then 13
      else if hdrOk (w32 c.hdr) = false ∨ (w32 c.hdr).toNat % 2 ^ 16 ≠ c.words.length ∨ min 1023 (x.S / 4 - 1) < c.words.length then 3
      else if x.free < c.words.length + 1 then 1 else 0
    let t := if st = 0 then u.putItem q (w32 c.hdr) c.words none
      else if st = 13 then u.bump (Reg.QM_QDROP q)
      else if st = 3 then u.bump Reg.QM_BAD_COMMIT
      else u
    exec (.commitAccept q) s = .next (t.commitDone c.by_ st)) ∧
  (∀ (s : State) (q : Nat) (hdr : Word) (ws : List Word) (w : Option Win),
    let x := s.que q
    s.putItem q hdr ws w = (s.putWords x x.wr (hdr :: ws)).setQue q { x with
      wr := (x.wr + (ws.length + 1)) % (2 * x.S), items := x.items ++ [(ws.length + 1, w, s.now)] }) ∧
  (∀ (s : State) (g st : Nat), s.commitDone (.core g) st = s.setCore g { s.core_ g with
    port := { (s.core_ g).port with txBusy := false, txStat := st } }) ∧
  (∀ (s : State) (g : Nat) (hdr : Word) (ws : List Word) (o : Option Win),
    let p := (s.core_ g).port
    s.frontItem p.rxq = some (hdr, ws, o) →
    let u := s.popItem p.rxq
    let buf := ((ws.take 64).zip (List.range 64)).foldl (fun t e => Tab.put (fun _ => 0) t e.2 e.1) []
    exec (.qpPop g) s = .next (u.setCore g { u.core_ g with port := { p with
      rxbuf := buf, rxHdr := hdr.toNat, rxTrunc := decide (64 < ws.length), rxStat := if 64 < ws.length then 10 else 0 } })) ∧
  (∀ (s : State) (q : Nat), s.nextQueue ≠ some q → exec (.commandTake q) s = .next s) ∧
  (∀ s : State, s.nextQueue = ((List.range 16).map (fun i => (s.qm.served + 1 + i) % 16)).find? s.takeable) ∧
  (∀ (s : State) (q : Nat) (hdr : Word) (l : List Word) (win : Option Win), s.frontItem q = some (hdr, l, win) →
    s.nextQueue = some q →
    let op := (l.headD 0).toNat / 2 ^ 24
    let ws := l.drop 1
    let r : CmdRef := ⟨q, (l.headD 0).toNat % 2 ^ 16, win.getD .operator⟩
    let v := (s.popItem q).setQue (q + 16) { s.que (q + 16) with rsv := (s.que (q + 16)).rsv + respLen op }
    let u : State := { v with qm := { v.qm with served := q } }
    let kept : State := { u with qm := { u.qm with taken := u.qm.taken ++ [⟨q, r.tag, op, win, ws, false, false⟩] } }
    let formed := hdr.toNat / 2 ^ 24 % 16 = 1 ∧ opcodes.contains op = true ∧ opMinLen op ≤ l.length
    let right := win.any (fun w => s.commandRight w op) = true
    let cmd : Operand := ⟨5, (ws.headD 0).toNat, s.now % 2 ^ 32, s.free % 2 ^ 32, op * 2 ^ 24 + q * 2 ^ 16 + r.tag⟩
    (l = [] → exec (.commandTake q) s = .next (u.answer r 0 3 [0xFFFFFFFF])) ∧
    (l ≠ [] → ¬ formed → exec (.commandTake q) s = .next (u.answer r op 3 [objectOf op ws])) ∧
    (l ≠ [] → formed → ¬ right → exec (.commandTake q) s = .next ((u.audit (match win with
      | some w => winNum w + 1
      | none => 0) 4 0x0D [op]).answer r op 4 [objectOf op ws])) ∧
    (l ≠ [] → formed → right → op ≠ 0x0A ∨ 8192 ≤ (ws.headD 0).toNat → exec (.commandTake q) s = .next kept) ∧
    (l ≠ [] → formed → right → op = 0x0A → (ws.headD 0).toNat < 8192 → exec (.commandTake q) s = .next (
      if s.noEntry cmd = true then
        (({ s with qm := { s.qm with stalled := q :: s.qm.stalled } } : State).bump Reg.TURN_REFUSED).irq 0x70000 1
      else kept.drawn.accept cmd))) ∧
  (∀ (s : State) (q st tag q' op : Nat) (ws : List Word) (lost : Bool),
    s.qm.outbox.find? (fun o => o.q == q) = some ⟨some (st, tag), q', op, ws, lost⟩ → (s.que q).resv = none →
    let x := s.que q
    let u : State := { s with qm := { s.qm with outbox := s.qm.outbox.eraseP (fun o => o.q == q) } }
    let body := w32 (op * 2 ^ 24 + st * 2 ^ 16 + tag % 2 ^ 16) :: ws
    exec (.responseWrite q) s = .next (if lost = true then u.bump (Reg.QM_QDROP q)
      else (u.setQue q { x with rsv := x.rsv - respLen op }).putItem q (w32 (0xA2000000 + body.length)) body none)) ∧
  (∀ (s : State) (q q' code : Nat) (ws : List Word) (lost : Bool),
    s.qm.outbox.find? (fun o => o.q == q) = some ⟨none, q', code, ws, lost⟩ → (s.que q).resv = none →
    let x := s.que q
    let u : State := { s with qm := { s.qm with outbox := s.qm.outbox.eraseP (fun o => o.q == q) } }
    let v := u.setQue q { x with evseq := (x.evseq + 1) % 2 ^ 16 }
    let body := w32 (code * 2 ^ 24 + x.evseq) :: ws
    exec (.eventPost q) s = .next (if x.en = true ∧ body.length + 1 ≤ x.free
      then v.putItem q (w32 (0xA3000000 + body.length)) body none
      else ((v.bump (Reg.QM_QDROP q)).setFld (Reg.QM_QSTAT q) 30 1 1).irq 0x78000 0))

/-- CIPH: packets are verified or protected, journal slots encrypted, and jobs taken, run and ended. For every state and
operands that meet the conditions named, exec answers the next state given. SRTP_RX_PACKET takes the front packet
through the steps of R243 in their order (engine down, no key, length, MKI, replay, exhausted index, fault, tag), each
failure with its counter, and hands the deciphered packet to the JBE with the record updated. SRTP_TX_PACKET, with no
receive packet waiting, puts the protected packet in the voice queue of its MAC and updates the record, or drops it
for its reason. CIPH_JOURNAL_SLOT, with no in-line packet waiting, encrypts the oldest waiting slot of the cluster
with its key, or makes it a GAP slot. CIPH_JOB_TAKE checks and holds one job, which begins when its turn comes with
its slot's key and, with GEN, the next IV. CIPH_JOB_DONE, with no work of an earlier class waiting, ends the job in
progress: refused by its check, by a lockout, by its ranges or a fault, or run, with its bytes written, JOB_CNT
counted and its result offered. -/
def Obligations.CipherPacketsAndJobsRunToTheirVerdict : Prop :=
  (∀ (s : State) (c : Nat) (fault : Bool) (p : CiphRx) (l : List CiphRx), (s.eng c).rx = p :: l →
    let u := s.setEng c { s.eng c with rx := l }
    let gone := fun (t : State) (a : Nat) => (t.bump a).poolFree p.buf
    let r := s.srec p.ctx 0
    let b := s.rdBytes (s.poolAddr p.buf) p.len
    let fail := ((u.setSrec p.ctx 0 { r with tagf := (r.tagf + 1) % 2 ^ 32 }).poolFree p.buf).tagFail c p.ctx
    (s.cipherDown c = true → exec (.srtpRxPacket c fault) s = .next (gone u (Reg.CIPH_DROP_CNT c))) ∧
    (s.cipherDown c = false → s.skey p.ctx 0 = none ∨ r.state ≠ 1 →
      exec (.srtpRxPacket c fault) s = .next (gone u (Reg.CIPH_NOKEY_CNT c))) ∧
    (∀ k, s.cipherDown c = false → s.skey p.ctx 0 = some k → r.state = 1 →
      let t := suiteTag k.suite
      let n := b.length - r.mkiLen - t
      let mki := if suiteGcm k.suite then slice b (b.length - r.mkiLen) r.mkiLen else slice b (b.length - t - r.mkiLen) r.mkiLen
      let tag := if suiteGcm k.suite then slice b n t else slice b (b.length - t) t
      let hdr := (b.take n).take (rtpHeadLen b)
      let body := (b.take n).drop (rtpHeadLen b)
      let ssrc := beNat (slice b 8 4)
      let new := bitOf r.flags 1 && decide (r.ssrc ≠ ssrc)
      let rv := if new then { r with roc := 0, seq := 0, window := 0, flags := bitClear r.flags 2 } else r
      let i := indexOf rv.roc rv.seq (bitOf rv.flags 2) (beNat (slice b 2 2))
      let used := gone u (Reg.CIPH_EXH_CNT c)
      let v := u.setSrec p.ctx 0 (r.accept i.toNat ssrc)
      let x := (if new then v.bump (Reg.CIPH_SSRC_CHG c) else v).bump (Reg.CIPH_RX_PKTS c)
      exec (.srtpRxPacket c fault) s = .next (
        if b.length < 12 + r.mkiLen + t ∨ 2048 < b.length then gone u (Reg.CIPH_MALFORMED c)
        else if mki ≠ r.mki.take r.mkiLen then fail
        else if rv.replayed i = true then
          gone (u.setSrec p.ctx 0 { r with replay := (r.replay + 1) % 2 ^ 32 }) (Reg.CIPH_REPLAY_CNT c)
        else if (2 ^ 48 : Int) ≤ i then
          (if k.exh = true then used else (used.setSkey p.ctx 0 (some { k with exh := true })).keyExhausted c p.ctx 0)
        else if fault = true then (gone u (Reg.CIPH_DROP_CNT c)).cipherFault c
        else if k.tag ssrc i.toNat hdr body ≠ tag then fail
        else { x with jbe := { x.jbe with inbox := x.jbe.inbox ++
          [rtpPacket p.ctx p.buf p.arrival p.srcAddr p.srcPort p.mac (k.crypt ssrc i.toNat hdr body)] } }))) ∧
  (∀ (s : State) (c : Nat) (fault : Bool) (p : CiphTx) (l : List CiphTx), (s.eng c).rx = [] → (s.eng c).tx = p :: l →
    let u := s.setEng c { s.eng c with tx := l }
    let r := s.srec p.ctx 1
    (s.cipherDown c = true → exec (.srtpTxPacket c fault) s = .next (u.bump (Reg.CIPH_DROP_CNT c))) ∧
    (s.cipherDown c = false → s.skey p.ctx 1 = none ∨ r.state ≠ 1 →
      exec (.srtpTxPacket c fault) s = .next (u.bump (Reg.CIPH_NOKEY_CNT c))) ∧
    (∀ k, s.cipherDown c = false → s.skey p.ctx 1 = some k → r.state = 1 →
      let seq := beNat (slice p.rtp 2 2)
      let wrap := bitOf r.flags 2 && decide (seq ≤ r.seq)
      let roc := if wrap then r.roc + 1 else r.roc
      let i := roc * 65536 + seq
      let ssrc := beNat (slice p.rtp 8 4)
      let n := rtpHeadLen p.rtp
      let out := k.crypt ssrc i (p.rtp.take n) (p.rtp.drop n)
      let tag := k.tag ssrc i (out.take n) (out.drop n)
      let mki := r.mki.take r.mkiLen
      exec (.srtpTxPacket c fault) s = .next (
        if wrap = true ∧ r.roc = 2 ^ 32 - 1 then
          ((u.setSrec p.ctx 1 { r with state := 2 }).bump (Reg.CIPH_EXH_CNT c)).keyExhausted c p.ctx 1
        else if fault = true then (u.bump (Reg.CIPH_DROP_CNT c)).cipherFault c
        else ((u.setSrec p.ctx 1 { r with roc := roc, seq := seq, flags := bitSet r.flags 2, pkts := (r.pkts + 1) % 2 ^ 32 }).bump
          (Reg.CIPH_TX_PKTS c)).voicePut p.tmpl p.slot (out ++ (if suiteGcm k.suite then tag ++ mki else mki ++ tag))))) ∧
  (∀ (s : State) (c : Nat) (fault : Bool) (x : JSlot), s.inlineWaits c = false →
    s.thyme.slots.find? (fun x => x.plain && (s.ctx_ x.ctx).home == c) = some x →
    let put := fun (p : State × JSlot) => ({ p.1 with thyme := { p.1.thyme with
      slots := p.1.thyme.slots.map (fun y => if y = x then p.2 else y) } } : State)
    exec (.ciphJournalSlot c fault) s = .next (
      if s.cipherDown c = true then put (s.slotRefused x)
      else if fault = true then (put (s.slotRefused x)).cipherFault c
      else match s.jkey x.kgen with
        | some k => put (s.bump (Reg.CIPH_JNL_CNT c), { x with bytes := slotCrypt k x.kgen x.bytes, plain := false })
        | none => put (s.slotRefused x))) ∧
  (∀ (s : State) (c : Nat) (hdr : Word) (ws : List Word) (o : Option Win), s.bit (Reg.CIPH_ENGINE_STAT c) 30 = false →
    (s.eng c).jobs.length < 16 → s.frontItem (s.fld (Reg.CIPH_CIPH_CFG c) 0 9) = some (hdr, ws, o) →
    let u := s.popItem (s.fld (Reg.CIPH_CIPH_CFG c) 0 9)
    let x := u.eng c
    let st := if hdr.toNat / 2 ^ 24 % 16 ≠ 6 ∨ ws.length ≠ 13 then 3 else u.jobCheck c (jobF ws)
    exec (.ciphJobTake c) s = .next ((u.setEng c { x with
      jobs := x.jobs ++ [{ id := x.taken, w := ws, st := st }], taken := x.taken + 1 }).jobBegin c)) ∧
  (∀ (s : State) (c : Nat) (x : CiphJob), (s.eng c).running = some x →
    let j := jobF x.w
    let st := s.jobCheck c j
    let t := s.setJob c { x with st := st, key := if st = 0 then some (s.keySlot c j.slot) else none }
    s.jobBegin c = (if x.st ≠ 0 ∨ x.key.isSome = true then s
      else if st = 0 ∧ j.gen = true then t.countIv c j
      else t)) ∧
  (∀ (s : State) (c : Nat) (j : JobF),
    let k := s.keySlot c j.slot
    let t := ((s.setKeySlot c j.slot { k with state := 3 }).bump (Reg.CIPH_EXH_CNT c)).irq (0x50000 + c * 0x1000) 1
    s.countIv c j = (
      if k.counter = 2 ^ 64 - 1 then (t.event (t.rn (Reg.CIPH_EVQ c)) 0xD0 [0xFFFF, j.slot, t.free, c, t.now]).drawn
      else s.setKeySlot c j.slot { k with counter := k.counter + 1 })) ∧
  (∀ (s : State) (c st out iv : Nat) (x : CiphJob),
    let u := s.bump (Reg.CIPH_JOB_CNT c)
    let v := if st = 0 then u else (u.bump (Reg.CIPH_JOB_ERR c)).irq (0x50000 + c * 0x1000) 4
    s.jobEnd c x st out iv = ((v.offer c x (st, out, iv)).setJob c { x with
      result := some (st, out, iv), offered := true }).jobBegin c) ∧
  (∀ (s : State) (c : Nat) (fault : Bool) (x : CiphJob), s.inlineWaits c = false → s.slotWaits c = false → s.keyWaits c = false →
    (s.eng c).running = some x →
    let j := jobF x.w
    let cut := fun st => if j.streams = true then s.streamFail j x.released st false else s
    (x.key = none → exec (.ciphJobDone c fault) s = .next (s.jobEnd c x (if x.st = 0 then 8 else x.st) 0 0)) ∧
    (∀ k, x.key = some k → s.bit (Reg.CIPH_ENGINE_STAT c) 31 = true →
      exec (.ciphJobDone c fault) s = .next ((cut 8).jobEnd c x 8 0 0)) ∧
    (∀ k, x.key = some k → s.bit (Reg.CIPH_ENGINE_STAT c) 31 = false →
      let down := s.farDown j.src j.srcLen || s.farDown j.dst j.outLen
      let kb := if k.alg = 1 then 128 else 256
      let key := beNat k.key
      let aad := s.rdBytes j.src j.aad
      let data := s.rdBytes (j.src + j.aad) j.len
      let tag := s.rdBytes (j.src + j.aad + j.len) j.tagLen
      let iv := if j.gen then k.fixed * 2 ^ 64 + k.counter else j.iv
      let ct := gcmCrypt kb key iv data
      let clear := s.wrDev j.dst (gcmCrypt kb key j.iv data)
      exec (.ciphJobDone c fault) s = .next (
        if down = true then (cut 12).jobEnd c x 12 0 0
        else if s.poisoned j.src j.srcLen = true then (cut 14).jobEnd c x 14 0 0
        else if fault = true then ((cut 8).jobEnd c x 8 0 0).cipherFault c
        else match j.op with
          | 0 => (s.wrDev j.dst (xorBytes data (ctr32 kb key j.iv j.len))).jobEnd c x 0 j.len 0
          | 1 => (s.wrDev j.dst (ct ++ gcmTagOf kb key iv aad ct j.tagLen)).jobEnd c x 0 (j.len + j.tagLen) iv
          | 2 =>
            if gcmTagOf kb key j.iv aad data j.tagLen = tag then
              (if j.streams = true then clear.wrLE j.prog 4 (progWord true 0 j.len) else clear).jobEnd c x 0 j.len j.iv
            else (if j.streams = true then s.streamFail j x.released 7 true else s).jobEnd c x 7 0 j.iv
          | 3 => (s.wrDev j.dst (hmacOf 2 k.key (aad ++ data) j.tagLen)).jobEnd c x 0 j.tagLen 0
          | _ => s.jobEnd c x (if hmacOf 2 k.key (aad ++ data) j.tagLen = tag then 0 else 7) 0 0)))

/-- CIPH: keys are installed and cleared, slots loaded, generated, cleared and read, engines locked, reset and rebuilt.
For every state in which the command is the next of its context or block, and for the host key operations no in-line
packet and no journal slot waits (R238), exec answers the next state given, with the refusals of R262 in their order.
KEY_SRTP stores the session keys and writes the ACTIVE record with the wrapped key, or counts a fault; KEY_SRTP_CLEAR
zeroes the entry, the state byte and the key; KEY_SLOT_LOAD of a blob that unwraps and matches loads the slot, and
otherwise answers TAG_FAIL or DATA_ERR, each after a fault check whose outcome is a free value (log 12); KEY_SLOT_GEN
fills the slot with a free key and writes its blob; KEY_SLOT_CLEAR empties it; KEY_SLOT_QUERY and SRTP_QUERY answer
attributes and record. CIPH_LOCK_SET sets LOCK; CIPH_RST flushes the jobs, zeroes the keys and begins the rebuild;
CIPH_REBUILT restores the keys, clears REBUILD, sets IRQ_RAW bit 5 and posts event 0xD3 with the counts. -/
def Obligations.KeyCommandsAndEngineResetAct : Prop :=
  (∀ (s : State) (r : CmdRef) (c d : Nat) (k : SrtpKey) (fault : Bool), s.inlineWaits (s.ctx_ c).home = false →
    s.slotWaits (s.ctx_ c).home = false → s.cmdDue r 0x50 = true →
    let b := s.begun r 0x50
    let g := (s.ctx_ c).home
    let rec_ := SRec.bytes ⟨1, k.suite, d + 2 * b2n k.ssrc.isSome, k.mkiLen, k.mki.take k.mkiLen, k.ssrc.getD 0, k.roc, 0, 0, 0, 0, 0, 0⟩
    exec (.keySrtp r c d k fault) s = .next (
      if r.win = .maker then (b.audit 3 4 0x0D [0x50]).respond r 0x50 4 [c]
      else if 8191 < c ∨ 1 < d ∨ srtpKeyBad k = true then b.respond r 0x50 3 [c]
      else if s.srtpOpen c = false then b.respond r 0x50 13 [c]
      else if s.bit (Reg.CIPH_ENGINE_STAT g) 31 = true then b.respond r 0x50 8 [c]
      else if fault = true then (b.cipherFault g).respond r 0x50 8 [c]
      else ((b.setSkey c d (some ⟨k.suite, beNat (srtpSession k.key k.salt 0 (suiteBits k.suite / 8)),
          beNat (srtpSession k.key k.salt 1 20), beNat (srtpSession k.key k.salt 2 (suiteSalt k.suite)), false⟩)).wrBytes
          (0x64000000 + (2 * c + d) * 0x100)
          (slice (rec_ ++ kwp s.ck (k.key ++ k.salt) (wkeyLen k.suite)) 0 256)).respond r 0x50 0 [c])) ∧
  (∀ (s : State) (r : CmdRef) (c d : Nat), s.inlineWaits (s.ctx_ c).home = false →
    s.slotWaits (s.ctx_ c).home = false → s.cmdDue r 0x51 = true →
    let b := s.begun r 0x51
    exec (.keySrtpClear r c d) s = .next (
      if r.win = .maker then (b.audit 3 4 0x0D [0x51]).respond r 0x51 4 [c]
      else if 8191 < c ∨ 1 < d then b.respond r 0x51 3 [c]
      else if s.srtpOpen c = false then b.respond r 0x51 13 [c]
      else if s.bit (Reg.CIPH_ENGINE_STAT (s.ctx_ c).home) 31 = true then b.respond r 0x51 8 [c]
      else (((b.setSkey c d none).wr8 (0x64000000 + (2 * c + d) * 0x100) 0).wrBytes
        (0x64000000 + (2 * c + d) * 0x100 + 64) (List.replicate 56 0)).respond r 0x51 0 [c])) ∧
  (∀ (s : State) (r : CmdRef) (c d : Nat), s.cmdDue r 0x56 = true →
    let b := s.begun r 0x56
    exec (.srtpQuery r c d) s = .next (
      if r.win = .maker then (b.audit 3 4 0x0D [0x56]).respond r 0x56 4 [c]
      else if 8191 < c ∨ 1 < d then b.respond r 0x56 3 [c]
      else if (s.ctx_ c).state = 0 then b.respond r 0x56 13 [c]
      else if s.bit (Reg.CIPH_ENGINE_STAT (s.ctx_ c).home) 31 = true then b.respond r 0x56 8 [c]
      else b.respond r 0x56 0 (c :: (List.range 16).map (fun i => s.rdLE (0x64000000 + (2 * c + d) * 0x100 + 4 * i) 4)))) ∧
  (∀ (s : State) (r : CmdRef) (c i : Nat), s.cmdDue r 0x55 = true →
    let b := s.begun r 0x55
    let k := s.keySlot c i
    exec (.keySlotQuery r c i) s = .next (
      if r.win = .maker then (b.audit 3 4 0x0D [0x55]).respond r 0x55 4 [c, i]
      else if 15 < c ∨ 31 < i then b.respond r 0x55 3 [c, i]
      else if s.bit (Reg.CIPH_ENGINE_STAT c) 31 = true then b.respond r 0x55 8 [c, i]
      else b.respond r 0x55 0 [c, i, k.state, k.alg, k.usage, k.fixed, k.counter % 2 ^ 32, k.counter / 2 ^ 32])) ∧
  (∀ (s : State) (r : CmdRef) (c i : Nat), s.inlineWaits c = false → s.slotWaits c = false → s.cmdDue r 0x54 = true →
    let b := s.begun r 0x54
    exec (.keySlotClear r c i) s = .next (
      if r.win ≠ .installer then (b.audit (winNum r.win + 1) 4 0x0D [0x54]).respondA r 0x54 4 [c, i]
      else if 15 < c ∨ 31 < i then b.respondA r 0x54 3 [c, i]
      else if s.bit (Reg.CIPH_ENGINE_STAT c) 31 = true then b.respondA r 0x54 8 [c, i]
      else (b.setKeySlot c i {}).respondA r 0x54 0 [c, i])) ∧
  (∀ (s : State) (r : CmdRef) (c i o : Nat), s.inlineWaits c = false → s.slotWaits c = false →
    s.cmdDue r 0x52 = true →
    let b := s.begun r 0x52
    let alg := s.rd8 (o + 2)
    let n := if alg = 1 then 40 else 56
    let h := s.rdBytes o 16
    let no := fun st => b.respondA r 0x52 st [c, i]
    exec (.keySlotLoad r c i o) s = .next (
      if r.win ≠ .installer then (b.audit (winNum r.win + 1) 4 0x0D [0x52]).respondA r 0x52 4 [c, i]
      else if 15 < c ∨ 31 < i ∨ inNear o (16 + n) = false then no 3
      else if s.bit (Reg.CIPH_ENGINE_STAT c) 31 = true then no 8
      else match s.kx with
        | none => no 13
        | some x =>
          if s.slotBusy c i = true then no 2
          else if s.free % 2 = 1 then (b.drawn.cipherFault c).respondA r 0x52 8 [c, i]
          else match kwpUnwrap x (s.rdBytes (o + 16) n) with
            | none => b.drawn.respondA r 0x52 7 [c, i]
            | some u =>
              if u.take 16 ≠ h ∨ h.getD 0 0 ≠ 1 ∨ h.getD 1 0 ≠ 1 ∨ alg = 0 ∨ 3 < alg ∨ 15 < h.getD 3 0 ∨
                u.length ≠ 16 + (if alg = 1 then 16 else 32) then b.drawn.respondA r 0x52 10 [c, i]
              else ((b.drawn.wake (0x50000 + c * 0x1000)).setKeySlot c i ⟨1, alg, bitClear (h.getD 3 0) 2, leNat (slice h 4 4), 0,
                u.drop 16⟩).respondA r 0x52 0 [c, i])) ∧
  (∀ (s : State) (r : CmdRef) (c i alg usage fixed o : Nat), s.inlineWaits c = false → s.slotWaits c = false →
    s.cmdDue r 0x53 = true →
    let b := s.begun r 0x53
    let no := fun st => b.respondA r 0x53 st [c, i]
    let key := s.drawn.trng.2.take (if alg = 1 then 16 else 32)
    let t := (b.drawn.drawn.drawn.drawn.drawn.wake (0x50000 + c * 0x1000)).setKeySlot c i ⟨2, alg, usage, fixed, 0, key⟩
    exec (.keySlotGen r c i alg usage fixed o) s = .next (
      if s.trngHalted = true then no 8
      else if r.win ≠ .installer then (b.audit (winNum r.win + 1) 4 0x0D [0x53]).respondA r 0x53 4 [c, i]
      else if 15 < c ∨ 31 < i ∨ alg = 0 ∨ 3 < alg ∨ 15 < usage ∨ 2 ^ 32 ≤ fixed ∨ (bitOf usage 2 = true ∧ alg = 3) ∨
        inNear o (16 + (if alg = 1 then 40 else 56)) = false then no 3
      else if s.bit (Reg.CIPH_ENGINE_STAT c) 31 = true then no 8
      else match s.kx with
        | none => no 13
        | some x =>
          if s.slotBusy c i = true then no 2
          else if s.free % 2 = 1 then (b.drawn.cipherFault c).respondA r 0x53 8 [c, i]
          else (t.wrBytes o (keyBlob x 1 alg usage fixed key)).respondA r 0x53 0 [c, i])) ∧
  (∀ (s : State) (w : Win) (c : Nat), s.opens w (Reg.CIPH_LOCK c) true = true →
    exec (.ciphLockSet w c) s = .next ((s.seenBy w).setN (Reg.CIPH_LOCK c) 1)) ∧
  (∀ (s : State) (w : Win) (c : Nat), s.opens w (0x50000 + c * 0x1000 + 0x30) true = true →
    let p := 0x50000 + c * 0x1000
    let x := ((s.seenBy w).flushJobs c).zeroStore c
    let y := x.setEng c { x.eng c with slots := [], faults := [] }
    exec (.ciphRst w c) s = .next ((((y.headerReset p).pageReset p (p + 0x1000)).setFld (Reg.CIPH_ENGINE_STAT c) 30 1 1).setN
      (p + 0x34) 4)) ∧
  (∀ (s : State) (ctx d : Nat), d ≤ 1 → (s.zeroStore (s.ctx_ ctx).home).skey ctx d = none) ∧
  (∀ (s : State) (c : Nat), s.bit (Reg.CIPH_ENGINE_STAT c) 30 = true →
    let l := (s.jbe.ctxs.filter (fun e => e.2.state == 1 && e.2.srtp.isSome && e.2.home == c)).map Prod.fst
    let p := l.foldl (fun p ctx => State.rebuildKey (State.rebuildKey p ctx 0) ctx 1) (s, 0, 0)
    let t := (p.1.setFld (Reg.CIPH_ENGINE_STAT c) 30 1 0).irq (0x50000 + c * 0x1000) 5
    exec (.ciphRebuilt c) s = .next ((t.event (t.rn (Reg.CIPH_EVQ c)) 0xD3 [c, p.2.1, p.2.2]).setN (0x50000 + c * 0x1000 + 0x34) 1)) ∧
  (∀ (s : State) (a b ctx d : Nat),
    let r := s.srec ctx d
    let kl := suiteBits r.suite / 8
    State.rebuildKey (s, a, b) ctx d = (if r.state = 1 ∨ r.state = 2 then
      (match kwpUnwrap s.ck (s.rdBytes (0x64000000 + (2 * ctx + d) * 0x100 + 64) (wkeyLen r.suite)) with
        | some u => (s.setSkey ctx d (some (sessionKeys r.suite (u.take kl) (u.drop kl))), a + 1, b)
        | none => (s.wr8 (0x64000000 + (2 * ctx + d) * 0x100) 0, a, b + 1))
      else (s, a, b)))

/-- MAC: frames are received, pause acts, rings and frames are served, links change, and reset leaves a fresh MAC. For
every state and operands that meet the conditions named, exec answers the next state given. MAC_RX_FRAME on a MAC that
is UP goes through the checks of R266 in order, each with its counter; a pause frame acts as R268 says; a good frame
the filter passes is counted and put into the input part with its times, or dropped at a full one. PAUSE_EXPIRE ends
the pause no sooner than its time; PAUSE_SEND and PAUSE_XON put a pause frame in the queue at their fills, with
TX_PAUSE_EN = 1. RX_RING_DMA of a frame with descriptors enough writes it and moves HEAD, and waits otherwise; the
tail writes store or are refused; RX_RING_DISABLE drops the ring's frames. MAC_TX_START drops voice frames too late,
as TX_STALE does, and starts a pause frame, else a voice frame, else a frame of ring 1 or 0; MAC_TX_DONE ends it,
counts, returns descriptors, and a pause received takes force; NET_LINK changes MAC_STAT and posts 0xF0; MAC_RST
leaves a fresh MAC. -/
def Obligations.MacsReceivePauseTransmitAndReset : Prop :=
  (∀ (s : State) (m : Nat) (f : WireFrame),
    let n := f.bytes.length
    let body := f.bytes.take (n - 4)
    let ty := beNat (slice f.bytes 12 2)
    let own := s.rn (Reg.MAC_MAC_ADDR_HI m) % 2 ^ 16 * 2 ^ 32 + s.rn (Reg.MAC_MAC_ADDR_LO m)
    let fec := s.bit (Reg.MAC_MAC_CFG m) 3 = true ∧ s.fld (Reg.MAC_MAC_CFG m) 0 2 = 2
    let v := if fec then (s.add64 (Reg.MAC_RX_FEC_CORR m) f.corr).add64 (Reg.MAC_RX_FEC_UNCORR m) f.uncorr else s
    let time := s.ptpAt s.now (f.at_ + signed 10 (s.rn (Reg.MAC_TS_RX_ADJ m)))
    let p := v.add64 (Reg.MAC_RX_PAUSE m) 1
    exec (.macRxFrame m f) s = .next (
      if s.macUp m = false then s
      else if (fec ∧ f.uncorr ≠ 0) ∨ fcs body ≠ leNat (slice f.bytes (n - 4) 4) then v.add64 (Reg.MAC_RX_FCS_ERR m) 1
      else if n < 64 then v.add64 (Reg.MAC_RX_RUNT m) 1
      else if s.rn (Reg.MAC_MAX_LEN m) < n then v.add64 (Reg.MAC_RX_OVERSIZE m) 1
      else if ty = 0x8808 ∧ beNat (slice f.bytes 14 2) ≠ 1 then v.add64 (Reg.MAC_RX_CTRL_DROP m) 1
      else if ty = 0x8808 then
        (if s.bit (Reg.MAC_MAC_CFG m) 7 = true then p.pauseReceived m (beNat (slice f.bytes 16 2)) else p)
      else if beNat (slice f.bytes 0 6) ≠ own ∧ bitOf (f.bytes.headD 0) 0 = false ∧ s.bit (Reg.MAC_MAC_CFG m) 9 = false then
        v.add64 (Reg.MAC_RX_FILTERED m) 1
      else ((v.add64 (Reg.MAC_RX_FRAMES m) 1).add64 (Reg.MAC_RX_OCTETS m) n).inputPut m ⟨body, s.now, time.1, time.2⟩)) ∧
  (∀ (s : State) (m q : Nat),
    let x := s.mac_ m
    s.pauseReceived m q = (
      if q = 0 then (s.setMac m { x with pauseNext := none }).setPause m none
      else if x.cur.isNone = true then s.setPause m (some q)
      else s.setMac m { x with pauseNext := some q })) ∧
  (∀ (s : State) (m : Nat) (q : Option Nat),
    s.setPause m q = (s.setMac m { s.mac_ m with pause := q, pauseAt := s.now }).setFld (Reg.MAC_MAC_STAT m) 5 1 (b2n q.isSome)) ∧
  (∀ (s : State) (m : Nat) (f : RxFrame),
    let x := s.mac_ m
    let u := (s.add64 (Reg.MAC_RX_FIFO_DROP m) 1).irq (0x90000 + m * 0x1000) 8
    s.inputPut m f = (
      if x.inFill + f.bytes.length ≤ 262144 then s.setMac m { x with inp := x.inp ++ [f] }
      else if x.dropAt.all (fun t => decide (t + 8000 ≤ s.now)) = true then
        (u.setMac m { x with drops := 0, dropAt := some s.now }).event (u.rn (Reg.MAC_EVQ m)) 0xF2 [m, x.drops + 1, s.now]
      else u.setMac m { x with drops := x.drops + 1 })) ∧
  (∀ (s : State) (m q : Nat), (s.mac_ m).pause = some q → (s.mac_ m).pauseAt + s.quantaFrames m q ≤ s.now →
    exec (.pauseExpire m) s =
      .next ((s.setMac m { s.mac_ m with pause := none, pauseAt := s.now }).setFld (Reg.MAC_MAC_STAT m) 5 1 0)) ∧
  (∀ (s : State) (m : Nat),
    let x := s.mac_ m
    let c := Reg.MAC_PAUSE_CFG m
    exec (.pauseSend m) s = .next (
      if s.bit (Reg.MAC_MAC_CFG m) 8 = true ∧ (if x.xoff then s.fld c 0 8 else s.fld c 8 8) * 1024 ≤ x.inFill ∧
          (x.xoff = false ∨ x.xoffAt + s.quantaFrames m (s.fld c 16 16 / 2) ≤ s.now) then
        s.setMac m { x with xoff := true, xoffAt := s.now, pauseOut := x.pauseOut ++ [s.fld c 16 16] }
      else s) ∧
    exec (.pauseXon m) s = .next (
      if x.xoff = true ∧ x.inFill < s.fld c 0 8 * 1024 then s.setMac m { x with
        xoff := false, pauseOut := x.pauseOut ++ if s.bit (Reg.MAC_MAC_CFG m) 8 = true then [0] else [] }
      else s)) ∧
  (∀ (s : State) (m r : Nat) (h : HostFrame), (s.mac_ m).hostq.find? (fun f => f.ring == r) = some h →
    let k := s.rxNeed m r h.frame.bytes.length
    let bs := 64 * (s.fld (Reg.MAC_RXR_CFG m r) 0 8 + 1)
    let u := s.setMac m { s.mac_ m with hostq := (s.mac_ m).hostq.erase h }
    let v := u.each (List.range k) (fun s i =>
      let d := s.rxDesc m r i
      let b := (h.frame.bytes.drop (bs * i)).take bs
      let flags := 1 + 2 * b2n (i == 0) + 4 * b2n (i + 1 == k) + 8 * b2n (i == 0 && (isPtp (parseFrame h.frame.bytes) || u.bit (Reg.MAC_TS_CFG m) 0))
      let w := ((s.wrBytes (s.rdLE d 5) b).wrBytes (d + 5) [0, 0, 0]).wrBytes (d + 8)
        (leBytes 2 b.length ++ [flags, h.reason] ++ leBytes 2 h.info ++ [0, 0])
      if i = 0 then w.wrBytes (d + 16) (leBytes 6 h.frame.sec ++ [0, 0] ++ leBytes 4 h.frame.ns ++ leBytes 4 h.frame.arrival)
      else w)
    exec (.rxRingDma m r) s = .next (
      if s.rxAvail m r < k then s
      else ((v.setN (Reg.MAC_RXR_HEAD m r) ((v.rn (Reg.MAC_RXR_HEAD m r) + k) % v.ringN (Reg.MAC_RXR_CFG m r))).irq
        (0x90000 + m * 0x1000) (1 + r)).ringWait m r)) ∧
  (∀ (s : State) (w : Win) (m r : Nat) (v : Word),
    let u := s.seenBy w
    let t := v.toNat % 4096
    let bad := fun a => (u.err (0x90000 + m * 0x1000) 3 (a - (0x90000 + m * 0x1000)) a).irq (0x90000 + m * 0x1000) 9
    (s.opens w (Reg.MAC_RXR_TAIL m r) true = true → exec (.rxrTailWrite w m r v) s = .next (
      if s.ringN (Reg.MAC_RXR_CFG m r) ≤ t then bad (Reg.MAC_RXR_TAIL m r) else (u.setN (Reg.MAC_RXR_TAIL m r) t).ringWait m r)) ∧
    (s.opens w (Reg.MAC_TXR_TAIL m r) true = true → exec (.txrTailWrite w m r v) s = .next (
      if s.ringN (Reg.MAC_TXR_CFG m r) ≤ t then bad (Reg.MAC_TXR_TAIL m r) else u.setN (Reg.MAC_TXR_TAIL m r) t)) ∧
    (s.opens w (Reg.MAC_RXR_CFG m r) true = true → exec (.rxRingDisable w m r) s = .next
      (((((u.setMac m { u.mac_ m with hostq := (u.mac_ m).hostq.filter (fun f => f.ring != r)
                                      waiting := (u.mac_ m).waiting.filter (· != r) }).addN (Reg.MAC_RXR_DROP m r)
        ((u.mac_ m).hostq.filter (fun f => f.ring == r)).length).setFld (Reg.MAC_RXR_CFG m r) 31 1 0).setN
        (Reg.MAC_RXR_HEAD m r) 0).setN (Reg.MAC_RXR_TAIL m r) 0))) ∧
  (∀ (s : State) (m : Nat) (at_ : Int),
    let y := s.mac_ m
    let live := fun (v : VoiceFrame) => decide (s.now < v.slot + s.rn (Reg.MAC_STALE_LIM m))
    let u := (s.setMac m { y with voice := y.voice.filter live }).add64 (Reg.MAC_TX_STALE m) (y.voice.filter (fun v => !live v)).length
    let x := u.mac_ m
    let up := u.macUp m
    let ready := fun t => if u.bit (Reg.MAC_TXR_CFG m t) 31 then u.txChain m t else none
    exec (.txStale m) s = .next u ∧
    exec (.macTxStart m at_) s = .next (
      if x.cur.isSome = true ∨ (up = true ∧ x.pause.isSome = true) then u
      else match x.pauseOut, x.voice with
        | q :: r, _ => (u.setMac m { x with pauseOut := r, cur := if up then some (.pause q) else none }).add64
            (if up then Reg.MAC_TX_PAUSE m else Reg.MAC_TX_LINKDOWN m) 1
        | [], v :: r =>
          let t := u.setMac m { x with voice := r, cur := if up then some (.voice v.bytes) else none }
          if up then t else t.add64 (Reg.MAC_TX_LINKDOWN m) 1
        | [], [] => match ready 1, ready 0 with
          | some (n, e), _ => u.txRing m 1 n e at_
          | none, some (n, e) => u.txRing m 0 n e at_
          | none, none => u)) ∧
  (∀ (s : State) (m : Nat) (c : TxCur), (s.mac_ m).cur = some c →
    let u := s.setMac m { s.mac_ m with cur := none }
    let count := fun (s : State) n => (s.add64 (Reg.MAC_TX_FRAMES m) 1).add64 (Reg.MAC_TX_OCTETS m) (n + 4)
    let v := match c with
      | .pause _ => u
      | .voice b => count u b.length
      | .ring t n ts sec ns tft b => count (u.txReturn m t n 0 ts sec ns tft) b.length
    exec (.macTxDone m) s = .next (match (v.mac_ m).pauseNext with
      | none => v
      | some q => (v.setMac m { v.mac_ m with pauseNext := none }).setPause m (some q))) ∧
  (∀ (s : State) (m fault : Nat) (up : Bool), up ≠ s.macUp m → up = false ∨ s.bit (0x90000 + m * 0x1000 + 8) 0 = true →
    let cfg := s.rn (Reg.MAC_MAC_CFG m)
    let fec := bitOf cfg 3 && cfg % 4 == 2
    let st := if up then 1 + 2 + 4 * b2n fec + 64 * b2n (bitOf cfg 4 && cfg % 4 == 0)
      else (if fault = 3 then 0 else 2 + 4 * b2n fec) + 8 * b2n (fault == 1) + 16 * b2n (fault == 2)
    let u := (s.setN (Reg.MAC_MAC_STAT m) (st + 32 * s.fld (Reg.MAC_MAC_STAT m) 5 1)).irq (0x90000 + m * 0x1000) 0
    exec (.netLink m up fault) s = .next (u.event (u.rn (Reg.MAC_EVQ m)) 0xF0 [m, b2n up, cfg % 4, b2n fec, fault, s.now])) ∧
  (∀ (s : State) (w : Win) (m : Nat), s.opens w (0x90000 + m * 0x1000 + 0x30) true = true →
    let cfg := s.rn (Reg.MAC_MAC_CFG m)
    let u := (((s.seenBy w).setMac m {}).headerReset (0x90000 + m * 0x1000)).pageReset (0x90000 + m * 0x1000) (0x90000 + m * 0x1000 + 0x1000)
    exec (.macRst w m) s = .next (if s.macUp m = true
      then u.event (s.rn (Reg.MAC_EVQ m)) 0xF0 [m, 0, cfg % 4, b2n (bitOf cfg 3 && cfg % 4 == 2), 0, s.now] else u))

/-- PRE: the head frame of the input part goes where the classifier sends it, and the exact table is kept by its commands.
For every state and operands that meet the conditions named, exec answers the next state given. PRE_CLASSIFY takes the
head frame off the input part into the state the classifier gives, and leaves it when no place takes it: a wrong IP
checksum counts IP_CSUM_ERR; a PTP frame goes to the PTP ring; a unicast UDP frame whose key the exact table holds
goes to that entry (DROP counts RX_DROP_RULE, a media frame with a wrong UDP checksum counts UDP_CSUM_ERR, a
multiplexed RTCP frame goes to the RTCP ring). NET_ENTRY_ADD of fields in range and a free key adds the entry, to a
full table answers REFUSED_FULL, else of a taken key or fields out of range BAD_PARAM; NET_ENTRY_DEL removes an entry
that no context owns and refuses the others; NET_QUERY answers the counts; the first result is FFFF_FFFF, as they name
no object. PRE_RST with no context clears the table, the pool and the items, and is ignored with BUSY otherwise. -/
def Obligations.FramesAreClassifiedAndEntriesKept : Prop :=
  (∀ (s : State) (m : Nat) (f : RxFrame) (l : List RxFrame), (s.mac_ m).inp = f :: l →
    exec (.preClassify m) s = .next (match s.classify m f with
      | some t => t.setMac m { t.mac_ m with inp := (t.mac_ m).inp.tail }
      | none => s)) ∧
  (∀ (s : State) (m : Nat) (f : RxFrame),
    let p := parseFrame f.bytes
    (p.csumBad = true → s.classify m f = some (s.bump Reg.PRE_IP_CSUM_ERR)) ∧
    (p.csumBad = false → p.etype = 0x88F7 → s.fld Reg.PRE_PRE_CFG 12 3 ≠ 4 →
      s.classify m f = s.toRing m ⟨s.fld Reg.PRE_PRE_CFG 12 3, f, 3, 0⟩) ∧
    (∀ d e, p.csumBad = false → p.etype ≠ 0x88F7 → p.reasons = [] → bitOf (f.bytes.headD 0) 0 = false → p.udp = some d →
      udpPort d ≠ 319 → udpPort d ≠ 320 → s.entryOf (p.family == 2) p.dst (udpPort d) = some e →
      s.classify m f = (match e.act with
        | .drop => some (s.bump Reg.PRE_RX_DROP_RULE)
        | .host r => s.toRing m ⟨r, f, 1, 0⟩
        | .rtcp c => s.toRing m ⟨s.fld Reg.PRE_PRE_CFG 10 2, f, 2, c⟩
        | .media c =>
          if p.udpBad d = true then some (s.bump Reg.PRE_UDP_CSUM_ERR)
          else if e.mux = true ∧ 200 ≤ d.getD 9 0 ∧ d.getD 9 0 ≤ 204 then s.toRing m ⟨s.fld Reg.PRE_PRE_CFG 10 2, f, 2, c⟩
          else some (s.toMedia m c f p d)))) ∧
  (∀ (s : State) (r : CmdRef) (f : EntryFields), s.cmdDue r 0x70 = true →
    let b := s.begun r 0x70
    let act := match f.ring with
      | some k => EntryAct.host k
      | none => .drop
    exec (.netEntryAdd r f) s = .next (
      if 32768 ≤ s.net.entries.length then b.respond r 0x70 1 [0xFFFFFFFF]
      else if 2 ^ (if f.v6 then 128 else 32) ≤ f.addr ∨ 65535 < f.port ∨ f.ring.any (fun k => decide (3 < k)) = true ∨
        (s.entryOf f.v6 f.addr f.port).isSome = true then b.respond r 0x70 3 [0xFFFFFFFF]
      else ({ b with net := { s.net with
        entries := s.net.entries ++ [{ key := some (f.v6, f.addr, f.port), act := act }] } } : State).respond r 0x70 0 [0xFFFFFFFF])) ∧
  (∀ (s : State) (r : CmdRef) (v6 : Bool) (a p : Nat), s.cmdDue r 0x71 = true →
    let b := s.begun r 0x71
    exec (.netEntryDel r v6 a p) s = .next (match s.entryOf v6 a p with
      | none => b.respond r 0x71 13 [0xFFFFFFFF]
      | some e =>
        if e.ofCtx = true then b.respond r 0x71 3 [0xFFFFFFFF]
        else ({ b with net := { s.net with entries := s.net.entries.erase e } } : State).respond r 0x71 0 [0xFFFFFFFF])) ∧
  (∀ (s : State) (r : CmdRef), s.cmdDue r 0x72 = true →
    let k := (s.net.entries.filter NetEntry.ofCtx).length
    exec (.netQuery r) s = .next ((s.begun r 0x72).respond r 0x72 0 [0xFFFFFFFF, s.net.entries.length, k,
      s.net.entries.length - k, s.rn Reg.PRE_POOL_CNT - s.net.pool.length])) ∧
  (∀ (s : State) (w : Win), s.opens w 0x88030 true = true →
    let u := s.seenBy w
    let t := (u.headerReset 0x88000).pageReset 0x88000 0x8C000
    exec (.preRst w) s = .next (
      if s.anyCtx = true then (u.err 0x88000 2 0x30 0x88030).setN 0x88034 2
      else { t with net := { t.net with entries := [], pool := [], items := [] } })) ∧
  (∀ (s : State) (a : Nat), 0x88000 ≤ a → a < 0x8C000 → 0x100 ≤ a % 0x1000 →
    (s.pageReset 0x88000 0x8C000).reg a = regReset a)

/-- NMC: requests enter port queues, command slots serve them, refreshes are owed and paid, and channels sleep and wake.
For every state and operands that meet the conditions named, exec answers the next state given. NM_PORT_REQUEST within
NM_SIZE adds one request for each line it touches, waking a channel that sleeps; one outside is refused with
BAD_PARAM. NM_COMMAND_SLOT leaves a disabled controller; pays an owed refresh that no urgent request postpones; with
no request drains the write queue above its low mark, or may issue a refresh ahead; serves a lone read that no write
holds back with the bytes of memory, or poison; and takes a lone write into the write queue, its bytes written to
memory. REFRESH_DUE of an awake slot uses a refresh issued ahead or adds one to the debt, and at 8 the burst follows;
REFRESH_RATE_READ keeps the rate. SELF_REFRESH_ENTRY puts to sleep a channel that may have been idle for SR_IDLE, or
counts SR_ABORT while a request or a training waits. NMC_RST resets the controller's registers and queues and keeps
the training settings, the rank states and NM_STAT. -/
def Obligations.NearMemoryServesRequestsAndRefreshes : Prop :=
  (∀ (s : State) (p a n t : Nat) (write : Bool) (d : List Nat), exec (.nmPortRequest p write a n d t) s = .next (
    if s.nmSize < a + n then { s.err 0xA0000 3 (p * 256) a with nmc := { s.nmc with answer := some (p, 3, []) } }
    else (s.nmClock t).each (nmSplit p write a n d t) (fun s r =>
      let ch := s.chanAt r.line
      let u := s.wakeChan ch
      { u with nmc := { u.nmc with reqs := u.nmc.reqs ++ [{ r with hot := Tab.get (fun _ => false) s.nmc.sleep ch }] } }))) ∧
  (∀ (s : State) (t : Nat), s.nmClock t = { s with nmc := { s.nmc with clock := max s.nmc.clock t } }) ∧
  (∀ (p a n t i : Nat) (write : Bool) (d : List Nat), i < ceilDiv (a % 64 + n) 64 →
    let lo := if i = 0 then a % 64 else 0
    let hi := min 64 (a % 64 + n - 64 * i)
    (nmSplit p write a n d t)[i]? = some { port := p, write := write, line := a / 64 + i, off := lo, n := hi - lo
                                           data := slice d (64 * i + lo - a % 64) (hi - lo), at_ := t }) ∧
  (∀ (s : State) (ch : Nat),
    let slots := (List.range 10).filter (fun i => chanOf i == ch)
    let u := { s with nmc := { s.nmc with active := Tab.put (fun _ => none) s.nmc.active ch (some s.now) } }
    s.wakeChan ch = (
      if Tab.get (fun _ => false) s.nmc.sleep ch = true then { u.bump Reg.NMC_SR_LATE with
        nmc := { u.nmc with sleep := Tab.put (fun _ => false) s.nmc.sleep ch false
                            debt := slots.foldl (fun d i => Tab.put (fun _ => 0) d i 0) s.nmc.debt } }
      else u)) ∧
  (∀ (s : State) (ch t : Nat) (e : LineErr), s.bit Reg.NMC_NMC_CFG 31 = false → exec (.nmCommandSlot ch t e) s = .next s) ∧
  (∀ (s : State) (ch t i : Nat) (e : LineErr),
    let u := (s.nmClock t).ageAll ch t
    s.bit Reg.NMC_NMC_CFG 31 = true → u.refreshDue ch t = some i →
    exec (.nmCommandSlot ch t e) s = .next (u.setDebt i (Tab.get (fun _ => 0) u.nmc.debt i - 1))) ∧
  (∀ (s : State) (ch t : Nat) (e : LineErr), s.bit Reg.NMC_NMC_CFG 31 = true → s.nmc.reqs = [] → s.refreshDue ch t = none →
    let u := { s with nmc := { s.nmc with clock := max s.nmc.clock t
                                          drain := Tab.put (fun _ => false) s.nmc.drain ch (decide (16 < (s.wq ch).length)) } }
    exec (.nmCommandSlot ch t e) s = .next (match s.wq ch with
      | x :: _ => if 16 < (s.wq ch).length then u.entryOut ch x t e else u
      | [] => u.pullIn ch)) ∧
  (∀ (s : State) (ch t : Nat) (x : NmEntry) (e : LineErr),
    let u := (s.setWq ch ((s.wq ch).erase x)).touch x.line x.port t
    let v := (u.bump Reg.NMC_RMW_CNT).lineErr x.line x.port 0 e
    s.entryOut ch x t e = (
      if x.mask = 2 ^ 64 - 1 then u.setPoison (64 * x.line) false
      else if v.poisoned (64 * x.line) 64 = true then v.bump Reg.NMC_POISON_WR else v)) ∧
  (∀ (s : State) (ch : Nat),
    let ahead := fun i => Tab.get (fun _ => 0) s.nmc.credit i
    let ok := fun i => chanOf i == ch && decide (ahead i < 8) && !s.nmc.reqs.any (fun r => s.slotAt (s.loc r.line) == i)
    s.pullIn ch = (match (List.range 10).find? ok with
      | some i =>
        if s.free % 2 = 1 then
          { s.drawn with nmc := { s.nmc with credit := Tab.put (fun _ => 0) s.nmc.credit i (ahead i + 1) } }
        else s.drawn
      | none => s)) ∧
  (∀ (s : State) (ch t : Nat) (r : NmReq) (e : LineErr), s.bit Reg.NMC_NMC_CFG 31 = true → s.nmc.reqs = [r] →
    s.chanAt r.line = ch → s.refreshDue ch t = none → s.wq ch = [] → s.urgency r t ≠ 3 → s.rowOpen r.line = true →
    let u := { s with nmc := { s.nmc with clock := max s.nmc.clock t
                                          drain := Tab.put (fun _ => false) s.nmc.drain ch false } }
    let done := fun (x : State) =>
      ({ x with nmc := { x.nmc with reqs := x.nmc.reqs.erase r } } : State).maxN (Reg.NMC_LAT_MAX r.port) (min 65535 (t - r.at_))
    let ans := fun (x : State) st =>
      { done x with nmc := { (done x).nmc with answer := some (r.port, st, s.rdBytes (64 * r.line + r.off) r.n) } }
    (r.write = false → exec (.nmCommandSlot ch t e) s = .next (
      if s.poisoned (64 * r.line) 64 = true then ans (u.bump Reg.NMC_POISON_RD) 0x0E
      else ans (u.lineErr r.line r.port 0 e) (if e.ue then 0x0E else 0))) ∧
    (r.write = true →
      let x : NmEntry := ⟨r.line, maskOf r.off r.n, s.rdBytes (64 * r.line) 64, r.port, [(r.port, r.off, r.data)]⟩
      exec (.nmCommandSlot ch t e) s =
        .next (done { u.setWq ch [x] with mem := wrList s.mem (64 * r.line + r.off) r.data }))) ∧
  (∀ (s : State) (i : Nat),
    let ahead := Tab.get (fun _ => 0) s.nmc.credit i
    let d := Tab.get (fun _ => 0) s.nmc.debt i + 1
    exec (.refreshDue i) s = .next (
      if Tab.get (fun _ => false) s.nmc.sleep (chanOf i) = true then s
      else if 0 < ahead then { s with nmc := { s.nmc with credit := Tab.put (fun _ => 0) s.nmc.credit i (ahead - 1) } }
      else if 8 ≤ d then (s.setDebt i 0).bump Reg.NMC_REF_BURST else s.setDebt i d)) ∧
  (∀ (s : State) (i rate : Nat), exec (.refreshRateRead i rate) s =
    .next { s with nmc := { s.nmc with rate := Tab.put (fun _ => 1) s.nmc.rate i rate } }) ∧
  (∀ (s : State) (ch : Nat), exec (.selfRefreshEntry ch) s = .next (
    if s.bit 0xA0008 2 = false ∨ Tab.get (fun _ => false) s.nmc.sleep ch = true ∨ (∃ t,
      Tab.get (fun _ => none) s.nmc.active ch = some t ∧ (s.now - t + 1) * 125 ≤ s.fld Reg.NMC_NMC_CFG 8 8) then s
    else if s.nmc.reqs.any (fun r => s.chanAt r.line == ch) = true ∨ s.nmc.train.any (fun e => chanOf e.1 == ch) = true then
      s.bump Reg.NMC_SR_ABORT
    else { s with nmc := { s.nmc with sleep := Tab.put (fun _ => false) s.nmc.sleep ch true } })) ∧
  (∀ (s : State) (w : Win), s.opens w 0xA0030 true = true →
    let u := s.seenBy w
    let keep := fun a => decide (a = Reg.NMC_NM_STAT) || decide (0xA4100 ≤ a ∧ a < 0xA5000) ||
      decide (0xA2100 ≤ a ∧ a < 0xA21A0 ∧ a % 16 = 0)
    let mine := fun a => decide (0xA0000 ≤ a ∧ a < 0xA8000 ∧ 0x100 ≤ a % 0x1000) && !keep a
    exec (.nmcRst w) s = .next (
      if u.anyCtx = true ∨ u.allStopped = false ∨ u.nmc.mig.isSome = true ∨ u.nmc.train ≠ [] then
        (u.err 0xA0000 2 0x30 0xA0030).setN 0xA0034 2
      else { (u.headerReset 0xA0000).resetRegs mine with
        nmc := { rhWin := u.nmc.rhWin, clock := u.nmc.clock, debt := u.nmc.debt, credit := u.nmc.credit, rate := u.nmc.rate
                 trained := u.nmc.trained, hourBase := u.now } })) ∧
  (∀ (s : State) (p : Nat → Bool) (a : Nat), p a = true → (s.resetRegs p).reg a = regReset a)

/-- NMC: errors, scrub, retirement and migration, training and its host commands. For every state and operands that meet
the conditions named, exec answers the next state given. Corrected codewords count in the hour window of their slot
and at CE_LIMIT queue a retirement; an uncorrectable line is marked, counted and reported with 0x34. SCRUB_READ of an
enabled controller reads the next group of a live slot, or waits for urgent requests; CE_HOUR_WINDOW starts a new
window once its hour has passed. MIGRATION_START takes the oldest queued rank to a ready spare and posts 0x30, or with
none records 0x11, sets IRQ_RAW bit 3 and posts 0x32 once a window; PAGE_COPY copies a page of a quiet migration,
MIG_GAP after the last, and the last one swaps the slots and posts 0x31. RETRAIN_DUE notes a live slot whose trigger
holds; RETRAIN_STEP pauses under TRN_HOST; its last step applies the sweeps or fails them, and posts 0x33.
MAINT_RETIRE and MAINT_RETRAIN start their command or refuse it; TRN_GO and TRN_APPLY act only under TRN_HOST. -/
def Obligations.NearMemoryScrubsMigratesAndTrains : Prop :=
  (∀ (s : State) (slot n : Nat),
    let u := (s.ceWindow slot).addN Reg.NMC_CE_TOTAL n
    let old := u.rn (Reg.NMC_RANK_CE slot)
    let new := min 65535 (old + n)
    let v := (u.setN (Reg.NMC_RANK_CE slot) new).addN (Reg.NMC_RANK_CE_TOT slot) n
    let w := v.irq 0xA0000 0
    s.ceFound slot n = (
      if n = 0 then s
      else if u.slotState slot = 4 then u
      else if old < v.rn Reg.NMC_CE_LIMIT ∧ v.rn Reg.NMC_CE_LIMIT ≤ new then
        (if w.bit Reg.NMC_NMC_CFG 17 = true then w.retire slot 0 else w)
      else v)) ∧
  (∀ (s : State) (slot l port src : Nat),
    let u := ((s.setPoison (64 * l) true).bump Reg.NMC_UE_TOTAL).irq 0xA0000 1
    let v := if u.slotState slot = 4 then u else u.bump (Reg.NMC_RANK_UE slot)
    let w := v.event (v.rn Reg.NMC_EVQ) 0x80 [0x34, 64 * l % 2 ^ 32, 64 * l / 2 ^ 32, port, src]
    s.ueFound slot (some l) port src = (
      if w.bit Reg.NMC_NMC_CFG 17 = true ∧ w.bit Reg.NMC_NMC_CFG 18 = true then w.retire slot 1 else w)) ∧
  (∀ (s : State) (line port src : Nat) (e : LineErr),
    let slot := s.slotAt (s.loc line)
    let u := s.ceFound slot (min 2 e.ce)
    s.lineErr line port src e = (
      if e.ue = true ∧ u.poisoned (64 * line) 64 = false then u.ueFound slot (some line) port src else u)) ∧
  (∀ (s : State) (slot cause : Nat), s.retire slot cause = (match s.rankOf slot with
    | none => s
    | some r =>
      if s.nmc.mig.any (fun m => m.src == slot) = true ∨ s.nmc.migq.any (fun e => e.1 == r) = true then s
      else { s with nmc := { s.nmc with migq := s.nmc.migq ++ [(r, cause)] } })) ∧
  (∀ (s : State) (i : Nat),
    let hour := (s.now - s.nmc.hourBase) / 28800000
    let u := s.setN (Reg.NMC_RANK_CE i) 0
    let v := { u with nmc := { u.nmc with hour := Tab.put (fun _ => 0) u.nmc.hour i hour } }
    exec (.ceHourWindow i) s = .next (s.ceWindow i) ∧
    s.ceWindow i = (
      if Tab.get (fun _ => 0) s.nmc.hour i = hour then s
      else match v.rankOf i with
        | some r => { v with nmc := { v.nmc with noSpare := v.nmc.noSpare.filter (· != r) } }
        | none => v)) ∧
  (∀ (s : State) (ce ue : List Nat),
    s.bit Reg.NMC_SCRUB_CFG 31 = false ∨ s.bit Reg.NMC_NMC_CFG 31 = false → exec (.scrubRead ce ue) s = .next s) ∧
  (∀ (s : State) (ce ue : List Nat) (i : Nat), s.bit Reg.NMC_SCRUB_CFG 31 = true → s.bit Reg.NMC_NMC_CFG 31 = true →
    s.nextLive s.nmc.scrub.1 = some i →
    let u := s.wakeChan (chanOf i)
    let k := if i = u.nmc.scrub.1 then u.nmc.scrub.2 else 0
    let line := fun j => (u.rankOf i).map (fun r => u.lineOf r k j)
    let queued := fun j => (u.wq (chanOf i)).any (fun x => some x.line == line j)
    let v := u.ceFound i (ce.filter (fun j => !queued j)).length
    let y := v.each (ue.filter (fun j => decide (j < 15) && !queued j)) (fun s j =>
      match line j with
      | some l => if s.poisoned (64 * l) 64 then s else s.drawn.ueFound i (some l) (s.free % 32) 1
      | none => s.drawn.ueFound i none (s.free % 32) 1)
    exec (.scrubRead ce ue) s = .next (
      if s.chanUrgent (chanOf i) = true then s
      else if k + 1 < 2097152 then { y with nmc := { y.nmc with scrub := (i, k + 1) } }
      else match y.nextLive (i + 1) with
        | some m => { y with nmc := { y.nmc with scrub := (m, 0) } }
        | none => { y.bump Reg.NMC_SCRUB_PASS with nmc := { y.nmc with scrub := (0, 0) } })) ∧
  (∀ (s : State) (r cause : Nat) (q : List (Nat × Nat)), s.nmc.mig = none → s.nmc.migq = (r, cause) :: q →
    let u := { s with nmc := { s.nmc with migq := q } }
    let src := u.subOf r
    let v := u.ceWindow src
    let none_ := (((v.setFld (Reg.NMC_RANK_STAT src) 28 1 1).irq 0xA0000 3).err 0xA0000 0x11 r 0).maintOf r 0x11
    let told := none_.event (none_.rn Reg.NMC_EVQ) 0x80 [0x32, r, cause]
    exec .migrationStart s = .next (match [8, 9].find? (fun i => v.slotState i == 1) with
      | some t =>
        let x := (((v.setFld (Reg.NMC_RANK_STAT src) 29 3 2).setFld (Reg.NMC_RANK_STAT t) 29 3 3).setN Reg.NMC_MIG_STAT
          (2 ^ 31 + src * 2 ^ 24 + t * 2 ^ 20))
        let y := { x with nmc := { x.nmc with mig := some ⟨r, src, t, x.now, none⟩ } }
        (y.event (y.rn Reg.NMC_EVQ) 0x80 [0x30, r, t, cause]).irq 0xA0000 2
      | none =>
        if none_.nmc.noSpare.contains r = true then none_
        else { told with nmc := { told.nmc with noSpare := r :: told.nmc.noSpare } })) ∧
  (∀ (s : State) (r st : Nat), s.maintOf r st = (
    if s.nmc.maint = some r then { s.setN Reg.NMC_MAINT_STAT st with nmc := { s.nmc with maint := none } } else s)) ∧
  (∀ (s : State) (m : NmMig) (ce ue : List Nat), s.nmc.mig = some m →
    let debt := fun i => Tab.get (fun _ => 0) s.nmc.debt i
    let ch := chanOf m.src
    let u := (({ s with nmc := { s.nmc with mig := some { m with last := some s.now } } } : State).wakeChan ch).wakeChan (chanOf m.tgt)
    let p := u.fld Reg.NMC_MIG_STAT 0 20
    let page := fun (x : NmEntry) => (u.loc x.line).rank == m.rank && (u.loc x.line).k / 4 == p
    let v := (u.each ((u.wq ch).filter page) (fun s x => s.entryOut ch x 0 ⟨0, false⟩)).ceFound m.src ce.length
    let y := v.each (ue.filter (fun i => decide (i < 60))) (fun s i =>
      let l := s.lineOf m.rank (4 * p + i / 15) (i % 15)
      if s.poisoned (64 * l) 64 then s else s.drawn.ueFound m.src (some l) (s.free % 32) 2)
    exec (.pageCopy ce ue) s = .next (
      if 4 < debt m.src ∨ 4 < debt m.tgt ∨ s.chanUrgent ch = true ∨ s.chanUrgent (chanOf m.tgt) = true ∨
        m.last.any (fun t => decide ((s.now - t + 1) * 125 ≤ s.rn Reg.NMC_MIG_CFG)) = true then s
      else if p + 1 < 524288 then y.setFld Reg.NMC_MIG_STAT 0 20 (p + 1) else y.migDone m)) ∧
  (∀ (s : State) (m : NmMig),
    let u := ((s.setFld (Reg.NMC_RANK_STAT m.rank) 24 4 m.tgt).setFld (Reg.NMC_RANK_STAT m.tgt) 29 3 0).setFld
      (Reg.NMC_RANK_STAT m.tgt) 24 4 m.rank
    let v := u.setFld (Reg.NMC_RANK_STAT m.src) 29 3 4
    let w := (if 8 ≤ m.src then v.setFld (Reg.NMC_RANK_STAT m.src) 24 4 0xF else v).setN Reg.NMC_MIG_STAT 0
    let x := ({ w with nmc := { w.nmc with mig := none } } : State).maintOf m.rank 0
    s.migDone m = x.event (x.rn Reg.NMC_EVQ) 0x80 [0x31, m.rank, m.tgt, (x.now - m.start) / 8]) ∧
  (∀ (s : State) (i trigger : Nat), exec (.retrainDue i trigger) s = .next (
    if (trigger = 1 ∨ trigger = 2) ∧ i ≤ 9 ∧ s.slotLive i = true ∧ s.bit Reg.NMC_NMC_CFG 20 = false ∧ s.nmc.train.any (fun e => e.1 == i) = false ∧
        (trigger = 1 → s.fld Reg.NMC_TRN_CFG 0 8 * 480000 ≤ s.now - Tab.get (fun _ => 0) s.nmc.trained i) ∧
        (trigger = 2 → s.fld Reg.NMC_TRN_CFG 8 8 <
          (signed 9 (s.rn Reg.PWR_TEMP_MAX) - signed 8 (s.fld (Reg.NMC_RANK_STAT i) 16 8)).natAbs) then
      { s with nmc := { s.nmc with train := s.nmc.train ++ [(i, trigger)] } }
    else s)) ∧
  (∀ (s : State) (i : Nat) (temp : Int), exec (.retrainStep i none temp) s = .next (
    if s.nmc.train.any (fun e => e.1 == i) = false ∨ s.bit Reg.NMC_NMC_CFG 20 = true ∨
      4 < Tab.get (fun _ => 0) s.nmc.debt i ∨ s.chanUrgent (chanOf i) = true then s else s.wakeChan (chanOf i))) ∧
  (∀ (s : State) (i k trigger : Nat) (l : List Sweep) (temp : Int), s.nmc.train.find? (fun e => e.1 == i) = some (k, trigger) →
    let u := s.wakeChan (chanOf i)
    let good := l.all (fun w => (chosenStep (u.fld Reg.NMC_TRN_CFG 24 8) w.pass).isSome)
    let v := ({ u with nmc := { u.nmc with train := u.nmc.train.erase (i, trigger)
                                           trained := Tab.put (fun _ => 0) u.nmc.trained i u.now } } : State).setFld
      (Reg.NMC_RANK_STAT i) 16 8 (unsigned 8 temp)
    let x := if trigger = 3 then v.setN Reg.NMC_MAINT_STAT (if good then 0 else 0x0F) else v
    let y := (x.each (l.filter (fun w => decide (w.lane < 18))) (fun s w => s.applySweep i w)).setFld (Reg.NMC_RANK_STAT i) 28 1 0
    let z := (x.setFld (Reg.NMC_RANK_STAT i) 28 1 1).irq 0xA0000 4
    exec (.retrainStep i (some l) temp) s = .next (
      if s.bit Reg.NMC_NMC_CFG 20 = true ∨ 4 < Tab.get (fun _ => 0) s.nmc.debt i ∨ s.chanUrgent (chanOf i) = true then s
      else if good = true then y.event (y.rn Reg.NMC_EVQ) 0x80 [0x33, i, 0, 0, trigger]
      else z.event (z.rn Reg.NMC_EVQ) 0x80 [0x33, i, 1, 0x0F, trigger])) ∧
  (∀ (s : State) (w : Win) (i : Nat), s.opens w Reg.NMC_MAINT_CMD true = true →
    let u := s.seenBy w
    let bad := fun st => (u.err 0xA0000 st (Reg.NMC_MAINT_CMD - 0xA0000) Reg.NMC_MAINT_CMD).irq 0xA0000 6
    let go := u.setN Reg.NMC_MAINT_STAT 0x80000000
    exec (.maintRetire w i) s = .next (
      if 9 < i then bad 3 else if u.bit Reg.NMC_MAINT_STAT 31 = true then bad 2
      else match u.rankOf i with
        | none => u.setN Reg.NMC_MAINT_STAT 3
        | some r => ({ go with nmc := { go.nmc with maint := some r } } : State).retire i 2) ∧
    exec (.maintRetrain w i) s = .next (
      if 9 < i then bad 3 else if u.bit Reg.NMC_MAINT_STAT 31 = true then bad 2
      else if u.slotLive i = false then u.setN Reg.NMC_MAINT_STAT 13 else go.retrainDue i 3)) ∧
  (∀ (s : State) (w : Win) (l : List Nat), s.opens w Reg.NMC_TRN_GO true = true →
    let u := s.seenBy w
    exec (.trnGo w l) s = .next (
      if u.bit Reg.NMC_NMC_CFG 20 = false then u
      else ((List.range 18).foldl (fun s d =>
        if s.bit Reg.NMC_TRN_CTL d then s.setN (Reg.NMC_TRN_ERR d) (min 65535 (l.getD d 0))
        else s.setN (Reg.NMC_TRN_ERR d) 0) u).setN Reg.NMC_TRN_STAT 0x40000000)) ∧
  (∀ (s : State) (w : Win) (i : Nat), s.opens w Reg.NMC_TRN_APPLY true = true →
    let u := s.seenBy w
    exec (.trnApply w i) s = .next (
      if u.bit Reg.NMC_NMC_CFG 20 = false then u
      else if 9 < i then (u.err 0xA0000 3 (Reg.NMC_TRN_APPLY - 0xA0000) Reg.NMC_TRN_APPLY).irq 0xA0000 6
      else (List.range 18).foldl (fun s d => s.setN (Reg.NMC_SETTING i d) (s.rn (Reg.NMC_TRN_STAGE d) % 2 ^ 24)) u))

/-- Rook: lifecycle, consent, OTP, rollback, grant, identity, mirror and attestation commands have their effect and are
audited. For every state and operands that meet the conditions named, exec answers the next state given. A command of
Rook that is due checks role, lifecycle state, operands and VDD, each failure with its status, and then has its
effect: ROOK_LIFECYCLE burns both bytes of its group and sets LC_STAT's pending state; ROOK_RMA_CONSENT opens the
consent at this frame and RMA_CONSENT_END ends it after 28,800,000 frames; OTP_GEN_WRITE burns the 344 bytes with CRC
and SEAL into the lowest unused generation; ROLLBACK_SET burns the thermometer code; JNL_GRANT writes ROLE_CFG bit 0;
OTP_IDENTITY burns the identity with a free ID_SEED (log 12); OTP_ROOT_WRITE burns the installer root; AUDIT_MIRROR
continues the device's own mirror or begins one, fixes the base and posts event 0x52; ATTEST writes key, report and
signature. A command without the right is refused with NO_RIGHTS and audited. A record holds role, status, action and
time, and with the base fixed its number and chain. -/
def Obligations.RookCommandsBurnGrantAndAttest : Prop :=
  (∀ (s : State) (role st action : Nat) (d : List Nat),
    let r : AuditRec := { seq := none, ftime := s.now % 2 ^ 48, role := role, status := st, action := action
                          detail := slice d 0 14, chain := [] }
    let q := s.rook.nextSeq
    let chain := shake (s.rook.prevChain ++ r.head q)
    let n : AuditRec := { r with seq := some q, chain := chain }
    let u := { s with rook := { s.rook with nextSeq := q + 1, prevChain := chain, log := n :: s.rook.log } }
    s.audit role st action d = (
      if s.rook.base = true then (u.toMirror n).trimLog
      else ({ s with rook := { s.rook with log := r :: s.rook.log } } : State).trimLog)) ∧
  (∀ (s : State) (r : CmdRef) (st op act : Nat) (l : List Nat),
    (op, act) ∈ [(0x41, 0x0F), (0x42, 0x0F), (0x46, 0x0C), (0x52, 0x0B), (0x53, 0x0B), (0x54, 0x0B), (0xF0, 0x06), (0xF1, 0x10),
      (0xF2, 0x07), (0xF3, 0x08), (0xF4, 0x09), (0xF7, 0x07), (0xF8, 0x0A), (0xF9, 0x07)] →
    s.respondA r op st l = ((if st = 4 then s else s.audit (winNum r.win + 1) st act [op, st]).respond r op st l)) ∧
  (∀ (s : State) (r : CmdRef) (target : Nat) (vdd : Bool), s.cmdDue r 0xF0 = true →
    let b := s.begun r 0xF0
    let refused := fun st => b.respondA r 0xF0 st [0xFFFFFFFF]
    let noRight := (b.audit (winNum r.win + 1) 4 0x0D [0xF0]).respondA r 0xF0 4 [0xFFFFFFFF]
    exec (.rookLifecycle r target vdd) s = .next (
      if b.bit Reg.ROOK_LC_STAT 31 = true then refused 2
      else if b.hasRole r.win = false then noRight
      else match b.lcStep r.win target with
        | none => noRight
        | some g =>
          let u := ((((b.burn (2 * g) [255, 255]).setFld Reg.ROOK_LC_STAT 8 3 target).setFld Reg.ROOK_LC_STAT 31 1 1).respondA r
            0xF0 0 [0xFFFFFFFF])
          if vdd = false then refused 13 else if target = 5 then u.consentEnd else u)) ∧
  (∀ (s : State),
    s.lcStep .maker 1 = (if s.rook.lc = 0 ∧ s.idSealed = true then some 0 else none) ∧
    s.lcStep .maker 2 = (if s.rook.lc = 1 ∧ s.rootSealed = true then some 1 else none) ∧
    s.lcStep .installer 3 = (if s.rook.lc = 2 ∧ s.rook.gen.isSome = true then some 2 else none) ∧
    s.lcStep .installer 4 = (if s.rook.lc = 3 then some 3 else none) ∧
    s.lcStep .maker 5 = (if s.rook.lc = 3 ∧ s.consentOpen = true then some 4 else none) ∧
    s.lcStep .maker 4 = (if s.rook.lc = 5 then some 5 else none) ∧
    (∀ t, s.lcStep .operator t = none)) ∧
  (∀ (s : State) (r : CmdRef), s.cmdDue r 0xF1 = true →
    let b := s.begun r 0xF1
    exec (.rookRmaConsent r) s = .next (
      if b.rook.lc ≠ 3 ∨ r.win ≠ .installer then (b.audit (winNum r.win + 1) 4 0x0D [0xF1]).respondA r 0xF1 4 [0xFFFFFFFF]
      else ({ b with rook := { b.rook with consent := some b.now } } : State).respondA r 0xF1 0 [0xFFFFFFFF])) ∧
  (∀ (s : State) (t : Nat), s.rook.consent = some t →
    let u := { s with rook := { s.rook with consent := none } }
    exec .rmaConsentEnd s = .next (
      if s.now < t + 28800000 then s else if s.rook.lc = 3 then u.sessClose .maker 2 else u)) ∧
  (∀ (s : State) (r : CmdRef) (a : Nat) (vdd : Bool), s.cmdDue r 0xF2 = true →
    let b := s.begun r 0xF2
    let g := b.rdBytes a 344
    exec (.otpGenWrite r a vdd) s = .next (
      if r.win ≠ .installer ∨ (b.rook.lc ≠ 2 ∧ b.rook.lc ≠ 3) then
        (b.audit (winNum r.win + 1) 4 0x0D [0xF2]).respondA r 0xF2 4 [0xFFFFFFFF]
      else if inNear a 344 = false ∨ genFormOk g = false then b.respondA r 0xF2 3 [0xFFFFFFFF]
      else match [0, 1, 2, 3].find? (fun g => decide (b.otpOnes (0x100 + 0x160 * g) 0x160 = 0)) with
        | none => b.respondA r 0xF2 1 [0xFFFFFFFF]
        | some k =>
          if vdd = false then b.respondA r 0xF2 13 [0xFFFFFFFF]
          else (b.burn (0x100 + 0x160 * k) (g ++ leBytes 4 (crc32c g) ++ leBytes 4 (0x5EA10000 + k))).respondA r 0xF2 0
            [0xFFFFFFFF])) ∧
  (∀ (s : State) (r : CmdRef) (n : Nat) (vdd : Bool), s.cmdDue r 0xF3 = true →
    let b := s.begun r 0xF3
    exec (.rollbackSet r n vdd) s = .next (
      if b.roleRight r.win 0xF3 = false then (b.audit (winNum r.win + 1) 4 0x0D [0xF3]).respondA r 0xF3 4 [0xFFFFFFFF]
      else if 128 < n ∨ n < b.otpOnes 0x10 16 then b.respondA r 0xF3 3 [0xFFFFFFFF]
      else if vdd = false then b.respondA r 0xF3 13 [0xFFFFFFFF]
      else (b.burn 0x10 (leBytes 16 (2 ^ n - 1))).respondA r 0xF3 0 [0xFFFFFFFF])) ∧
  (∀ (s : State) (r : CmdRef) (on : Bool), s.cmdDue r 0xF4 = true →
    let b := s.begun r 0xF4
    exec (.jnlGrant r on) s = .next (
      if r.win = .installer then (b.setFld Reg.ROOK_ROLE_CFG 0 1 (b2n on)).respondA r 0xF4 0 [0xFFFFFFFF]
      else (b.audit (winNum r.win + 1) 4 0x0D [0xF4]).respondA r 0xF4 4 [0xFFFFFFFF])) ∧
  (∀ (s : State) (r : CmdRef) (serial part root : List Nat) (vdd : Bool), s.cmdDue r 0xF7 = true →
    let b := s.begun r 0xF7
    let d := fun i => leBytes 8 (Config.freeValue (b.draws + i)).toNat
    let id := slice serial 0 16 ++ slice part 0 8 ++ (d 0 ++ d 1 ++ d 2 ++ d 3) ++ slice root 0 32 ++ List.replicate 32 0
    exec (.otpIdentity r serial part root vdd) s = .next (
      if b.trngHalted = true then b.respondA r 0xF7 8 [0xFFFFFFFF]
      else if b.rook.lc ≠ 0 ∨ r.win ≠ .maker then (b.audit (winNum r.win + 1) 4 0x0D [0xF7]).respondA r 0xF7 4 [0xFFFFFFFF]
      else if b.otpOnes 0x20 128 ≠ 0 then b.respondA r 0xF7 2 [0xFFFFFFFF]
      else if vdd = false then b.respondA r 0xF7 13 [0xFFFFFFFF]
      else (b.drawn.drawn.drawn.drawn.burn 0x20 (id ++ leBytes 4 (crc32c id) ++ leBytes 4 0x5EA11D00)).respondA r 0xF7 0
        [0xFFFFFFFF])) ∧
  (∀ (s : State) (r : CmdRef) (hash : List Nat) (vdd : Bool), s.cmdDue r 0xF9 = true →
    let b := s.begun r 0xF9
    let h := slice hash 0 32
    exec (.otpRootWrite r hash vdd) s = .next (
      if b.rook.lc ≠ 1 ∨ r.win ≠ .maker then (b.audit (winNum r.win + 1) 4 0x0D [0xF9]).respondA r 0xF9 4 [0xFFFFFFFF]
      else if b.otpOnes 0xA0 40 ≠ 0 then b.respondA r 0xF9 2 [0xFFFFFFFF]
      else if vdd = false then b.respondA r 0xF9 13 [0xFFFFFFFF]
      else (b.burn 0xA0 (h ++ leBytes 4 (crc32c h) ++ leBytes 4 0x5EA11500)).respondA r 0xF9 0 [0xFFFFFFFF])) ∧
  (∀ (s : State) (r : CmdRef) (a k : Nat), s.cmdDue r 0xF6 = true →
    let b := s.begun r 0xF6
    let h := b.rdBytes a 76
    let valid := slice h 0 4 == [0x52, 0x4B, 0x41, 0x4D] && slice h 4 16 == b.serial && leNat (slice h 72 4) == crc32c (h.take 72)
    let seq := leNat (slice h 32 8)
    let u := if b.rook.base then b
      else if valid && seq / 2 ^ 48 == b.epochBits then
        ({ b with rook := { b.rook with nextSeq := seq + 1, prevChain := slice h 40 32 } } : State).numberAll
      else if b.epochBits < 1024 then b.newEpoch else b.setFld Reg.AUDIT_AUDIT_STAT 29 1 1
    let i := if valid && h.getD 20 0 == k then leNat (slice h 24 8) + 1 else 0
    let v := { u with rook := { u.rook with mirror := some (a, k, i) } }
    let w := ((if v.rook.base then v.mirrorBacklog else v).irq 0x4000 1)
    exec (.auditMirror r a k) s = .next (
      if r.win ≠ .installer then (b.audit (winNum r.win + 1) 4 0x0D [0xF6]).respond r 0xF6 4 [0xFFFFFFFF]
      else if a % 64 ≠ 0 ∨ k < 10 ∨ 20 < k ∨ inFar a (64 + 64 * 2 ^ k) = false then b.respond r 0xF6 3 [0xFFFFFFFF]
      else if b.farReady a (64 + 64 * 2 ^ k) = false then b.respond r 0xF6 13 [0xFFFFFFFF]
      else (w.event (w.rn Reg.ROOK_EVQ) 0x80
        [0x52, 1, w.rn Reg.AUDIT_AUDIT_LOST, w.headSeq % 2 ^ 32, w.headSeq / 2 ^ 32]).respond r 0xF6 0 [0xFFFFFFFF])) ∧
  (∀ (s : State) (r : CmdRef) (ch : List Nat) (dest : Nat), s.cmdDue r 0xF5 = true →
    let b := s.begun r 0xF5
    exec (.attest r ch dest) s = .next (
      if inNear dest 5973 = false then b.respond r 0xF5 3 [0xFFFFFFFF]
      else if b.rook.lc = 0 then b.respond r 0xF5 13 [0xFFFFFFFF]
      else (b.wrBytes dest (b.idPub ++ b.report ch ++
        (List.range 3309).map (fun i => (Config.mldsaSign b.idKeySeed (b.report ch) i).toNat))).respond r 0xF5 0 [0xFFFFFFFF]))

/-- Rook: challenges, mailboxes, sessions, the protection table, the TRNG, boot and reset release. For every state and
operands that meet the conditions named, exec answers the next state given. CHALLENGE draws 32 free bytes (log 12) and
starts their life, or is refused while halted or locked; MBOX_DATA appends a word and MBOX_RESET empties the mailbox;
SESSION_OPEN judges the checks and spends the challenge; SESSION_VERIFY_DONE opens the session or counts the failure,
the fourth locking, both audited with event 0x50; SESSION_CLOSE and SESSION_IDLE_TIMEOUT close it. PROT_COMMIT copies
STAGE to LIVE, counts and audits; PROT_LOAD copies back. AUDIT_BASE_FIX begins an epoch after 480,000 frames, or with
none left sets AUDIT_STAT bit 29. TRNG_BLOCK keeps the run of the samples and halts at the third failure within a
second; TRNG_RETEST, once a second, of good samples ends the halt or notes the first pass. BOOT_DATA appends while
Rook waits; BOOT_CTL.START runs the image or records the failure; BOOT_DONE trains near memory and sets bit 31;
ROOK_RST is refused with NO_RIGHTS; RESET_RELEASE reads the OTP, makes CK and takes the image BOOTSEL names. -/
def Obligations.RookSessionsProtectionAndBootAct : Prop :=
  (∀ (s : State) (w : Win) (key : Nat), s.opens w Reg.ROOK_SESS_CTL true = true →
    let u := s.seenBy w
    let x := u.sess_ w
    let locked := x.lockAt.any (fun t => decide (u.now < t + 480000))
    let d := fun i => leBytes 8 (Config.freeValue (u.draws + i)).toNat
    let live := x.fresh.any (fun t => decide (u.now < t + 80000))
    let st := if x.open_ then 2 else if !live then 0x0C else if x.mbox.length ≠ 1316 then 0x0A
      else if !enrolled (slice x.box 0 1952) (u.roleHash w (key % 4)) || !u.rolePermitted w then 4
      else if !Config.mldsaVerify (slice x.box 0 1952) (u.sessMsg w (key % 4)) (slice x.box 1952 3309) then 7 else 0
    exec (.challenge w) s = .next (
      if u.trngHalted = true then u.setSess w { x with status := 8 }
      else if locked = true then u.setSess w { x with status := 2 }
      else u.drawn.drawn.drawn.drawn.setSess w
        { x with chal := d 0 ++ d 1 ++ d 2 ++ d 3, fresh := some u.now, status := 0 }) ∧
    exec (.mboxReset w) s = .next (u.setSess w { x with mbox := [] }) ∧
    exec (.sessionOpen w key) s = .next (
      if x.pend.isSome = true then u else u.setSess w { x with pend := some (key % 4, st, locked), fresh := none }) ∧
    exec (.sessionClose w) s = .next (u.sessClose w 0)) ∧
  (∀ (s : State) (w : Win) (cause : Nat),
    let x := s.sess_ w
    let u := ((s.setSess w { x with open_ := false, key := 0 }).audit (winNum w + 1) 0 4 [x.key, cause]).irq 0x1000 0
    s.sessClose w cause =
      (if x.open_ = true then u.event (u.rn Reg.ROOK_EVQ) 0x80 [0x50, winNum w, 1, x.key, 0, cause] else s)) ∧
  (∀ (s : State) (w : Win) (v : Word), s.opens w Reg.ROOK_MBOX_DATA true = true →
    let u := s.seenBy w
    exec (.mboxData w v) s = .next (
      if 4095 ≤ (u.sess_ w).mbox.length then u else u.setSess w { u.sess_ w with mbox := (u.sess_ w).mbox ++ [v] })) ∧
  (∀ (s : State) (w : Win) (key pre : Nat) (locked : Bool), (s.sess_ w).pend = some (key, pre, locked) →
    let x := s.sess_ w
    let st := if pre = 0 ∧ s.rolePermitted w = false then 4 else pre
    let f := if locked then x.fails else x.fails + 1
    let u := ((s.setSess w { x with pend := none, open_ := true, key := key, fails := 0, status := 0, seen := s.now }).audit
      (winNum w + 1) 0 2 [key]).irq 0x1000 0
    let v := (((s.setSess w { x with
      pend := none, status := st, fails := if 4 ≤ f then 0 else f, lockAt := if 4 ≤ f then some s.now else x.lockAt
      fresh := if 4 ≤ f then none else x.fresh }).bump Reg.ROOK_AUTH_FAIL).audit (winNum w + 1) st 3 [key]).irq 0x1000 0
    exec (.sessionVerifyDone w) s = .next (
      if st = 0 then u.event (u.rn Reg.ROOK_EVQ) 0x80 [0x50, winNum w, 0, key, 0, 0]
      else v.event (v.rn Reg.ROOK_EVQ) 0x80 [0x50, winNum w, 2, key, st, 0])) ∧
  (∀ (s : State) (w : Win), exec (.sessionIdleTimeout w) s = .next (
    let n := s.rn Reg.ROOK_SESS_IDLE
    if n ≠ 0 ∧ (s.sess_ w).seen + 8000 * n ≤ s.now then s.sessClose w 1 else s)) ∧
  (∀ (s : State) (w : Win), s.opens w Reg.PROT_PROT_CTL true = true →
    let u := s.seenBy w
    let v := (List.range 128).foldl (fun s j => s.setReg (Reg.PROT_PROT_LIVE j) (s.reg (Reg.PROT_PROT_STAGE j))) u
    exec (.protCommit w) s = .next ((v.bump Reg.PROT_PROT_GEN).audit (winNum w + 1) 0 5 v.protHash) ∧
    exec (.protLoad w) s = .next ((List.range 128).foldl (fun s j =>
      s.setReg (Reg.PROT_PROT_STAGE j) (s.reg (Reg.PROT_PROT_LIVE j))) u)) ∧
  (∀ s : State, exec .auditBaseFix s = .next (
    if s.rook.base = true ∨ s.now < s.rook.bootAt + 480000 then s
    else if s.otpOnes 0x680 128 < 1024 then s.newEpoch else s.setFld Reg.AUDIT_AUDIT_STAT 29 1 1)) ∧
  (∀ (s : State) (l : List Bool), s.trngHalted = false →
    let u := { s with rook := { s.rook with rep := (runOf l s.rook.rep).2 } }
    let fs := s.now :: s.rook.trngFails.filter (fun f => decide (s.now < f + 8000))
    let b := u.bump Reg.ROOK_TRNG_FAIL
    let v := { b with rook := { b.rook with trngFails := fs } }
    let y := (({ v with rook := { v.rook with testAt := s.now } } : State).setFld Reg.ROOK_TRNG_STAT 31 1 1).irq 0x1000 1
    exec (.trngBlock l) s = .next (
      if (runOf l s.rook.rep).1 < 41 ∧ (l.filter (· == l.headD false)).length < 710 then u
      else if fs.length < 3 then v
      else (y.event (y.rn Reg.ROOK_EVQ) 0x80 [0x51, 0, fs.length]).audit 4 8 0x11 [0])) ∧
  (∀ (s : State) (l : List Bool),
    let t := { s with rook := { s.rook with testAt := s.now } }
    let u := (({ t with rook := { t.rook with trngFails := [], rep := (false, 0) } } : State).setFld Reg.ROOK_TRNG_STAT 30 2 1).irq
      0x1000 1
    exec (.trngRetest l) s = .next (
      if s.now < s.rook.testAt + 8000 then s
      else if startTest l = false then t
      else if s.trngHalted = false then t.setFld Reg.ROOK_TRNG_STAT 30 1 1
      else (u.event (u.rn Reg.ROOK_EVQ) 0x80 [0x51, 1, s.rook.trngFails.length]).audit 4 0 0x11 [1])) ∧
  (∀ (s : State) (w : Win) (v : Word), s.opens w Reg.ROOK_BOOT_DATA true = true →
    let u := s.seenBy w
    exec (.bootData w v) s = .next (
      if u.rook.waiting = true then { u with rook := { u.rook with dl := u.rook.dl ++ [v] } } else u)) ∧
  (∀ (s : State) (w : Win), s.opens w Reg.ROOK_BOOT_CTL true = true →
    let u := s.seenBy w
    let l := u.rook.dl.flatMap (fun v => leBytes 4 v.toNat)
    let b := l.take (leNat (slice l 0x10 4))
    exec (.bootCtlStart w) s = .next (
      if u.rook.waiting = false then u
      else if u.checkImage b 1 = 0 then u.runImage b 2
      else ({ u with rook := { u.rook with dl := [] } } : State).bootFail (u.checkImage b 1) 2)) ∧
  (∀ (s : State) (b : List Nat) (source : Nat),
    let u := { s with rook := { s.rook with waiting := false, dl := [], image := (segments b).flatMap (fun (e : Nat × Nat × Nat × Nat) => slice b e.2.1 e.2.2.1) } }
    s.runImage b source = ((u.setMeas 0 (slice b 0x140 32)).setN Reg.ROOK_BOOT_STAT (source * 4 + s.rook.bootsel)).audit 4 0 1
      (slice b 0x140 14)) ∧
  (∀ (s : State) (st source : Nat), s.bootFail st source =
    (s.setN Reg.ROOK_BOOT_STAT (2 ^ 30 + st * 256 + source * 4 + s.rook.bootsel)).irq 0x1000 3) ∧
  (∀ (s : State) (fails : List Nat),
    let u := s.nmStartup fails
    exec (.bootDone fails) s = .next (
      if s.rook.image = [] ∨ s.bit Reg.ROOK_BOOT_STAT 31 = true then s
      else (if u.nmSize = 0 then u else (u.setFld Reg.NMC_NMC_CFG 31 1 1).hoursFrom).setFld Reg.ROOK_BOOT_STAT 31 1 1)) ∧
  (∀ (s : State) (w : Win) (p : Nat), s.opens w (p * 0x1000 + 0x30) true = true → exec (.rookRst w p) s =
    .next (((s.seenBy w).err (p * 0x1000) 4 0x30 (p * 0x1000 + 0x30)).setN (p * 0x1000 + 0x34) 2)) ∧
  (∀ (s : State) (k : Nat) (a b : List Nat) (l : List Bool), s.rook.otpRead = false →
    let u := { s with
      rook := { s.rook with lc := s.otpState, gen := s.otpGen, bootsel := k % 4, bootAt := s.now, testAt := s.now, otpRead := true
                            waiting := false, dl := [] }
      ciph := { s.ciph with ckGen := s.ciph.ckGen + 1 } }
    let v := u.setN Reg.ROOK_LC_STAT s.otpState
    let x := if startTest l then v.setFld Reg.ROOK_TRNG_STAT 30 1 1 else v
    let y := match s.otpGen with
      | some _ => (x.setN Reg.ROOK_SESS_IDLE (leNat (x.genBytes 2 2))).setFld Reg.ROOK_ROLE_CFG 0 1 ((x.genBytes 1 1).headD 0)
      | none => x
    let z := y.setFld Reg.ROOK_BOOT_STAT 0 2 (k % 4)
    let last := z.checkImage b 1
    let z' := z.setN Reg.ROOK_BOOT_STAT (last * 256 + 4 + k % 4)
    exec (.resetRelease k a b l) s = .next (
      if s.otpState = 0 then z
      else if k % 4 = 1 ∨ k % 4 = 3 then { z with rook := { z.rook with waiting := true } }
      else if z.checkImage a 1 = 0 then z.runImage a 0
      else if last = 0 then z.runImage b 1
      else if k % 4 = 2 then { z' with rook := { z'.rook with waiting := true } }
      else z.bootFail last 1)) ∧
  (∀ (s : State) (b : List Nat) (kind : Nat),
    let signer := b.getD 7 0
    s.checkImage b kind = (
      if containerOk b kind = false then 0x0A
      else if enrolled (slice b 0x160 1952) (s.signerHash signer) = false ∨ (kind = 1 ∧ signer ≠ 0) then 4
      else if b.getD 8 0 < s.otpOnes 0x10 16 then 4
      else if Config.mldsaVerify (slice b 0x160 1952) (b.take 0x160) (slice b 0x900 3309) = false then 7
      else if containerDigest b ≠ slice b 0x140 32 then 7 else 0))

/-- MPY, MAC and MSU update the accumulators of their mode with exact products, narrowed to 40 bits under SATA. For a core
whose next word is the word named (State.toIssue), with w its bits and c the core: MPY writes each accumulator of the
mode with its sum of products, MAC adds it to the accumulator and MSU subtracts it; an accumulating read sees the
previous MAC. The six modes have the products of R180's table (p is the exact product of two halves under SGN, doubled
with F). An accumulator write clamps to 40 bits with SATA = 1 and wraps with SATA = 0, sets AV when the value is
beyond 32 bits, and sets AOS when the exact result needed more than 40 bits. -/
def Obligations.MacWordsUpdateTheirAccumulators : Prop :=
  (∀ (s : State) (g b w : Nat) (t : State), s.toIssue g = some (b, w, t) →
    let c := t.core_ g
    (wKey w = 0 → exec (.mpy g) s = .next (s.issued (t.setCore g ((c.macTerms w).foldl (fun d e =>
      d.putAcc e.1 e.2 2 1) c)) g)) ∧
    (wKey w = 1 → exec (.mac g) s = .next (s.issued (t.setCore g ((c.macTerms w).foldl (fun d e =>
      d.putAcc e.1 (c.acc e.1 true + e.2) 2 1) c)) g)) ∧
    (wKey w = 2 → exec (.msu g) s = .next (s.issued (t.setCore g ((c.macTerms w).foldl (fun d e =>
      d.putAcc e.1 (c.acc e.1 true - e.2) 2 1) c)) g))) ∧
  (∀ (c : Core) (w : Nat),
    let p := macProduct (fieldOf w 21 2) (bitOf w 20)
    let H := fun v => v / 2 ^ 16
    let n := fieldOf w 18 2
    let x := c.reg (fieldOf w 13 3)
    let z := c.reg (fieldOf w 13 3 + 1)
    let y := c.reg (fieldOf w 10 3)
    (fieldOf w 25 3 = 0 → c.macTerms w = [(n, p (if bitOf w 17 then H x else x) (if bitOf w 16 then H y else y))]) ∧
    (fieldOf w 25 3 = 1 → c.macTerms w = [(n, p x y), (n + 1, p (H x) (H y))]) ∧
    (fieldOf w 25 3 = 2 → c.macTerms w = [(0, p x y), (1, p (H x) y), (2, p z y), (3, p (H z) y)]) ∧
    (fieldOf w 25 3 = 3 → c.macTerms w = [(0, p x (H y)), (1, p (H x) (H y)), (2, p z (H y)), (3, p (H z) (H y))]) ∧
    (fieldOf w 25 3 = 4 → c.macTerms w = [(n, p x y - p (H x) (H y)), (n + 1, p x (H y) + p (H x) y)]) ∧
    (fieldOf w 25 3 = 5 → c.macTerms w = [(n, p x y + p (H x) (H y)), (n + 1, p (H x) y - p x (H y))])) ∧
  (∀ a b : Nat, macProduct 0 false a b = signed 16 a * signed 16 b ∧ macProduct 1 false a b = ((a % 2 ^ 16) * (b % 2 ^ 16) : Nat) ∧
    macProduct 2 false a b = signed 16 a * ((b % 2 ^ 16 : Nat) : Int) ∧
    ∀ sgn, macProduct sgn true a b = 2 * macProduct sgn false a b) ∧
  (∀ (c : Core) (n lat macLat : Nat) (x : Int),
    let v := if bitOf c.mode 1 then satTo (-(2 ^ 39)) (2 ^ 39 - 1) x else signed 40 (unsigned 40 x)
    let u := unsigned 40 v
    let d := ((c.put (0x08 + n) (2 ^ 32 - 1) (u % 2 ^ 32) lat macLat).put (0x0C + n) 0xFF (u / 2 ^ 32) lat macLat).put 0x2E
      (2 ^ (8 + n)) (if v < -(2 ^ 31) ∨ 2 ^ 31 - 1 < v then 2 ^ (8 + n) else 0) lat
    (-(2 ^ 39) ≤ x ∧ x ≤ 2 ^ 39 - 1 → c.putAcc n x lat macLat = d) ∧
    (x < -(2 ^ 39) ∨ 2 ^ 39 - 1 < x → c.putAcc n x lat macLat = d.put 0x2E 0x1000 0x1000 lat))

/-- ALU words with a D destination: result, Z, N, C, V and sticky VS. For a core whose next word is the word named
(State.toIssue), with a and b its sources (b the immediate when bit 15 is 1) and W the write of DD and the flags, seen
by the next bundle: ADD and SUB wrap, ADDS and SUBS saturate to 32 bits, AND, OR, XOR and ANDN clear C and V, ABS and
NEG saturate, MIN and MAX pick the signed minimum and maximum; CMP sets the flags of a − b alone. The two-half forms
work on each half, wrapping or saturated, N and C from the high half, Z when both halves are zero, V when either
overflows. C of a subtraction is 1 when there is no borrow; C after MIN, MAX and ABS is a free value, which no rule
states. V also sets VS. -/
def Obligations.AluWordsComputeResultAndFlags : Prop :=
  (∀ (s : State) (g b w : Nat) (t : State), s.toIssue g = some (b, w, t) →
    let c := t.core_ g
    let a := c.reg (fieldOf w 16 3)
    let b2 := if bitOf w 15 then unsigned 32 (signed 12 (fieldOf w 0 12)) else c.reg (fieldOf w 12 3)
    let A : Int := signed 32 a
    let B : Int := signed 32 b2
    let W := fun (o : AluOut) => s.issued (t.setCore g ((c.put (fieldOf w 19 3) (2 ^ 32 - 1) o.r 1).aluFlags o)) g
    (wKey w = 0x100 → exec (.add g) s = .next (W (aluOut (unsigned 32 (A + B)) (decide (2 ^ 32 ≤ a % 2 ^ 32 + b2 % 2 ^ 32))
      (decide (A + B < -(2 ^ 31) ∨ 2 ^ 31 ≤ A + B))))) ∧
    (wKey w = 0x101 → exec (.sub g) s = .next (W (aluOut (unsigned 32 (A - B)) (decide (b2 % 2 ^ 32 ≤ a % 2 ^ 32))
      (decide (A - B < -(2 ^ 31) ∨ 2 ^ 31 ≤ A - B))))) ∧
    (wKey w = 0x102 → exec (.adds g) s = .next (W (aluOut (unsigned 32 (satTo (-(2 ^ 31)) (2 ^ 31 - 1) (A + B)))
      (decide (2 ^ 32 ≤ a % 2 ^ 32 + b2 % 2 ^ 32)) (decide (A + B < -(2 ^ 31) ∨ 2 ^ 31 ≤ A + B))))) ∧
    (wKey w = 0x103 → exec (.subs g) s = .next (W (aluOut (unsigned 32 (satTo (-(2 ^ 31)) (2 ^ 31 - 1) (A - B)))
      (decide (b2 % 2 ^ 32 ≤ a % 2 ^ 32)) (decide (A - B < -(2 ^ 31) ∨ 2 ^ 31 ≤ A - B))))) ∧
    (wKey w = 0x108 → exec (.and g) s = .next (W (aluOut (a &&& b2) false false))) ∧
    (wKey w = 0x109 → exec (.or g) s = .next (W (aluOut (a ||| b2) false false))) ∧
    (wKey w = 0x10A → exec (.xor g) s = .next (W (aluOut (a ^^^ b2) false false))) ∧
    (wKey w = 0x10B → exec (.andn g) s = .next (W (aluOut (a &&& (2 ^ 32 - 1 - b2)) false false))) ∧
    (wKey w = 0x10F → exec (.neg g) s = .next (W (aluOut (unsigned 32 (satTo (-(2 ^ 31)) (2 ^ 31 - 1) (-A)))
      (decide (a % 2 ^ 32 = 0)) (decide (A = -(2 ^ 31)))))) ∧
    (wKey w = 0x110 → exec (.cmp g) s = .next (s.issued (t.setCore g (c.aluFlags (aluOut (unsigned 32 (A - B))
      (decide (b2 % 2 ^ 32 ≤ a % 2 ^ 32)) (decide (A - B < -(2 ^ 31) ∨ 2 ^ 31 ≤ A - B))))) g)) ∧
    (
      let i2 := unsigned 16 (signed 12 (fieldOf w 0 12))
      let h2 := if bitOf w 15 then i2 else b2 / 2 ^ 16
      let l2 := if bitOf w 15 then i2 else b2 % 2 ^ 16
      let x := fun sub => if sub then signed 16 (a / 2 ^ 16) - signed 16 h2 else signed 16 (a / 2 ^ 16) + signed 16 h2
      let y := fun sub => if sub then signed 16 (a % 2 ^ 16) - signed 16 l2 else signed 16 (a % 2 ^ 16) + signed 16 l2
      let f := fun (sat : Bool) (v : Int) => unsigned 16 (if sat then satTo (-32768) 32767 v else v)
      let r := fun sub sat => f sat (x sub) * 2 ^ 16 + f sat (y sub)
      let o := fun (sub sat : Bool) => aluOut (r sub sat)
        (if sub then decide (h2 % 2 ^ 16 ≤ a / 2 ^ 16 % 2 ^ 16) else decide (2 ^ 16 ≤ a / 2 ^ 16 % 2 ^ 16 + h2 % 2 ^ 16))
        (decide ((x sub < -32768 ∨ 32768 ≤ x sub) ∨ y sub < -32768 ∨ 32768 ≤ y sub))
      (wKey w = 0x104 → exec (.add2 g) s = .next (W (o false false))) ∧
      (wKey w = 0x105 → exec (.sub2 g) s = .next (W (o true false))) ∧
      (wKey w = 0x106 → exec (.adds2 g) s = .next (W (o false true))) ∧
      (wKey w = 0x107 → exec (.subs2 g) s = .next (W (o true true)))) ∧
    (
      let V := fun (o : AluOut) => s.issued (t.drawn.setCore g ((c.put (fieldOf w 19 3) (2 ^ 32 - 1) o.r 1).aluFlags o)) g
      (wKey w = 0x10C → exec (.min g) s = .next (V (aluOut (if A < B then a else b2) (bitOf t.free 0) false))) ∧
      (wKey w = 0x10D → exec (.max g) s = .next (V (aluOut (if A < B then b2 else a) (bitOf t.free 0) false))) ∧
      (wKey w = 0x10E → exec (.abs g) s = .next (V (aluOut (unsigned 32 (satTo (-(2 ^ 31)) (2 ^ 31 - 1) A.natAbs))
        (bitOf t.free 0) (decide (A = -(2 ^ 31)))))))) ∧
  (∀ (r : Nat) (c v : Bool), aluOut r c v = ⟨r % 2 ^ 32, decide (r % 2 ^ 32 = 0), bitOf r 31, c, v⟩) ∧
  (∀ (c : Core) (o : AluOut),
    let n := (if o.z then 1 else 0) + 2 * (if o.n then 1 else 0) + 4 * (if o.c then 1 else 0) + 8 * (if o.v then 1 else 0)
    c.aluFlags o = if o.v then (c.put 0x2E 0xF n 1).put 0x2E 0x10 0x10 1 else c.put 0x2E 0xF n 1)

/-- ALU words on accumulators and SHF words: their results, narrowing, counts and flags. For a core whose next word is the
word named (State.toIssue): AADD, ASUB, ANEG, AABS, ACLR, ALD, ALDH and AMOV write Ad with the exact value, narrowed
under SATA with AV and AOS; ASH, LSH, ROT, ASHS and ASH2 shift DS by the signed count, left for a positive one and
right for a negative one; AASH, ASAT and ARND write Ad; EXP, EXP16, NORM, AEXP and ANORM give e32, e16 and eA; EXPB
and EXPB2 lower DD.L alone; AMV writes the output form, 16-bit ones sign-extended, and sets SS when a saturation
changed the value. Each is seen by the next bundle. -/
def Obligations.AccumulatorAndShiftWordsCompute : Prop :=
  (∀ (s : State) (g b w : Nat) (t : State), s.toIssue g = some (b, w, t) →
    let c := t.core_ g
    let d := fieldOf w 19 2
    let a := c.reg (fieldOf w 16 3)
    let x := c.acc d
    let y := c.acc (fieldOf w 16 2)
    (wKey w = 0x120 → exec (.aadd g) s = .next (s.issued (t.setCore g (c.putAcc d (x + y) 1 1)) g)) ∧
    (wKey w = 0x121 → exec (.asub g) s = .next (s.issued (t.setCore g (c.putAcc d (x - y) 1 1)) g)) ∧
    (wKey w = 0x122 → exec (.aneg g) s = .next (s.issued (t.setCore g (c.putAcc d (-y) 1 1)) g)) ∧
    (wKey w = 0x123 → exec (.aabs g) s = .next (s.issued (t.setCore g (c.putAcc d (if y < 0 then -y else y) 1 1)) g)) ∧
    (wKey w = 0x124 → exec (.aclr g) s = .next (s.issued (t.setCore g (c.putAcc d (0) 1 1)) g)) ∧
    (wKey w = 0x125 → exec (.ald g) s = .next (s.issued (t.setCore g (c.putAcc d (signed 32 a) 1 1)) g)) ∧
    (wKey w = 0x126 → exec (.aldh g) s = .next (s.issued (t.setCore g (c.putAcc d (signed 32 a * 65536) 1 1)) g)) ∧
    (wKey w = 0x127 → exec (.amov g) s = .next (s.issued (t.setCore g (c.putAcc d (y) 1 1)) g)) ∧
    (wKey w = 0x208 → exec (.aash g) s = .next (s.issued (t.setCore g (c.putAcc d (if 0 ≤ c.shiftCount w then y * (2 ^ (c.shiftCount w).toNat : Nat) else y / (2 ^ (-c.shiftCount w).toNat : Nat)) 1 1)) g)) ∧
    (wKey w = 0x218 → exec (.asat g) s = .next (s.issued (t.setCore g (c.putAcc d (satTo (-(2 ^ 31)) (2 ^ 31 - 1) y) 1 1)) g)) ∧
    (wKey w = 0x219 → exec (.arnd g) s = .next (s.issued (t.setCore g (c.putAcc d (c.rnd y / 65536 * 65536) 1 1)) g))) ∧
  (∀ (s : State) (g b w : Nat) (t : State), s.toIssue g = some (b, w, t) →
    let c := t.core_ g
    let dd := fieldOf w 19 3
    let v := c.reg (fieldOf w 16 3)
    let n := c.shiftCount w
    let X := fun k u => if 0 ≤ n then signed k u * (2 ^ n.toNat : Nat) else signed k u / (2 ^ (-n).toNat : Nat)
    (wKey w = 0x200 → exec (.ash g) s = .next (s.issued (t.setCore g (c.put dd (2 ^ 32 - 1) (unsigned 32 (X 32 v)) 1)) g)) ∧
    (wKey w = 0x201 → exec (.lsh g) s = .next (s.issued (t.setCore g (c.put dd (2 ^ 32 - 1) (if 0 ≤ n then v * 2 ^ n.toNat % 2 ^ 32 else v / 2 ^ (-n).toNat) 1)) g)) ∧
    (wKey w = 0x202 → exec (.rot g) s = .next (s.issued (t.setCore g (c.put dd (2 ^ 32 - 1) ((v * 2 ^ (n % 32).toNat + v / 2 ^ (32 - (n % 32).toNat)) % 2 ^ 32) 1)) g)) ∧
    (wKey w = 0x203 → exec (.ashs g) s = .next (s.issued (t.setCore g (c.put dd (2 ^ 32 - 1) (unsigned 32 (satTo (-(2 ^ 31)) (2 ^ 31 - 1) (X 32 v))) 1)) g)) ∧
    (wKey w = 0x204 → exec (.ash2 g) s = .next (s.issued (t.setCore g (c.put dd (2 ^ 32 - 1) (unsigned 16 (X 16 (v / 2 ^ 16)) * 2 ^ 16 + unsigned 16 (X 16 v)) 1)) g)) ∧
    (wKey w = 0x210 → exec (.exp g) s = .next (s.issued (t.setCore g (c.put dd (2 ^ 32 - 1) (e32 v) 1)) g)) ∧
    (wKey w = 0x211 → exec (.exp16 g) s = .next (s.issued (t.setCore g (c.put dd (2 ^ 32 - 1) (e16 v) 1)) g)) ∧
    (wKey w = 0x214 → exec (.norm g) s = .next (s.issued (t.setCore g (c.put dd (2 ^ 32 - 1) (v * 2 ^ e32 v % 2 ^ 32) 1)) g)) ∧
    (wKey w = 0x212 → exec (.expb g) s = .next (s.issued (t.setCore g (c.put dd 0xFFFF (min (c.reg dd % 2 ^ 16) (e32 v)) 1)) g)) ∧
    (wKey w = 0x213 → exec (.expb2 g) s = .next (s.issued (t.setCore g (c.put dd 0xFFFF (min (c.reg dd % 2 ^ 16) (min (e16 (v / 2 ^ 16)) (e16 v))) 1)) g))) ∧
  (∀ (s : State) (g b w : Nat) (t : State), s.toIssue g = some (b, w, t) →
    let c := t.core_ g
    let dd := fieldOf w 19 3
    let n := fieldOf w 16 2
    let y := c.acc n
    let o := c.outForm (fieldOf w 13 2) y
    let d := c.put dd (2 ^ 32 - 1) (if fieldOf w 13 2 = 0 ∨ fieldOf w 13 2 = 2 then unsigned 32 (signed 16 o.1) else o.1) 1
    (wKey w = 0x215 → exec (.aexp g) s = .next (s.issued (t.setCore g (c.put dd (2 ^ 32 - 1) (unsigned 32 (eA y)) 1)) g)) ∧
    (wKey w = 0x216 → exec (.anorm g) s = .next (s.issued (t.setCore g ((c.put dd (2 ^ 32 - 1) (unsigned 32 (eA y)) 1).putAcc n
      (if 0 ≤ eA y then y * (2 ^ (eA y).toNat : Nat) else y / (2 ^ (-eA y).toNat : Nat)) 1 1)) g)) ∧
    (wKey w = 0x21C → exec (.amv g) s = .next (s.issued (t.setCore g (if o.2 then d.put 0x2E 0x2000 0x2000 1 else d)) g))) ∧
  (∀ (c : Core) (a : Int),
    let r := c.rnd a / 65536
    (bitOf c.mode 0 = false → c.outForm 0 a = (unsigned 16 r, false) ∧ c.outForm 1 a = (unsigned 32 a, false) ∧
      c.outForm 2 a = (unsigned 16 a, false)) ∧ c.outForm 3 a = (unsigned 32 a, false) ∧
    (bitOf c.mode 0 = true →
      c.outForm 0 a = (unsigned 16 (satTo (-32768) 32767 r), decide (r < -32768 ∨ 32767 < r)) ∧
      c.outForm 1 a = (unsigned 32 (satTo (-(2 ^ 31)) (2 ^ 31 - 1) a), decide (a < -(2 ^ 31) ∨ 2 ^ 31 - 1 < a)) ∧
      c.outForm 2 a = (unsigned 16 (satTo (-32768) 32767 a), decide (a < -32768 ∨ 32767 < a))) ∧
    (fieldOf c.mode 2 2 = 0 → c.rnd a = a + 32768) ∧
    (fieldOf c.mode 2 2 = 1 → c.rnd a = a + 32767 + (unsigned 40 a / 2 ^ 16 % 2 : Nat)) ∧ (fieldOf c.mode 2 2 = 2 → c.rnd a = a)) ∧
  (∀ (c : Core) (w : Nat), (bitOf w 15 = true → c.shiftCount w = signed 6 (fieldOf w 0 6)) ∧
    (bitOf w 15 = false → c.shiftCount w = signed 6 (c.reg (fieldOf w 12 3)))) ∧
  e32 0 = 31 ∧ e32 0xFFFFFFFF = 31 ∧ eA 0 = 31 ∧ e32 1 = 30 ∧ e16 0x4000 = 0 ∧ eA (-(2 ^ 39)) = -8

/-- DMOV, SMOV and REG words: accesses, pointer updates, register writes and their latencies. For a core whose next word
is the word named (State.toIssue): DMOV loads, post-modifies and stores from the values before the bundle; LD loads by
SIZE with the memory's latency and post-modifies with PM = 1; ST and STA store; LEA sets Pd; PUSH decrements P7 and
stores; POP loads and increments P7. MOV, LDI and LDIH write DST; NOP does nothing. Beside them: a post-modify wraps
modulo 2²⁴, reduces into the circular buffer of P0–P3, or reverses the carry of P0 under BR0; where addresses lie,
with their latencies; and when each register's write is seen. -/
def Obligations.MoveAndRegisterWordsAct : Prop :=
  (∀ (s : State) (g b w : Nat) (t : State), s.toIssue g = some (b, w, t) →
    let c := t.core_ g
    let p := c.reg (0x10 + fieldOf w 17 3)
    let a := c.smovAccess w
    let o := c.outForm (fieldOf w 23 2) (c.acc (fieldOf w 20 2))
    let r := t.loadAt g ⟨.single, c.reg 0x17, 4⟩
    let x := fieldOf w 14 14
    let y := fieldOf w 0 14
    let u := ((t.moveLoad g .x 0 x).moveLoad g .y 4 y).onCore g (fun c => (c.movePost 0 x).movePost 4 y)
    let dst := fieldOf w 20 6
    (wKey w = 0x400 → exec (.ld g) s = .next (s.issued ((t.loadAt g a).1.onCore g (fun c =>
      (c.putSized (fieldOf w 20 3) (fieldOf w 23 2) (t.loadAt g a).2.1 (t.loadAt g a).2.2).smovPost w)) g)) ∧
    (wKey w = 0x401 → exec (.st g) s = .next (s.issued ((t.setCore g (c.smovPost w)).storeAt g a
      (sized (fieldOf w 23 2) (c.reg (fieldOf w 20 3)))) g)) ∧
    (wKey w = 0x402 →
      exec (.sta g) s = .next (s.issued ((t.setCore g (if o.2 then (c.smovPost w).put 0x2E 0x2000 0x2000 1
        else c.smovPost w)).storeAt g a o.1) g)) ∧
    (wKey w = 0x403 → exec (.lea g) s = .next (s.issued (t.setCore g (c.put (0x10 + fieldOf w 20 3) 0xFFFFFF
      (((p : Int) + signed 16 (fieldOf w 0 16)) % 2 ^ 24).toNat 1)) g)) ∧
    (wKey w = 0x404 → exec (.push g) s = .next (s.issued ((t.setCore g (c.put 0x17 0xFFFFFF
      (((c.reg 0x17 : Int) - 4) % 2 ^ 24).toNat 1)).storeAt g ⟨.single, (((c.reg 0x17 : Int) - 4) % 2 ^ 24).toNat, 4⟩
        (extendReg (fieldOf w 17 6) (c.reg (fieldOf w 17 6)))) g)) ∧
    (wKey w = 0x405 →
      exec (.pop g) s = .next (s.issued (r.1.onCore g (fun c => (c.put 0x17 0xFFFFFF ((((t.core_ g).reg 0x17) + 4) % 2 ^ 24) 1).write
        (fieldOf w 17 6) r.2.1 r.2.2)) g)) ∧
    (wKey w = 0x300 →
      exec (.dmov g) s = .next (s.issued ((u.moveStore g .x 0 x).moveStore g .y 4 y) g)) ∧
    (wKey w = 0x500 → exec (.mov g) s = .next (s.issued (t.setCore g (c.write dst
      (extendReg (fieldOf w 14 6) (c.reg (fieldOf w 14 6))) 0)) g)) ∧
    (wKey w = 0x501 → exec (.ldi g) s = .next (s.issued (t.setCore g (c.write dst (if bitOf w 19
      then unsigned 32 (signed 16 (fieldOf w 0 16)) else fieldOf w 0 16) 0)) g)) ∧
    (wKey w = 0x502 → exec (.ldih g) s = .next (s.issued (t.setCore g (c.write dst
      (fieldOf w 0 16 * 2 ^ 16 + c.reg dst % 2 ^ 16) 0 (if dst < 8 then 0xFFFF0000 else 2 ^ 32 - 1))) g)) ∧
    (wKey w = 0x60F → exec (.nop g) s = .next (s.issued (t.setCore g c) g))) ∧
  (∀ (c : Core) (w : Nat), wGroup w = 4 → fieldOf w 25 3 < 2 →
    let p := c.reg (0x10 + fieldOf w 17 3)
    c.smovAccess w = ⟨.single, if bitOf w 16 then p else (((p : Int) + signed 16 (fieldOf w 0 16)) % 2 ^ 24).toNat,
      if fieldOf w 23 2 = 2 then 4 else 2⟩) ∧
  (∀ (c : Core) (p : Nat) (m : Int) (byReg : Bool),
    (4 ≤ p ∨ c.reg (0x24 + p) = 0 → p ≠ 0 ∨ byReg = false ∨ bitOf c.mode 6 = false →
      c.postMod p m byReg = (((c.reg (0x10 + p) : Int) + m) % 2 ^ 24).toNat) ∧
    (p < 4 → c.reg (0x24 + p) ≠ 0 → p ≠ 0 ∨ byReg = false ∨ bitOf c.mode 6 = false → c.postMod p m byReg =
      (c.reg (0x20 + p) + (((c.reg (0x10 + p) : Int) + m - c.reg (0x20 + p)) % c.reg (0x24 + p)).toNat) % 2 ^ 24) ∧
    (let n := fieldOf c.mode 8 4 + 1
     let b := c.reg 0x20
     bitOf c.mode 6 = true → c.postMod 0 m true =
      (b + revBits n ((revBits n (unsigned n ((c.reg 0x10 : Int) - b)) + revBits n (unsigned n m)) % 2 ^ n)) % 2 ^ 24)) ∧
  (∀ (g a n : Nat), a % n = 0 →
    (a < 0x8000 → placeOf g .single a n = some (.mem (xramBase g + a) 2) ∧ placeOf g .y a n = none) ∧
    (0x10000 ≤ a → a < 0x18000 → placeOf g .single a n = some (.mem (xramBase g + a) 2) ∧ placeOf g .x a n = none) ∧
    (0x100000 ≤ a → a < 0x200000 → ∀ b, placeOf g b a n = some (.mem (sramBase (g / 8) + (a - 0x100000)) 5)) ∧
    (0xFFF000 ≤ a → a < 0x1000000 → n = 4 → placeOf g .single a n = some (.spr (a - 0xFFF000)))) ∧
  (∀ (g a n : Nat) (b : Bus), a % n ≠ 0 → placeOf g b a n = none) ∧
  (∀ (c : Core) (code v load : Nat),
    let l := if load = 0 then 1 else load
    let k := if load = 0 then 4 else load + 3
    (code < 0x20 ∨ (0x30 ≤ code ∧ code < 0x40) → c.write code v load = c.put code (regMask code) v l) ∧
    (0x20 ≤ code → code < 0x28 → c.write code v load = c.put code (regMask code) v (l + 1)) ∧
    (0x28 ≤ code → code < 0x2E → c.write code v load = (c.put code 0xFFFF v l).put (code + 0x20) 0xFFFF v k) ∧
    c.write 0x2E v load = ((c.put 0x2E (regMask 0x2E) v (l + 1)).put 0x4E 1 (v / 2 ^ 16) k).put 0x4F 1 (v / 2 ^ 17) k ∧
    c.write 0x2F v load = c.put 0x2F 0xF5F v (l + 1)) ∧
  (∀ (c : Core) (d v : Nat), d < 8 → c.write d v 0 0xFFFF0000 = c.put d 0xFFFF0000 v 1) ∧
  (∀ (c : Core) (code mask v lat macLat : Nat),
    let q : PendW := ⟨code, mask, v, c.bundle + lat, c.bundle + macLat, c.bundle⟩
    c.put code mask v lat macLat = { c with pend := insertPend q (c.pend.filter (fun p =>
      !(p.reg == code && decide (code < 8) && p.due == q.due && p.issued != c.bundle))) }) ∧
  (∀ (c : Core) (code : Nat) (mac : Bool), c.reg code mac = c.pend.foldl (fun v p =>
    if p.reg = code ∧ (if mac then p.dueMac else p.due) ≤ c.bundle then p.apply v else v) (c.rawReg code))

/-- CTL words: transfers with two delay slots, LOOP, TAKE, WAIT, TRAP and HALT, and the loop-end action. For a core whose
next word is the word named (State.toIssue): BR goes to its target when its condition holds of ASTAT as stage D sees
it, CALL and CALLI also set RETS to the bundle after the second delay slot, JMP, RTS and RTI read their register in
stage D; each target issues as bundle i + 3. LOOP sets LB, LE, LC and LA, or leaves by its delay slots with a count of
0. TAKE puts the slot's move in service and answers word 0 three bundles on, or 0; WAIT sleeps unless the slot holds a
move; TRAP and HALT act after their bundle. LOOP_END_ACTION: the inner level redirects while its count is above 1,
else clears LC and LA and falls through, and level 1 acts before level 0. -/
def Obligations.ControlWordsTransferAndLoop : Prop :=
  (∀ (s : State) (g b w : Nat) (t : State), s.toIssue g = some (b, w, t) →
    let c := t.core_ g
    let tr := fun (x : Option Nat) => { c with branch := some ⟨x, 3, false⟩ }
    let rel := (((b : Int) + 4 * signed 20 (fieldOf w 0 20)) % 2 ^ 16).toNat
    let ret := t.afterBundle g (t.afterBundle g (t.afterBundle g b))
    let v := fieldOf w 23 1
    let le := ret + 4 * fieldOf w 0 6
    let n := if bitOf w 22 then fieldOf w 6 16 else c.rawReg (fieldOf w 19 3) % 2 ^ 16
    let d := (((((c.put (0x2A + v) 0xFFFF ret 1).put (0x4A + v) 0xFFFF ret 1).put (0x2C + v) 0xFFFF le 1).put (0x4C + v)
      0xFFFF le 1).put (0x28 + v) 0xFFFF n 1).put (0x48 + v) 0xFFFF n 1
    let done := wLast (t.pramWord g b) = false ∧ c.storesDone g (t.pramWord g (b + 4)) = true
    (wKey w = 0x600 → exec (.br g) s = .next (s.issued (t.setCore g (if condHolds (fieldOf w 20 4) (c.rawReg 0x2E)
      then tr (some rel) else tr none)) g)) ∧
    (wKey w = 0x601 → exec (.call g) s = .next (s.issued (t.setCore g { c.put 0x30 0xFFFF ret 1 with
      branch := some ⟨some rel, 3, false⟩ }) g)) ∧
    (wKey w = 0x602 → exec (.jmp g) s = .next (s.issued (t.setCore g (tr (some (c.rawReg (0x10 + fieldOf w 17 3) % 2 ^ 16)))) g)) ∧
    (wKey w = 0x604 → exec (.rts g) s = .next (s.issued (t.setCore g (tr (some (c.rawReg 0x30 % 2 ^ 16)))) g)) ∧
    (wKey w = 0x603 → exec (.calli g) s = .next (s.issued (t.setCore g { c.put 0x30 0xFFFF ret 1 with
      branch := some ⟨some (c.rawReg (0x10 + fieldOf w 17 3) % 2 ^ 16), 3, false⟩ }) g)) ∧
    (wKey w = 0x605 → exec (.rti g) s = .next (s.issued (t.setCore g { c with
      branch := some ⟨some (c.rawReg 0x31 % 2 ^ 16), 3, true⟩ }) g)) ∧
    (wKey w = 0x606 →
      exec (.loop g) s = .next (s.issued (t.setCore g (if n = 0 then { d with branch := some ⟨some ((le + 4) % 2 ^ 16), 3, false⟩ }
        else { (d.put 0x2E (2 ^ (16 + v)) (2 ^ (16 + v)) 1).put (govLA v) 1 1 1 with branch := some ⟨none, 3, false⟩ })) g)) ∧
    (wKey w = 0x607 → (∀ m : Move, c.slot = some m → c.insv = none → (∀ k, c.doneAt = some k → k + 1 < c.bundle) → ¬ done →
        let mv := t.descriptor m
        exec (.take g) s = .next (s.issued ((t.setCore g { c with
          slot := none, insv := some m, mv := mv, takenAt := t.time.us, wdog := false }).onCore g (fun c =>
            c.put (fieldOf w 19 3) (2 ^ 32 - 1) (mv.headD 0) 3)) g)) ∧
      (c.slot = none ∨ c.insv.isSome = true ∨ c.doneAt = some c.bundle ∨ (∃ k, c.doneAt = some k ∧ k + 1 = c.bundle) ∨ done →
        exec (.take g) s = .next (s.issued (t.setCore g (c.put (fieldOf w 19 3) (2 ^ 32 - 1) 0 3)) g))) ∧
    (wKey w = 0x608 → exec (.wait g) s = .next (s.issued (t.setCore g ({ c with waiting := c.slot.isNone })) g)) ∧
    (wKey w = 0x609 → exec (.trap g) s = .next (s.issued (t.setCore g ({ c with trap := some (fieldOf w 0 8) })) g)) ∧
    (wKey w = 0x60A → exec (.halt g) s = .next (s.issued (t.setCore g ({ c with halting := true })) g))) ∧
  (∀ (s : State) (g : Nat), (s.core_ g).loopEnd = none → exec (.loopEndAction g) s = .next s) ∧
  (∀ (s : State) (g v e f : Nat), v < 2 →
    let c := s.core_ g
    let n := c.reg (0x48 + v)
    c.loopEnd = some (e, f) → c.atLoopEnd v e f = true → c.atLoopEnd (1 - v) e f = false →
    (1 < n → exec (.loopEndAction g) s = .next ((s.setCore g ((c.put (0x28 + v) 0xFFFF (n - 1) 1).put (0x48 + v) 0xFFFF (n - 1) 1)).finish
      g (c.loopBegin v))) ∧
    (n ≤ 1 → exec (.loopEndAction g) s = .next ((s.setCore g ((((c.put (0x28 + v) 0xFFFF 0 1).put (0x48 + v) 0xFFFF 0 1).put 0x2E
      (2 ^ (16 + v)) 0 1).put (govLA v) 1 0 1)).finish g (f + 4)))) ∧
  (∀ (s : State) (g e f : Nat),
    let c := s.core_ g
    let n := c.reg 0x49
    c.loopEnd = some (e, f) → c.atLoopEnd 1 e f = true → 1 < n → exec (.loopEndAction g) s = .next ((s.setCore g ((c.put 0x29 0xFFFF (n - 1) 1).put 0x49 0xFFFF (n - 1) 1)).finish
      g (c.loopBegin 1))) ∧
  (∀ (s : State) (g e f : Nat),
    let c := s.core_ g
    let d := (((c.put 0x29 0xFFFF 0 1).put 0x49 0xFFFF 0 1).put 0x2E 0x20000 0 1).put 0x4F 1 0 1
    let n := d.reg 0x48
    c.loopEnd = some (e, f) → c.atLoopEnd 1 e f = true → c.atLoopEnd 0 e f = true → c.reg 0x49 ≤ 1 →
    exec (.loopEndAction g) s = .next (
      if 1 < n then (s.setCore g ((d.put 0x28 0xFFFF (n - 1) 1).put 0x48 0xFFFF (n - 1) 1)).finish g (c.loopBegin 0)
      else (s.setCore g ((((d.put 0x28 0xFFFF 0 1).put 0x48 0xFFFF 0 1).put 0x2E 0x10000 0 1).put 0x4E 1 0 1)).finish g (f + 4))) ∧
  (∀ a : Nat, condHolds 0 a = true ∧ condHolds 1 a = bitOf a 0 ∧ condHolds 2 a = !bitOf a 0 ∧
    condHolds 3 a = (bitOf a 1 != bitOf a 3) ∧ condHolds 4 a = (bitOf a 1 == bitOf a 3) ∧
    condHolds 5 a = (bitOf a 0 || bitOf a 1 != bitOf a 3) ∧ condHolds 6 a = (!bitOf a 0 && bitOf a 1 == bitOf a 3) ∧
    condHolds 7 a = !bitOf a 2 ∧ condHolds 8 a = bitOf a 2 ∧ condHolds 9 a = bitOf a 1 ∧ condHolds 10 a = !bitOf a 1 ∧
    condHolds 11 a = bitOf a 3 ∧ condHolds 12 a = !bitOf a 3 ∧ condHolds 13 a = bitOf a 8)

/-- Cores: interrupt entry, exceptions, watchdog, timer, doorbells and the end of a bundle. INTERRUPT_ENTRY at a bundle
boundary with IE = 1, no delay slot next and a pending enabled interrupt i completes issued bundles, saves PC in RETI
and ASTAT in ASTATI, clears IE, LA0 and LA1 and goes to 0x50 + 0x10 i; with IE = 0, without one, or in a delay slot it
changes nothing. A bundle that faults raises ILLEGAL or ADDR with EXC_PC, no effect and EXL set; EXL already set halts
the core. WDOG raises exception 3 once for a move in service with MOVE_LIMIT ≠ 0. CORE_TIMER_EXPIRE sets IPEND bit 1
and stops the timer; DB_SEND sets the sender's bit in DB_SRC and IPEND bit 2 of each core named. A bundle without
transfer, trap or halt is followed by the next one, with the writes due then. -/
def Obligations.CoresTakeInterruptsAndExceptions : Prop :=
  (∀ (c : Core) (v r : Nat),
    let a := c.drain.rawReg 0x2E
    let d := ((c.drain.force 0x31 (r % 2 ^ 16)).force 0x32 a).force 0x2E (putField a 16 2 0)
    (c.enter v r).pc = v ∧ (c.enter v r).pend = [] ∧
    (c.enter v r).inBundle = none ∧ (c.enter v r).branch = none ∧ (c.enter v r).waiting = false ∧
      (c.enter v r).regs = (((d.force (govLA 0) 0).force (govLA 1) 0).force 0x2F (bitClear (d.rawReg 0x2F) 4)).regs) ∧
  (∀ (s : State) (g i : Nat),
    let c := s.core_ g
    c.atBoundary = true → c.inSlots = false → bitOf (c.reg 0x2F) 4 = true → s.intPending g = some i → exec (.interruptEntry g) s = .next (s.setCore g (c.rtiDone.enter (0x50 + 0x10 * i) c.pc))) ∧
  (∀ (s : State) (g : Nat), (s.core_ g).atBoundary = false ∨ (s.core_ g).inSlots = true ∨ bitOf ((s.core_ g).reg 0x2F) 4 = false ∨
    s.intPending g = none → exec (.interruptEntry g) s = .next s) ∧
  (∀ (s : State) (g cause addr : Nat),
    let c := s.core_ g
    let t := s.setCore g c.rtiDone
    let w := s.pramWord g c.pc
    c.atBoundary = true → c.waiting = false → t.bundleFault g = some (cause, addr) →
    (wKey w = 0x400 → exec (.ld g) s = .next (t.precise g cause addr)) ∧
    (wKey w = 0x300 → exec (.dmov g) s = .next (t.precise g cause addr)) ∧
    (wKey w = 0x100 → exec (.add g) s = .next (t.precise g cause addr)) ∧
    (wKey w = 0x606 → exec (.loop g) s = .next (t.precise g cause addr)) ∧
    (keyKnown (wKey w) = false → exec (.br g) s = .next (t.precise g cause addr))) ∧
  (∀ (s : State) (g addr : Nat),
    let pc := (s.core_ g).pc
    s.precise g 1 addr = (s.setSpr g 0x24 pc).exception g 1 pc ∧
    s.precise g 2 addr = ((s.setSpr g 0x24 pc).setSpr g 0x28 addr).exception g 2 pc) ∧
  (∀ (s : State) (g cause ret : Nat),
    let t := (s.setSpr g 0x20 cause).onCore g (fun c => { c with trap := none, halting := false })
    (bitOf ((t.core_ g).rawReg 0x2F) 5 = true → s.exception g cause ret = t.haltCore g cause) ∧
    (bitOf ((t.core_ g).rawReg 0x2F) 5 = false → s.exception g cause ret = t.onCore g (fun c =>
      (c.enter (0x10 * cause) ret).force 0x2F (bitSet ((c.enter (0x10 * cause) ret).rawReg 0x2F) 5)))) ∧
  (∀ (s : State) (g : Nat),
    let c := s.core_ g
    (s.spr g 0x128 ≠ 0 → c.insv.isSome = true → c.wdog = false → c.atBoundary = true → c.waiting = false →
      exec (.wdog g) s = .next ((s.setCore g { c.rtiDone with wdog := true }).exception g 3 c.pc)) ∧
    (s.spr g 0x128 = 0 ∨ c.insv = none ∨ c.wdog = true → exec (.wdog g) s = .next s)) ∧
  (∀ (s : State) (g : Nat), (s.spr g 0x10 ≠ 0 → exec (.coreTimerExpire g) s =
      .next ((s.setSpr g 0x10 0).setSpr g 0x18 (bitSet (s.spr g 0x18) 1))) ∧
    (s.spr g 0x10 = 0 → exec (.coreTimerExpire g) s = .next s)) ∧
  (∀ (s : State) (g : Nat) (v : Word), exec (.dbSend g v) s = .next (((List.range 8).filter (bitOf v.toNat)).foldl (fun s k =>
    (s.setSpr (8 * (g / 8) + k) 0x34 (bitSet (s.spr (8 * (g / 8) + k) 0x34) (g % 8))).setSpr (8 * (g / 8) + k) 0x18
      (bitSet (s.spr (8 * (g / 8) + k) 0x18) 2)) s)) ∧
  (∀ (s : State) (g next : Nat),
    let c := s.core_ g
    let d := { c with pc := next % 2 ^ 16, inBundle := none, loopEnd := none, bundle := c.bundle + 1 }
    c.branch = none → c.halting = false → c.trap = none →
    s.finish g next = s.setCore g { d with
      regs := (c.pend.filter (fun p => decide (p.due ≤ c.bundle))).foldl (fun t p => Tab.put coreRegReset t p.reg
        (p.apply (Tab.get coreRegReset t p.reg))) c.regs
      pend := c.pend.filter (fun p => !decide (p.due ≤ c.bundle)) })

/-- Cores: DONE, cluster DMA, CORE_CTL, CODE_LOAD and the cluster reset have their effect. For every state and operands
that meet the conditions named, exec answers the next state given. DONE with a move in service releases it, counts
CORE_BUSY and CLUS_MOVES, stops MOVE_CYC at a free value and, with a status other than OK, records DONE_ERR; a
draining core then stops; without a move it records BAD_PARAM in the CLUS page. DMA_GO appends a transfer of the
core's DMA registers when fewer than four are outstanding; DMA_TRANSFER_DONE of the oldest writes the bytes it moved
(with TIMEOUT a free number of words), counts them and sets DMA_STAT and, if asked, IPEND bit 0. CORE_START of a
STOPPED core wakes its cluster and restarts it at pc 0 with reset registers, keeping its special registers; CORE_STOP
abandons the move and returns the slot; CORE_DRAIN lets the move in service finish. CODE_LOAD without right, of a
cluster with a running core, or of a refused image answers so; a good one writes its segments and the measurements; a
poisoned or wrong one zeroes what was written. CLUS_RST clears the cluster, ends its contexts and restores its page. -/
def Obligations.CoreServicesAndControlAct : Prop :=
  (∀ (s : State) (g : Nat) (v : Word),
    let c := s.core_ g
    let st := v.toNat % 256
    let u := s.onCore g (fun c => { c with doneAt := some c.bundle })
    exec (.done g v) s = .next (match c.insv with
      | none => u.err (0x60000 + g / 8 * 0x1000) 3 g 0
      | some m =>
        let x := ((u.drawn.endService g).bump (Reg.CLUS_MOVES (g / 8))).onCore g (fun c => { c with moveCyc := s.free % 2 ^ 32 })
        let y := if st = 0 then x else ((x.bump Reg.TURN_DONE_ERR).irq 0x70000 3).err 0x70000 st m.flow 0
        if c.state = 3 then y.onCore g Core.stopped else y)) ∧
  (∀ (s : State) (g : Nat) (m : Move),
    let c := s.core_ g
    c.insv = some m →
    let u := ((s.setCore g { c with insv := none, mv := [] }).release m.flow).addN (Reg.CLUS_CORE_BUSY (g / 8) (g % 8))
      (s.time.us - c.takenAt)
    s.endService g = (
      if m.type = 3 then u.poolFree ((m.d0 + 2 ^ 32 - u.rn Reg.PRE_POOL_BASE * 0x100000 % 2 ^ 32) % 2 ^ 32 / 2048)
      else if m.type = 4 then u.sageFree m.flow (m.d0 % 256) else u)) ∧
  (∀ (s : State) (g : Nat) (v : Word), ((s.core_ g).dma.length < 4 → exec (.dmaGo g v) s = .next (s.onCore g (fun c => { c with
      dma := c.dma ++ [⟨s.spr g 0x300 + 2 ^ 32 * s.spr g 0x304, s.spr g 0x308 + 2 ^ 32 * s.spr g 0x30C, s.spr g 0x310,
        v.toNat / 2 ^ 16 % 2 ^ 16, bitOf v.toNat 8⟩] }))) ∧
    (4 ≤ (s.core_ g).dma.length → exec (.dmaGo g v) s = .next s)) ∧
  (∀ (s : State) (g : Nat), (s.core_ g).dma = [] → exec (.dmaTransferDone g) s = .next s) ∧
  (∀ (s : State) (g : Nat) (d : CDma) (l : List CDma), (s.core_ g).dma = d :: l →
    (s.dmaStatus (g / 8) d = none → exec (.dmaTransferDone g) s = .next s) ∧
    (∀ st, s.dmaStatus (g / 8) d = some st →
      let n := if st = 3 then 0 else if st = 0x0C then s.free % (d.len / 4) * 4 else d.len
      let u := if st = 0x0C then s.drawn else s
      let t := (((u.wrDev d.dst (u.cleanBytes d.src n)).add64 (Reg.CLUS_DMA_BYTES_LO (g / 8)) n).onCore g
        (fun c => { c with dma := l })).setSpr g 0x318 (st * 2 ^ 24 + d.tag * 2 ^ 8)
      let x := if d.irq then t.setSpr g 0x18 (bitSet (t.spr g 0x18) 0) else t
      exec (.dmaTransferDone g) s = .next (
        if st = 0 then x else (x.bump (Reg.CLUS_DMA_ERR_CNT (g / 8))).irq (0x60000 + g / 8 * 0x1000) 1))) ∧
  (∀ (s : State) (cl : Nat) (d : CDma),
    let far := fun a => if inFar a d.len then s.farStatus a d.len else some 0
    s.dmaStatus cl d = (
      if d.src % 4 ≠ 0 ∨ d.dst % 4 ≠ 0 ∨ d.len % 4 ≠ 0 ∨ d.len < 4 ∨ 1048576 < d.len ∨
          s.dmaMapped cl d.src d.len = false ∨ s.dmaMapped cl d.dst d.len = false then some 3
      else if far d.src = some 0 ∧ far d.dst = some 0 then some (if s.poisoned d.src d.len then 0x0E else 0)
      else if far d.src = some 0x0C ∨ far d.dst = some 0x0C then some 0x0C
      else none)) ∧
  (∀ (s : State) (w : Win) (g : Nat), g < 128 → s.opens w (Reg.CLUS_CORE_CTL (g / 8) (g % 8)) true = true →
    let page := 0x60000 + g / 8 * 0x1000
    let a := Reg.CLUS_CORE_CTL (g / 8) (g % 8)
    let u := s.seenBy w
    let c := u.core_ g
    let disp := s.fld a 8 1 * 256
    let refused := (u.err page 2 (a - page) a).irq page 2
    exec (.coreStart w g) s = .next (
      if c.state = 0 then (((u.wake page).setCore g { state := 1, spr := c.spr, dma := c.dma, port := c.port }).setN
        (Reg.CLUS_HALT_INFO (g / 8) (g % 8)) 0).setN a disp
      else refused) ∧
    exec (.coreStop w g) s = .next (
      if c.state = 1 ∨ c.state = 2 ∨ c.state = 3 then
        (((u.abandonMove g).returnSlot g).onCore g Core.stopped).setN a disp
      else refused) ∧
    exec (.coreDrain w g) s = .next (
      if c.state = 1 then ((u.returnSlot g).onCore g (fun c =>
        if c.insv.isSome then { c with state := 3 } else c.stopped)).setN a disp
      else refused)) ∧
  (∀ (s : State) (g : Nat), s.abandonMove g = (
    if (s.core_ g).insv.isSome = true then (s.endService g).bump (Reg.CLUS_ABANDON (g / 8)) else s)) ∧
  (∀ (s : State) (g : Nat) (m : Move), (s.core_ g).slot = some m →
    let u := (s.setCore g { s.core_ g with slot := none }).release m.flow
    s.returnSlot g = { u with turn := { u.turn with
      ready := insertReady { m with wait := 0, levelAt := u.time.us - m.levelAt } u.turn.ready } }) ∧
  (∀ (c : Core), c.stopped = { c with
    state := 0, inBundle := none, branch := none, loopEnd := none, trap := none, halting := false, waiting := false }) ∧
  (∀ (s : State) (r : CmdRef) (addr clusters cores : Nat), s.cmdDue r 0xF8 = true →
    let u := s.begun r 0xF8
    let ans := fun (s : State) st => s.respondA r 0xF8 st [0xFFFFFFFF]
    let noRight := ans (u.audit (winNum r.win + 1) 4 0x0D [0xF8]) 4
    let total := leNat (u.rdBytes (addr + 0x10) 4)
    let cls := (List.range 16).filter (bitOf clusters)
    let gs := cls.flatMap (fun cl => ((List.range 8).filter (bitOf cores)).map (8 * cl + ·))
    let b := u.rdBytes addr total
    let st := u.checkSigned b 2
    let segs := segments b
    let v := cls.foldl (fun s cl => s.wake (0x60000 + cl * 0x1000)) u
    let zero := fun (s : State) (cls : List Nat) (l : List (Nat × Nat × Nat × Nat)) =>
      cls.foldl (fun s cl => l.foldl (fun s e => s.wrSegment cl cores e.1 e.2.2.2 (List.replicate e.2.2.1 0)) s) s
    let bad := fun (e : Nat × Nat × Nat × Nat) => v.poisoned (addr + e.2.1) e.2.2.1
    let written := match segs.find? bad with
      | some e => segs.takeWhile (fun e => !bad e) ++
          [(e.1, e.2.1, (firstFrom (fun i => v.poisoned (addr + e.2.1 + i) 1) e.2.2.1 0).getD 0, e.2.2.2)]
      | none => []
    exec (.codeLoad r addr clusters cores) s = .next (
      if u.commandRight r.win 0xF8 = false then noRight
      else if cls = [] ∨ cores % 256 = 0 ∨ addr % 8 ≠ 0 ∨ inNear addr 0x1600 = false ∨ inNear addr total = false then ans u 3
      else if gs.any (fun g => (u.core_ g).state != 0) = true then ans u 2
      else if st = 4 then noRight
      else if st ≠ 0 then ans u st
      else if segs.any (segBad (b.getD 7 0)) = true then ans u 3
      else if v.poisoned addr total = true then ans (zero v (cls.take 1) written) 0x0E
      else if containerDigest b ≠ slice b 0x140 32 then ans (zero v cls segs) 7
      else ans (cls.foldl (fun s cl => (segs.foldl (fun s e => s.wrSegment cl cores e.1 e.2.2.2 (slice b e.2.1 e.2.2.1))
        s).setMeas (1 + cl) (slice b 0x140 32)) v) 0)) ∧
  (∀ (s : State) (w : Win) (c : Nat), s.opens w (0x60000 + c * 0x1000 + 0x30) true = true →
    let u := s.seenBy w
    let v := ((((List.range 8).foldl (fun s k => ((s.abandonMove (8 * c + k)).returnSlot (8 * c + k)).setCore (8 * c + k) {}) u).eceClear
      c).sageClear c).ciphZero c
    let lost := (v.jbe.ctxs.filter (fun e => e.2.state != 0 && e.2.home == c)).map (fun e => (e.1, e.2.evq))
    let x := (lost.foldl (fun s e => s.endCtx e.1 3) v).ciphRebuild c
    exec (.clusRst w c) s = .next (((lost.foldl (fun s e => s.event e.2 0x81 [e.1, c, s.now % 2 ^ 32]) x).pageReset
      (0x60000 + c * 0x1000) (0x60000 + (c + 1) * 0x1000)).headerReset (0x60000 + c * 0x1000))) ∧
  (∀ (s : State) (c a : Nat), c < 16 → 0x60000 + c * 0x1000 ≤ a → a < 0x60000 + (c + 1) * 0x1000 → 0x100 ≤ a % 0x1000 →
    (s.pageReset (0x60000 + c * 0x1000) (0x60000 + (c + 1) * 0x1000)).reg a = regReset a)

/-- HOST: descriptors, rings, interrupt vectors, the MSI-X table and configuration space have their effect. For every
state and operands that meet the conditions named, exec answers the next state given. HOST_DMA_DESCRIPTOR of a channel
that owns a descriptor, its link up: one out of range ends with BAD_PARAM and no bytes; one whose far memory holds its
requests waits; a good one moves bytes from host memory to the device or back, all of LEN or those before an
unsupported request or completion timeout, with poison kept out; each end writes STATUS and DONE, moves HEAD on modulo
the ring, adds the bytes and raises COMPLETION when asked or failed. DMA_TAIL_WRITE takes a value inside the ring and
refuses another; RING_CFG_ENABLE clears HEAD and TAIL and is refused while enabled or with a size above 8;
DMA_STAT_READ clears COMPLETION. VECTOR_FIRE of an ARMED vector with an asserted source after HOLDOFF sends, or holds
its message while masked, and it becomes FIRED; VEC_REARM arms it and tries again; MSIX_TABLE_WRITE and
CONFIG_SPACE_WRITE release held messages. PCIE_LINK_UP shows generation and width. -/
def Obligations.HostDmaAndVectorsAct : Prop :=
  (∀ (s : State) (k st n : Nat) (bad : List (Nat × Nat)), k < 8 → s.dmaActive k = true → s.linkUp = true →
    let d := HostDesc.ofBytes (s.ringRead k (s.descAddr k) 32)
    let irq := bitOf d.ctl 1
    let fail := st = 0x0A ∨ st = 0x0C
    let m := if fail then min n d.len else d.len
    let zeroed := fun i => bad.any (fun b => decide (b.1 ≤ i ∧ i < b.1 + b.2))
    let bytes := rdList s.hostMem d.host m
    let moved := if bitOf d.ctl 0 then { s with hostMem := wrList s.hostMem d.host (s.cleanBytes d.dev m) }
      else s.wrDev d.dev ((bytes.zip (List.range bytes.length)).map (fun e => if zeroed e.2 then 0 else e.1))
    let poison := if bitOf d.ctl 0 then s.poisoned d.dev m else bad.any (fun b => decide (b.1 < m) && decide (0 < b.2))
    let told := (if st = 0x0A then moved.bump Reg.HOST_UR_CNT
      else if st = 0x0C then moved.bump Reg.HOST_CPL_TO_CNT else moved).addN Reg.HOST_POISON_CNT bad.length
    exec (.hostDmaDescriptor k st n bad) s = .next (
      if s.descBad d = true then s.descEnd k 3 0 irq
      else match (if inFar d.dev d.len then s.farStatus d.dev d.len else some 0) with
        | none => s
        | some 0 => told.descEnd k (if fail then st else if poison then 0x0E else 0) m irq
        | some f => s.descEnd k f 0 irq)) ∧
  (∀ (s : State) (k st n : Nat) (bad : List (Nat × Nat)), 8 ≤ k ∨ s.dmaActive k = false ∨ s.linkUp = false →
    exec (.hostDmaDescriptor k st n bad) s = .next s) ∧
  (∀ (s : State) (d : HostDesc), s.descBad d = true ↔ (d.host % 4 ≠ 0 ∨ d.dev % 4 ≠ 0 ∨ d.len % 4 ≠ 0 ∨ d.len = 0 ∨ 4194304 < d.len ∨
    3 < d.ctl ∨ s.devMapped d.dev d.len = false)) ∧
  (∀ (s : State) (k st m : Nat) (irq : Bool),
    let t := s.ringWrite k (s.descAddr k + 24) [st, 1]
    let u := ((t.setN (Reg.HOST_HEAD k) ((t.rn (Reg.HOST_HEAD k) + 1) % t.hostRingN k)).add64 (Reg.HOST_BYTES_LO k) m).setFld
      (Reg.HOST_STAT k) 0 8 st
    let v := if irq = true ∨ st ≠ 0 then u.setFld (Reg.HOST_STAT k) 8 1 1 else u
    s.descEnd k st m irq = if st = 0 then v else v.bump (Reg.HOST_ERR_CNT k)) ∧
  (∀ (s : State) (w : Win) (k : Nat) (v : Word), k < 8 →
    let u := s.seenBy w
    let bad := fun st a => (u.err 0xC0000 st (a - 0xC0000) a).irq 0xC0000 1
    let c := v ||| 0x80000000#32
    let x := u.setReg (Reg.HOST_RING_CFG k) (c &&& 0xC00F0000#32)
    (s.opens w (Reg.HOST_TAIL k) true = true → exec (.dmaTailWrite w k v) s = .next (
      if v.toNat % 4096 < u.hostRingN k then u.setN (Reg.HOST_TAIL k) (v.toNat % 4096) else bad 3 (Reg.HOST_TAIL k))) ∧
    (s.opens w (Reg.HOST_RING_CFG k) true = true → exec (.ringCfgEnable w k v) s = .next (
      if u.bit (Reg.HOST_RING_CFG k) 31 = true then bad 2 (Reg.HOST_RING_CFG k)
      else if 8 < fieldOf c.toNat 16 4 then bad 3 (Reg.HOST_RING_CFG k)
      else (x.setN (Reg.HOST_HEAD k) 0).setN (Reg.HOST_TAIL k) 0)) ∧
    (s.opens w (Reg.HOST_STAT k) false = true → exec (.dmaStatRead w k) s = .next (
      ({ u with rdata := w32 (u.rn (Reg.HOST_STAT k) + (if u.dmaActive k then 2 ^ 31 else 0)) } : State).setFld
        (Reg.HOST_STAT k) 8 1 0))) ∧
  (∀ (s : State) (v dus : Nat), exec (.vectorFire v dus) s =
    .next (({ s with time := { s.time with us := s.time.us + dus } } : State).vecTry v)) ∧
  (∀ (s : State) (v : Nat),
    let t := { s with host := { s.host with fired := bitSet s.host.fired v } }
    s.vecTry v = (
      if 64 ≤ v ∨ bitOf s.host.fired v = true ∨ s.vecOn v = false ∨ s.holdoffOk v = false then s
      else if t.vecHeld v = true then { t with host := { t.host with pba := bitSet t.host.pba v } }
      else t.vecSend v)) ∧
  (∀ (s : State) (v : Nat),
    let a := Reg.HOST_MSIX_TABLE (4 * v)
    s.vecSend v = { s with host := { s.host with
      pba := bitClear s.host.pba v
      lastMsg := Tab.put (fun _ => none) s.host.lastMsg v (some (s.time.us, s.rn a + 2 ^ 32 * s.rn (a + 4), s.rn (a + 8))) } }) ∧
  (∀ (s : State) (v : Nat), (s.vecOn v = true ↔ ∃ k, k < 44 ∧ s.srcEn k = true ∧ s.fld (Reg.HOST_SRC_MAP k) 0 6 = v ∧ s.srcOn k = true) ∧
    (s.vecHeld v = true ↔ s.host.msixEn = false ∨ s.host.msixMask = true ∨ s.bit (Reg.HOST_MSIX_TABLE (4 * v + 3)) 0 = true)) ∧
  (∀ (s : State) (w : Win) (v : Word), s.opens w Reg.HOST_VEC_REARM true = true →
    let u := s.seenBy w
    exec (.vecRearm w v) s = .next (({ u with host := { u.host with
      fired := bitClear u.host.fired (v.toNat % 64) } } : State).vecTry (v.toNat % 64))) ∧
  (∀ (s : State) (w : Win) (a : Nat) (v : Word) (en mask d3 : Bool),
    let u := s.seenBy w
    let release := fun (s : State) => (List.range 64).foldl (fun s v =>
      if bitOf s.host.pba v && !s.vecHeld v then s.vecSend v else s) s
    (s.opens w a true = true → exec (.msixTableWrite w a v) s =
      .next (if 0xC1400 ≤ a ∧ a < 0xC1800 ∧ a % 4 = 0 then release (u.setReg a v) else u)) ∧
    exec (.configSpaceWrite en mask d3) s = .next (release
      { s with host := { s.host with msixEn := en, msixMask := mask, d3 := d3 } })) ∧
  (∀ (s : State) (gen width : Nat), 1 ≤ gen → gen ≤ 4 → 1 ≤ width → width ≤ 2 → exec (.pcieLinkUp gen width) s =
    .next (s.setN Reg.HOST_HOST_STAT (2 ^ 31 + gen * 2 ^ 24 + width * 2 ^ 16)))

/-- Device resets, block resets of TOP, JBE, HOST, PWR and MISC, power states and temperature have their effect. For every
state and operands that meet the conditions named, exec answers the next state given. COLD_RESET leaves OTP, far
memory, host memory and pins and puts everything else at reset; WARM_RESET and SW_WARM with its key also keep the HOST
block and RST_CAUSE with their bit set, DMA off, as does any other value of SW_WARM nothing; PCIE_HOT_RESET closes the
sessions, resets HOST apart from MSI-X table and counter, and posts 0x70. TOP_RST is refused; JBE_RST is refused with
a context open; HOST_RST, PWR_RST and MISC_RST restore their headers and idle their controllers. BLOCK_SLEEP deepens a
state that SLEEP_ALLOW and R367 permit, BLOCK_WAKE returns to RUN. TEMP_SAMPLE stores the readings and raises or
clears ALARM with its event under THRESH and HYST; THERMTRIP drives its pin low. -/
def Obligations.ResetsPowerAndTemperatureAct : Prop :=
  (∀ s : State, exec .coldReset s = .next { State.reset with
    mem := Tab.drop (fun a => !farAddr a) s.mem
    poison := Tab.drop (fun k => !farAddr (64 * k)) s.poison
    hostMem := s.hostMem, rdata := s.rdata, draws := s.draws, time := { us := s.time.us }, rook := { otp := s.rook.otp }
    ciph := { ckGen := s.ciph.ckGen }, host := { gpioIn := s.host.gpioIn }, pending := s.pending }) ∧
  (∀ (s : State) (cause : Nat),
    let t := { s.restart with
      regs := Tab.drop (fun a => !((decide (0xC0000 ≤ a ∧ a < 0xC4000)) || a == Reg.TOP_RST_CAUSE)) s.regs
      host := { gpioIn := s.host.gpioIn, d3 := s.host.d3, msixEn := s.host.msixEn, msixMask := s.host.msixMask, fired := s.host.fired
                pba := s.host.pba, lastMsg := s.host.lastMsg, trip := s.host.trip } }
    let u := (List.range 8).foldl (fun s k => s.setFld (Reg.HOST_RING_CFG k) 31 1 0) t
    exec .warmReset s = .next (s.warmReset 1) ∧
    s.warmReset cause = u.setN Reg.TOP_RST_CAUSE (bitSet (t.rn Reg.TOP_RST_CAUSE) cause)) ∧
  (∀ (s : State) (w : Win) (v : Word), s.opens w Reg.TOP_SW_WARM true = true →
    exec (.swWarm w v) s = .next (if v = 0x5A5A0002#32 then (s.seenBy w).warmReset 2 else s.seenBy w)) ∧
  (∀ (s : State),
    let u := ((s.sessClose .operator 3).sessClose .installer 3).sessClose .maker 3
    let n := u.rn Reg.HOST_HOT_RST_CNT + 1
    let v := (List.range 8).foldl (fun s k => (s.setN (Reg.HOST_HEAD k) 0).setN (Reg.HOST_TAIL k) 0)
      ((List.range 8).foldl (fun s k => s.setFld (Reg.HOST_RING_CFG k) 31 1 0) u)
    let x := (({ v.resetRegs (fun a => decide (0xC0000 ≤ a ∧ a < 0xC2000) || decide (0xC3000 ≤ a ∧ a < 0xC4000)) with
      host := { v.host with d3 := false, msixEn := false, msixMask := false, fired := 0, pba := 0, lastMsg := [] } } : State).setN
        Reg.HOST_HOT_RST_CNT n).irq 0xC0000 0
    let y := x.setN Reg.TOP_RST_CAUSE (bitSet (x.rn Reg.TOP_RST_CAUSE) 3)
    exec .pcieHotReset s = .next (y.event (y.rn Reg.HOST_EVQ) 0x80 [0x70, n % 2 ^ 32])) ∧
  (∀ (s : State) (w : Win), s.opens w 0x30 true = true → exec (.topRst w) s =
    .next (((s.seenBy w).err 0 3 0x30 0x30).setN 0x34 2)) ∧
  (∀ (s : State) (w : Win), s.opens w 0x80030 true = true →
    let u := s.seenBy w
    exec (.jbeRst w) s = .next (
      if u.anyCtx = true then (u.err 0x80000 2 0x30 0x80030).setN 0x80034 2
      else (u.headerReset 0x80000).resetRegs (fun a => decide (0x80100 ≤ a ∧ a < 0x81000) ||
        decide (Reg.JBE_CODEC_TBL 0x20 ≤ a ∧ a < Reg.JBE_CODEC_TBL 0x40)))) ∧
  (∀ (s : State) (w : Win), s.opens w 0xC0030 true = true →
    let u := (List.range 8).foldl (fun s k =>
      if s.dmaActive k && (s.ringNear k || s.linkUp) then s.ringWrite k (s.descAddr k + 24) [9, 1] else s) (s.seenBy w)
    let v := (u.headerReset 0xC0000).resetRegs (fun a => decide (0xC0000 ≤ a ∧ a < 0xC4000 ∧ 0x100 ≤ a % 0x1000) &&
      a != Reg.HOST_HOST_STAT && !decide (0xC1400 ≤ a ∧ a < 0xC1800))
    exec (.hostRst w) s = .next { v with host := { v.host with fired := 0, pba := 0, lastMsg := [] } }) ∧
  (∀ (s : State) (w : Win), s.opens w 0xD0030 true = true →
    let v := ((s.seenBy w).headerReset 0xD0000).resetRegs (fun a => a == Reg.PWR_PWR_CFG || a == Reg.PWR_EVQ)
    exec (.pwrRst w) s = .next { v with host := { v.host with alarm := false, peak := none } }) ∧
  (∀ (s : State) (w : Win), s.opens w 0xE0030 true = true →
    let v := ((s.seenBy w).headerReset 0xE0000).setN Reg.MISC_GPIO_DIR 0
    exec (.miscRst w) s = .next { v with host := { v.host with spi := none, i2c := [], uartTx := [] } }) ∧
  (∀ (s : State) (p : Nat → Bool) (page a : Nat),
    (p a = true → (s.resetRegs p).reg a = regReset a) ∧
    s.headerReset page = (s.resetRegs (fun a => decide (page ≤ a ∧ a < page + 0x2C))).setN (page + 0x34) 1) ∧
  (∀ (s : State) (page st : Nat), exec (.blockSleep page st) s = .next (match pageInfo page with
    | some i => if 1 ≤ st ∧ st ≤ 3 ∧ s.bit (i.first + 8) st = true ∧ s.power i.first < st ∧ s.maySleep i st = true then
        s.setFld (i.first + 0x0C) 4 2 st else s
    | none => s)) ∧
  (∀ (s : State) (page : Nat), exec (.blockWake page) s = .next (match pageInfo page with
    | some i => s.wake i.first
    | none => s)) ∧
  (∀ (s : State) (page : Nat), s.power page ≠ 3 → s.wake page = s.setFld (page + 0x0C) 4 2 0) ∧
  (∀ (s : State) (l : List Int),
    let t := ((List.range 8).zip l).foldl (fun s e => s.setN (Reg.PWR_TEMP e.1) (unsigned 9 e.2)) s
    let hot := (List.range 8).foldl (fun b i => if t.temp b < t.temp i then i else b) 0
    let m := t.temp hot
    let x := t.setN Reg.PWR_TEMP_MAX (unsigned 9 m)
    let u := { x with host := { x.host with peak := some (match x.host.peak with | some p => max p m | none => m) } }
    let thr : Int := u.fld Reg.PWR_PWR_CFG 16 8
    let hyst : Int := u.fld Reg.PWR_PWR_CFG 24 4
    let on := ({ u with host := { u.host with alarm := true } } : State).irq 0xD0000 0
    let off := ({ u with host := { u.host with alarm := false } } : State).irq 0xD0000 1
    exec (.tempSample l) s = .next (
      if u.host.alarm = false ∧ thr ≤ m then on.event (on.rn Reg.PWR_EVQ) 0x80 [0x60, 1, hot, unsigned 32 (on.temp hot)]
      else if u.host.alarm = true ∧ m < thr - hyst then
        off.event (off.rn Reg.PWR_EVQ) 0x80 [0x60, 0, hot, unsigned 32 (off.temp hot)]
      else u)) ∧
  (∀ s : State, exec .thermtrip s = .next { s with host := { s.host with trip := true } })

/-- MISC: SPI, UART, I²C and GPIO commands have their effect. For every state and operands that meet the conditions named,
exec answers the next state given. Once Rook has released the SPI controller: SPI_READ, SPI_PROGRAM, SPI_ERASE and
SPI_REGISTER_READ start their operation with a length of 1 to 256 (an erase needs none), or leave BUSY or BAD_PARAM in
SPI_STAT; before that they record BUSY. SPI_DONE leaves the bytes of a read and raises the cause. UART_TX queues a
byte unless 16 wait; UART_RX pops the oldest with VALID, or 0; UART_RX_BYTE keeps a byte that arrives, loses it with
OVR, or drops it with FRM; UART_TX_BYTE sends the oldest. I2C_READ and I2C_WRITE of an enabled controller start 1 to
32 bytes, and are refused with BUSY or BAD_PARAM in I2C_STAT; I2C_DONE gives count and status. GPIO_EDGE takes the
board's levels and sets GPIO_HIT for enabled edges. -/
def Obligations.MiscControllersAct : Prop :=
  (∀ (s : State) (w : Win) (v : Word), s.opens w Reg.MISC_SPI_CMD true = true →
    let u := s.seenBy w
    let n := u.fld Reg.MISC_SPI_LEN 0 9
    let go := fun op =>
      if u.bit Reg.ROOK_BOOT_STAT 31 = false then u.err 0xE0000 2 (Reg.MISC_SPI_CMD - 0xE0000) Reg.MISC_SPI_CMD
      else if u.host.spi.isSome = true then u.setN Reg.MISC_SPI_STAT 2
      else if op ≠ 2 ∧ (n = 0 ∨ 256 < n) then u.setN Reg.MISC_SPI_STAT 3
      else { u with host := { u.host with spi := some (op, fieldOf v.toNat 16 8) } }
    exec (.spiRead w v) s = .next (go 0) ∧ exec (.spiProgram w v) s = .next (go 1) ∧ exec (.spiErase w v) s = .next (go 2) ∧
    exec (.spiRegisterRead w v) s = .next (go 3)) ∧
  (∀ (s : State) (op x st : Nat) (data : List Nat), s.host.spi = some (op, x) →
    let t := if st = 0 ∧ (op = 0 ∨ op = 3) then s.bufPut (Reg.MISC_SPI_BUF 0) (slice data 0 (s.fld Reg.MISC_SPI_LEN 0 9)) else s
    exec (.spiDone st data) s = .next ((({ t with host := { t.host with spi := none } } : State).setN Reg.MISC_SPI_STAT
      (if st = 0 then 0 else 0x0C)).irq 0xE0000 0)) ∧
  (∀ (s : State) (w : Win) (v : Word), s.opens w Reg.MISC_UART_TX true = true →
    let u := s.seenBy w
    exec (.uartTx w v) s = .next (
      if 16 ≤ u.host.uartTx.length then u
      else { u with host := { u.host with uartTx := u.host.uartTx ++ [v.toNat % 256] } })) ∧
  (∀ (s : State) (w : Win), s.opens w Reg.MISC_UART_RX false = true →
    let u := s.seenBy w
    exec (.uartRx w) s = .next (match u.host.uartRx with
      | b :: r => { u with rdata := w32 (256 + b), host := { u.host with uartRx := r } }
      | [] => { u with rdata := 0 })) ∧
  (∀ (s : State) (b : Nat) (framing : Bool), exec (.uartRxByte b framing) s = .next (
    if s.bit Reg.MISC_UART_CFG 31 = false then s
    else if framing = true then { s with host := { s.host with uartFrm := true } }
    else if 16 ≤ s.host.uartRx.length then { s with host := { s.host with uartOvr := true } }
    else ({ s with host := { s.host with uartRx := s.host.uartRx ++ [b % 256] } } : State).irq 0xE0000 1)) ∧
  (∀ (s : State) (b : Nat) (r : List Nat), s.bit Reg.MISC_UART_CFG 31 = true → s.host.uartTx = b :: r →
    let t := { s with host := { s.host with uartTx := r } }
    exec .uartTxByte s = .next (if r = [] then t.irq 0xE0000 2 else t)) ∧
  (∀ (s : State), s.bit Reg.MISC_UART_CFG 31 = false ∨ s.host.uartTx = [] → exec .uartTxByte s = .next s) ∧
  (∀ (s : State) (w : Win) (i : Nat) (v : Word), i < 2 → s.opens w (Reg.MISC_I2C_CMD i) true = true →
    let u := s.seenBy w
    let n := v.toNat % 64
    let go := fun rd =>
      if u.bit (Reg.MISC_I2C_CFG i) 31 = false then u
      else if (u.i2c_ i).isSome = true then u.setFld (Reg.MISC_I2C_STAT i) 8 8 2
      else if n = 0 ∨ 32 < n then u.setFld (Reg.MISC_I2C_STAT i) 8 8 3
      else (u.setN (Reg.MISC_I2C_STAT i) 0).setI2c i (some (rd, fieldOf v.toNat 8 7, n))
    exec (.i2cRead w i v) s = .next (go true) ∧ exec (.i2cWrite w i v) s = .next (go false)) ∧
  (∀ (s : State) (i st n len a : Nat) (rd : Bool) (data : List Nat), s.i2c_ i = some (rd, a, len) →
    let m := if st = 0 then len else min n len
    let t := if rd then s.bufPut (Reg.MISC_I2C_BUF i 0) (slice data 0 m) else s
    exec (.i2cDone i st n data) s = .next (((t.setI2c i none).setN (Reg.MISC_I2C_STAT i) (m + (if st = 0 then 0
      else if st = 0x0A then 0x0A else 0x0C) * 256)).irq 0xE0000 (3 + i))) ∧
  (∀ (s : State) (a : Nat) (l : List Nat), s.bufPut a l = (l.zip (List.range l.length)).foldl (fun s e =>
    s.setFld (a + 4 * (e.2 / 4)) (8 * (e.2 % 4)) 8 e.1) s) ∧
  (∀ (s : State) (levels : Nat),
    let t := { s with host := { s.host with gpioIn := levels % 65536 } }
    let e := t.rn Reg.MISC_GPIO_EDGE
    let hit := (t.gpioPins &&& (s.gpioPins ^^^ 0xFFFF) &&& e % 65536) ||| (s.gpioPins &&& (t.gpioPins ^^^ 0xFFFF) &&& e / 65536)
    exec (.gpioEdge levels) s = .next (
      if hit = 0 then t else (t.setN Reg.MISC_GPIO_HIT (t.rn Reg.MISC_GPIO_HIT ||| hit)).irq 0xE0000 5)) ∧
  (∀ (s : State), s.gpioPins = (s.fld Reg.MISC_GPIO_DIR 0 16 &&& s.fld Reg.MISC_GPIO_OUT 0 16) |||
    ((s.fld Reg.MISC_GPIO_DIR 0 16 ^^^ 0xFFFF) &&& s.host.gpioIn))

/-- A step runs the command at the front of the queue on the state with the rest waiting, and idles on an empty queue. For
every state s, command c and rest l of the queue: step of s with c :: l pending is exec of c on s with l pending; with
no command pending the step answers s itself (the model's choice, log 2). No well-formedness is asked: step runs what
the queue holds. -/
def Obligations.StepRunsTheFrontCommand : Prop :=
  (∀ (s : State) (c : Instr) (l : List Instr), step { s with pending := c :: l } = exec c { s with pending := l }) ∧
  (∀ s : State, s.pending = [] → step s = .next s) ∧
  (∀ (s : State) (c : Instr) (l : List Instr), s.pending = c :: l → step s = exec c { s with pending := l })

/-- R5: an access that is not 32 bits wide writes nothing, reads as all ones, and is recorded in TOP_ERR. For a live
device (Rook has read the OTP, the function is not in D3hot) and an access of another width through window w with byte
enables be to offset a: a write changes nothing but TOP_ERR; a read returns 0xFFFF_FFFF; while TOP_ERR holds no
earlier access its bit 31 is set and it records the direction in bit 30, the window in 29:28, the byte enables in
27:24 and the offset in 23:0; a later one leaves it as it stands. Registers of 32 bits are little-endian: byte i of a
register is its bits 8i + 7 to 8i. -/
def Obligations.WrongWidthAccessIsIgnoredAndRecorded : Prop :=
  (∀ (s : State) (w : Win) (wr : Bool) (be a : Nat), s.rook.otpRead = true → s.host.d3 = false → be < 16 → a < 2 ^ 24 →
    (s.bit Reg.TOP_TOP_ERR 31 = false → exec (.wrongWidthAccess w wr be a) s = .next (({ s with
      rdata := if wr then s.rdata else 0xFFFFFFFF } : State).setN Reg.TOP_TOP_ERR
        (2 ^ 31 + (if wr then 2 ^ 30 else 0) + winNum w * 2 ^ 28 + be * 2 ^ 24 + a))) ∧
    (s.bit Reg.TOP_TOP_ERR 31 = true → exec (.wrongWidthAccess w wr be a) s =
      .next { s with rdata := if wr then s.rdata else 0xFFFFFFFF })) ∧
  (∀ (s : State) (n : Nat), leNat (leBytes 4 n) = n % 2 ^ 32 ∧ ∀ a, leNat (leBytes 4 (s.rn a)) = s.rn a)

/-- Register rows: plain writes and their range checks, header writes, IRQ_FORCE, clearing and snapshot reads, denied
reads. For every state and operands that meet the conditions named, exec answers the next state given. For an access
that the gate lets through: REGISTER_WRITE of a PWR register in range stores its RW bits and clears the W1C bits
written, out of range it is refused with CFG_ERR and BAD_PARAM; a write of IRQ_RAW clears the bits written, of IRQ_EN
stores the bits the block has, of an offset that is not 32-bit aligned or lies in no page nothing. IRQ_FORCE sets the
bits the block defines. CLEAR_ON_READ returns the value and clears it; COUNTER_LOW_READ returns the low word and holds
the high one, which a later read of it returns, and clears a statistic. A denied read returns all ones, counts
PROT_VIOL, shows VIOL_INFO and is audited; otherwise DENIED_READ reads. -/
def Obligations.RegisterAccessesAct : Prop :=
  (∀ (s : State) (w : Win) (a : Nat) (v : Word), s.opens w a true = true →
    let u := s.seenBy w
    exec (.registerWrite w a v) s = .next (u.regWrite w a v) ∧ (a % 4 ≠ 0 → u.regWrite w a v = u) ∧
    ((a < 0x400000 ∨ 0x500000 ≤ a) → pageInfo (a / 0x1000) = none → u.regWrite w a v = u) ∧
    (∀ r, 0xD0100 ≤ a → a < 0xD1000 → a % 4 = 0 → rowAt a = some r →
      (r.refuses v = false → u.regWrite w a v = u.setReg a ((u.reg a &&& ~~~(w32 r.w) &&& ~~~(v &&& w32 r.c)) ||| (v &&& w32 r.w))) ∧
      (r.refuses v = true → u.regWrite w a v = u.cfgErr 0xD0000 (some 2) 3 a)) ∧
    (∀ i, a % 4 = 0 → a < 0x400000 → pageInfo (a / 0x1000) = some i → i.pageNo = 0 →
      (a % 0x1000 = 0x10 → u.regWrite w a v = u.setReg (i.first + 0x10) (u.reg (i.first + 0x10) &&& ~~~v)) ∧
      (a % 0x1000 = 0x14 → u.regWrite w a v = u.setReg (i.first + 0x14) (v &&& w32 (irqMask i))))) ∧
  (∀ (s : State) (w : Win) (p : Nat) (v : Word) (i : PageInfo), s.opens w (p * 0x1000 + 0x1C) true = true → pageInfo p = some i →
    let u := s.seenBy w
    (i.pageNo = 0 → exec (.irqForce w p v) s = .next (u.setReg (i.first + 0x10)
      (u.reg (i.first + 0x10) ||| (v &&& w32 (irqMask i))))) ∧ (i.pageNo ≠ 0 → exec (.irqForce w p v) s = .next u)) ∧
  (∀ (s : State) (w : Win) (a : Nat), s.opens w a false = true → a % 4 = 0 → a < 0x100000 →
    let u := s.seenBy w
    readClears a = true → snapOf a = [] → (snapOf (a - 4)).contains a = false → a ≠ Reg.PWR_TEMP_PEAK →
    a / 0x10000 ≠ 2 → (a < 0xC2100 ∨ 0xC2300 ≤ a) → a ≠ Reg.MISC_UART_RX → Tab.get (fun _ => none) u.host.snap a = none →
    exec (.clearOnRead w a) s = .next (({ u with rdata := u.regView w a, draws := u.draws + 1 } : State).setN a 0)) ∧
  (∀ (s : State) (w : Win) (a h : Nat), s.opens w a false = true → snapOf a = [h] →
    let u := s.seenBy w
    let t := { u with rdata := u.regView w a, draws := u.draws + 1, host := { u.host with
      snap := Tab.put (fun _ => none) u.host.snap h (some (u.regView w h).toNat) } }
    (readClears a = false → exec (.counterLowRead w a) s = .next t) ∧
    (readClears a = true → exec (.counterLowRead w a) s = .next ((t.setN a 0).setN h 0))) ∧
  (∀ (s : State) (w : Win) (h v : Nat), s.opens w h false = true → h % 4 = 0 → h < 0xC0000 → h / 0x10000 ≠ 2 →
    let u := s.seenBy w
    snapOf h = [] → Tab.get (fun _ => none) u.host.snap h = some v → exec (.deniedRead w h) s = .next { u with rdata := w32 v }) ∧
  (∀ (s : State) (w : Win) (a : Nat), s.rook.otpRead = true → s.host.d3 = false → (s.seenBy w).allowed w a false = false →
    let u := s.seenBy w
    let t := (((u.bump Reg.PROT_PROT_VIOL).irq 0x3000 0).setN Reg.PROT_VIOL_INFO (winNum w * 2 ^ 30 + a / 0x1000))
    let x := ({ t with rdata := 0xFFFFFFFF } : State).audit (winNum w + 1) 4 0x0E (leBytes 2 (a / 0x1000) ++ leBytes 4 1)
    exec (.deniedRead w a) s = .next (u.denied w a false) ∧
    (Tab.get (fun _ => none) u.rook.viol (winNum w) = none →
      u.denied w a false = { x with rook := { x.rook with
        viol := Tab.put (fun _ => none) x.rook.viol (winNum w) (some (u.now, 0)) } }))

/-- R334: ROLLBACK_SET burns the thermometer code up to n, refuses a step out of range, and never lowers the step. A
ROLLBACK_SET n that is due, through the installer window in PROVISIONED (lc 2) or DEPLOYED (lc 3), or through the
maker window in MANUFACTURE (lc 1): with n above 128 or below the step it answers BAD_PARAM and burns nothing; else,
with VDDOTP good, it burns bits 0 to n − 1 of the 128 rollback bits and answers OK, and on an OTP whose step is a
thermometer code the step is then n. From any other role or state it is refused with NO_RIGHTS. Whatever it answers,
with the OTP in canonical form, the step after is at least the step before. -/
def Obligations.RollbackSetNeverLowersTheStep : Prop :=
  (∀ (s : State) (r : CmdRef) (n : Nat) (vdd : Bool), s.cmdDue r 0xF3 = true →
    (r.win = .installer ∧ (s.rook.lc = 2 ∨ s.rook.lc = 3)) ∨ (r.win = .maker ∧ s.rook.lc = 1) →
    let b := s.begun r 0xF3
    (128 < n ∨ n < s.rollback → exec (.rollbackSet r n vdd) s = .next (b.respondA r 0xF3 3 [0xFFFFFFFF])) ∧
    (n ≤ 128 → s.rollback ≤ n → vdd = true → exec (.rollbackSet r n vdd) s =
      .next ((b.burn 0x10 (leBytes 16 (2 ^ n - 1))).respondA r 0xF3 0 [0xFFFFFFFF])) ∧
    (n ≤ 128 → s.rollback ≤ n → vdd = false → exec (.rollbackSet r n vdd) s = .next (b.respondA r 0xF3 13 [0xFFFFFFFF]))) ∧
  (∀ (s : State) (r : CmdRef) (n : Nat) (vdd : Bool), s.cmdDue r 0xF3 = true → ¬ ((r.win = .installer ∧ (s.rook.lc = 2 ∨ s.rook.lc = 3)) ∨
      (r.win = .maker ∧ s.rook.lc = 1)) →
    exec (.rollbackSet r n vdd) s = .next (((s.begun r 0xF3).noRights r.win 0xF3).respondA r 0xF3 4 [0xFFFFFFFF])) ∧
  (∀ (s : State) (n : Nat), Memory.wf s.rook.otp = true → s.otpBytes 0x10 16 = leBytes 16 (2 ^ s.rollback - 1) → n ≤ 128 →
    s.rollback ≤ n → (s.burn 0x10 (leBytes 16 (2 ^ n - 1))).rollback = n) ∧
  (∀ (s t : State) (r : CmdRef) (n : Nat) (vdd : Bool), Memory.wf s.rook.otp = true → exec (.rollbackSet r n vdd) s = .next t →
    s.rollback ≤ t.rollback)

/-- The first error of a page is kept and all are counted; causes, events and responses are recorded. In a state whose
registers are in canonical form: an error with status st, detail d and address a on a page with ERR_INFO 0 writes
ERR_INFO and ERR_ADDR; on one that holds an error it leaves both; ERR_COUNT rises by one and saturates at 0xFFFF_FFFF.
A cause sets its bit of IRQ_RAW and no other register. An event for queue field q of a page joins the outbox for event
queue 16 + q; the response to a command in progress carries tag, opcode and status to event queue q + 16 of its
command queue q and ends it, and is marked as lost when that queue has been disabled since; a command no longer in
progress receives none. A system event is code 0x80 with its number first. -/
def Obligations.ErrorsInterruptsEventsAndResponsesAreRecorded : Prop :=
  (∀ (s : State) (p st d a : Nat), s.canonical = true → p % 0x1000 = 0 → st < 256 → d < 2 ^ 24 → a < 2 ^ 32 →
    (s.rn (p + 0x20) = 0 → (s.err p st d a).rn (p + 0x20) = st + d * 256 ∧ (s.err p st d a).rn (p + 0x24) = a) ∧
    (s.rn (p + 0x20) ≠ 0 → (s.err p st d a).rn (p + 0x20) = s.rn (p + 0x20) ∧ (s.err p st d a).rn (p + 0x24) = s.rn (p + 0x24)) ∧
    (s.err p st d a).rn (p + 0x28) = (if s.rn (p + 0x28) = 0xFFFFFFFF then 0xFFFFFFFF else s.rn (p + 0x28) + 1) ∧
    ∀ k, k ≠ p + 0x20 → k ≠ p + 0x24 → k ≠ p + 0x28 → (s.err p st d a).rn k = s.rn k) ∧
  (∀ (s : State) (p b : Nat), s.canonical = true → b < 32 → (s.irq p b).bit (p + 0x10) b = true ∧
    (∀ b', b' ≠ b → b' < 32 → (s.irq p b).bit (p + 0x10) b' = s.bit (p + 0x10) b') ∧ ∀ k, k ≠ p + 0x10 → (s.irq p b).rn k = s.rn k) ∧
  (∀ (s : State) (q code num : Nat) (l : List Nat), q < 16 →
    s.event q code l = { s with qm := { s.qm with outbox := s.qm.outbox ++ [⟨none, 16 + q, code, l.map w32, false⟩] } } ∧
    s.sysEvent q num l = s.event q 0x80 (num :: l)) ∧
  (∀ (s : State) (r : CmdRef) (op st : Nat) (l : List Nat), r.q < 16 →
    let mine := fun (t : Taken) => t.q == r.q && t.tag == r.tag && t.op == op
    (∀ t, s.qm.taken.find? mine = some t → s.respond r op st l = { s with qm := { s.qm with
      taken := s.qm.taken.eraseP mine, outbox := s.qm.outbox ++ [⟨some (st, r.tag), 16 + r.q, op, l.map w32, t.orphan⟩] } }) ∧
    (s.qm.taken.find? mine = none → s.respond r op st l = s))

/-- A register or a byte of memory reads back what was written to it, and every other one as before. In a state in
canonical form: a register reads as the 32-bit value last written to it, and every other register is unchanged; a byte
of device memory reads as the low eight bits written, and every other byte is unchanged; bytes written from an address
up read back in order, the bytes outside them as before, with the addresses in order and no wrap. Both writes keep the
canonical form, and so does marking or clearing a poisoned line. -/
def Obligations.RegistersAndMemoryReadBackWhatIsWritten : Prop :=
  (∀ (s : State) (a n : Nat), s.canonical = true → (s.setN a n).rn a = n % 2 ^ 32 ∧ (∀ b, b ≠ a → (s.setN a n).reg b = s.reg b) ∧
    (s.setN a n).canonical = true ∧ (s.setN a n).mem = s.mem) ∧
  (∀ (s : State) (a n : Nat), s.canonical = true → (s.wr8 a n).rd8 a = n % 256 ∧ (∀ b, b ≠ a → (s.wr8 a n).rd8 b = s.rd8 b) ∧
    (s.wr8 a n).canonical = true ∧ (s.wr8 a n).regs = s.regs) ∧
  (∀ (s : State) (a : Nat) (l : List Nat), s.canonical = true → (s.wrBytes a l).rdBytes a l.length = l.map (· % 256) ∧
    (∀ b, b < a ∨ a + l.length ≤ b → (s.wrBytes a l).rd8 b = s.rd8 b) ∧ (s.wrBytes a l).canonical = true) ∧
  (∀ (s : State) (a : Nat) (b : Bool), s.canonical = true → (s.setPoison a b).canonical = true ∧
    ∀ k, Tab.get (fun _ => false) (s.setPoison a b).poison k = (if k = a / 64 then b else Tab.get (fun _ => false) s.poison k))

/-- Right after reset: every register at its reset value, no memory listed, no command waiting, and the canonical form.
The state after reset lists no register away from its reset value and no byte of device, host or OTP memory, has no
command waiting, no session open, FTIME and FPHASE 0, every core STOPPED and every context CLOSED, THERMTRIP released,
and is in canonical form. Reset values of the header: CTRL is 3 on the first page of TIME and 2 on a MAC page,
RST_STAT, ERR_INFO and ERR_COUNT are 0; of the protection table: the live and staged entries of R344, with entry 0
opening TOP for reading to the operator; of the core registers: P7 is 0x01_8000 and MODE is 1. Values that the spec
leaves open are named in the log and appear in no clause. -/
def Obligations.ResetHoldsTheSpecValues : Prop :=
  (∀ a, State.reset.reg a = regReset a) ∧ State.reset.canonical = true ∧ State.reset.pending = [] ∧
  (∀ a, State.reset.rd8 a = 0) ∧ (∀ a, State.reset.otpB a = 0) ∧ (∀ w, (State.reset.sess_ w).open_ = false) ∧
  State.reset.time.ftime = 0 ∧ State.reset.time.fphase = 0 ∧ (∀ g, (State.reset.core_ g).state = 0) ∧
  (∀ c, (State.reset.ctx_ c).state = 0) ∧ State.reset.host.trip = false ∧ State.reset.rn 0x8008 = 3 ∧ State.reset.rn 0x91008 = 2 ∧
  State.reset.rn 0x8034 = 0 ∧ State.reset.rn 0x8020 = 0 ∧ State.reset.rn 0x8028 = 0 ∧
  (∀ j, j < 128 → State.reset.reg (Reg.PROT_PROT_LIVE j) = State.reset.reg (Reg.PROT_PROT_STAGE j)) ∧
  State.reset.rn (Reg.PROT_PROT_LIVE 0) = 0x80000000 ∧ State.reset.rn (Reg.PROT_PROT_LIVE 1) = 0x3D ∧
  State.reset.rn (Reg.PROT_PROT_LIVE 2) = 0x80010001 ∧ State.reset.rn (Reg.PROT_PROT_LIVE 3) = 0x15 ∧
  State.reset.rn (Reg.PROT_PROT_LIVE 20) = 0x840F0400 ∧ State.reset.rn (Reg.PROT_PROT_LIVE 26) = 0 ∧
  (∀ g, (State.reset.core_ g).reg 0x17 = 0x018000 ∧ (State.reset.core_ g).mode = 1)

/-- Frame of the words that work on registers: nothing outside their own core changes, and no register their bundle does
not write. For each MAC, ALU, SHF and REG word, LEA, NOP, WAIT and each transfer word, issued by core g
(State.toIssue) with neither a trap nor a halt of the other word of its bundle waiting: the next state has the memory,
host memory, registers of the register space, poison, PRAM, OTP, queues and pending commands of the state before,
every other core as it was, and core g with its special registers, prefetch slot, move in service, MV words, cluster
DMA and queue port as they were. -/
def Obligations.RegisterWordsTouchNothingElse : Prop :=
  ∀ (s t u : State) (g b w : Nat) (c : Instr), s.toIssue g = some (b, w, t) → (s.core_ g).trap = none → (s.core_ g).halting = false →
    Tab.wf (fun _ => {}) s.core.cores = true →
    c ∈ [.mpy g, .mac g, .msu g, .add g, .sub g, .adds g, .subs g, .add2 g, .sub2 g, .adds2 g, .subs2 g, .and g, .or g, .xor g,
      .andn g, .min g, .max g, .abs g, .neg g, .cmp g, .aadd g, .asub g, .aneg g, .aabs g, .aclr g, .ald g, .aldh g, .amov g,
      .ash g, .lsh g, .rot g, .ashs g, .ash2 g, .aash g, .exp g, .exp16 g, .expb g, .expb2 g, .norm g, .aexp g, .anorm g, .asat g,
      .arnd g, .amv g, .lea g, .mov g, .ldi g, .ldih g, .nop g, .br g, .call g, .jmp g, .calli g, .rts g, .rti g, .loop g,
      .wait g] →
    exec c s = .next u → u.mem = s.mem ∧ u.hostMem = s.hostMem ∧ u.regs = s.regs ∧ u.poison = s.poison ∧ u.rook = s.rook ∧
      u.qm = s.qm ∧ u.pending = s.pending ∧ u.core.pram = s.core.pram ∧ (∀ k, k ≠ g → u.core_ k = s.core_ k) ∧
      (u.core_ g).spr = (s.core_ g).spr ∧ (u.core_ g).slot = (s.core_ g).slot ∧ (u.core_ g).insv = (s.core_ g).insv ∧
      (u.core_ g).mv = (s.core_ g).mv ∧ (u.core_ g).dma = (s.core_ g).dma ∧ (u.core_ g).port = (s.core_ g).port

/-- Every command completes, and the queue is served first in, first out. For every command c and state s: exec of c on s
answers a next state, with no fault and no refusal, and that state has the commands that were waiting and no other, in
their order. So a step from a state whose queue is c followed by l leaves l waiting, and after one step for each
command of a list the queue holds what stood behind the list. What each command does is stated command by command in
the other statements. -/
def Obligations.EveryCommandTakesEffectAndTheQueueIsInOrder : Prop :=
  (∀ (s : State) (c : Instr), ∃ t, exec c s = .next t ∧ t.pending = s.pending) ∧
  (∀ (s t : State) (c : Instr) (l : List Instr), s.pending = c :: l → step s = .next t → t.pending = l) ∧
  (∀ (s : State) (l r : List Instr), s.pending = l ++ r → ∃ t : State, Sys2Proof.core.run l.length s = .next t ∧ t.pending = r)

/-- An invariant of every step: memory, host memory, registers, poison marks and the OTP keep their one canonical form.
For every state s in canonical form (State.canonical: the sparse tables of device memory, host memory, registers,
poison marks and OTP bytes have strictly rising keys and no entry that equals what an unlisted key reads as) and every
next state t of step: t is in canonical form. The same holds of exec for every command, whatever is waiting. So two
states of a run with equal contents are equal data. That the state after reset is in canonical form is a clause of
ResetHoldsTheSpecValues. -/
def Obligations.EveryStepKeepsTheCanonicalForm : Prop :=
  (∀ s t : State, s.canonical = true → step s = .next t → t.canonical = true) ∧
  (∀ (s t : State) (c : Instr), s.canonical = true → exec c s = .next t → t.canonical = true)

/-- R327: no command clears a programmed OTP bit, so the lifecycle, the rollback step and the audit epoch only grow. For
every state s in canonical form, every command c, cold and warm resets among them, and the next state t of exec: every
bit of the OTP that s has programmed is programmed in t. So is every bit after a step of the queue. -/
def Obligations.ProgrammedBitsStaySet : Prop :=
  (∀ (s t : State) (c : Instr) (a i : Nat), s.canonical = true → exec c s = .next t → s.otpBit a i = true → t.otpBit a i = true) ∧
  (∀ (s t : State) (a i : Nat), s.canonical = true → step s = .next t → s.otpBit a i = true → t.otpBit a i = true)

/-- R371: THERMTRIP_L, once low, stays low through every command but a cold reset (PORST_L). THERMTRIP drives THERMTRIP_L
low whatever any register holds and changes nothing else. From any state in which it is low, every command but
COLD_RESET leaves it low, a warm reset and a PCIe hot reset among them; COLD_RESET (PORST_L) releases it. So a run
that holds no COLD_RESET keeps it low: this is so of each step whose front command is another one, and of a step that
finds no command. -/
def Obligations.ThermtripStaysLowUntilPorst : Prop :=
  (∀ s : State, exec .thermtrip s = .next { s with host := { s.host with trip := true } }) ∧
  (∀ (s t : State) (c : Instr), c ≠ .coldReset → s.host.trip = true → exec c s = .next t → t.host.trip = true) ∧
  (∀ s : State, ∃ t, exec .coldReset s = .next t ∧ t.host.trip = false) ∧
  (∀ s t : State, s.pending.head? ≠ some .coldReset → s.host.trip = true → step s = .next t → t.host.trip = true)

/-- R386: the output pins have their levels in reset, and follow the registers and events that the signal table names. In
the state after reset LOCKO, PPSOUT and BOOTDONE and SPI_RST_L are low, DSYNCO carries no pulse, XPERST0_L and
XPERST1_L are low, THERMTRIP_L and ALERT_L are released, no link drives LDO, and every GPIO pin has the level that the
board drives. In every state LOCKO is high exactly while DPLL_STAT.STATE is LOCKED (2), BOOTDONE follows
BOOT_STAT.DONE, SPI_RST_L is high exactly from the eighth frame after that of the reset release (1 ms; the count in
frames is the model's choice, log 184), XPERSTp_L is low exactly while port p is DISABLED, port 0 counting for both in
X8 mode, and LDO of a link is at differential 0 exactly while the link is DISABLED. A GPIO pin with GPIO_DIR 1 has the
level of GPIO_OUT, one with GPIO_DIR 0 the board's. COLD_RESET and WARM_RESET leave LOCKO, PPSOUT, BOOTDONE, SPI_RST_L
and both XPERST pins low. -/
def Obligations.OutputPinsFollowTheState : Prop :=
  (State.reset.pinLocko = false ∧ State.reset.pinPpsout = false ∧ State.reset.pinBootdone = false ∧ State.reset.pinDsynco = 0 ∧
    State.reset.pinXperst 0 = false ∧ State.reset.pinXperst 1 = false ∧ State.reset.pinSpiRst = false ∧ State.reset.pinThermtrip = true ∧
    State.reset.pinAlert = true ∧ (∀ l, l < 128 → State.reset.pinLdo l = false) ∧ (∀ i, i < 16 → State.reset.bit Reg.MISC_GPIO_DIR i = false)) ∧
  (∀ s : State, (s.pinLocko = true ↔ s.fld Reg.TIME_DPLL_STAT 0 2 = 2) ∧ s.pinBootdone = bitOf (s.rn Reg.ROOK_BOOT_STAT) 31 ∧
    (s.pinSpiRst = true ↔ s.rook.otpRead = true ∧ s.rook.bootAt + 8 ≤ s.now) ∧
    (∀ p, s.bit Reg.CXL_CXL_CFG 0 = true → (s.pinXperst p = false ↔ s.cxlState p = 0)) ∧
    (∀ p, s.bit Reg.CXL_CXL_CFG 0 = false → (s.pinXperst p = false ↔ s.cxlState 0 = 0)) ∧
    (∀ l, s.pinLdo l = false ↔ s.linkState l = 0)) ∧
  (∀ (s : State) (i : Nat), i < 16 → (s.bit Reg.MISC_GPIO_DIR i = true → s.pinGpio i = s.bit Reg.MISC_GPIO_OUT i) ∧
    (s.bit Reg.MISC_GPIO_DIR i = false → s.pinGpio i = bitOf s.host.gpioIn i)) ∧
  (∀ s : State, ∃ t u : State, exec .coldReset s = .next t ∧ exec .warmReset s = .next u ∧
    t.pinLocko = false ∧ t.pinPpsout = false ∧ t.pinBootdone = false ∧ t.pinXperst 0 = false ∧ t.pinXperst 1 = false ∧
    u.pinLocko = false ∧ u.pinPpsout = false ∧ u.pinBootdone = false ∧ u.pinXperst 0 = false ∧ u.pinXperst 1 = false ∧
    t.pinSpiRst = false ∧ u.pinSpiRst = false)
end

