-- ==== Sys2Proof/Laws/Core.lean ====
section
/-! SUPPORT. The issue of a word: a row that names the word the core issues next has that word's effect. -/

namespace Sys2Proof.Machine
open Sys2Proof

variable {s t : State} {g b w key : Nat}

/-- The word that issues next has its effect, and the bundle ends with its last word. -/
theorem State.issue_of_toIssue {f : Nat → Nat → State → State} (h : s.toIssue g = some (b, w, t)) (hk : wKey w = key) :
    s.issue g key f = s.issued (f b w t) g := by
  unfold State.toIssue at h
  unfold State.issue State.issued
  cases hb : (s.core_ g).inBundle with
  | some b' =>
    simp only [hb] at h ⊢
    split at h
    · rename_i h1
      simp only [Option.some.injEq, Prod.mk.injEq] at h
      obtain ⟨rfl, rfl, rfl⟩ := h
      rw [if_neg]
      simp [hk, h1.2]; intro h3; exact Or.resolve_left h1.1 h3
    · cases h
  | none =>
    simp only [hb] at h ⊢
    split at h
    · rename_i h1
      simp only [Option.some.injEq, Prod.mk.injEq] at h
      obtain ⟨rfl, rfl, rfl⟩ := h
      simp only [h1.1, h1.2.1, h1.2.2.1]
      simp [hk, h1.2.2.2]
    · cases h

theorem State.issueC_of_toIssue {f : Nat → Core → Core} (h : s.toIssue g = some (b, w, t)) (hk : wKey w = key) :
    s.issueC g key f = s.issued (t.onCore g (f w)) g := State.issue_of_toIssue h hk

end Sys2Proof.Machine
end

