-- ==== Sys2Proof/Laws/Guard.lean ====
section
/-! SUPPORT. What the gate of a host access does: it lets the access act on the state in which its window has been seen,
denies it, or drops it. -/

namespace Sys2Proof.Machine
open Sys2Proof

/-- An access that is let through acts. -/
theorem hostGuard_open {s : State} {w : Win} {a : Nat} {wr : Bool} {k : State → State} (h : s.opens w a wr = true) :
    s.hostGuard w a wr k = k (s.seenBy w) := by
  simp only [State.opens, Bool.and_eq_true, Bool.not_eq_true'] at h
  obtain ⟨⟨⟨h1, h2⟩, h3⟩, h4⟩ := h
  simp only [State.hostGuard, h1, h2]
  have e : (s.setSess w { s.sess_ w with seen := s.now }) = s.seenBy w := rfl
  simp only [e, h3, Bool.not_true, Bool.or_self, Bool.false_eq_true, if_false]
  rw [if_neg]
  cases wr <;> simp_all

/-- An access without a right is denied. -/
theorem hostGuard_denied {s : State} {w : Win} {a : Nat} {wr : Bool} {k : State → State} (h1 : s.rook.otpRead = true)
    (h2 : s.host.d3 = false) (h3 : (s.seenBy w).allowed w a wr = false) :
    s.hostGuard w a wr k = (s.seenBy w).denied w a wr := by
  simp only [State.hostGuard, h1, h2]
  have e : (s.setSess w { s.sess_ w with seen := s.now }) = s.seenBy w := rfl
  simp [e, h3]

end Sys2Proof.Machine
end

