-- ==== Sys2Proof/Laws/Tab.lean ====
section
/-! SUPPORT. Laws of the sparse tables: what a read finds after a write, and that writes and drops keep the canonical
form. -/

namespace Sys2Proof.Machine

variable {α : Type} [DecidableEq α] {d : Nat → α} {t : Tab α} {k k' : Nat} {v : α}

/-- Another key reads as before. -/
theorem Tab.get_put_ne (h : k' ≠ k) : Tab.get d (Tab.put d t k v) k' = Tab.get d t k' := by
  induction t with
  | nil => simp only [Tab.put]; split <;> simp [Tab.get, h.symm]
  | cons e r ih =>
    obtain ⟨a, b⟩ := e
    simp only [Tab.put]
    split
    · split <;> simp [Tab.get, h.symm]
    · split
      · rename_i hk; subst hk
        split <;> simp [Tab.get, h.symm]
      · simp only [Tab.get, ih]

theorem Tab.above_mono {lo lo' : Nat} (h : lo' ≤ lo) (ha : Tab.above lo t = true) : Tab.above lo' t = true := by
  simp only [Tab.above, List.all_eq_true, decide_eq_true_eq] at *
  intro e he; have := ha e he; omega

/-- A key at or below every listed key reads as its default. -/
theorem Tab.get_above {lo : Nat} (ha : Tab.above lo t = true) (h : k ≤ lo) : Tab.get d t k = d k := by
  induction t with
  | nil => rfl
  | cons e r ih =>
    obtain ⟨a, b⟩ := e
    simp only [Tab.above, List.all_cons, Bool.and_eq_true, decide_eq_true_eq] at ha
    have : a ≠ k := by omega
    simp only [Tab.get, this, if_false]
    exact ih ha.2

/-- The key written reads as the value written. -/
theorem Tab.get_put_self (hw : Tab.wf d t = true) : Tab.get d (Tab.put d t k v) k = v := by
  induction t with
  | nil => simp only [Tab.put]; split <;> simp_all [Tab.get]
  | cons e r ih =>
    obtain ⟨a, b⟩ := e
    simp only [Tab.wf, Bool.and_eq_true, decide_eq_true_eq] at hw
    simp only [Tab.put]
    split
    · rename_i hk
      split
      · rename_i hv
        have : a ≠ k := by omega
        simp only [Tab.get, this, if_false]
        rw [Tab.get_above hw.1.2 (by omega), hv]
      · simp [Tab.get]
    · split
      · rename_i hk; subst hk
        split
        · rename_i hv; rw [Tab.get_above hw.1.2 (Nat.le_refl _), hv]
        · simp [Tab.get]
      · rename_i h1 h2
        have : a ≠ k := fun h => h2 h.symm
        simp only [Tab.get, this, if_false]
        exact ih hw.2

theorem Tab.above_put {lo : Nat} (ha : Tab.above lo t = true) (h : lo < k) : Tab.above lo (Tab.put d t k v) = true := by
  induction t with
  | nil => simp only [Tab.put]; split <;> simp [Tab.above, h]
  | cons e r ih =>
    obtain ⟨a, b⟩ := e
    have ha' := ha
    simp only [Tab.above, List.all_cons, Bool.and_eq_true, decide_eq_true_eq] at ha'
    simp only [Tab.put]
    split
    · split
      · exact ha
      · simp only [Tab.above, List.all_cons, Bool.and_eq_true, decide_eq_true_eq]
        exact ⟨h, ha'.1, ha'.2⟩
    · split
      · rename_i hk; subst hk
        split
        · exact ha'.2
        · simp only [Tab.above, List.all_cons, Bool.and_eq_true, decide_eq_true_eq]
          exact ⟨h, ha'.2⟩
      · simp only [Tab.above, List.all_cons, Bool.and_eq_true, decide_eq_true_eq]
        exact ⟨ha'.1, ih ha'.2⟩

/-- A write keeps the canonical form. -/
theorem Tab.put_wf (hw : Tab.wf d t = true) : Tab.wf d (Tab.put d t k v) = true := by
  induction t with
  | nil => simp only [Tab.put]; split <;> simp_all [Tab.wf, Tab.above]
  | cons e r ih =>
    obtain ⟨a, b⟩ := e
    have hw' := hw
    simp only [Tab.wf, Bool.and_eq_true, decide_eq_true_eq] at hw'
    simp only [Tab.put]
    split
    · rename_i hk
      split
      · exact hw
      · rename_i hv
        simp only [Tab.wf, Bool.and_eq_true, decide_eq_true_eq, Tab.above, List.all_cons]
        exact ⟨⟨hv, hk, by simpa [Tab.above] using Tab.above_mono (Nat.le_of_lt hk) hw'.1.2⟩, hw'.1, hw'.2⟩
    · split
      · rename_i hk; subst hk
        split
        · exact hw'.2
        · rename_i hv
          simp only [Tab.wf, Bool.and_eq_true, decide_eq_true_eq]
          exact ⟨⟨hv, hw'.1.2⟩, hw'.2⟩
      · simp only [Tab.wf, Bool.and_eq_true, decide_eq_true_eq]
        exact ⟨⟨hw'.1.1, Tab.above_put hw'.1.2 (by omega)⟩, ih hw'.2⟩

/-- Returning keys to their defaults keeps the canonical form. -/
theorem Tab.drop_wf {p : Nat → Bool} (hw : Tab.wf d t = true) : Tab.wf d (Tab.drop p t) = true := by
  induction t with
  | nil => rfl
  | cons e r ih =>
    obtain ⟨a, b⟩ := e
    simp only [Tab.wf, Bool.and_eq_true, decide_eq_true_eq] at hw
    simp only [Tab.drop, List.filter_cons]
    split
    · simp only [Tab.wf, Bool.and_eq_true, decide_eq_true_eq]
      refine ⟨⟨hw.1.1, ?_⟩, ih hw.2⟩
      have h2 := hw.1.2
      simp only [Tab.above, List.all_eq_true, decide_eq_true_eq, List.mem_filter] at *
      exact fun x hx => h2 x hx.1
    · exact ih hw.2

/-- A dropped key reads as its default, and every other key as before. -/
theorem Tab.get_drop {p : Nat → Bool} : Tab.get d (Tab.drop p t) k = if p k then d k else Tab.get d t k := by
  induction t with
  | nil => simp [Tab.drop, Tab.get]
  | cons e r ih =>
    obtain ⟨a, b⟩ := e
    simp only [Tab.drop, List.filter_cons] at *
    by_cases hp : p a
    · simp only [hp, Bool.not_true, Bool.false_eq_true, if_false, ih, Tab.get]
      by_cases hk : a = k
      · subst hk; simp [hp]
      · simp [hk]
    · simp only [hp, Bool.not_false, if_true, Tab.get]
      by_cases hk : a = k
      · subst hk; simp [hp]
      · simp only [hk, if_false, ih]

end Sys2Proof.Machine
end

