-- ==== Sys2Proof/Laws/Regs.lean ====
section
/-! SUPPORT. Laws of registers: a write is read back, leaves every other register and everything else alone, and keeps the
canonical form. -/

namespace Sys2Proof.Machine
open Sys2Proof

variable {s : State} {a b : Nat} {v : Word} {n : Nat}

theorem State.canonical_regs (h : s.canonical = true) : Tab.wf regReset s.regs = true := by
  simp only [State.canonical, Bool.and_eq_true] at h; exact h.1.1.2

theorem State.canonical_mem (h : s.canonical = true) : Tab.wf byte0 s.mem = true := by
  simp only [State.canonical, Bool.and_eq_true] at h; exact h.1.1.1.1

/-- A register reads as it was written. -/
theorem State.reg_setReg_self (h : s.canonical = true) : (s.setReg a v).reg a = v :=
  Tab.get_put_self (State.canonical_regs h)

/-- Other registers read as before. -/
theorem State.reg_setReg_ne (h : b ≠ a) : (s.setReg a v).reg b = s.reg b := Tab.get_put_ne h

theorem State.setReg_canonical (h : s.canonical = true) : (s.setReg a v).canonical = true := by
  simp only [State.canonical, Bool.and_eq_true] at *
  exact ⟨⟨⟨⟨h.1.1.1.1, h.1.1.1.2⟩, Tab.put_wf h.1.1.2⟩, h.1.2⟩, h.2⟩

theorem State.setN_canonical (h : s.canonical = true) : (s.setN a n).canonical = true := State.setReg_canonical h

theorem State.rn_setN_self (h : s.canonical = true) : (s.setN a n).rn a = n % 2 ^ 32 := by
  simp only [State.rn, State.setN, State.reg_setReg_self h, w32, BitVec.toNat_ofNat]

theorem State.rn_setN_ne (h : b ≠ a) : (s.setN a n).rn b = s.rn b := by
  simp only [State.rn, State.setN, State.reg_setReg_ne h]

theorem State.rn_lt : s.rn a < 2 ^ 32 := (s.reg a).isLt

theorem State.fld_setN_ne {lo w : Nat} (h : b ≠ a) : (s.setN a n).fld b lo w = s.fld b lo w := by
  simp only [State.fld, State.rn_setN_ne h]

theorem State.bit_setN_ne {i : Nat} (h : b ≠ a) : (s.setN a n).bit b i = s.bit b i := by
  simp only [State.bit, State.rn_setN_ne h]

end Sys2Proof.Machine
end

