-- ==== Sys2Proof/Laws/Memory.lean ====
section
/-! SUPPORT. Laws of memory: a byte reads back as written, the others as before, and every operation on memory keeps the
canonical form. -/

namespace Sys2Proof.Machine
open Sys2Proof

variable {m : List Host.Cell} {l : List Nat} {a b n : Nat}

/-- Writing bytes keeps the canonical form. -/
theorem wrList_wf (h : Memory.wf m = true) : Memory.wf (wrList m a l) = true := by
  induction l generalizing m a with
  | nil => exact h
  | cons x r ih => exact ih (Tab.put_wf h)

/-- A byte below the first one written is unchanged. -/
theorem get_wrList_lt (h : b < a) : Tab.get byte0 (wrList m a l) b = Tab.get byte0 m b := by
  induction l generalizing m a with
  | nil => rfl
  | cons x r ih => rw [wrList, ih (by omega), Tab.get_put_ne (by omega)]

/-- A byte beyond the last one written is unchanged. -/
theorem get_wrList_ge (h : a + l.length ≤ b) : Tab.get byte0 (wrList m a l) b = Tab.get byte0 m b := by
  induction l generalizing m a with
  | nil => rfl
  | cons x r ih =>
    rw [List.length_cons] at h
    rw [wrList, ih (by omega), Tab.get_put_ne (by omega)]

/-- What lies outside the bytes written is unchanged. -/
theorem get_wrList_out (h : b < a ∨ a + l.length ≤ b) : Tab.get byte0 (wrList m a l) b = Tab.get byte0 m b :=
  h.elim get_wrList_lt get_wrList_ge

/-- Bytes read back in the order in which they were written. -/
theorem rdList_wrList (h : Memory.wf m = true) : rdList (wrList m a l) a l.length = l.map (· % 256) := by
  induction l generalizing m a with
  | nil => rfl
  | cons x r ih =>
    rw [List.length_cons, rdList, List.map_cons]
    congr 1
    · rw [wrList, get_wrList_lt (by omega), Tab.get_put_self h]; simp
    · rw [wrList]; exact ih (Tab.put_wf h)

/-- Reading bytes outside those written. -/
theorem rdList_wrList_out {k : Nat} (h : b + k ≤ a ∨ a + l.length ≤ b) : rdList (wrList m a l) b k = rdList m b k := by
  induction k generalizing b with
  | zero => rfl
  | succ k ih => rw [rdList, rdList, ih (by omega), get_wrList_out (by omega)]

theorem State.canonical_iff {s : State} : s.canonical = true ↔ Memory.wf s.mem = true ∧ Memory.wf s.hostMem = true ∧
    Regs.wf s.regs = true ∧ Poison.wf s.poison = true ∧ Memory.wf s.rook.otp = true := by
  simp only [State.canonical, Bool.and_eq_true, and_assoc]

theorem State.wr8_canonical {s : State} {v : Nat} (h : s.canonical = true) : (s.wr8 a v).canonical = true := by
  rw [State.canonical_iff] at *; exact ⟨Tab.put_wf h.1, h.2⟩

theorem State.wrBytes_canonical {s : State} (h : s.canonical = true) : (s.wrBytes a l).canonical = true := by
  rw [State.canonical_iff] at *
  refine ⟨wrList_wf h.1, h.2.1, h.2.2.1, ?_, h.2.2.2.2⟩
  dsimp only [Poison.wf, State.wrBytes]
  exact Tab.drop_wf h.2.2.2.1

theorem State.setPoison_canonical {s : State} {p : Bool} (h : s.canonical = true) : (s.setPoison a p).canonical = true := by
  rw [State.canonical_iff] at *; exact ⟨h.1, h.2.1, h.2.2.1, Tab.put_wf h.2.2.2.1, h.2.2.2.2⟩

/-- A byte of device memory reads as it was written. -/
theorem State.rd8_wr8_self {s : State} {v : Nat} (h : s.canonical = true) : (s.wr8 a v).rd8 a = v % 256 := by
  simp only [State.rd8, State.wr8, Tab.get_put_self (State.canonical_mem h), BitVec.toNat_ofNat]

theorem State.rd8_wr8_ne {s : State} {v : Nat} (h : b ≠ a) : (s.wr8 a v).rd8 b = s.rd8 b := by
  simp only [State.rd8, State.wr8, Tab.get_put_ne h]

theorem State.rd8_wrBytes_out {s : State} (h : b < a ∨ a + l.length ≤ b) : (s.wrBytes a l).rd8 b = s.rd8 b := by
  simp only [State.rd8, State.wrBytes, get_wrList_out h]

theorem State.rdBytes_wrBytes {s : State} (h : s.canonical = true) : (s.wrBytes a l).rdBytes a l.length = l.map (· % 256) :=
  rdList_wrList (State.canonical_mem h)

end Sys2Proof.Machine
end

