-- ==== Sys2Proof/Laws/Keep.lean ====
section
/-! SUPPORT. What every command keeps, as one predicate that each shared operation is shown to preserve: the queue of waiting
commands, the canonical form of memory, registers, poison marks and OTP, the OTP bits already programmed, and THERMTRIP_L
once it is low. The files beside this one have one lemma `<operation>_good` for each operation of Machine. -/

namespace Sys2Proof.Machine
open Sys2Proof

/-- What is to be kept: the queue, the condition under which the canonical form is kept, the OTP as it was, and whether
THERMTRIP_L was low. -/
structure Keep where
  p : List Instr
  cz : Prop
  o : List Host.Cell
  tr : Bool

/-- The state keeps it. -/
structure Good (k : Keep) (s : State) : Prop where
  pending : s.pending = k.p
  can : k.cz → s.canonical = true
  otp : k.cz → ∀ a i, bitOf (Tab.get byte0 k.o a).toNat i = true → bitOf (Tab.get byte0 s.rook.otp a).toNat i = true
  trip : k.tr = true → s.host.trip = true

variable {k : Keep} {s : State}

/-- What a state keeps of itself. -/
def Keep.of (s : State) : Keep := ⟨s.pending, s.canonical = true, s.rook.otp, s.host.trip⟩

theorem Good.refl : Good (Keep.of s) s := ⟨rfl, id, fun _ _ _ h => h, id⟩

/-- A change of a field that is none of those kept. -/
theorem good_mk {X : State} {rd dr ti lk ld ec sa jb th ci ne nm cx rk ho co tu qm} (h : Good k X)
    (hr : RookSt.otp rk = X.rook.otp) (hh : HostSt.trip ho = X.host.trip) :
    Good k (State.mk X.regs X.mem X.poison X.hostMem rd dr ti lk ld ec sa jb th ci ne nm cx rk ho co tu qm X.pending) := by
  refine ⟨h.pending, fun hc => ?_, fun hc => ?_, fun ht => ?_⟩
  · have := h.can hc
    simp only [State.canonical] at *
    rw [hr]; exact this
  · dsimp only; rw [hr]; exact h.otp hc
  · dsimp only; rw [hh]; exact h.trip ht

/-- The parts of a state that `Good` speaks of. -/
def GoodParts (k : Keep) (rg : Tab Word) (me : List Host.Cell) (po : Tab Bool) (hm otp : List Host.Cell) (trip : Bool)
    (pe : List Instr) : Prop :=
  Good k { regs := rg, mem := me, poison := po, hostMem := hm, rook := { otp := otp }, host := { trip := trip }, pending := pe }

theorem good_parts {X : State} (h : Good k X) : GoodParts k X.regs X.mem X.poison X.hostMem X.rook.otp X.host.trip X.pending :=
  ⟨h.pending, h.can, h.otp, h.trip⟩

/-- A state written out is good by its parts. -/
theorem good_mk_iff {rg me po hm rd dr ti lk ld ec sa jb th ci ne nm cx rk ho co tu qm pe} :
    Good k (State.mk rg me po hm rd dr ti lk ld ec sa jb th ci ne nm cx rk ho co tu qm pe) ↔
      GoodParts k rg me po hm (RookSt.otp rk) (HostSt.trip ho) pe :=
  ⟨fun h => ⟨h.pending, h.can, h.otp, h.trip⟩, fun h => ⟨h.pending, h.can, h.otp, h.trip⟩⟩

/-- A change of memory, poison marks, host memory or registers that keeps their canonical form. -/
theorem good_tables {X : State} {rg me po hm} (h : Good k X) (h1 : Regs.wf X.regs = true → Regs.wf rg = true)
    (h2 : Memory.wf X.mem = true → Memory.wf me = true) (h3 : Poison.wf X.poison = true → Poison.wf po = true)
    (h4 : Memory.wf X.hostMem = true → Memory.wf hm = true) :
    Good k { X with regs := rg, mem := me, poison := po, hostMem := hm } := by
  refine ⟨h.pending, fun hc => ?_, h.otp, h.trip⟩
  have := h.can hc
  rw [State.canonical_iff] at *
  exact ⟨h2 this.1, h4 this.2.1, h1 this.2.2.1, h3 this.2.2.2.1, this.2.2.2.2⟩

theorem good_ite {c : Prop} [Decidable c] {a b : State} (h : Good k a) (h' : Good k b) : Good k (if c then a else b) := by
  split <;> assumption

theorem good_fst {α : Type} {y : State × α} {t : State} {x : α} (e : y = (t, x)) (h : Good k y.1) : Good k t := by
  rw [e] at h; exact h
/-- An answer, if there is one, keeps it. -/
def GoodOpt (k : Keep) (o : Option State) : Prop := ∀ t, o = some t → Good k t

theorem goodOpt_some (h : Good k s) : GoodOpt k (some s) := fun _ e => by cases e; exact h
theorem goodOpt_none : GoodOpt k none := fun _ e => by cases e
theorem goodOpt_ite {c : Prop} [Decidable c] {a b : Option State} (h : GoodOpt k a) (h' : GoodOpt k b) :
    GoodOpt k (if c then a else b) := by
  split <;> assumption
/-- A command's answer is a next state that keeps it. -/
def GoodRes (k : Keep) (r : Res) : Prop := ∃ t, r = .next t ∧ Good k t

theorem goodRes_next : GoodRes k (.next s) ↔ Good k s :=
  ⟨fun ⟨_, e, h⟩ => by cases e; exact h, fun h => ⟨_, rfl, h⟩⟩
theorem good_foldl {α : Type} {l : List α} {f : State → α → State} (h : Good k s) (hf : ∀ s x, Good k s → Good k (f s x)) :
    Good k (l.foldl f s) := by
  induction l generalizing s with
  | nil => exact h
  | cons x r ih => exact ih (hf _ _ h)
theorem good_foldl1 {α β : Type} {l : List β} {p : State × α} {f : State × α → β → State × α} (h : Good k p.1)
    (hf : ∀ p x, Good k p.1 → Good k (f p x).1) : Good k (l.foldl f p).1 := by
  induction l generalizing p with
  | nil => exact h
  | cons x r ih => exact ih (hf _ _ h)
theorem good_foldr1 {α β : Type} {l : List β} {p : State × α} {f : β → State × α → State × α} (h : Good k p.1)
    (hf : ∀ x p, Good k p.1 → Good k (f x p).1) : Good k (l.foldr f p).1 := by
  induction l with
  | nil => exact h
  | cons x r ih => exact hf _ _ ih
theorem good_ite1 {α : Type} {c : Prop} [Decidable c] {a b : State × α} (h : Good k a.1) (h' : Good k b.1) :
    Good k (if c then a else b).1 := by
  split <;> assumption
theorem State.each_good {α : Type} {l : List α} {f : State → α → State} (h : Good k s)
    (hf : ∀ s x, Good k s → Good k (f s x)) : Good k (s.each l f) := good_foldl h hf

theorem State.setReg_good {a : Nat} {v : Word} (h : Good k s) : Good k (s.setReg a v) :=
  good_tables h (fun hw => Tab.put_wf hw) id id id
theorem State.resetRegs_good {p : Nat → Bool} (h : Good k s) : Good k (s.resetRegs p) :=
  good_tables h (fun hw => by dsimp only [Regs.wf] at *; exact Tab.drop_wf hw) id id id
theorem State.wr8_good {a v : Nat} (h : Good k s) : Good k (s.wr8 a v) := good_tables h id (fun hw => Tab.put_wf hw) id id
theorem State.wrBytes_good {a : Nat} {l : List Nat} (h : Good k s) : Good k (s.wrBytes a l) :=
  good_tables h id (fun hw => wrList_wf hw) (fun hw => by dsimp only [Poison.wf] at *; exact Tab.drop_wf hw) id
theorem State.setPoison_good {a : Nat} {b : Bool} (h : Good k s) : Good k (s.setPoison a b) :=
  good_tables h id id (fun hw => Tab.put_wf hw) id
theorem good_wrMem {a : Nat} {l : List Nat} (h : Good k s) : Good k { s with mem := wrList s.mem a l } :=
  good_tables h id (fun hw => wrList_wf hw) id id
theorem good_wrHost {a : Nat} {l : List Nat} (h : Good k s) : Good k { s with hostMem := wrList s.hostMem a l } :=
  good_tables h id id id (fun hw => wrList_wf hw)
theorem good_dropMem {p : Nat → Bool} (h : Good k s) : Good k { s with mem := Tab.drop p s.mem } :=
  good_tables h id (fun hw => by dsimp only [Memory.wf] at *; exact Tab.drop_wf hw) id id

end Sys2Proof.Machine
end

