-- ==== Sys2Proof/Laws/KeepOps.lean ====
section
/-! SUPPORT. The operations of Machine/Ops.lean keep what `Good` says. -/

namespace Sys2Proof.Machine
open Sys2Proof

set_option Elab.async false
set_option linter.unusedSimpArgs false
set_option linter.unusedVariables false
set_option linter.unreachableTactic false
set_option linter.unusedTactic false

variable {k : Keep} {s : State}

theorem State.setN_good {a n : Nat} (h : Good k s) : Good k (State.setN s a n) := by
  simp (maxDischargeDepth := 99) only [State.setN, h, State.setReg_good, good_ite, good_mk_iff, good_parts]

theorem State.setFld_good {a lo w v : Nat} (h : Good k s) : Good k (State.setFld s a lo w v) := by
  simp (maxDischargeDepth := 99) only [State.setFld, h, State.setN_good, good_ite, good_mk_iff, good_parts]

theorem State.addN_good {a j : Nat} (h : Good k s) : Good k (State.addN s a j) := by
  simp (maxDischargeDepth := 99) only [State.addN, h, State.setN_good, good_ite, good_mk_iff, good_parts]

theorem State.bump_good {a : Nat} (h : Good k s) : Good k (State.bump s a) := by
  simp (maxDischargeDepth := 99) only [State.bump, h, State.addN_good, good_ite, good_mk_iff, good_parts]

theorem State.add64_good {a j : Nat} (h : Good k s) : Good k (State.add64 s a j) := by
  simp (maxDischargeDepth := 99) only [State.add64, h, State.setN_good, good_ite, good_mk_iff, good_parts]

theorem State.maxN_good {a v : Nat} (h : Good k s) : Good k (State.maxN s a v) := by
  simp (maxDischargeDepth := 99) only [State.maxN, h, State.setN_good, good_ite, good_mk_iff, good_parts]

theorem State.irq_good {page bit : Nat} (h : Good k s) : Good k (State.irq s page bit) := by
  simp (maxDischargeDepth := 99) only [State.irq, h, State.setN_good, good_ite, good_mk_iff, good_parts]

theorem State.err_good {page st detail addr : Nat} (h : Good k s) : Good k (State.err s page st detail addr) := by
  simp (maxDischargeDepth := 99) only [State.err, h, State.bump_good, State.setN_good, good_ite, good_mk_iff, good_parts]

theorem State.cfgErr_good {page : Nat} {bit : Option Nat} {st addr : Nat} (h : Good k s) : Good k (State.cfgErr s page bit
    st addr) := by
  unfold State.cfgErr
  split <;> simp (maxDischargeDepth := 99) +contextual only [h, State.err_good, State.irq_good, good_ite, good_mk_iff,
    good_parts, good_foldl, good_foldl1, good_ite1, implies_true]

theorem State.headerReset_good {page : Nat} (h : Good k s) : Good k (State.headerReset s page) := by
  simp (maxDischargeDepth := 99) only [State.headerReset, h, State.resetRegs_good, State.setN_good, good_ite, good_mk_iff,
    good_parts]

theorem State.rstRefused_good {page st : Nat} (h : Good k s) : Good k (State.rstRefused s page st) := by
  simp (maxDischargeDepth := 99) only [State.rstRefused, h, State.err_good, State.setN_good, good_ite, good_mk_iff,
    good_parts]

theorem State.wake_good {v1 : Nat} (h : Good k s) : Good k (State.wake s v1) := by
  unfold State.wake
  exact good_ite (good_dropMem (State.setFld_good h)) (State.setFld_good h)

theorem State.pageReset_good {lo hi : Nat} (h : Good k s) : Good k (State.pageReset s lo hi) := by
  simp (maxDischargeDepth := 99) only [State.pageReset, h, State.resetRegs_good, good_ite, good_mk_iff, good_parts]

theorem State.wrLE_good {a n v : Nat} (h : Good k s) : Good k (State.wrLE s a n v) := by
  simp (maxDischargeDepth := 99) only [State.wrLE, h, State.wrBytes_good, good_ite, good_mk_iff, good_parts]

theorem State.drawn_good (h : Good k s) : Good k (State.drawn s) := by
  simp (maxDischargeDepth := 99) only [State.drawn, h, good_mk_iff, good_parts]

theorem State.event_good {evq code : Nat} {payload : List Nat} (h : Good k s) : Good k (State.event s evq code payload) :=
    by
  simp (maxDischargeDepth := 99) only [State.event, h, good_mk_iff, good_parts]

theorem State.sysEvent_good {evq num : Nat} {payload : List Nat} (h : Good k s) : Good k (State.sysEvent s evq num
    payload) := by
  simp (maxDischargeDepth := 99) only [State.sysEvent, h, State.event_good, good_ite, good_mk_iff, good_parts]

theorem State.answer_good {r : CmdRef} {op st : Nat} {results : List Nat} {lost : optParam Bool false} (h : Good k s) :
    Good k (State.answer s r op st results lost) := by
  simp (maxDischargeDepth := 99) only [State.answer, h, good_mk_iff, good_parts]

theorem State.respond_good {r : CmdRef} {op st : Nat} {results : List Nat} (h : Good k s) : Good k (State.respond s r op
    st results) := by
  unfold State.respond
  split <;> simp (maxDischargeDepth := 99) +contextual only [h, State.answer_good, good_ite, good_mk_iff, good_parts,
    good_foldl, good_foldl1, good_ite1, implies_true]

theorem State.carryOut_good {r : CmdRef} {op : Nat} {f : State → State} (h : Good k s) (hf : ∀ s, Good k s → Good k (f s)) :
    Good k (State.carryOut s r op f) := by
  unfold State.carryOut
  exact good_ite (hf _ (good_mk_iff.mpr (good_parts h))) h

theorem State.setLink_good {l : Nat} {x : Link} (h : Good k s) : Good k (State.setLink s l x) := by
  simp (maxDischargeDepth := 99) only [State.setLink, h, good_mk_iff, good_parts]

theorem State.setBank_good {b : Nat} {x : Bank} (h : Good k s) : Good k (State.setBank s b x) := by
  simp (maxDischargeDepth := 99) only [State.setBank, h, good_mk_iff, good_parts]

theorem State.setLine_good {l : Nat} {x : Line} (h : Good k s) : Good k (State.setLine s l x) := by
  simp (maxDischargeDepth := 99) only [State.setLine, h, good_mk_iff, good_parts]

theorem State.setDec_good {l : Nat} {x : LdcLine} (h : Good k s) : Good k (State.setDec s l x) := by
  simp (maxDischargeDepth := 99) only [State.setDec, h, good_mk_iff, good_parts]

theorem State.setSet_good {j : Nat} {x : SetSt} (h : Good k s) : Good k (State.setSet s j x) := by
  simp (maxDischargeDepth := 99) only [State.setSet, h, good_mk_iff, good_parts]

theorem State.setCtx_good {c : Nat} {x : Ctx} (h : Good k s) : Good k (State.setCtx s c x) := by
  simp (maxDischargeDepth := 99) only [State.setCtx, h, good_mk_iff, good_parts]

theorem State.setCore_good {g : Nat} {x : Core} (h : Good k s) : Good k (State.setCore s g x) := by
  simp (maxDischargeDepth := 99) only [State.setCore, h, good_mk_iff, good_parts]

theorem State.setQue_good {q : Nat} {x : Queue} (h : Good k s) : Good k (State.setQue s q x) := by
  simp (maxDischargeDepth := 99) only [State.setQue, h, good_mk_iff, good_parts]

theorem State.setFlow_good {f : Nat} {x : Flow} (h : Good k s) : Good k (State.setFlow s f x) := by
  simp (maxDischargeDepth := 99) only [State.setFlow, h, good_mk_iff, good_parts]

theorem State.post_good {o : Operand} {p : Producer} (h : Good k s) : Good k (State.post s o p) := by
  simp (maxDischargeDepth := 99) only [State.post, h, good_mk_iff, good_parts]

theorem State.writeRecord_good {kind a n : Nat} {b : List Nat} (h : Good k s) : Good k (State.writeRecord s kind a n b) :=
    by
  simp (maxDischargeDepth := 99) only [State.writeRecord, h, State.wrBytes_good, good_ite, good_mk_iff, good_parts]

end Sys2Proof.Machine
end

