-- ==== Sys2Proof/Laws/KeepFar.lean ====
section
/-! SUPPORT. The operations of Machine/Far.lean keep what `Good` says. -/

namespace Sys2Proof.Machine
open Sys2Proof

set_option Elab.async false
set_option linter.unusedSimpArgs false
set_option linter.unusedVariables false
set_option linter.unreachableTactic false
set_option linter.unusedTactic false

variable {k : Keep} {s : State}

theorem State.farWrote_good {a n : Nat} (h : Good k s) : Good k (State.farWrote s a n) := by
  unfold State.farWrote
  repeat' first
    | with_reducible assumption
    | simp (maxDischargeDepth := 99) +contextual only [h, State.add64_good, good_ite, good_mk_iff, good_parts, good_foldl,
      good_foldl1, good_ite1, implies_true]
    | split

theorem State.wrDev_good {a : Nat} {l : List Nat} (h : Good k s) : Good k (State.wrDev s a l) := by
  simp (maxDischargeDepth := 99) only [State.wrDev, h, State.farWrote_good, State.wrBytes_good, good_ite, good_mk_iff,
    good_parts]

end Sys2Proof.Machine
end

