-- ==== Sys2Proof/Laws/KeepGuard.lean ====
section
/-! SUPPORT. The operations of Machine/Guard.lean keep what `Good` says. -/

namespace Sys2Proof.Machine
open Sys2Proof

set_option Elab.async false
set_option linter.unusedSimpArgs false
set_option linter.unusedVariables false
set_option linter.unreachableTactic false
set_option linter.unusedTactic false

variable {k : Keep} {s : State}

/-- Programming only sets bits, and keeps the canonical form. -/
theorem good_otp {a n : Nat} {ro : RookSt} {ho : HostSt} {x : Byte} (h : Good k s)
    (hx : ∀ i, bitOf (s.otpB a) i = true → bitOf x.toNat i = true)
    (hr : ro.otp = Tab.put byte0 s.rook.otp a x) : Good k { s with rook := ro } := by
  refine ⟨h.pending, fun hc => ?_, fun hc b i hb => ?_, h.trip⟩
  · have := h.can hc
    rw [State.canonical_iff] at *
    refine ⟨this.1, this.2.1, this.2.2.1, this.2.2.2.1, ?_⟩
    dsimp only; rw [hr]; exact Tab.put_wf this.2.2.2.2
  · have hw := (State.canonical_iff.mp (h.can hc)).2.2.2.2
    have := h.otp hc b i hb
    dsimp only; rw [hr]
    by_cases e : b = a
    · subst e; rw [Tab.get_put_self hw]; exact hx i this
    · rw [Tab.get_put_ne e]; exact this

theorem bitOf_or {a b i : Nat} (h : bitOf a i = true) : bitOf (a ||| b) i = true := by
  unfold bitOf at *
  rw [beq_iff_eq, ← Nat.shiftRight_eq_div_pow] at *
  have h1 : (a ||| b).testBit i = true := by
    rw [Nat.testBit_or, Bool.or_eq_true]; left
    simp only [Nat.testBit, Nat.one_and_eq_mod_two, bne_iff_ne]; omega
  simp only [Nat.testBit, Nat.one_and_eq_mod_two, bne_iff_ne] at h1
  omega

theorem bitOf_mod256 {a i : Nat} (h : i < 8) : bitOf (a % 256) i = bitOf a i := by
  unfold bitOf
  have : a % 256 / 2 ^ i % 2 = a / 2 ^ i % 2 := by
    have e : 256 = 2 ^ i * 2 ^ (8 - i) := by rw [← Nat.pow_add, show i + (8 - i) = 8 by omega]
    rw [e, Nat.mod_mul_right_div_self, Nat.mod_mod_of_dvd]
    exact dvd_pow_self 2 (by omega)
  rw [this]

theorem bitOf_lt {a i n : Nat} (ha : a < 2 ^ n) (h : bitOf a i = true) : i < n := by
  unfold bitOf at h
  rw [beq_iff_eq] at h
  by_contra hn
  have : a < 2 ^ i := lt_of_lt_of_le ha (Nat.pow_le_pow_right (by omega) (by omega))
  rw [Nat.div_eq_of_lt this] at h
  omega

theorem State.burn_good {v1 : Nat} {v2 : List Nat} (h : Good k s) : Good k (State.burn s v1 v2) := by
  unfold State.burn
  refine State.each_good h (fun s x h => ?_)
  refine good_otp (a := v1 + x.2) (n := 0) (ho := s.host) (x := BitVec.ofNat 8 (s.otpB (v1 + x.2) ||| x.1)) h (fun i hi =>
    ?_) rfl
  have h8 : i < 8 := bitOf_lt (n := 8) (by unfold State.otpB; exact BitVec.isLt _) hi
  rw [BitVec.toNat_ofNat]
  rw [show 2 ^ 8 = 256 from rfl, bitOf_mod256 h8]
  exact bitOf_or hi

theorem State.setSess_good {w : Win} {x : Sess} (h : Good k s) : Good k (State.setSess s w x) := by
  simp (maxDischargeDepth := 99) only [State.setSess, h, good_mk_iff, good_parts]

theorem State.auditEvent_good {on : Bool} (h : Good k s) : Good k (State.auditEvent s on) := by
  simp (maxDischargeDepth := 99) only [State.auditEvent, h, State.sysEvent_good, State.irq_good, good_ite, good_mk_iff,
    good_parts]

theorem State.mirrorCheck_good (h : Good k s) : Good k (State.mirrorCheck s) := by
  unfold State.mirrorCheck
  split <;> simp (maxDischargeDepth := 99) +contextual only [h, State.auditEvent_good, good_ite, good_mk_iff, good_parts,
    good_foldl, good_foldl1, good_ite1, implies_true]

theorem State.toMirror_good {r : AuditRec} (h : Good k s) : Good k (State.toMirror s r) := by
  unfold State.toMirror
  repeat' first
    | with_reducible assumption
    | simp (maxDischargeDepth := 99) +contextual only [h, State.wrDev_good, State.mirrorCheck_good, good_ite, good_mk_iff,
      good_parts, good_foldl, good_foldl1, good_ite1, implies_true]
    | split

theorem State.auditLost_good (h : Good k s) : Good k (State.auditLost s) := by
  simp (maxDischargeDepth := 99) only [State.auditLost, h, State.bump_good, State.irq_good, good_ite, good_mk_iff,
    good_parts]

theorem State.trimLog_good (h : Good k s) : Good k (State.trimLog s) := by
  simp (maxDischargeDepth := 99) only [State.trimLog, h, State.auditLost_good, good_ite, good_mk_iff, good_parts]

theorem State.numbered_good {r : AuditRec} (h : Good k s) : Good k (State.numbered s r).1 := by
  simp (maxDischargeDepth := 99) only [State.numbered, h, good_mk_iff, good_parts]

theorem State.audit_good {role st action : Nat} {detail : List Nat} (h : Good k s) : Good k (State.audit s role st action
    detail) := by
  unfold State.audit
  split <;> simp (maxDischargeDepth := 99) +contextual only [h, State.numbered_good, State.trimLog_good,
    State.toMirror_good, good_ite, good_mk_iff, good_parts, good_foldl, good_foldl1, good_ite1, implies_true]

theorem State.noRights_good {w : Win} {op : Nat} (h : Good k s) : Good k (State.noRights s w op) := by
  simp (maxDischargeDepth := 99) only [State.noRights, h, State.audit_good, good_ite, good_mk_iff, good_parts]

theorem State.respondA_good {r : CmdRef} {op st : Nat} {results : List Nat} (h : Good k s) : Good k (State.respondA s r op
    st results) := by
  unfold State.respondA
  split <;> simp (maxDischargeDepth := 99) +contextual only [h, State.audit_good, State.respond_good, good_ite,
    good_mk_iff, good_parts, good_foldl, good_foldl1, good_ite1, implies_true]

theorem State.denied_good {v1 : Win} {v2 : Nat} {v3 : Bool} (h : Good k s) : Good k (State.denied s v1 v2 v3) := by
  have put : ∀ (s : State) v, Good k s → Good k { s with rook := { s.rook with viol := v } } := fun s v h => by
    simp only [good_mk_iff]; exact good_parts h
  unfold State.denied
  extract_lets p s1 s2 s3 f
  have h3 : Good k s3 := by
    have h2 : Good k s2 := State.setN_good (State.irq_good (State.bump_good h))
    refine good_ite h2 ?_
    simp only [good_mk_iff]; exact good_parts h2
  split
  · exact good_ite (put _ _ (State.audit_good h3)) (put _ _ h3)
  · exact put _ _ (State.audit_good h3)

theorem State.hostGuard_good {w : Win} {a : Nat} {wr : Bool} {f : State → State} (h : Good k s)
    (hf : ∀ s, Good k s → Good k (f s)) : Good k (State.hostGuard s w a wr f) := by
  unfold State.hostGuard
  refine good_ite ?_ ?_
  · refine good_ite h ?_
    simp only [good_mk_iff]; exact good_parts h
  · extract_lets y x
    have hx : Good k x := State.setSess_good h
    clear_value x
    exact good_ite (State.denied_good hx) (good_ite hx (hf _ hx))

end Sys2Proof.Machine
end

