-- ==== Sys2Proof/Laws/KeepQueue.lean ====
section
/-! SUPPORT. The operations of Machine/Queue.lean keep what `Good` says. -/

namespace Sys2Proof.Machine
open Sys2Proof

set_option Elab.async false
set_option linter.unusedSimpArgs false
set_option linter.unusedVariables false
set_option linter.unreachableTactic false
set_option linter.unusedTactic false

variable {k : Keep} {s : State}

theorem State.putWords_good {x : Queue} {p : Nat} {l : List Word} (h : Good k s) : Good k (State.putWords s x p l) := by
  simp (maxDischargeDepth := 99) only [State.putWords, h, good_mk_iff, good_parts]

theorem State.endResv_good {q st : Nat} (h : Good k s) : Good k (State.endResv s q st) := by
  unfold State.endResv
  repeat' first
    | with_reducible assumption
    | simp (maxDischargeDepth := 99) +contextual only [h, State.bump_good, State.setQue_good, good_ite, good_mk_iff,
      good_parts, good_foldl, good_foldl1, good_ite1, implies_true]
    | split

theorem State.qdrop_good {q : Nat} (h : Good k s) : Good k (State.qdrop s q) := by
  simp (maxDischargeDepth := 99) only [State.qdrop, h, State.bump_good, good_ite, good_mk_iff, good_parts]

theorem State.dataWrite_good {w : Win} {q : Nat} {v : Word} (h : Good k s) : Good k (State.dataWrite s w q v) := by
  unfold State.dataWrite
  repeat' first
    | with_reducible assumption
    | simp (maxDischargeDepth := 99) +contextual only [h, State.bump_good, State.endResv_good, State.qdrop_good,
      State.setQue_good, State.putWords_good, good_ite, good_mk_iff, good_parts, good_foldl, good_foldl1, good_ite1,
      implies_true]
    | split

theorem State.commitWrite_good {w : Win} {q : Nat} {v : Word} (h : Good k s) : Good k (State.commitWrite s w q v) := by
  unfold State.commitWrite
  repeat' first
    | with_reducible assumption
    | simp (maxDischargeDepth := 99) +contextual only [h, State.bump_good, State.qdrop_good, State.setQue_good,
      State.putWords_good, good_ite, good_mk_iff, good_parts, good_foldl, good_foldl1, good_ite1, implies_true]
    | split

theorem State.putItem_good {q : Nat} {hdr : Word} {words : List Word} {win : Option Win} (h : Good k s) : Good k
    (State.putItem s q hdr words win) := by
  simp (maxDischargeDepth := 99) only [State.putItem, h, State.setQue_good, State.putWords_good, good_ite, good_mk_iff,
    good_parts]

theorem State.commitDone_good {c : Committer} {st : Nat} (h : Good k s) : Good k (State.commitDone s c st) := by
  unfold State.commitDone
  split <;> simp (maxDischargeDepth := 99) +contextual only [h, State.bump_good, State.setCore_good, good_ite,
    good_mk_iff, good_parts, good_foldl, good_foldl1, good_ite1, implies_true]

theorem State.commitAccept_good {q : Nat} (h : Good k s) : Good k (State.commitAccept s q) := by
  unfold State.commitAccept
  split <;> simp (maxDischargeDepth := 99) +contextual only [h, State.bump_good, State.qdrop_good, State.putItem_good,
    State.commitDone_good, good_ite, good_mk_iff, good_parts, good_foldl, good_foldl1, good_ite1, implies_true]

theorem State.handOver_good {c : Commit} (h : Good k s) : Good k (State.handOver s c) := by
  simp (maxDischargeDepth := 99) only [State.handOver, h, good_mk_iff, good_parts]

theorem State.dataRead_good {q : Nat} (h : Good k s) : Good k (State.dataRead s q) := by
  simp (maxDischargeDepth := 99) only [State.dataRead, h, State.setQue_good, good_ite, good_mk_iff, good_parts]

theorem State.popItem_good {q : Nat} (h : Good k s) : Good k (State.popItem s q) := by
  unfold State.popItem
  repeat' first
    | with_reducible assumption
    | simp (maxDischargeDepth := 99) +contextual only [h, State.setQue_good, good_ite, good_mk_iff, good_parts,
      good_foldl, good_foldl1, good_ite1, implies_true]
    | split

theorem State.flush_good {q : Nat} (h : Good k s) : Good k (State.flush s q) := by
  simp (maxDischargeDepth := 99) only [State.flush, h, State.endResv_good, State.addN_good, State.setQue_good, good_ite,
    good_mk_iff, good_parts]

theorem State.orphans_good {q : Nat} (h : Good k s) : Good k (State.orphans s q) := by
  simp (maxDischargeDepth := 99) only [State.orphans, h, good_mk_iff, good_parts]

theorem State.writeQcfg_good {q : Nat} {v : Word} (h : Good k s) : Good k (State.writeQcfg s q v) := by
  simp (maxDischargeDepth := 99) only [State.writeQcfg, h, State.err_good, State.setReg_good, State.irq_good,
    State.setQue_good, State.flush_good, State.orphans_good, good_ite, good_mk_iff, good_parts]

theorem State.resizeApply_good {q : Nat} (h : Good k s) : Good k (State.resizeApply s q) := by
  unfold State.resizeApply
  repeat' first
    | with_reducible assumption
    | simp (maxDischargeDepth := 99) +contextual only [h, State.setQue_good, good_ite, good_mk_iff, good_parts,
      good_foldl, good_foldl1, good_ite1, implies_true]
    | split

theorem State.responseWrite_good {q : Nat} (h : Good k s) : Good k (State.responseWrite s q) := by
  unfold State.responseWrite
  split <;> simp (maxDischargeDepth := 99) +contextual only [h, State.qdrop_good, State.putItem_good, State.setQue_good,
    good_ite, good_mk_iff, good_parts, good_foldl, good_foldl1, good_ite1, implies_true]

theorem State.eventPost_good {q : Nat} (h : Good k s) : Good k (State.eventPost s q) := by
  unfold State.eventPost
  split <;> simp (maxDischargeDepth := 99) +contextual only [h, State.irq_good, State.qdrop_good, State.putItem_good,
    State.setQue_good, State.setFld_good, good_ite, good_mk_iff, good_parts, good_foldl, good_foldl1, good_ite1,
    implies_true]

theorem State.qpCommit_good {g : Nat} {v : Word} (h : Good k s) : Good k (State.qpCommit s g v) := by
  simp (maxDischargeDepth := 99) only [State.qpCommit, h, State.handOver_good, State.setCore_good, good_ite, good_mk_iff,
    good_parts]

theorem State.qpPop_good {g : Nat} (h : Good k s) : Good k (State.qpPop s g) := by
  unfold State.qpPop
  repeat' first
    | with_reducible assumption
    | simp (maxDischargeDepth := 99) +contextual only [h, State.setCore_good, State.popItem_good, good_ite, good_mk_iff,
      good_parts, good_foldl, good_foldl1, good_ite1, implies_true]
    | split

theorem execQueueDataWrite_good {w : Win} {q : Nat} {v : Word} (h : Good k s) : GoodRes k (execQueueDataWrite w q v s) := by
  simp (maxDischargeDepth := 99) +contextual only [execQueueDataWrite, h, State.dataWrite_good, State.hostGuard_good,
    good_ite, good_mk_iff, good_parts, goodRes_next, good_foldl, good_foldl1, good_ite1, implies_true]

theorem execCommit_good {w : Win} {q : Nat} {v : Word} (h : Good k s) : GoodRes k (execCommit w q v s) := by
  simp (maxDischargeDepth := 99) +contextual only [execCommit, h, State.commitWrite_good, State.hostGuard_good, good_ite,
    good_mk_iff, good_parts, goodRes_next, good_foldl, good_foldl1, good_ite1, implies_true]

theorem execAbort_good {w : Win} {q : Nat} {v : Word} (h : Good k s) : GoodRes k (execAbort w q v s) := by
  simp (maxDischargeDepth := 99) +contextual only [execAbort, h, State.endResv_good, State.qdrop_good, State.setQue_good,
    State.hostGuard_good, good_ite, good_mk_iff, good_parts, goodRes_next, good_foldl, good_foldl1, good_ite1,
    implies_true]

theorem execReservationTimeout_good {q : Nat} (h : Good k s) : GoodRes k (execReservationTimeout q s) := by
  simp (maxDischargeDepth := 99) only [execReservationTimeout, h, State.endResv_good, State.irq_good, good_ite,
    good_mk_iff, good_parts, goodRes_next]

theorem execQueueDataRead_good {w : Win} {q : Nat} (h : Good k s) : GoodRes k (execQueueDataRead w q s) := by
  simp (maxDischargeDepth := 99) +contextual only [execQueueDataRead, h, State.dataRead_good, State.hostGuard_good,
    good_ite, good_mk_iff, good_parts, goodRes_next, good_foldl, good_foldl1, good_ite1, implies_true]

theorem execQpCommit_good {g : Nat} {v : Word} (h : Good k s) : GoodRes k (execQpCommit g v s) := by
  simp (maxDischargeDepth := 99) only [execQpCommit, h, State.qpCommit_good, good_ite, good_mk_iff, good_parts,
    goodRes_next]

theorem execCommitAccept_good {q : Nat} (h : Good k s) : GoodRes k (execCommitAccept q s) := by
  simp (maxDischargeDepth := 99) only [execCommitAccept, h, State.commitAccept_good, good_ite, good_mk_iff, good_parts,
    goodRes_next]

theorem execQpPop_good {g : Nat} (h : Good k s) : GoodRes k (execQpPop g s) := by
  simp (maxDischargeDepth := 99) only [execQpPop, h, State.qpPop_good, good_ite, good_mk_iff, good_parts, goodRes_next]

theorem execQflush_good {w : Win} {q : Nat} (h : Good k s) : GoodRes k (execQflush w q s) := by
  simp (maxDischargeDepth := 99) +contextual only [execQflush, h, State.flush_good, State.hostGuard_good, good_ite,
    good_mk_iff, good_parts, goodRes_next, good_foldl, good_foldl1, good_ite1, implies_true]

theorem execQcfgEnable_good {w : Win} {q size base : Nat} (h : Good k s) : GoodRes k (execQcfgEnable w q size base s) := by
  simp (maxDischargeDepth := 99) +contextual only [execQcfgEnable, h, State.writeQcfg_good, State.hostGuard_good,
    good_ite, good_mk_iff, good_parts, goodRes_next, good_foldl, good_foldl1, good_ite1, implies_true]

theorem execQcfgDisable_good {w : Win} {q : Nat} {v : Word} (h : Good k s) : GoodRes k (execQcfgDisable w q v s) := by
  simp (maxDischargeDepth := 99) +contextual only [execQcfgDisable, h, State.writeQcfg_good, State.hostGuard_good,
    good_ite, good_mk_iff, good_parts, goodRes_next, good_foldl, good_foldl1, good_ite1, implies_true]

theorem execQcfgResize_good {w : Win} {q size base : Nat} (h : Good k s) : GoodRes k (execQcfgResize w q size base s) := by
  simp (maxDischargeDepth := 99) +contextual only [execQcfgResize, h, State.writeQcfg_good, State.hostGuard_good,
    good_ite, good_mk_iff, good_parts, goodRes_next, good_foldl, good_foldl1, good_ite1, implies_true]

theorem execQueueResizeApply_good {q : Nat} (h : Good k s) : GoodRes k (execQueueResizeApply q s) := by
  simp (maxDischargeDepth := 99) only [execQueueResizeApply, h, State.resizeApply_good, good_ite, good_mk_iff, good_parts,
    goodRes_next]

theorem execResponseWrite_good {q : Nat} (h : Good k s) : GoodRes k (execResponseWrite q s) := by
  simp (maxDischargeDepth := 99) only [execResponseWrite, h, State.responseWrite_good, good_ite, good_mk_iff, good_parts,
    goodRes_next]

theorem execEventPost_good {q : Nat} (h : Good k s) : GoodRes k (execEventPost q s) := by
  simp (maxDischargeDepth := 99) only [execEventPost, h, State.eventPost_good, good_ite, good_mk_iff, good_parts,
    goodRes_next]

theorem State.qmRst_good (h : Good k s) : Good k (State.qmRst s) := by
  simp (maxDischargeDepth := 99) only [State.qmRst, h, State.pageReset_good, State.headerReset_good,
    State.rstRefused_good, good_ite, good_mk_iff, good_parts]

theorem execQmRst_good {w : Win} (h : Good k s) : GoodRes k (execQmRst w s) := by
  simp (maxDischargeDepth := 99) +contextual only [execQmRst, h, State.qmRst_good, State.hostGuard_good, good_ite,
    good_mk_iff, good_parts, goodRes_next, good_foldl, good_foldl1, good_ite1, implies_true]

end Sys2Proof.Machine
end

