-- ==== Sys2Proof/Laws/KeepLink.lean ====
section
/-! SUPPORT. The operations of Machine/Link.lean keep what `Good` says. -/

namespace Sys2Proof.Machine
open Sys2Proof

set_option Elab.async false
set_option linter.unusedSimpArgs false
set_option linter.unusedVariables false
set_option linter.unreachableTactic false
set_option linter.unusedTactic false

variable {k : Keep} {s : State}

theorem State.lineEvent_good {b irqBit code : Nat} {payload : List Nat} (h : Good k s) : Good k (State.lineEvent s b
    irqBit code payload) := by
  simp (maxDischargeDepth := 99) only [State.lineEvent, h, State.irq_good, State.event_good, good_ite, good_mk_iff,
    good_parts]

theorem State.linkStateEvent_good {l : Nat} (h : Good k s) : Good k (State.linkStateEvent s l) := by
  simp (maxDischargeDepth := 99) only [State.linkStateEvent, h, State.lineEvent_good, good_ite, good_mk_iff, good_parts]

theorem State.setLinkState_good {l st cause : Nat} (h : Good k s) : Good k (State.setLinkState s l st cause) := by
  simp (maxDischargeDepth := 99) +contextual only [State.setLinkState, h, State.setLine_good, State.setFld_good,
    State.each_good, State.linkStateEvent_good, good_ite, good_mk_iff, good_parts, good_foldl, good_foldl1, good_ite1,
    implies_true]

theorem State.beginTraining_good {l : Nat} {fast : Bool} (h : Good k s) : Good k (State.beginTraining s l fast) := by
  simp (maxDischargeDepth := 99) only [State.beginTraining, h, State.setFld_good, State.setLink_good,
    State.setLinkState_good, good_ite, good_mk_iff, good_parts]

theorem State.linkDown_good {l cause : Nat} (h : Good k s) : Good k (State.linkDown s l cause) := by
  simp (maxDischargeDepth := 99) only [State.linkDown, h, State.setLink_good, State.setLinkState_good, good_ite,
    good_mk_iff, good_parts]

theorem State.linkFail_good {l cause : Nat} (h : Good k s) : Good k (State.linkFail s l cause) := by
  simp (maxDischargeDepth := 99) only [State.linkFail, h, State.linkDown_good, State.beginTraining_good, good_ite,
    good_mk_iff, good_parts]

theorem State.scanEnd_good {l map : Nat} {fast : Bool} (h : Good k s) : Good k (State.scanEnd s l map fast) := by
  simp (maxDischargeDepth := 99) only [State.scanEnd, h, State.linkDown_good, State.setFld_good, State.setN_good,
    State.setLink_good, State.beginTraining_good, good_ite, good_mk_iff, good_parts]

theorem State.slip_good {b : Nat} {tx : Bool} {kind : Nat} (h : Good k s) : Good k (State.slip s b tx kind) := by
  simp (maxDischargeDepth := 99) only [State.slip, h, State.lineEvent_good, State.bump_good, State.setBank_good, good_ite,
    good_mk_iff, good_parts]

theorem State.phaseCheck_good {l ph : Nat} (h : Good k s) : Good k (State.phaseCheck s l ph) := by
  simp (maxDischargeDepth := 99) only [State.phaseCheck, h, State.lineEvent_good, State.setFld_good, State.setN_good,
    good_ite, good_mk_iff, good_parts]

theorem State.ldiFrame_good {l ph : Nat} {f : FrameBytes} (h : Good k s) : Good k (State.ldiFrame s l ph f) := by
  simp (maxDischargeDepth := 99) only [State.ldiFrame, h, State.bump_good, State.phaseCheck_good, State.setFld_good,
    State.slip_good, State.setLink_good, good_ite, good_mk_iff, good_parts]

theorem State.takeStatus_good {n i raw : Nat} (h : Good k s) : Good k (State.takeStatus s n i raw) := by
  simp (maxDischargeDepth := 99) only [State.takeStatus, h, State.setLine_good, State.setFld_good, good_ite, good_mk_iff,
    good_parts]

theorem State.processRx_good {n l : Nat} (h : Good k s) : Good k (State.processRx s n l) := by
  unfold State.processRx
  repeat' first
    | with_reducible assumption
    | simp (maxDischargeDepth := 99) +contextual only [h, State.lineEvent_good, State.slip_good, State.each_good,
      State.setLink_good, State.linkStateEvent_good, State.takeStatus_good, good_ite, good_mk_iff, good_parts, good_foldl,
      good_foldl1, good_ite1, implies_true]
    | split

theorem State.cadenceStep_good {i : Nat} (h : Good k s) : Good k (State.cadenceStep s i) := by
  unfold State.cadenceStep
  repeat' first
    | with_reducible assumption
    | simp (maxDischargeDepth := 99) +contextual only [h, State.setLine_good, good_ite, good_mk_iff, good_parts,
      good_foldl, good_foldl1, good_ite1, implies_true]
    | split

theorem State.closeLine_good {n i : Nat} (h : Good k s) : Good k (State.closeLine s n i).1 := by
  unfold State.closeLine
  repeat' first
    | with_reducible assumption
    | simp (maxDischargeDepth := 99) +contextual only [h, State.lineEvent_good, State.bump_good, State.setLine_good,
      State.each_good, good_ite, good_mk_iff, good_parts, good_foldl, good_foldl1, good_ite1, implies_true]
    | split

theorem State.zeroRef_good {l : Nat} (h : Good k s) : Good k (State.zeroRef s l) := by
  simp (maxDischargeDepth := 99) +contextual only [State.zeroRef, h, State.setLine_good, State.each_good, good_ite,
    good_mk_iff, good_parts, good_foldl, good_foldl1, good_ite1, implies_true]

theorem State.closeLdo_good {n l : Nat} (h : Good k s) : Good k (State.closeLdo s n l) := by
  simp (maxDischargeDepth := 99) +contextual only [State.closeLdo, h, State.zeroRef_good, State.slip_good,
    State.setLink_good, State.closeLine_good, good_ite, good_mk_iff, good_parts, good_foldl, good_foldl1, good_ite1,
    implies_true]

theorem State.disableLink_good {l : Nat} (h : Good k s) : Good k (State.disableLink s l) := by
  simp (maxDischargeDepth := 99) only [State.disableLink, h, State.setLink_good, State.beginTraining_good,
    State.setLinkState_good, good_ite, good_mk_iff, good_parts]

theorem State.linkOpen_good {n : Nat} (h : Good k s) : Good k (State.linkOpen s n) := by
  simp (maxDischargeDepth := 99) +contextual only [State.linkOpen, h, State.setBank_good, State.disableLink_good,
    State.each_good, State.processRx_good, State.closeLdo_good, good_ite, good_mk_iff, good_parts, good_foldl,
    good_foldl1, good_ite1, implies_true]

theorem State.linkDone_good (h : Good k s) : Good k (State.linkDone s) := by
  simp (maxDischargeDepth := 99) +contextual only [State.linkDone, h, State.each_good, State.setLink_good, good_ite,
    good_mk_iff, good_parts, good_foldl, good_foldl1, good_ite1, implies_true]

theorem State.showCtl_good {l : Nat} {ctl : List Nat} (h : Good k s) : Good k (State.showCtl s l ctl) := by
  simp (maxDischargeDepth := 99) +contextual only [State.showCtl, h, State.each_good, State.setN_good, good_ite,
    good_mk_iff, good_parts, good_foldl, good_foldl1, good_ite1, implies_true]

theorem State.ldoStart_good {l : Nat} (h : Good k s) : Good k (State.ldoStart s l) := by
  unfold State.ldoStart
  repeat' first
    | with_reducible assumption
    | simp (maxDischargeDepth := 99) +contextual only [h, State.zeroRef_good, State.slip_good, State.showCtl_good,
      State.setLink_good, good_ite, good_mk_iff, good_parts, good_foldl, good_foldl1, good_ite1, implies_true]
    | split

theorem State.writeBankCfg_good {b : Nat} {v : Word} (h : Good k s) : Good k (State.writeBankCfg s b v) := by
  unfold State.writeBankCfg
  repeat' first
    | with_reducible assumption
    | simp (maxDischargeDepth := 99) +contextual only [h, State.setReg_good, State.each_good, State.setLink_good,
      State.beginTraining_good, good_ite, good_mk_iff, good_parts, good_foldl, good_foldl1, good_ite1, implies_true]
    | with_reducible refine State.each_good ?_ (fun s x h => ?_)
    | with_reducible refine good_ite ?_ ?_
    | with_reducible refine good_ite1 ?_ ?_
    | split

theorem State.writeLnkCtrl_good {l : Nat} {v : Word} (h : Good k s) : Good k (State.writeLnkCtrl s l v) := by
  unfold State.writeLnkCtrl
  repeat' first
    | with_reducible assumption
    | simp (maxDischargeDepth := 99) +contextual only [h, State.setReg_good, State.setFld_good, State.beginTraining_good,
      good_ite, good_mk_iff, good_parts, good_foldl, good_foldl1, good_ite1, implies_true]
    | split

theorem State.bitChange_good {i bit : Nat} (h : Good k s) : Good k (State.bitChange s i bit) := by
  unfold State.bitChange
  split <;> simp (maxDischargeDepth := 99) +contextual only [h, State.lineEvent_good, State.setLine_good,
    State.setFld_good, good_ite, good_mk_iff, good_parts, good_foldl, good_foldl1, good_ite1, implies_true]

theorem State.statusChange_good {i bit : Nat} (h : Good k s) : Good k (State.statusChange s i bit) := by
  unfold State.statusChange
  split <;> simp (maxDischargeDepth := 99) +contextual only [h, State.bitChange_good, good_ite, good_mk_iff, good_parts,
    good_foldl, good_foldl1, good_ite1, implies_true]

theorem State.cmdLineSet_good {r : CmdRef} {i mode ilim ringSel polSoft testRly feOpt : Nat} (h : Good k s) : Good k
    (State.cmdLineSet s r i mode ilim ringSel polSoft testRly feOpt) := by
  simp (maxDischargeDepth := 99) only [State.cmdLineSet, h, State.setLine_good, State.respond_good, State.noRights_good,
    good_ite, good_mk_iff, good_parts]

theorem State.cmdLineRing_good {r : CmdRef} {i profile ringSel cycles : Nat} (h : Good k s) : Good k (State.cmdLineRing s
    r i profile ringSel cycles) := by
  simp (maxDischargeDepth := 99) only [State.cmdLineRing, h, State.setLine_good, State.respond_good, good_ite,
    good_mk_iff, good_parts]

theorem State.ringStop_good {i : Nat} (h : Good k s) : Good k (State.ringStop s i) := by
  unfold State.ringStop
  repeat' first
    | with_reducible assumption
    | simp (maxDischargeDepth := 99) +contextual only [h, State.setLine_good, good_ite, good_mk_iff, good_parts,
      good_foldl, good_foldl1, good_ite1, implies_true]
    | split

theorem State.cmdLineRingStop_good {r : CmdRef} {i : Nat} (h : Good k s) : Good k (State.cmdLineRingStop s r i) := by
  simp (maxDischargeDepth := 99) only [State.cmdLineRingStop, h, State.respond_good, State.ringStop_good, good_ite,
    good_mk_iff, good_parts]

theorem State.cmdMgmtSend_good {r : CmdRef} {l len : Nat} {payload : List Nat} (h : Good k s) : Good k (State.cmdMgmtSend
    s r l len payload) := by
  simp (maxDischargeDepth := 99) only [State.cmdMgmtSend, h, State.respond_good, State.setLink_good, good_ite,
    good_mk_iff, good_parts]

theorem State.cmdRetrain_good {r : CmdRef} {l : Nat} {fast : Bool} (h : Good k s) : Good k (State.cmdRetrain s r l fast)
    := by
  simp (maxDischargeDepth := 99) only [State.cmdRetrain, h, State.respond_good, State.beginTraining_good, good_ite,
    good_mk_iff, good_parts]

theorem execLineSet_good {r : CmdRef} {i mode ilim ringSel polSoft testRly feOpt : Nat} (h : Good k s) : GoodRes k
    (execLineSet r i mode ilim ringSel polSoft testRly feOpt s) := by
  simp (maxDischargeDepth := 99) +contextual only [execLineSet, h, State.carryOut_good, State.cmdLineSet_good, good_ite,
    good_mk_iff, good_parts, goodRes_next, good_foldl, good_foldl1, good_ite1, implies_true]

theorem execLineRing_good {r : CmdRef} {i profile ringSel cycles : Nat} (h : Good k s) : GoodRes k (execLineRing r i
    profile ringSel cycles s) := by
  simp (maxDischargeDepth := 99) +contextual only [execLineRing, h, State.carryOut_good, State.cmdLineRing_good, good_ite,
    good_mk_iff, good_parts, goodRes_next, good_foldl, good_foldl1, good_ite1, implies_true]

theorem execLineRingStop_good {r : CmdRef} {i : Nat} (h : Good k s) : GoodRes k (execLineRingStop r i s)
    := by
  simp (maxDischargeDepth := 99) +contextual only [execLineRingStop, h, State.carryOut_good, State.cmdLineRingStop_good,
    good_ite, good_mk_iff, good_parts, goodRes_next, good_foldl, good_foldl1, good_ite1, implies_true]

theorem execLinkMgmtSend_good {r : CmdRef} {l len : Nat} {payload : List Nat} (h : Good k s) : GoodRes k (execLinkMgmtSend
    r l len payload s) := by
  simp (maxDischargeDepth := 99) +contextual only [execLinkMgmtSend, h, State.carryOut_good, State.cmdMgmtSend_good,
    good_ite, good_mk_iff, good_parts, goodRes_next, good_foldl, good_foldl1, good_ite1, implies_true]

theorem execLinkRetrain_good {r : CmdRef} {l : Nat} {fast : Bool} (h : Good k s) : GoodRes k (execLinkRetrain r l fast s)
    := by
  simp (maxDischargeDepth := 99) +contextual only [execLinkRetrain, h, State.cmdRetrain_good, State.carryOut_good,
    good_ite, good_mk_iff, good_parts, goodRes_next, good_foldl, good_foldl1, good_ite1, implies_true]

theorem execLdiFrame_good {l ph : Nat} {f : FrameBytes} (h : Good k s) : GoodRes k (execLdiFrame l ph f s) := by
  simp (maxDischargeDepth := 99) only [execLdiFrame, h, State.ldiFrame_good, good_ite, good_mk_iff, good_parts,
    goodRes_next]

theorem execLdoFrameStart_good {l : Nat} (h : Good k s) : GoodRes k (execLdoFrameStart l s) := by
  simp (maxDischargeDepth := 99) only [execLdoFrameStart, h, State.ldoStart_good, good_ite, good_mk_iff, good_parts,
    goodRes_next]

theorem execLinkEnSet_good {w : Win} {l : Nat} (h : Good k s) : GoodRes k (execLinkEnSet w l s) := by
  simp (maxDischargeDepth := 99) +contextual only [execLinkEnSet, h, State.writeBankCfg_good, State.hostGuard_good,
    good_ite, good_mk_iff, good_parts, goodRes_next, good_foldl, good_foldl1, good_ite1, implies_true]

theorem execLinkEnClear_good {w : Win} {l : Nat} (h : Good k s) : GoodRes k (execLinkEnClear w l s) := by
  simp (maxDischargeDepth := 99) +contextual only [execLinkEnClear, h, State.writeBankCfg_good, State.hostGuard_good,
    good_ite, good_mk_iff, good_parts, goodRes_next, good_foldl, good_foldl1, good_ite1, implies_true]

theorem execTapScanStep_good {l : Nat} (h : Good k s) : GoodRes k (execTapScanStep l s) := by
  unfold execTapScanStep
  refine goodRes_next.mpr ?_
  split <;> simp (maxDischargeDepth := 99) +contextual only [h, State.setLink_good, State.scanEnd_good, good_ite,
    good_mk_iff, good_parts, goodRes_next, good_foldl, good_foldl1, good_ite1, implies_true]

theorem execLinkUp_good {l : Nat} (h : Good k s) : GoodRes k (execLinkUp l s) := by
  unfold execLinkUp
  refine goodRes_next.mpr ?_
  split <;> simp (maxDischargeDepth := 99) +contextual only [h, State.setLink_good, State.setLinkState_good, good_ite,
    good_mk_iff, good_parts, goodRes_next, good_foldl, good_foldl1, good_ite1, implies_true]

theorem execConfirmTimeout_good {l : Nat} (h : Good k s) : GoodRes k (execConfirmTimeout l s) := by
  unfold execConfirmTimeout
  refine goodRes_next.mpr ?_
  split <;> simp (maxDischargeDepth := 99) +contextual only [h, State.linkDown_good, State.beginTraining_good, good_ite,
    good_mk_iff, good_parts, goodRes_next, good_foldl, good_foldl1, good_ite1, implies_true]

theorem State.bankDown_good {b cause : Nat} (h : Good k s) : Good k (State.bankDown s b cause) := by
  simp (maxDischargeDepth := 99) +contextual only [State.bankDown, h, State.linkDown_good, State.setBank_good,
    State.each_good, good_ite, good_mk_iff, good_parts, good_foldl, good_foldl1, good_ite1, implies_true]

theorem execClkLoss_good {b : Nat} (h : Good k s) : GoodRes k (execClkLoss b s) := by
  simp (maxDischargeDepth := 99) only [execClkLoss, h, State.setFld_good, State.bankDown_good, good_ite, good_mk_iff,
    good_parts, goodRes_next]

theorem execFsErr_good {b : Nat} (h : Good k s) : GoodRes k (execFsErr b s) := by
  simp (maxDischargeDepth := 99) only [execFsErr, h, State.setFld_good, State.bankDown_good, good_ite, good_mk_iff,
    good_parts, goodRes_next]

theorem execSyncLoss_good {l : Nat} (h : Good k s) : GoodRes k (execSyncLoss l s) := by
  simp (maxDischargeDepth := 99) only [execSyncLoss, h, State.linkFail_good, good_ite, good_mk_iff, good_parts,
    goodRes_next]

theorem execCrcLimit_good {l : Nat} (h : Good k s) : GoodRes k (execCrcLimit l s) := by
  simp (maxDischargeDepth := 99) only [execCrcLimit, h, State.linkFail_good, good_ite, good_mk_iff, good_parts,
    goodRes_next]

theorem execClockRegularRetrain_good {b : Nat} (h : Good k s) : GoodRes k (execClockRegularRetrain b s) := by
  simp (maxDischargeDepth := 99) +contextual only [execClockRegularRetrain, h, State.setFld_good, State.setBank_good,
    State.each_good, State.beginTraining_good, good_ite, good_mk_iff, good_parts, goodRes_next, good_foldl, good_foldl1,
    good_ite1, implies_true]

theorem execNoEyeRetry_good {l : Nat} (h : Good k s) : GoodRes k (execNoEyeRetry l s) := by
  simp (maxDischargeDepth := 99) only [execNoEyeRetry, h, State.beginTraining_good, good_ite, good_mk_iff, good_parts,
    goodRes_next]

theorem execLnkCtrlRetrain_good {w : Win} {l : Nat} {v : Word} (h : Good k s) : GoodRes k (execLnkCtrlRetrain w l v s) := by
  simp (maxDischargeDepth := 99) +contextual only [execLnkCtrlRetrain, h, State.writeLnkCtrl_good, State.hostGuard_good,
    good_ite, good_mk_iff, good_parts, goodRes_next, good_foldl, good_foldl1, good_ite1, implies_true]

theorem execTapManWrite_good {w : Win} {l : Nat} {v : Word} (h : Good k s) : GoodRes k (execTapManWrite w l v s) := by
  simp (maxDischargeDepth := 99) +contextual only [execTapManWrite, h, State.writeLnkCtrl_good, State.hostGuard_good,
    good_ite, good_mk_iff, good_parts, goodRes_next, good_foldl, good_foldl1, good_ite1, implies_true]

theorem execStatusDebounce_good {i bit : Nat} (h : Good k s) : GoodRes k (execStatusDebounce i bit s) := by
  simp (maxDischargeDepth := 99) only [execStatusDebounce, h, State.statusChange_good, good_ite, good_mk_iff, good_parts,
    goodRes_next]

theorem execCadenceStep_good {i : Nat} (h : Good k s) : GoodRes k (execCadenceStep i s) := by
  simp (maxDischargeDepth := 99) only [execCadenceStep, h, State.cadenceStep_good, good_ite, good_mk_iff, good_parts,
    goodRes_next]

theorem State.linkRst_good {b : Nat} (h : Good k s) : Good k (State.linkRst s b) := by
  simp (maxDischargeDepth := 99) only [State.linkRst, h, State.pageReset_good, State.headerReset_good,
    State.rstRefused_good, good_ite, good_mk_iff, good_parts]

theorem execLinkRst_good {w : Win} {b : Nat} (h : Good k s) : GoodRes k (execLinkRst w b s) := by
  simp (maxDischargeDepth := 99) +contextual only [execLinkRst, h, State.linkRst_good, State.hostGuard_good, good_ite,
    good_mk_iff, good_parts, goodRes_next, good_foldl, good_foldl1, good_ite1, implies_true]

end Sys2Proof.Machine
end

