-- ==== Sys2Proof/Laws/KeepThyme.lean ====
section
/-! SUPPORT. The operations of Machine/Thyme.lean keep what `Good` says. -/

namespace Sys2Proof.Machine
open Sys2Proof

set_option Elab.async false
set_option linter.unusedSimpArgs false
set_option linter.unusedVariables false
set_option linter.unreachableTactic false
set_option linter.unusedTactic false

variable {k : Keep} {s : State}

theorem State.setJctx_good {c : Nat} {j : Option JCtx} (h : Good k s) : Good k (State.setJctx s c j) := by
  simp (maxDischargeDepth := 99) only [State.setJctx, h, good_mk_iff, good_parts]

theorem State.setEpoch_good {c : Nat} {e : Option Epoch} (h : Good k s) : Good k (State.setEpoch s c e) := by
  unfold State.setEpoch
  split <;> simp (maxDischargeDepth := 99) +contextual only [h, State.setJctx_good, good_ite, good_mk_iff, good_parts,
    good_foldl, good_foldl1, good_ite1, implies_true]

theorem State.writeDir_good {c : Nat} {r : JRec} (h : Good k s) : Good k (State.writeDir s c r) := by
  simp (maxDischargeDepth := 99) only [State.writeDir, h, State.wrDev_good, good_ite, good_mk_iff, good_parts]

theorem State.newKey_good (h : Good k s) : Good k (State.newKey s) := by
  simp (maxDischargeDepth := 99) only [State.newKey, h, State.setN_good, State.drawn_good, good_ite, good_mk_iff,
    good_parts]

theorem State.takeSeq_good (h : Good k s) : Good k (State.takeSeq s).1 := by
  simp (maxDischargeDepth := 99) only [State.takeSeq, h, State.irq_good, State.newKey_good, State.event_good, good_ite,
    good_mk_iff, good_parts]

theorem State.showStream_good {c j blk : Nat} {e : Epoch} (h : Good k s) : Good k (State.showStream s c j blk e) := by
  simp (maxDischargeDepth := 99) only [State.showStream, h, State.wrBytes_good, good_ite, good_mk_iff, good_parts]

theorem State.holdSub_good {c j n : Nat} {xs : List Int} (h : Good k s) : Good k (State.holdSub s c j n xs) := by
  unfold State.holdSub
  split <;> simp (maxDischargeDepth := 99) +contextual only [h, State.setEpoch_good, State.wrBytes_good,
    State.showStream_good, good_ite, good_mk_iff, good_parts, good_foldl, good_foldl1, good_ite1, implies_true]

theorem State.jnlFrame_good {c n : Nat} {x0 x1 : List Int} (h : Good k s) : Good k (State.jnlFrame s c n x0 x1) := by
  unfold State.jnlFrame
  split <;> simp (maxDischargeDepth := 99) +contextual only [h, State.holdSub_good, State.setEpoch_good, good_ite,
    good_mk_iff, good_parts, good_foldl, good_foldl1, good_ite1, implies_true]

theorem State.jnlBlock_good {c t : Nat} {x0 x1 : List Int} (h : Good k s) : Good k (State.jnlBlock s c t x0 x1) := by
  unfold State.jnlBlock
  split <;> simp (maxDischargeDepth := 99) +contextual only [h, State.holdSub_good, good_ite, good_mk_iff, good_parts,
    good_foldl, good_foldl1, good_ite1, implies_true]

theorem State.stage_good {x : JSlot} (h : Good k s) : Good k (State.stage s x) := by
  simp (maxDischargeDepth := 99) only [State.stage, h, good_mk_iff, good_parts]

theorem State.gapSlot_good {c j blk : Nat} {e : Epoch} {seq : Nat} {end_ fill : Bool} (h : Good k s) : Good k
    (State.gapSlot s c j blk e seq end_ fill) := by
  simp (maxDischargeDepth := 99) only [State.gapSlot, h, State.bump_good, State.irq_good, State.stage_good,
    State.event_good, good_ite, good_mk_iff, good_parts]

theorem State.codeStream_good {c j blk : Nat} {e : Epoch} {end_ : Bool} (h : Good k s) : Good k (State.codeStream s c j
    blk e end_).1 := by
  simp (maxDischargeDepth := 99) +contextual only [State.codeStream, h, State.gapSlot_good, State.bump_good,
    State.stage_good, State.takeSeq_good, good_ite, good_mk_iff, good_parts, good_foldl, good_foldl1, good_ite1,
    implies_true]

theorem State.codeBlock_good {c : Nat} {end_ : Bool} (h : Good k s) : Good k (State.codeBlock s c end_) := by
  unfold State.codeBlock
  split <;> simp (maxDischargeDepth := 99) +contextual only [h, State.codeStream_good, State.setEpoch_good,
    State.showStream_good, good_ite, good_mk_iff, good_parts, good_foldl, good_foldl1, good_ite1, implies_true]

theorem State.endCopy_good {x : JCopy} {reason : Nat} (h : Good k s) : Good k (State.endCopy s x reason) := by
  simp (maxDischargeDepth := 99) only [State.endCopy, h, State.event_good, good_ite, good_mk_iff, good_parts]

theorem State.copyBlock_good {x : JCopy} (h : Good k s) : Good k (State.copyBlock s x).1 := by
  simp (maxDischargeDepth := 99) only [State.copyBlock, h, State.wrDev_good, good_ite, good_mk_iff, good_parts]

theorem State.copyRun_good {n : Nat} {x : JCopy} (h : Good k s) : Good k (State.copyRun s n x) := by
  induction n generalizing s x with
  | zero => simp only [State.copyRun, h, good_mk_iff, good_parts]
  | succ n ih =>
    simp (maxDischargeDepth := 99) only [State.copyRun, h, ih, State.copyBlock_good, State.endCopy_good, good_ite,
      good_mk_iff,
      good_parts]

theorem State.copyOn_good {c : Nat} (h : Good k s) : Good k (State.copyOn s c) := by
  unfold State.copyOn
  split <;> simp (maxDischargeDepth := 99) +contextual only [h, State.copyRun_good, good_ite, good_mk_iff, good_parts,
    good_foldl, good_foldl1, good_ite1, implies_true]

theorem State.putSlot_good {x : JSlot} (h : Good k s) : Good k (State.putSlot s x) := by
  unfold State.putSlot
  repeat' first
    | with_reducible assumption
    | simp (maxDischargeDepth := 99) +contextual only [h, State.bump_good, State.maxN_good, State.setEpoch_good,
      State.wrDev_good, State.writeDir_good, State.copyOn_good, good_ite, good_mk_iff, good_parts, good_foldl,
      good_foldl1, good_ite1, implies_true]
    | split

theorem State.slotRefused_good {x : JSlot} (h : Good k s) : Good k (State.slotRefused s x).1 := by
  unfold State.slotRefused
  repeat' first
    | with_reducible assumption
    | simp (maxDischargeDepth := 99) +contextual only [h, State.bump_good, State.irq_good, State.setEpoch_good,
      State.event_good, good_ite, good_mk_iff, good_parts, good_foldl, good_foldl1, good_ite1, implies_true]
    | split

theorem State.slotCipher_good {x : JSlot} (h : Good k s) : Good k (State.slotCipher s x).1 := by
  unfold State.slotCipher
  repeat' first
    | with_reducible assumption
    | simp (maxDischargeDepth := 99) +contextual only [h, State.bump_good, State.slotRefused_good, good_ite, good_mk_iff,
      good_parts, good_foldl, good_foldl1, good_ite1, implies_true]
    | split

theorem State.flushSlots_good {c : Nat} (h : Good k s) : Good k (State.flushSlots s c) := by
  simp (maxDischargeDepth := 99) +contextual only [State.flushSlots, h, State.slotCipher_good, State.putSlot_good,
    State.each_good, good_ite, good_mk_iff, good_parts, good_foldl, good_foldl1, good_ite1, implies_true]

theorem State.markEnd_good {c blk : Nat} (h : Good k s) : Good k (State.markEnd s c blk) := by
  unfold State.markEnd
  repeat' first
    | with_reducible assumption
    | simp (maxDischargeDepth := 99) +contextual only [h, State.wr8_good, good_ite, good_mk_iff, good_parts, good_foldl,
      good_foldl1, good_ite1, implies_true]
    | split

theorem State.codeTo_good {c last n : Nat} (h : Good k s) : Good k (State.codeTo s c last n) := by
  induction n generalizing s with
  | zero => exact h
  | succ n ih =>
    unfold State.codeTo
    split <;> simp (maxDischargeDepth := 99) only [h, ih, State.codeBlock_good, good_ite]

theorem State.endEpoch_good {c last st t : Nat} (h : Good k s) : Good k (State.endEpoch s c last st t) := by
  unfold State.endEpoch
  repeat' first
    | with_reducible assumption
    | simp (maxDischargeDepth := 99) +contextual only [h, State.codeTo_good, State.endCopy_good, State.markEnd_good,
      State.setEpoch_good, State.writeDir_good, State.copyOn_good, State.flushSlots_good, good_ite, good_mk_iff,
      good_parts, good_foldl, good_foldl1, good_ite1, implies_true]
    | split

theorem State.thymeEnd_good {c st : Nat} (h : Good k s) : Good k (State.thymeEnd s c st) := by
  unfold State.thymeEnd
  split <;> simp (maxDischargeDepth := 99) +contextual only [h, State.endEpoch_good, State.setJctx_good, good_ite,
    good_mk_iff, good_parts, good_foldl, good_foldl1, good_ite1, implies_true]

theorem State.beginEpoch_good {c n : Nat} {f : JCfg} (h : Good k s) : Good k (State.beginEpoch s c n f) := by
  simp (maxDischargeDepth := 99) +contextual only [State.beginEpoch, h, State.setEpoch_good, State.writeDir_good,
    State.wrBytes_good, good_ite, good_mk_iff, good_parts, good_foldl, good_foldl1, good_ite1, implies_true]

theorem State.jctxOpen_good {n c : Nat} (h : Good k s) : Good k (State.jctxOpen s n c) := by
  unfold State.jctxOpen
  repeat' first
    | with_reducible assumption
    | simp (maxDischargeDepth := 99) +contextual only [h, State.beginEpoch_good, State.setEpoch_good, State.endEpoch_good,
      State.setJctx_good, good_ite, good_mk_iff, good_parts, good_foldl, good_foldl1, good_ite1, implies_true]
    | split

theorem State.jnlArm_good {c : Nat} (h : Good k s) : Good k (State.jnlArm s c) := by
  simp (maxDischargeDepth := 99) only [State.jnlArm, h, State.setJctx_good, good_ite, good_mk_iff, good_parts]

theorem State.submitOvr_good (h : Good k s) : Good k (State.submitOvr s) := by
  simp (maxDischargeDepth := 99) only [State.submitOvr, h, State.bump_good, State.irq_good, good_ite, good_mk_iff,
    good_parts]

theorem State.jnlSubmit_good {g i : Nat} (h : Good k s) : Good k (State.jnlSubmit s g i) := by
  simp (maxDischargeDepth := 99) only [State.jnlSubmit, h, State.submitOvr_good, good_ite, good_mk_iff, good_parts]

theorem State.jsRead_good {a : Nat} (h : Good k s) : Good k (State.jsRead s a) := by
  unfold State.jsRead
  repeat' first
    | with_reducible assumption
    | simp (maxDischargeDepth := 99) +contextual only [h, State.holdSub_good, State.submitOvr_good, good_ite, good_mk_iff,
      good_parts, good_foldl, good_foldl1, good_ite1, implies_true]
    | split

theorem State.thymeOpen_good {n : Nat} (h : Good k s) : Good k (State.thymeOpen s n) := by
  simp (maxDischargeDepth := 99) +contextual only [State.thymeOpen, h, State.jctxOpen_good, State.each_good,
    State.jsRead_good, good_ite, good_mk_iff, good_parts, good_foldl, good_foldl1, good_ite1, implies_true]

theorem State.thymeRead_good {r : CmdRef} {c mask first count : Nat} {decode : Bool} {dest : Nat} (h : Good k s) : Good k
    (State.thymeRead s r c mask first count decode dest) := by
  simp (maxDischargeDepth := 99) only [State.thymeRead, h, State.respondA_good, State.wrDev_good, State.noRights_good,
    good_ite, good_mk_iff, good_parts]

theorem State.thymeCopy_good {r : CmdRef} {c mask first : Nat} {last : Option Nat} {dest len : Nat} (h : Good k s) : Good
    k (State.thymeCopy s r c mask first last dest len) := by
  unfold State.thymeCopy
  repeat' first
    | with_reducible assumption
    | simp (maxDischargeDepth := 99) +contextual only [h, State.endCopy_good, State.respondA_good, State.copyOn_good,
      State.noRights_good, good_ite, good_mk_iff, good_parts, good_foldl, good_foldl1, good_ite1, implies_true]
    | split

theorem State.thymeStop_good {r : CmdRef} {c : Nat} (h : Good k s) : Good k (State.thymeStop s r c) := by
  unfold State.thymeStop
  repeat' first
    | with_reducible assumption
    | simp (maxDischargeDepth := 99) +contextual only [h, State.endCopy_good, State.respond_good, State.noRights_good,
      good_ite, good_mk_iff, good_parts, good_foldl, good_foldl1, good_ite1, implies_true]
    | split

theorem State.thymeQuery_good {r : CmdRef} {c : Nat} (h : Good k s) : Good k (State.thymeQuery s r c) := by
  simp (maxDischargeDepth := 99) only [State.thymeQuery, h, State.respond_good, State.noRights_good, good_ite,
    good_mk_iff, good_parts]

theorem State.thymeSet_good {r : CmdRef} {c : Nat} {f : JournalFields} (h : Good k s) : Good k (State.thymeSet s r c f) :=
    by
  simp (maxDischargeDepth := 99) only [State.thymeSet, h, State.respond_good, State.setJctx_good, good_ite, good_mk_iff,
    good_parts]

theorem State.jobKeep_good {a : Nat} {v : JSave} (h : Good k s) : Good k (State.jobKeep s a v) := by
  simp (maxDischargeDepth := 99) only [State.jobKeep, h, State.writeRecord_good, good_ite, good_mk_iff, good_parts]

theorem State.jobDone_good (h : Good k s) : Good k (State.jobDone s) := by
  unfold State.jobDone
  split <;> simp (maxDischargeDepth := 99) +contextual only [h, State.bump_good, State.jobKeep_good, State.wrDev_good,
    State.respond_good, State.drawn_good, good_ite, good_mk_iff, good_parts, good_foldl, good_foldl1, good_ite1,
    implies_true]

theorem State.thymeCode_good {r : CmdRef} {f : CoderFields} (h : Good k s) : Good k (State.thymeCode s r f) := by
  simp (maxDischargeDepth := 99) only [State.thymeCode, h, State.respond_good, good_ite, good_mk_iff, good_parts]

theorem State.thymeStart_good (h : Good k s) : Good k (State.thymeStart s) := by
  simp (maxDischargeDepth := 99) +contextual only [State.thymeStart, h, State.jnlArm_good, State.irq_good,
    State.newKey_good, State.each_good, State.event_good, good_ite, good_mk_iff, good_parts, good_foldl, good_foldl1,
    good_ite1, implies_true]

theorem State.thymeHalt_good (h : Good k s) : Good k (State.thymeHalt s) := by
  simp (maxDischargeDepth := 99) +contextual only [State.thymeHalt, h, State.endCopy_good, State.each_good, good_ite,
    good_mk_iff, good_parts, good_foldl, good_foldl1, good_ite1, implies_true]

theorem State.writeThymeCfg_good {v : Word} (h : Good k s) : Good k (State.writeThymeCfg s v) := by
  simp (maxDischargeDepth := 99) only [State.writeThymeCfg, h, State.setReg_good, State.thymeHalt_good, State.cfgErr_good,
    State.thymeStart_good, good_ite, good_mk_iff, good_parts]

theorem State.thymeLost_good (h : Good k s) : Good k (State.thymeLost s) := by
  simp (maxDischargeDepth := 99) +contextual only [State.thymeLost, h, State.irq_good, State.endCopy_good,
    State.each_good, State.event_good, good_ite, good_mk_iff, good_parts, good_foldl, good_foldl1, good_ite1,
    implies_true]

theorem State.thymeRst_good (h : Good k s) : Good k (State.thymeRst s) := by
  simp (maxDischargeDepth := 99) +contextual only [State.thymeRst, h, State.endCopy_good, State.each_good,
    State.pageReset_good, State.headerReset_good, State.respond_good, good_ite, good_mk_iff, good_parts, good_foldl,
    good_foldl1, good_ite1, implies_true]

theorem execJnlSubmit_good {g : Nat} {v : Word} (h : Good k s) : GoodRes k (execJnlSubmit g v s) := by
  simp (maxDischargeDepth := 99) only [execJnlSubmit, h, State.jnlSubmit_good, good_ite, good_mk_iff, good_parts,
    goodRes_next]

theorem execThymeBlockCode_good {c : Nat} (h : Good k s) : GoodRes k (execThymeBlockCode c s) := by
  simp (maxDischargeDepth := 99) only [execThymeBlockCode, h, State.codeBlock_good, good_ite, good_mk_iff, good_parts,
    goodRes_next]

theorem execThymeSlotWrite_good (h : Good k s) : GoodRes k (execThymeSlotWrite s) := by
  unfold execThymeSlotWrite
  refine goodRes_next.mpr ?_
  split <;> simp (maxDischargeDepth := 99) +contextual only [h, State.putSlot_good, good_ite, good_mk_iff, good_parts,
    goodRes_next, good_foldl, good_foldl1, good_ite1, implies_true]

theorem execThymeSet_good {r : CmdRef} {c : Nat} {f : JournalFields} (h : Good k s) : GoodRes k (execThymeSet r c f s) := by
  simp (maxDischargeDepth := 99) +contextual only [execThymeSet, h, State.carryOut_good, State.thymeSet_good, good_ite,
    good_mk_iff, good_parts, goodRes_next, good_foldl, good_foldl1, good_ite1, implies_true]

theorem execThymeRead_good {r : CmdRef} {c mask first count : Nat} {decode : Bool} {dest : Nat} (h : Good k s) : GoodRes k
    (execThymeRead r c mask first count decode dest s) := by
  simp (maxDischargeDepth := 99) +contextual only [execThymeRead, h, State.carryOut_good, State.thymeRead_good, good_ite,
    good_mk_iff, good_parts, goodRes_next, good_foldl, good_foldl1, good_ite1, implies_true]

theorem execThymeCopy_good {r : CmdRef} {c mask first : Nat} {last : Option Nat} {dest len : Nat} (h : Good k s) : GoodRes
    k (execThymeCopy r c mask first last dest len s) := by
  simp (maxDischargeDepth := 99) +contextual only [execThymeCopy, h, State.carryOut_good, State.thymeCopy_good, good_ite,
    good_mk_iff, good_parts, goodRes_next, good_foldl, good_foldl1, good_ite1, implies_true]

theorem execThymeStop_good {r : CmdRef} {c : Nat} (h : Good k s) : GoodRes k (execThymeStop r c s) := by
  simp (maxDischargeDepth := 99) +contextual only [execThymeStop, h, State.carryOut_good, State.thymeStop_good, good_ite,
    good_mk_iff, good_parts, goodRes_next, good_foldl, good_foldl1, good_ite1, implies_true]

theorem execThymeQuery_good {r : CmdRef} {c : Nat} (h : Good k s) : GoodRes k (execThymeQuery r c s) := by
  simp (maxDischargeDepth := 99) +contextual only [execThymeQuery, h, State.carryOut_good, State.thymeQuery_good,
    good_ite, good_mk_iff, good_parts, goodRes_next, good_foldl, good_foldl1, good_ite1, implies_true]

theorem execThymeCode_good {r : CmdRef} {f : CoderFields} (h : Good k s) : GoodRes k (execThymeCode r f s) := by
  simp (maxDischargeDepth := 99) +contextual only [execThymeCode, h, State.carryOut_good, State.thymeCode_good, good_ite,
    good_mk_iff, good_parts, goodRes_next, good_foldl, good_foldl1, good_ite1, implies_true]

theorem execThymeCodeDone_good (h : Good k s) : GoodRes k (execThymeCodeDone s) := by
  simp (maxDischargeDepth := 99) only [execThymeCodeDone, h, State.jobDone_good, good_ite, good_mk_iff, good_parts,
    goodRes_next]

theorem execThymeEnable_good {w : Win} {v : Word} (h : Good k s) : GoodRes k (execThymeEnable w v s) := by
  simp (maxDischargeDepth := 99) +contextual only [execThymeEnable, h, State.writeThymeCfg_good, State.hostGuard_good,
    good_ite, good_mk_iff, good_parts, goodRes_next, good_foldl, good_foldl1, good_ite1, implies_true]

theorem execThymeDisable_good {w : Win} {v : Word} (h : Good k s) : GoodRes k (execThymeDisable w v s) := by
  simp (maxDischargeDepth := 99) +contextual only [execThymeDisable, h, State.writeThymeCfg_good, State.hostGuard_good,
    good_ite, good_mk_iff, good_parts, goodRes_next, good_foldl, good_foldl1, good_ite1, implies_true]

theorem execThymeRst_good {w : Win} (h : Good k s) : GoodRes k (execThymeRst w s) := by
  simp (maxDischargeDepth := 99) +contextual only [execThymeRst, h, State.thymeRst_good, State.hostGuard_good, good_ite,
    good_mk_iff, good_parts, goodRes_next, good_foldl, good_foldl1, good_ite1, implies_true]

end Sys2Proof.Machine
end

