-- ==== Sys2Proof/Laws/KeepWire.lean ====
section
/-! SUPPORT. The operations of Machine/Wire.lean keep what `Good` says. -/

namespace Sys2Proof.Machine
open Sys2Proof

set_option Elab.async false
set_option linter.unusedSimpArgs false
set_option linter.unusedVariables false
set_option linter.unreachableTactic false
set_option linter.unusedTactic false

variable {k : Keep} {s : State}

theorem State.setMac_good {m : Nat} {x : Mac} (h : Good k s) : Good k (State.setMac s m x) := by
  simp (maxDischargeDepth := 99) only [State.setMac, h, good_mk_iff, good_parts]

theorem State.voicePut_good {t : Template} {slot : Nat} {packet : List Nat} (h : Good k s) : Good k (State.voicePut s t
    slot packet) := by
  simp (maxDischargeDepth := 99) only [State.voicePut, h, State.setMac_good, good_ite, good_mk_iff, good_parts]

theorem State.poolFree_good {b : Nat} (h : Good k s) : Good k (State.poolFree s b) := by
  simp (maxDischargeDepth := 99) only [State.poolFree, h, good_mk_iff, good_parts]

theorem State.poolTake_good {b : Nat} (h : Good k s) : Good k (State.poolTake s b) := by
  simp (maxDischargeDepth := 99) only [State.poolTake, h, good_mk_iff, good_parts]

end Sys2Proof.Machine
end

