-- ==== Sys2Proof/Laws/KeepCipher.lean ====
section
/-! SUPPORT. The operations of Machine/Cipher.lean keep what `Good` says. -/

namespace Sys2Proof.Machine
open Sys2Proof

set_option Elab.async false
set_option linter.unusedSimpArgs false
set_option linter.unusedVariables false
set_option linter.unreachableTactic false
set_option linter.unusedTactic false

variable {k : Keep} {s : State}

theorem State.setEng_good {c : Nat} {x : Ciph} (h : Good k s) : Good k (State.setEng s c x) := by
  simp (maxDischargeDepth := 99) only [State.setEng, h, good_mk_iff, good_parts]

theorem State.setSrec_good {ctx dir : Nat} {r : SRec} (h : Good k s) : Good k (State.setSrec s ctx dir r) := by
  simp (maxDischargeDepth := 99) only [State.setSrec, h, State.wrBytes_good, good_ite, good_mk_iff, good_parts]

theorem State.setSkey_good {ctx dir : Nat} {j : Option SKey} (h : Good k s) : Good k (State.setSkey s ctx dir j) := by
  simp (maxDischargeDepth := 99) only [State.setSkey, h, good_mk_iff, good_parts]

theorem State.cipherClear_good {ctx : Nat} (h : Good k s) : Good k (State.cipherClear s ctx) := by
  simp (maxDischargeDepth := 99) only [State.cipherClear, h, State.setSkey_good, State.wrBytes_good, good_ite,
    good_mk_iff, good_parts]

theorem State.zeroStore_good {c : Nat} (h : Good k s) : Good k (State.zeroStore s c) := by
  simp (maxDischargeDepth := 99) only [State.zeroStore, h, good_mk_iff, good_parts]

theorem State.lockout_good {c faults : Nat} (h : Good k s) : Good k (State.lockout s c faults) := by
  simp (maxDischargeDepth := 99) only [State.lockout, h, State.irq_good, State.zeroStore_good, State.setEng_good,
    State.setFld_good, State.event_good, good_ite, good_mk_iff, good_parts]

theorem State.cipherFault_good {c : Nat} (h : Good k s) : Good k (State.cipherFault s c) := by
  simp (maxDischargeDepth := 99) only [State.cipherFault, h, State.bump_good, State.lockout_good, State.irq_good,
    State.setEng_good, good_ite, good_mk_iff, good_parts]

theorem State.keyTurn_good {c : Nat} {f : State → State} (h : Good k s) (hf : ∀ s, Good k s → Good k (f s)) :
    Good k (State.keyTurn s c f) := by
  unfold State.keyTurn
  exact good_ite h (hf _ h)

theorem State.tagFail_good {c ctx : Nat} (h : Good k s) : Good k (State.tagFail s c ctx) := by
  unfold State.tagFail
  repeat' first
    | with_reducible assumption
    | simp (maxDischargeDepth := 99) +contextual only [h, State.bump_good, State.irq_good, State.event_good, good_ite,
      good_mk_iff, good_parts, good_foldl, good_foldl1, good_ite1, implies_true]
    | split

theorem State.keyExhausted_good {c ctx dir : Nat} (h : Good k s) : Good k (State.keyExhausted s c ctx dir) := by
  simp (maxDischargeDepth := 99) only [State.keyExhausted, h, State.irq_good, State.event_good, good_ite, good_mk_iff,
    good_parts]

theorem State.rxGone_good {p : CiphRx} {counter : Nat} (h : Good k s) : Good k (State.rxGone s p counter) := by
  simp (maxDischargeDepth := 99) only [State.rxGone, h, State.bump_good, State.poolFree_good, good_ite, good_mk_iff,
    good_parts]

theorem State.srtpVerify_good {c : Nat} {p : CiphRx} {b : List Nat} {r : SRec} {j : SKey} {fault : Bool} (h : Good k s) :
    Good k (State.srtpVerify s c p b r j fault) := by
  simp (maxDischargeDepth := 99) only [State.srtpVerify, h, State.rxGone_good, State.setSkey_good, State.bump_good,
    State.tagFail_good, State.cipherFault_good, State.keyExhausted_good, State.poolFree_good, State.setSrec_good,
    good_ite, good_mk_iff, good_parts]

theorem State.srtpRx_good {c : Nat} {fault : Bool} (h : Good k s) : Good k (State.srtpRx s c fault) := by
  unfold State.srtpRx
  repeat' first
    | with_reducible assumption
    | simp (maxDischargeDepth := 99) +contextual only [h, State.rxGone_good, State.srtpVerify_good, State.setEng_good,
      State.tagFail_good, State.poolFree_good, State.setSrec_good, good_ite, good_mk_iff, good_parts, good_foldl,
      good_foldl1, good_ite1, implies_true]
    | split

theorem State.srtpTx_good {c : Nat} {fault : Bool} (h : Good k s) : Good k (State.srtpTx s c fault) := by
  unfold State.srtpTx
  repeat' first
    | with_reducible assumption
    | simp (maxDischargeDepth := 99) +contextual only [h, State.bump_good, State.setEng_good, State.voicePut_good,
      State.cipherFault_good, State.keyExhausted_good, State.setSrec_good, good_ite, good_mk_iff, good_parts, good_foldl,
      good_foldl1, good_ite1, implies_true]
    | split

theorem State.journalSlot_good {c : Nat} {fault : Bool} (h : Good k s) : Good k (State.journalSlot s c fault) := by
  unfold State.journalSlot
  repeat' first
    | with_reducible assumption
    | simp (maxDischargeDepth := 99) +contextual only [h, State.slotRefused_good, State.slotCipher_good,
      State.cipherFault_good, good_ite, good_mk_iff, good_parts, good_foldl, good_foldl1, good_ite1, implies_true]
    | split

theorem State.installKey_good {ctx dir : Nat} {j : SrtpKey} (h : Good k s) : Good k (State.installKey s ctx dir j) := by
  simp (maxDischargeDepth := 99) only [State.installKey, h, State.setSkey_good, State.wrBytes_good, good_ite, good_mk_iff,
    good_parts]

theorem State.cmdKeySrtp_good {r : CmdRef} {ctx dir : Nat} {j : SrtpKey} {fault : Bool} (h : Good k s) : Good k
    (State.cmdKeySrtp s r ctx dir j fault) := by
  simp (maxDischargeDepth := 99) only [State.cmdKeySrtp, h, State.cipherFault_good, State.respond_good,
    State.noRights_good, State.installKey_good, good_ite, good_mk_iff, good_parts]

theorem State.cmdKeySrtpClear_good {r : CmdRef} {ctx dir : Nat} (h : Good k s) : Good k (State.cmdKeySrtpClear s r ctx
    dir) := by
  simp (maxDischargeDepth := 99) only [State.cmdKeySrtpClear, h, State.setSkey_good, State.wr8_good, State.respond_good,
    State.wrBytes_good, State.noRights_good, good_ite, good_mk_iff, good_parts]

theorem State.cmdSrtpQuery_good {r : CmdRef} {ctx dir : Nat} (h : Good k s) : Good k (State.cmdSrtpQuery s r ctx dir) := by
  simp (maxDischargeDepth := 99) only [State.cmdSrtpQuery, h, State.respond_good, State.noRights_good, good_ite,
    good_mk_iff, good_parts]

theorem State.setKeySlot_good {c i : Nat} {j : KeySlot} (h : Good k s) : Good k (State.setKeySlot s c i j) := by
  simp (maxDischargeDepth := 99) only [State.setKeySlot, h, State.setEng_good, good_ite, good_mk_iff, good_parts]

theorem State.slotCmd_good {r : CmdRef} {op c i : Nat} {bad : Bool} {f : State → Nat → State} (h : Good k s)
    (hf : ∀ s x, Good k s → Good k (f s x)) : Good k (State.slotCmd s r op c i bad f) := by
  unfold State.slotCmd
  repeat' first
    | with_reducible assumption
    | simp (maxDischargeDepth := 99) only [h, hf, State.noRights_good, State.respondA_good, State.cipherFault_good,
      State.drawn_good, good_ite]
    | with_reducible refine good_ite ?_ ?_
    | split

theorem State.cmdSlotLoad_good {r : CmdRef} {c i addr : Nat} (h : Good k s) : Good k (State.cmdSlotLoad s r c i addr) := by
  unfold State.cmdSlotLoad
  repeat' first
    | with_reducible assumption
    | simp (maxDischargeDepth := 99) +contextual only [h, State.wake_good, State.respondA_good, State.slotCmd_good,
      State.setKeySlot_good, good_ite, good_mk_iff, good_parts, good_foldl, good_foldl1, good_ite1, implies_true]
    | with_reducible refine State.each_good ?_ (fun s x h => ?_)
    | with_reducible refine good_ite ?_ ?_
    | with_reducible refine good_ite1 ?_ ?_
    | split
    | refine State.slotCmd_good ?_ (fun s j h => ?_)

theorem State.trng_good (h : Good k s) : Good k (State.trng s).1 := by
  simp (maxDischargeDepth := 99) only [State.trng, h, State.drawn_good, good_ite, good_mk_iff, good_parts]

theorem State.cmdSlotGen_good {r : CmdRef} {c i alg usage fixed addr : Nat} (h : Good k s) : Good k
    (State.cmdSlotGen s r c i alg usage fixed addr) := by
  simp (maxDischargeDepth := 99) +contextual only [State.cmdSlotGen, h, State.wake_good, State.trng_good,
    State.respondA_good, State.wrBytes_good, State.slotCmd_good, State.setKeySlot_good, good_ite, good_mk_iff, good_parts,
    good_foldl, good_foldl1, good_ite1, implies_true]

theorem State.cmdSlotClear_good {r : CmdRef} {c i : Nat} (h : Good k s) : Good k (State.cmdSlotClear s r c i) := by
  simp (maxDischargeDepth := 99) only [State.cmdSlotClear, h, State.respondA_good, State.noRights_good,
    State.setKeySlot_good, good_ite, good_mk_iff, good_parts]

theorem State.cmdSlotQuery_good {r : CmdRef} {c i : Nat} (h : Good k s) : Good k (State.cmdSlotQuery s r c i) := by
  simp (maxDischargeDepth := 99) only [State.cmdSlotQuery, h, State.respond_good, State.noRights_good, good_ite,
    good_mk_iff, good_parts]

theorem State.cmdThymeKey_good {r : CmdRef} {gen : Nat} (h : Good k s) : Good k (State.cmdThymeKey s r gen) := by
  unfold State.cmdThymeKey
  repeat' first
    | with_reducible assumption
    | simp (maxDischargeDepth := 99) +contextual only [h, State.respondA_good, State.noRights_good, good_ite, good_mk_iff,
      good_parts, good_foldl, good_foldl1, good_ite1, implies_true]
    | split

theorem State.setJob_good {c : Nat} {j : CiphJob} (h : Good k s) : Good k (State.setJob s c j) := by
  simp (maxDischargeDepth := 99) only [State.setJob, h, State.setEng_good, good_ite, good_mk_iff, good_parts]

theorem State.countIv_good {c : Nat} {j : JobF} (h : Good k s) : Good k (State.countIv s c j) := by
  simp (maxDischargeDepth := 99) only [State.countIv, h, State.bump_good, State.irq_good, State.drawn_good,
    State.setKeySlot_good, State.event_good, good_ite, good_mk_iff, good_parts]

theorem State.jobBegin_good {c : Nat} (h : Good k s) : Good k (State.jobBegin s c) := by
  unfold State.jobBegin
  split <;> simp (maxDischargeDepth := 99) +contextual only [h, State.setJob_good, State.countIv_good, good_ite,
    good_mk_iff, good_parts, good_foldl, good_foldl1, good_ite1, implies_true]

theorem State.jobTake_good {c : Nat} (h : Good k s) : Good k (State.jobTake s c) := by
  unfold State.jobTake
  repeat' first
    | with_reducible assumption
    | simp (maxDischargeDepth := 99) +contextual only [h, State.jobBegin_good, State.setEng_good, State.popItem_good,
      good_ite, good_mk_iff, good_parts, good_foldl, good_foldl1, good_ite1, implies_true]
    | split

theorem State.offer_good {c : Nat} {x : CiphJob} {r : Nat × Nat × Nat} (h : Good k s) : Good k (State.offer s c x r) := by
  simp (maxDischargeDepth := 99) only [State.offer, h, State.handOver_good, good_ite, good_mk_iff, good_parts]

theorem State.jobResults_good {c : Nat} (h : Good k s) : Good k (State.jobResults s c) := by
  unfold State.jobResults
  repeat' first
    | with_reducible assumption
    | simp (maxDischargeDepth := 99) +contextual only [h, State.offer_good, State.each_good, State.setJob_good, good_ite,
      good_mk_iff, good_parts, good_foldl, good_foldl1, good_ite1, implies_true]
    | with_reducible refine State.each_good ?_ (fun s x h => ?_)
    | with_reducible refine good_ite ?_ ?_
    | with_reducible refine good_ite1 ?_ ?_
    | split

theorem State.jobEnd_good {c : Nat} {x : CiphJob} {st out iv : Nat} (h : Good k s) : Good k (State.jobEnd s c x st out iv)
    := by
  unfold State.jobEnd
  split <;> simp (maxDischargeDepth := 99) +contextual only [h, State.bump_good, State.irq_good, State.jobBegin_good,
    State.offer_good, State.setJob_good, good_ite, good_mk_iff, good_parts, good_foldl, good_foldl1, good_ite1,
    implies_true]

theorem State.streamFail_good {j : JobF} {released st : Nat} {all : Bool} (h : Good k s) : Good k (State.streamFail s j
    released st all) := by
  simp (maxDischargeDepth := 99) only [State.streamFail, h, State.wrDev_good, State.wrLE_good, State.drawn_good, good_ite,
    good_mk_iff, good_parts]

theorem State.streamOn_good {c : Nat} (h : Good k s) : Good k (State.streamOn s c) := by
  unfold State.streamOn
  repeat' first
    | with_reducible assumption
    | simp (maxDischargeDepth := 99) +contextual only [h, State.wrDev_good, State.setJob_good, State.wrLE_good,
      State.drawn_good, good_ite, good_mk_iff, good_parts, good_foldl, good_foldl1, good_ite1, implies_true]
    | split

theorem State.ciphOpen_good {c : Nat} (h : Good k s) : Good k (State.ciphOpen s c) := by
  simp (maxDischargeDepth := 99) only [State.ciphOpen, h, State.streamOn_good, State.jobResults_good, good_ite,
    good_mk_iff, good_parts]

theorem State.jobRun_good {c : Nat} {x : CiphJob} {j : KeySlot} {fault : Bool} (h : Good k s) : Good k (State.jobRun s c x
    j fault) := by
  unfold State.jobRun
  repeat' first
    | with_reducible assumption
    | simp (maxDischargeDepth := 99) +contextual only [h, State.jobEnd_good, State.streamFail_good, State.wrDev_good,
      State.cipherFault_good, State.wrLE_good, good_ite, good_mk_iff, good_parts, good_foldl, good_foldl1, good_ite1,
      implies_true]
    | split

theorem State.jobDoneC_good {c : Nat} {fault : Bool} (h : Good k s) : Good k (State.jobDoneC s c fault) := by
  unfold State.jobDoneC
  repeat' first
    | with_reducible assumption
    | simp (maxDischargeDepth := 99) +contextual only [h, State.jobEnd_good, State.streamFail_good, State.jobRun_good,
      good_ite, good_mk_iff, good_parts, good_foldl, good_foldl1, good_ite1, implies_true]
    | split

theorem State.flushJobs_good {c : Nat} (h : Good k s) : Good k (State.flushJobs s c) := by
  unfold State.flushJobs
  extract_lets js s1 s2
  have h1 : Good k s1 := by
    dsimp only [s1]
    split
    · exact good_ite (State.streamFail_good h) h
    · exact h
  refine State.setEng_good (State.each_good h1 fun s x hs => ?_)
  split
  · exact good_ite hs (State.offer_good hs)
  · exact State.offer_good (State.bump_good hs)

theorem State.ciphZero_good {c : Nat} (h : Good k s) : Good k (State.ciphZero s c) := by
  simp (maxDischargeDepth := 99) only [State.ciphZero, h, State.zeroStore_good, State.setEng_good, State.flushJobs_good,
    State.pageReset_good, State.headerReset_good, good_ite, good_mk_iff, good_parts]

theorem State.ciphRebuild_good {c : Nat} (h : Good k s) : Good k (State.ciphRebuild s c) := by
  simp (maxDischargeDepth := 99) only [State.ciphRebuild, h, State.setFld_good, State.setN_good, good_ite, good_mk_iff,
    good_parts]

theorem State.ciphRst_good {c : Nat} (h : Good k s) : Good k (State.ciphRst s c) := by
  simp (maxDischargeDepth := 99) only [State.ciphRst, h, State.ciphZero_good, State.ciphRebuild_good, good_ite,
    good_mk_iff, good_parts]

theorem State.rebuildKey_good {p : State × Nat × Nat} {ctx dir : Nat} (h : Good k p.1) :
    Good k (State.rebuildKey p ctx dir).1 := by
  unfold State.rebuildKey
  obtain ⟨s, a, b⟩ := p
  refine good_ite1 h ?_
  dsimp only
  split
  · exact State.setSkey_good h
  · exact State.wr8_good h

theorem State.ciphRebuilt_good {c : Nat} (h : Good k s) : Good k (State.ciphRebuilt s c) := by
  unfold State.ciphRebuilt
  refine good_ite h ?_
  extract_lets o
  split
  rename_i e
  exact State.setN_good (State.event_good (State.irq_good (State.setFld_good
    (good_fst e (good_foldl1 h fun p x hp => State.rebuildKey_good (State.rebuildKey_good hp))))))

theorem execSrtpRxPacket_good {c : Nat} {fault : Bool} (h : Good k s) : GoodRes k (execSrtpRxPacket c fault s) := by
  simp (maxDischargeDepth := 99) only [execSrtpRxPacket, h, State.srtpRx_good, good_ite, good_mk_iff, good_parts,
    goodRes_next]

theorem execSrtpTxPacket_good {c : Nat} {fault : Bool} (h : Good k s) : GoodRes k (execSrtpTxPacket c fault s) := by
  simp (maxDischargeDepth := 99) only [execSrtpTxPacket, h, State.srtpTx_good, good_ite, good_mk_iff, good_parts,
    goodRes_next]

theorem execCiphJournalSlot_good {c : Nat} {fault : Bool} (h : Good k s) : GoodRes k (execCiphJournalSlot c fault s) := by
  simp (maxDischargeDepth := 99) only [execCiphJournalSlot, h, State.journalSlot_good, good_ite, good_mk_iff, good_parts,
    goodRes_next]

theorem execCiphJobTake_good {c : Nat} (h : Good k s) : GoodRes k (execCiphJobTake c s) := by
  simp (maxDischargeDepth := 99) only [execCiphJobTake, h, State.jobTake_good, good_ite, good_mk_iff, good_parts,
    goodRes_next]

theorem execCiphJobDone_good {c : Nat} {fault : Bool} (h : Good k s) : GoodRes k (execCiphJobDone c fault s) := by
  simp (maxDischargeDepth := 99) only [execCiphJobDone, h, State.jobDoneC_good, good_ite, good_mk_iff, good_parts,
    goodRes_next]

theorem execKeySrtp_good {r : CmdRef} {ctx dir : Nat} {j : SrtpKey} {fault : Bool} (h : Good k s) : GoodRes k (execKeySrtp
    r ctx dir j fault s) := by
  simp (maxDischargeDepth := 99) +contextual only [execKeySrtp, h, State.keyTurn_good, State.cmdKeySrtp_good,
    State.carryOut_good, good_ite, good_mk_iff, good_parts, goodRes_next, good_foldl, good_foldl1, good_ite1,
    implies_true]

theorem execKeySrtpClear_good {r : CmdRef} {ctx dir : Nat} (h : Good k s) : GoodRes k (execKeySrtpClear r ctx dir s) := by
  simp (maxDischargeDepth := 99) +contextual only [execKeySrtpClear, h, State.keyTurn_good, State.carryOut_good,
    State.cmdKeySrtpClear_good, good_ite, good_mk_iff, good_parts, goodRes_next, good_foldl, good_foldl1, good_ite1,
    implies_true]

theorem execKeySlotLoad_good {r : CmdRef} {c i addr : Nat} (h : Good k s) : GoodRes k (execKeySlotLoad r c i addr s) := by
  simp (maxDischargeDepth := 99) +contextual only [execKeySlotLoad, h, State.cmdSlotLoad_good, State.keyTurn_good,
    State.carryOut_good, good_ite, good_mk_iff, good_parts, goodRes_next, good_foldl, good_foldl1, good_ite1,
    implies_true]

theorem execKeySlotGen_good {r : CmdRef} {c i alg usage fixed addr : Nat} (h : Good k s) : GoodRes k
    (execKeySlotGen r c i alg usage fixed addr s) := by
  simp (maxDischargeDepth := 99) +contextual only [execKeySlotGen, h, State.keyTurn_good, State.carryOut_good,
    State.cmdSlotGen_good, good_ite, good_mk_iff, good_parts, goodRes_next, good_foldl, good_foldl1, good_ite1,
    implies_true]

theorem execKeySlotClear_good {r : CmdRef} {c i : Nat} (h : Good k s) : GoodRes k (execKeySlotClear r c i s) := by
  simp (maxDischargeDepth := 99) +contextual only [execKeySlotClear, h, State.keyTurn_good, State.carryOut_good,
    State.cmdSlotClear_good, good_ite, good_mk_iff, good_parts, goodRes_next, good_foldl, good_foldl1, good_ite1,
    implies_true]

theorem execKeySlotQuery_good {r : CmdRef} {c i : Nat} (h : Good k s) : GoodRes k (execKeySlotQuery r c i s) := by
  simp (maxDischargeDepth := 99) +contextual only [execKeySlotQuery, h, State.carryOut_good, State.cmdSlotQuery_good,
    good_ite, good_mk_iff, good_parts, goodRes_next, good_foldl, good_foldl1, good_ite1, implies_true]

theorem execSrtpQuery_good {r : CmdRef} {ctx dir : Nat} (h : Good k s) : GoodRes k (execSrtpQuery r ctx dir s) := by
  simp (maxDischargeDepth := 99) +contextual only [execSrtpQuery, h, State.carryOut_good, State.cmdSrtpQuery_good,
    good_ite, good_mk_iff, good_parts, goodRes_next, good_foldl, good_foldl1, good_ite1, implies_true]

theorem execCiphLockSet_good {w : Win} {c : Nat} (h : Good k s) : GoodRes k (execCiphLockSet w c s) := by
  simp (maxDischargeDepth := 99) +contextual only [execCiphLockSet, h, State.setN_good, State.hostGuard_good, good_ite,
    good_mk_iff, good_parts, goodRes_next, good_foldl, good_foldl1, good_ite1, implies_true]

theorem execCiphRst_good {w : Win} {c : Nat} (h : Good k s) : GoodRes k (execCiphRst w c s) := by
  simp (maxDischargeDepth := 99) +contextual only [execCiphRst, h, State.ciphRst_good, State.hostGuard_good, good_ite,
    good_mk_iff, good_parts, goodRes_next, good_foldl, good_foldl1, good_ite1, implies_true]

theorem execCiphRebuilt_good {c : Nat} (h : Good k s) : GoodRes k (execCiphRebuilt c s) := by
  simp (maxDischargeDepth := 99) only [execCiphRebuilt, h, State.ciphRebuilt_good, good_ite, good_mk_iff, good_parts,
    goodRes_next]

theorem execThymeKey_good {r : CmdRef} {gen : Nat} (h : Good k s) : GoodRes k (execThymeKey r gen s) := by
  simp (maxDischargeDepth := 99) +contextual only [execThymeKey, h, State.carryOut_good, State.cmdThymeKey_good, good_ite,
    good_mk_iff, good_parts, goodRes_next, good_foldl, good_foldl1, good_ite1, implies_true]

end Sys2Proof.Machine
end

