-- ==== Sys2Proof/Laws/KeepNet.lean ====
section
/-! SUPPORT. The operations of Machine/Net.lean keep what `Good` says. -/

namespace Sys2Proof.Machine
open Sys2Proof

set_option Elab.async false
set_option linter.unusedSimpArgs false
set_option linter.unusedVariables false
set_option linter.unreachableTactic false
set_option linter.unusedTactic false

variable {k : Keep} {s : State}

theorem State.setPause_good {m : Nat} {q : Option Nat} (h : Good k s) : Good k (State.setPause s m q) := by
  simp (maxDischargeDepth := 99) only [State.setPause, h, State.setMac_good, State.setFld_good, good_ite, good_mk_iff,
    good_parts]

theorem State.pauseEnd_good {m : Nat} (h : Good k s) : Good k (State.pauseEnd s m) := by
  unfold State.pauseEnd
  repeat' first
    | with_reducible assumption
    | simp (maxDischargeDepth := 99) +contextual only [h, State.setPause_good, good_ite, good_mk_iff, good_parts,
      good_foldl, good_foldl1, good_ite1, implies_true]
    | split

theorem State.pauseReceived_good {m q : Nat} (h : Good k s) : Good k (State.pauseReceived s m q) := by
  simp (maxDischargeDepth := 99) only [State.pauseReceived, h, State.setMac_good, State.setPause_good, good_ite,
    good_mk_iff, good_parts]

theorem State.inputPut_good {m : Nat} {f : RxFrame} (h : Good k s) : Good k (State.inputPut s m f) := by
  simp (maxDischargeDepth := 99) only [State.inputPut, h, State.irq_good, State.setMac_good, State.add64_good,
    State.event_good, good_ite, good_mk_iff, good_parts]

theorem State.macRx_good {m : Nat} {f : WireFrame} (h : Good k s) : Good k (State.macRx s m f) := by
  simp (maxDischargeDepth := 99) only [State.macRx, h, State.inputPut_good, State.add64_good, State.pauseReceived_good,
    good_ite, good_mk_iff, good_parts]

theorem State.pauseSend_good {m : Nat} (h : Good k s) : Good k (State.pauseSend s m) := by
  simp (maxDischargeDepth := 99) only [State.pauseSend, h, State.setMac_good, good_ite, good_mk_iff, good_parts]

theorem State.pauseXon_good {m : Nat} (h : Good k s) : Good k (State.pauseXon s m) := by
  simp (maxDischargeDepth := 99) only [State.pauseXon, h, State.setMac_good, good_ite, good_mk_iff, good_parts]

theorem State.ringWait_good {m r : Nat} (h : Good k s) : Good k (State.ringWait s m r) := by
  unfold State.ringWait
  repeat' first
    | with_reducible assumption
    | simp (maxDischargeDepth := 99) +contextual only [h, State.irq_good, State.setMac_good, State.event_good, good_ite,
      good_mk_iff, good_parts, good_foldl, good_foldl1, good_ite1, implies_true]
    | split

theorem State.toRing_good {m : Nat} {f : HostFrame} (h : Good k s) : GoodOpt k (State.toRing s m f) := by
  unfold State.toRing
  exact goodOpt_ite (goodOpt_some (State.bump_good h))
    (goodOpt_ite goodOpt_none (goodOpt_some (State.ringWait_good (State.bump_good (State.setMac_good h)))))

theorem State.rxDma_good {m r : Nat} (h : Good k s) : Good k (State.rxDma s m r) := by
  unfold State.rxDma
  repeat' first
    | with_reducible assumption
    | simp (maxDischargeDepth := 99) +contextual only [h, State.ringWait_good, State.irq_good, State.setMac_good,
      State.each_good, State.wrBytes_good, State.setN_good, good_ite, good_mk_iff, good_parts, good_foldl, good_foldl1,
      good_ite1, implies_true]
    | split

theorem State.writeRxTail_good {m r : Nat} {v : Word} (h : Good k s) : Good k (State.writeRxTail s m r v) := by
  simp (maxDischargeDepth := 99) only [State.writeRxTail, h, State.ringWait_good, State.cfgErr_good, State.setN_good,
    good_ite, good_mk_iff, good_parts]

theorem State.writeTxTail_good {m t : Nat} {v : Word} (h : Good k s) : Good k (State.writeTxTail s m t v) := by
  simp (maxDischargeDepth := 99) only [State.writeTxTail, h, State.cfgErr_good, State.setN_good, good_ite, good_mk_iff,
    good_parts]

theorem State.rxRingOff_good {m r : Nat} (h : Good k s) : Good k (State.rxRingOff s m r) := by
  simp (maxDischargeDepth := 99) only [State.rxRingOff, h, State.addN_good, State.setMac_good, State.setFld_good,
    State.setN_good, good_ite, good_mk_iff, good_parts]

theorem State.writeRxrCfg_good {m r : Nat} {v : Word} (h : Good k s) : Good k (State.writeRxrCfg s m r v) := by
  simp (maxDischargeDepth := 99) only [State.writeRxrCfg, h, State.setReg_good, State.cfgErr_good, State.rxRingOff_good,
    good_ite, good_mk_iff, good_parts]

theorem State.writeTxrCfg_good {m t : Nat} {v : Word} (h : Good k s) : Good k (State.writeTxrCfg s m t v) := by
  simp (maxDischargeDepth := 99) only [State.writeTxrCfg, h, State.setReg_good, State.setFld_good, State.cfgErr_good,
    State.setN_good, good_ite, good_mk_iff, good_parts]

theorem State.toMedia_good {m ctx : Nat} {f : RxFrame} {p : Parsed} {d : List Nat} (h : Good k s) : Good k (State.toMedia
    s m ctx f p d) := by
  unfold State.toMedia
  split <;> simp (maxDischargeDepth := 99) +contextual only [h, State.bump_good, State.poolTake_good, State.irq_good,
    State.setEng_good, State.wrBytes_good, good_ite, good_mk_iff, good_parts, good_foldl, good_foldl1, good_ite1,
    implies_true]

theorem State.byRules_good {m : Nat} {f : RxFrame} {p : Parsed} {rs : List Nat} (h : Good k s) :
    GoodOpt k (State.byRules s m f p rs) := by
  unfold State.byRules
  extract_lets cls
  clear_value cls
  split
  · exact goodOpt_ite (goodOpt_some (State.bump_good h)) (State.toRing_good h)
  · exact goodOpt_ite (State.toRing_good h) (goodOpt_ite (goodOpt_some h) (State.toRing_good h))

theorem State.byEntry_good {m : Nat} {f : RxFrame} {p : Parsed} {d : List Nat} {e : NetEntry} (h : Good k s) :
    GoodOpt k (State.byEntry s m f p d e) := by
  unfold State.byEntry
  split
  · exact goodOpt_ite (goodOpt_some (State.bump_good h))
      (goodOpt_ite (State.toRing_good h) (goodOpt_some (State.toMedia_good h)))
  · exact State.toRing_good h
  · exact State.toRing_good h
  · exact goodOpt_some (State.bump_good h)

theorem State.classify_good {m : Nat} {f : RxFrame} (h : Good k s) : GoodOpt k (State.classify s m f) := by
  unfold State.classify
  extract_lets p ring ptp rs
  clear_value p ring ptp rs
  refine goodOpt_ite (goodOpt_some (State.bump_good h)) (goodOpt_ite (State.toRing_good h) ?_)
  repeat' first
    | exact State.byEntry_good h
    | exact State.byRules_good h
    | split

theorem State.preClassify_good {m : Nat} (h : Good k s) : Good k (State.preClassify s m) := by
  unfold State.preClassify
  split
  · exact h
  · split
    · exact State.setMac_good (State.classify_good h _ (by assumption))
    · exact h

theorem State.txTake_good {c : Nat} (h : Good k s) : Good k (State.txTake s c) := by
  unfold State.txTake
  repeat' first
    | with_reducible assumption
    | simp (maxDischargeDepth := 99) +contextual only [h, State.bump_good, State.poolTake_good, State.popItem_good,
      good_ite, good_mk_iff, good_parts, good_foldl, good_foldl1, good_ite1, implies_true]
    | split

theorem State.showTx_good {c : Nat} (h : Good k s) : Good k (State.showTx s c) := by
  simp (maxDischargeDepth := 99) only [State.showTx, h, State.writeRecord_good, good_ite, good_mk_iff, good_parts]

theorem State.release1_good {n : Nat} {it : TxItem} (h : Good k s) : Good k (State.release1 s n it) := by
  unfold State.release1
  repeat' first
    | with_reducible assumption
    | simp (maxDischargeDepth := 99) +contextual only [h, State.bump_good, State.setEng_good, State.showTx_good,
      State.voicePut_good, State.poolFree_good, State.setCtx_good, State.event_good, good_ite, good_mk_iff, good_parts,
      good_foldl, good_foldl1, good_ite1, implies_true]
    | split

theorem State.txSlots_good {n : Nat} (h : Good k s) : Good k (State.txSlots s n) := by
  simp (maxDischargeDepth := 99) +contextual only [State.txSlots, h, State.release1_good, State.showTx_good,
    State.each_good, State.setCtx_good, good_ite, good_mk_iff, good_parts, good_foldl, good_foldl1, good_ite1,
    implies_true]

theorem State.dropStale_good {m : Nat} (h : Good k s) : Good k (State.dropStale s m) := by
  simp (maxDischargeDepth := 99) only [State.dropStale, h, State.setMac_good, State.add64_good, good_ite, good_mk_iff,
    good_parts]

theorem State.txReturn_good {m t n st : Nat} {ts : Bool} {sec ns tft : Nat} (h : Good k s) : Good k (State.txReturn s m t
    n st ts sec ns tft) := by
  simp (maxDischargeDepth := 99) +contextual only [State.txReturn, h, State.irq_good, State.each_good, State.wrBytes_good,
    State.setN_good, good_ite, good_mk_iff, good_parts, good_foldl, good_foldl1, good_ite1, implies_true]

theorem State.txRing_good {m t n : Nat} {whole : Bool} {at_ : Int} (h : Good k s) : Good k (State.txRing s m t n whole
    at_) := by
  unfold State.txRing
  repeat' first
    | with_reducible assumption
    | simp (maxDischargeDepth := 99) +contextual only [h, State.setMac_good, State.add64_good, State.txReturn_good,
      good_ite, good_mk_iff, good_parts, good_foldl, good_foldl1, good_ite1, implies_true]
    | split

theorem State.macTx_good {m : Nat} {at_ : Int} (h : Good k s) : Good k (State.macTx s m at_) := by
  unfold State.macTx
  repeat' first
    | with_reducible assumption
    | simp (maxDischargeDepth := 99) +contextual only [h, State.txRing_good, State.dropStale_good, State.setMac_good,
      State.add64_good, good_ite, good_mk_iff, good_parts, good_foldl, good_foldl1, good_ite1, implies_true]
    | split

theorem State.macTxDone_good {m : Nat} (h : Good k s) : Good k (State.macTxDone s m) := by
  unfold State.macTxDone
  repeat' first
    | with_reducible assumption
    | simp (maxDischargeDepth := 99) +contextual only [h, State.setMac_good, State.add64_good, State.setPause_good,
      State.txReturn_good, good_ite, good_mk_iff, good_parts, good_foldl, good_foldl1, good_ite1, implies_true]
    | split

theorem State.netLink_good {m : Nat} {up : Bool} {fault : Nat} (h : Good k s) : Good k (State.netLink s m up fault) := by
  simp (maxDischargeDepth := 99) only [State.netLink, h, State.irq_good, State.setN_good, State.event_good, good_ite,
    good_mk_iff, good_parts]

theorem State.entryPut_good {e : NetEntry} (h : Good k s) : Good k (State.entryPut s e) := by
  simp (maxDischargeDepth := 99) only [State.entryPut, h, good_mk_iff, good_parts]

theorem State.cmdEntryAdd_good {r : CmdRef} {f : EntryFields} (h : Good k s) : Good k (State.cmdEntryAdd s r f) := by
  simp (maxDischargeDepth := 99) only [State.cmdEntryAdd, h, State.respond_good, State.entryPut_good, good_ite,
    good_mk_iff, good_parts]

theorem State.cmdEntryDel_good {r : CmdRef} {v6 : Bool} {addr port : Nat} (h : Good k s) : Good k (State.cmdEntryDel s r
    v6 addr port) := by
  unfold State.cmdEntryDel
  split <;> simp (maxDischargeDepth := 99) +contextual only [h, State.respond_good, good_ite, good_mk_iff, good_parts,
    good_foldl, good_foldl1, good_ite1, implies_true]

theorem State.cmdNetQuery_good {r : CmdRef} (h : Good k s) : Good k (State.cmdNetQuery s r) := by
  simp (maxDischargeDepth := 99) only [State.cmdNetQuery, h, State.respond_good, good_ite, good_mk_iff, good_parts]

theorem State.entriesTake_good {c : Nat} (h : Good k s) : Good k (State.entriesTake s c) := by
  simp (maxDischargeDepth := 99) only [State.entriesTake, h, good_mk_iff, good_parts]

theorem State.entriesDrop_good {c : Nat} (h : Good k s) : Good k (State.entriesDrop s c) := by
  simp (maxDischargeDepth := 99) only [State.entriesDrop, h, good_mk_iff, good_parts]

theorem State.entriesKey_good {c : Nat} {v6 : Bool} {addr port : Nat} {mux : Bool} (h : Good k s) : Good k
    (State.entriesKey s c v6 addr port mux) := by
  simp (maxDischargeDepth := 99) only [State.entriesKey, h, good_mk_iff, good_parts]

theorem State.macRst_good {m : Nat} (h : Good k s) : Good k (State.macRst s m) := by
  simp (maxDischargeDepth := 99) only [State.macRst, h, State.setMac_good, State.pageReset_good, State.headerReset_good,
    State.event_good, good_ite, good_mk_iff, good_parts]

theorem State.preRst_good (h : Good k s) : Good k (State.preRst s) := by
  simp (maxDischargeDepth := 99) only [State.preRst, h, State.pageReset_good, State.headerReset_good,
    State.rstRefused_good, good_ite, good_mk_iff, good_parts]

theorem execMacRxFrame_good {m : Nat} {f : WireFrame} (h : Good k s) : GoodRes k (execMacRxFrame m f s) := by
  simp (maxDischargeDepth := 99) only [execMacRxFrame, h, State.macRx_good, good_ite, good_mk_iff, good_parts, goodRes_next]

theorem execPauseExpire_good {m : Nat} (h : Good k s) : GoodRes k (execPauseExpire m s) := by
  simp (maxDischargeDepth := 99) only [execPauseExpire, h, State.pauseEnd_good, good_ite, good_mk_iff, good_parts,
    goodRes_next]

theorem execPauseSend_good {m : Nat} (h : Good k s) : GoodRes k (execPauseSend m s) := by
  simp (maxDischargeDepth := 99) only [execPauseSend, h, State.pauseSend_good, good_ite, good_mk_iff, good_parts,
    goodRes_next]

theorem execPauseXon_good {m : Nat} (h : Good k s) : GoodRes k (execPauseXon m s) := by
  simp (maxDischargeDepth := 99) only [execPauseXon, h, State.pauseXon_good, good_ite, good_mk_iff, good_parts,
    goodRes_next]

theorem execPreClassify_good {m : Nat} (h : Good k s) : GoodRes k (execPreClassify m s) := by
  simp (maxDischargeDepth := 99) only [execPreClassify, h, State.preClassify_good, good_ite, good_mk_iff, good_parts,
    goodRes_next]

theorem execRxRingDma_good {m r : Nat} (h : Good k s) : GoodRes k (execRxRingDma m r s) := by
  simp (maxDischargeDepth := 99) only [execRxRingDma, h, State.rxDma_good, good_ite, good_mk_iff, good_parts, goodRes_next]

theorem execRxrTailWrite_good {w : Win} {m r : Nat} {v : Word} (h : Good k s) : GoodRes k (execRxrTailWrite w m r v s) := by
  simp (maxDischargeDepth := 99) +contextual only [execRxrTailWrite, h, State.writeRxTail_good, State.hostGuard_good,
    good_ite, good_mk_iff, good_parts, goodRes_next, good_foldl, good_foldl1, good_ite1, implies_true]

theorem execTxrTailWrite_good {w : Win} {m t : Nat} {v : Word} (h : Good k s) : GoodRes k (execTxrTailWrite w m t v s) := by
  simp (maxDischargeDepth := 99) +contextual only [execTxrTailWrite, h, State.writeTxTail_good, State.hostGuard_good,
    good_ite, good_mk_iff, good_parts, goodRes_next, good_foldl, good_foldl1, good_ite1, implies_true]

theorem execRxRingDisable_good {w : Win} {m r : Nat} (h : Good k s) : GoodRes k (execRxRingDisable w m r s) := by
  simp (maxDischargeDepth := 99) +contextual only [execRxRingDisable, h, State.rxRingOff_good, State.hostGuard_good,
    good_ite, good_mk_iff, good_parts, goodRes_next, good_foldl, good_foldl1, good_ite1, implies_true]

theorem execMacTxStart_good {m : Nat} {at_ : Int} (h : Good k s) : GoodRes k (execMacTxStart m at_ s) := by
  simp (maxDischargeDepth := 99) only [execMacTxStart, h, State.macTx_good, good_ite, good_mk_iff, good_parts, goodRes_next]

theorem execMacTxDone_good {m : Nat} (h : Good k s) : GoodRes k (execMacTxDone m s) := by
  simp (maxDischargeDepth := 99) only [execMacTxDone, h, State.macTxDone_good, good_ite, good_mk_iff, good_parts,
    goodRes_next]

theorem execTxStale_good {m : Nat} (h : Good k s) : GoodRes k (execTxStale m s) := by
  simp (maxDischargeDepth := 99) only [execTxStale, h, State.dropStale_good, good_ite, good_mk_iff, good_parts,
    goodRes_next]

theorem execNetLink_good {m : Nat} {up : Bool} {fault : Nat} (h : Good k s) : GoodRes k (execNetLink m up fault s) := by
  simp (maxDischargeDepth := 99) only [execNetLink, h, State.netLink_good, good_ite, good_mk_iff, good_parts, goodRes_next]

theorem execNetEntryAdd_good {r : CmdRef} {f : EntryFields} (h : Good k s) : GoodRes k (execNetEntryAdd r f s) := by
  simp (maxDischargeDepth := 99) +contextual only [execNetEntryAdd, h, State.carryOut_good, State.cmdEntryAdd_good,
    good_ite, good_mk_iff, good_parts, goodRes_next, good_foldl, good_foldl1, good_ite1, implies_true]

theorem execNetEntryDel_good {r : CmdRef} {v6 : Bool} {addr port : Nat} (h : Good k s) : GoodRes k (execNetEntryDel r v6
    addr port s) := by
  simp (maxDischargeDepth := 99) +contextual only [execNetEntryDel, h, State.carryOut_good, State.cmdEntryDel_good,
    good_ite, good_mk_iff, good_parts, goodRes_next, good_foldl, good_foldl1, good_ite1, implies_true]

theorem execNetQuery_good {r : CmdRef} (h : Good k s) : GoodRes k (execNetQuery r s) := by
  simp (maxDischargeDepth := 99) +contextual only [execNetQuery, h, State.carryOut_good, State.cmdNetQuery_good, good_ite,
    good_mk_iff, good_parts, goodRes_next, good_foldl, good_foldl1, good_ite1, implies_true]

theorem execMacRst_good {w : Win} {m : Nat} (h : Good k s) : GoodRes k (execMacRst w m s) := by
  simp (maxDischargeDepth := 99) +contextual only [execMacRst, h, State.macRst_good, State.hostGuard_good, good_ite,
    good_mk_iff, good_parts, goodRes_next, good_foldl, good_foldl1, good_ite1, implies_true]

theorem execPreRst_good {w : Win} (h : Good k s) : GoodRes k (execPreRst w s) := by
  simp (maxDischargeDepth := 99) +contextual only [execPreRst, h, State.hostGuard_good, State.preRst_good, good_ite,
    good_mk_iff, good_parts, goodRes_next, good_foldl, good_foldl1, good_ite1, implies_true]

theorem execPreTxTake_good {c : Nat} (h : Good k s) : GoodRes k (execPreTxTake c s) := by
  simp (maxDischargeDepth := 99) only [execPreTxTake, h, State.txTake_good, good_ite, good_mk_iff, good_parts, goodRes_next]

end Sys2Proof.Machine
end

