-- ==== Sys2Proof/Laws/KeepLdc.lean ====
section
/-! SUPPORT. The operations of Machine/Ldc.lean keep what `Good` says. -/

namespace Sys2Proof.Machine
open Sys2Proof

set_option Elab.async false
set_option linter.unusedSimpArgs false
set_option linter.unusedVariables false
set_option linter.unreachableTactic false
set_option linter.unusedTactic false

variable {k : Keep} {s : State}

theorem State.completeBlock_good {n i : Nat} {x : LdcLine} {b : Blk} (h : Good k s) : Good k (State.completeBlock s n i x
    b) := by
  unfold State.completeBlock
  repeat' first
    | with_reducible assumption
    | simp (maxDischargeDepth := 99) +contextual only [h, State.post_good, State.wrBytes_good, good_ite, good_mk_iff,
      good_parts, good_foldl, good_foldl1, good_ite1, implies_true]
    | split

theorem State.beginBlock_good {n i cfg wide : Nat} (h : Good k s) : Good k (State.beginBlock s n i cfg wide).1 := by
  simp (maxDischargeDepth := 99) +contextual only [State.beginBlock, h, State.wrBytes_good, good_ite, good_mk_iff,
    good_parts, good_foldl, good_foldl1, good_ite1, implies_true]

theorem State.showMeas_good {b : Nat} (h : Good k s) : Good k (State.showMeas s b) := by
  simp (maxDischargeDepth := 99) only [State.showMeas, h, State.setN_good, good_ite, good_mk_iff, good_parts]

theorem State.endMeas_good {i st : Nat} (h : Good k s) : Good k (State.endMeas s i st) := by
  unfold State.endMeas
  repeat' first
    | with_reducible assumption
    | simp (maxDischargeDepth := 99) +contextual only [h, State.setDec_good, State.showMeas_good, State.event_good,
      good_ite, good_mk_iff, good_parts, good_foldl, good_foldl1, good_ite1, implies_true]
    | split

theorem State.feedMeas_good {n i : Nat} {outs : List LdcOut} {fault : Bool} (h : Good k s) : Good k (State.feedMeas s n i
    outs fault) := by
  unfold State.feedMeas
  repeat' first
    | with_reducible assumption
    | simp (maxDischargeDepth := 99) +contextual only [h, State.setDec_good, State.each_good, State.wrLE_good, good_ite,
      good_mk_iff, good_parts, good_foldl, good_foldl1, good_ite1, implies_true]
    | with_reducible refine State.each_good ?_ (fun s x h => ?_)
    | with_reducible refine good_ite ?_ ?_
    | with_reducible refine good_ite1 ?_ ?_
    | split

theorem State.takeSync_good {n : Nat} (h : Good k s) : Good k (State.takeSync s n).1 := by
  simp (maxDischargeDepth := 99) +contextual only [State.takeSync, h, State.irq_good, State.setFld_good, State.each_good,
    State.setN_good, good_ite, good_mk_iff, good_parts, good_foldl, good_foldl1, good_ite1, implies_true]

theorem State.lineOpen_good {n i : Nat} {masks : List Nat} (h : Good k s) : Good k (State.lineOpen s n i masks) := by
  unfold State.lineOpen
  extract_lets b x new old st wide voice atB synced x0 p0 setCh clr bphCh s1 s2 src y keep p z full z2
  have h1 : Good k s1 := by
    dsimp only [s1]
    split
    · exact good_ite (State.completeBlock_good h) h
    · exact h
  have h2 : Good k s2 := good_ite (State.endMeas_good h1) h1
  have hp : Good k p.1 := good_ite1 (State.beginBlock_good h2) h2
  have hp0 : Good k p0.1 := State.beginBlock_good h
  clear_value p p0
  exact good_ite (good_ite (State.setDec_good (State.endMeas_good h)) h)
    (good_ite (good_ite (State.setDec_good hp0) (State.setDec_good h)) (State.setDec_good hp))

theorem State.decimate_good {n i : Nat} (h : Good k s) : Good k (State.decimate s n i).1 := by
  simp (maxDischargeDepth := 99) +contextual only [State.decimate, h, State.setDec_good, State.irq_good, State.addN_good,
    State.feedMeas_good, good_ite, good_mk_iff, good_parts, good_foldl, good_foldl1, good_ite1, implies_true]

theorem State.storeSamples_good {n : Nat} {o : LineOut} (h : Good k s) : Good k (State.storeSamples s n o) := by
  unfold State.storeSamples
  repeat' first
    | with_reducible assumption
    | simp (maxDischargeDepth := 99) +contextual only [h, State.setDec_good, State.wrBytes_good, good_ite, good_mk_iff,
      good_parts, good_foldl, good_foldl1, good_ite1, implies_true]
    | split

theorem State.setsOpen_good (h : Good k s) : Good k (State.setsOpen s) := by
  simp (maxDischargeDepth := 99) +contextual only [State.setsOpen, h, State.setFld_good, State.setSet_good,
    State.each_good, good_ite, good_mk_iff, good_parts, good_foldl, good_foldl1, good_ite1, implies_true]

theorem State.setsDone_good (h : Good k s) : Good k (State.setsDone s) := by
  unfold State.setsDone
  repeat' first
    | with_reducible assumption
    | simp (maxDischargeDepth := 99) +contextual only [h, State.setSet_good, State.each_good, good_ite, good_mk_iff,
      good_parts, good_foldl, good_foldl1, good_ite1, implies_true]
    | with_reducible refine State.each_good ?_ (fun s x h => ?_)
    | with_reducible refine good_ite ?_ ?_
    | with_reducible refine good_ite1 ?_ ?_
    | split

theorem State.ldcOpen_good {n : Nat} (h : Good k s) : Good k (State.ldcOpen s n).1 := by
  unfold State.ldcOpen
  extract_lets p s1 lines s2 s3 src s4 r
  have h2 : Good k s2 := State.each_good (State.setsOpen_good (State.takeSync_good h)) fun s x h => State.lineOpen_good h
  have h4 : Good k s4 := by
    have : Good k s3 := State.each_good h2 fun s x h => State.setN_good h
    simp only [s4, good_mk_iff, good_parts, this]
  have hr : Good k r.1 := good_foldl1 h4 fun p x h => State.decimate_good h
  clear_value r
  exact State.setsDone_good hr

theorem State.ldcErr_good {b st a : Nat} (h : Good k s) : Good k (State.ldcErr s b st a) := by
  simp (maxDischargeDepth := 99) only [State.ldcErr, h, State.cfgErr_good, good_ite, good_mk_iff, good_parts]

theorem State.writeLineCfg_good {i : Nat} {v : Word} (h : Good k s) : Good k (State.writeLineCfg s i v) := by
  simp (maxDischargeDepth := 99) only [State.writeLineCfg, h, State.wake_good, State.setN_good, State.ldcErr_good,
    good_ite, good_mk_iff, good_parts]

theorem State.writeSet_good {b st off : Nat} {v : Word} (h : Good k s) : Good k (State.writeSet s b st off v) := by
  simp (maxDischargeDepth := 99) only [State.writeSet, h, State.setReg_good, State.ldcErr_good, good_ite, good_mk_iff,
    good_parts]

theorem State.swapRequest_good {b st : Nat} (h : Good k s) : Good k (State.swapRequest s b st) := by
  simp (maxDischargeDepth := 99) only [State.swapRequest, h, State.err_good, State.irq_good, State.setFld_good,
    State.setSet_good, State.ldcErr_good, good_ite, good_mk_iff, good_parts]

theorem State.writeSetCtrl_good {b st : Nat} {v : Word} (h : Good k s) : Good k (State.writeSetCtrl s b st v) := by
  simp (maxDischargeDepth := 99) only [State.writeSetCtrl, h, State.setReg_good, State.swapRequest_good, good_ite,
    good_mk_iff, good_parts]

theorem State.coefNext_good {b : Nat} (h : Good k s) : Good k (State.coefNext s b) := by
  simp (maxDischargeDepth := 99) only [State.coefNext, h, State.setFld_good, good_ite, good_mk_iff, good_parts]

theorem State.writeCoef_good {b : Nat} {v : Word} (h : Good k s) : Good k (State.writeCoef s b v) := by
  simp (maxDischargeDepth := 99) only [State.writeCoef, h, State.coefNext_good, State.ldcErr_good, good_ite, good_mk_iff,
    good_parts]

theorem State.readCoef_good {b : Nat} (h : Good k s) : Good k (State.readCoef s b) := by
  simp (maxDischargeDepth := 99) only [State.readCoef, h, State.coefNext_good, good_ite, good_mk_iff, good_parts]

theorem State.ldcSync_good {b mask : Nat} (h : Good k s) : Good k (State.ldcSync s b mask) := by
  simp (maxDischargeDepth := 99) only [State.ldcSync, h, good_mk_iff, good_parts]

theorem State.ldcRst_good {b : Nat} (h : Good k s) : Good k (State.ldcRst s b) := by
  simp (maxDischargeDepth := 99) +contextual only [State.ldcRst, h, State.resetRegs_good, State.each_good,
    State.headerReset_good, State.setN_good, State.endMeas_good, good_ite, good_mk_iff, good_parts, good_foldl,
    good_foldl1, good_ite1, implies_true]

theorem execLineEnable_good {w : Win} {i : Nat} {v : Word} (h : Good k s) : GoodRes k (execLineEnable w i v s) := by
  simp (maxDischargeDepth := 99) +contextual only [execLineEnable, h, State.writeLineCfg_good, State.hostGuard_good,
    good_ite, good_mk_iff, good_parts, goodRes_next, good_foldl, good_foldl1, good_ite1, implies_true]

theorem execLineDisable_good {w : Win} {i : Nat} (h : Good k s) : GoodRes k (execLineDisable w i s) := by
  simp (maxDischargeDepth := 99) +contextual only [execLineDisable, h, State.writeLineCfg_good, State.hostGuard_good,
    good_ite, good_mk_iff, good_parts, goodRes_next, good_foldl, good_foldl1, good_ite1, implies_true]

theorem execLineSetChange_good {w : Win} {i st : Nat} (h : Good k s) : GoodRes k (execLineSetChange w i st s) := by
  simp (maxDischargeDepth := 99) +contextual only [execLineSetChange, h, State.writeLineCfg_good, State.hostGuard_good,
    good_ite, good_mk_iff, good_parts, goodRes_next, good_foldl, good_foldl1, good_ite1, implies_true]

theorem execLinePhaseWrite_good {w : Win} {i phase : Nat} (h : Good k s) : GoodRes k (execLinePhaseWrite w i phase s) := by
  simp (maxDischargeDepth := 99) +contextual only [execLinePhaseWrite, h, State.writeLineCfg_good, State.hostGuard_good,
    good_ite, good_mk_iff, good_parts, goodRes_next, good_foldl, good_foldl1, good_ite1, implies_true]

theorem execLineBphWrite_good {w : Win} {i bph : Nat} (h : Good k s) : GoodRes k (execLineBphWrite w i bph s) := by
  simp (maxDischargeDepth := 99) +contextual only [execLineBphWrite, h, State.writeLineCfg_good, State.hostGuard_good,
    good_ite, good_mk_iff, good_parts, goodRes_next, good_foldl, good_foldl1, good_ite1, implies_true]

theorem execLdcLinkSync_good {w : Win} {b mask : Nat} (h : Good k s) : GoodRes k (execLdcLinkSync w b mask s) := by
  simp (maxDischargeDepth := 99) +contextual only [execLdcLinkSync, h, State.ldcSync_good, State.hostGuard_good, good_ite,
    good_mk_iff, good_parts, goodRes_next, good_foldl, good_foldl1, good_ite1, implies_true]

theorem execLdcBankSync_good {w : Win} {b : Nat} (h : Good k s) : GoodRes k (execLdcBankSync w b s) := by
  simp (maxDischargeDepth := 99) +contextual only [execLdcBankSync, h, State.ldcSync_good, State.hostGuard_good, good_ite,
    good_mk_iff, good_parts, goodRes_next, good_foldl, good_foldl1, good_ite1, implies_true]

theorem execSwapRequest_good {w : Win} {b st : Nat} {v : Word} (h : Good k s) : GoodRes k (execSwapRequest w b st v s) := by
  simp (maxDischargeDepth := 99) +contextual only [execSwapRequest, h, State.writeSetCtrl_good, State.hostGuard_good,
    good_ite, good_mk_iff, good_parts, goodRes_next, good_foldl, good_foldl1, good_ite1, implies_true]

theorem execFadeEnd_good {b st : Nat} (h : Good k s) : GoodRes k (execFadeEnd b st s) := by
  unfold execFadeEnd
  refine goodRes_next.mpr ?_
  split <;> simp (maxDischargeDepth := 99) +contextual only [h, State.irq_good, State.setFld_good, State.setSet_good,
    good_ite, good_mk_iff, good_parts, goodRes_next, good_foldl, good_foldl1, good_ite1, implies_true]

theorem execCoefDataWrite_good {w : Win} {b : Nat} {v : Word} (h : Good k s) : GoodRes k (execCoefDataWrite w b v s) := by
  simp (maxDischargeDepth := 99) +contextual only [execCoefDataWrite, h, State.writeCoef_good, State.hostGuard_good,
    good_ite, good_mk_iff, good_parts, goodRes_next, good_foldl, good_foldl1, good_ite1, implies_true]

theorem execCoefDataRead_good {w : Win} {b : Nat} (h : Good k s) : GoodRes k (execCoefDataRead w b s) := by
  simp (maxDischargeDepth := 99) +contextual only [execCoefDataRead, h, State.readCoef_good, State.hostGuard_good,
    good_ite, good_mk_iff, good_parts, goodRes_next, good_foldl, good_foldl1, good_ite1, implies_true]

theorem State.cmdLineMeas_good {r : CmdRef} {i start len freq dest : Nat} (h : Good k s) : Good k (State.cmdLineMeas s r i
    start len freq dest) := by
  simp (maxDischargeDepth := 99) only [State.cmdLineMeas, h, State.setDec_good, State.respond_good, State.showMeas_good,
    good_ite, good_mk_iff, good_parts]

theorem execLineMeas_good {r : CmdRef} {i start len freq dest : Nat} (h : Good k s) : GoodRes k (execLineMeas r i start
    len freq dest s) := by
  simp (maxDischargeDepth := 99) +contextual only [execLineMeas, h, State.carryOut_good, State.cmdLineMeas_good, good_ite,
    good_mk_iff, good_parts, goodRes_next, good_foldl, good_foldl1, good_ite1, implies_true]

theorem execLineMeasDone_good {i : Nat} (h : Good k s) : GoodRes k (execLineMeasDone i s) := by
  unfold execLineMeasDone
  refine goodRes_next.mpr ?_
  split <;> simp (maxDischargeDepth := 99) +contextual only [h, State.endMeas_good, good_ite, good_mk_iff, good_parts,
    goodRes_next, good_foldl, good_foldl1, good_ite1, implies_true]

theorem execLdcRst_good {w : Win} {b : Nat} (h : Good k s) : GoodRes k (execLdcRst w b s) := by
  simp (maxDischargeDepth := 99) +contextual only [execLdcRst, h, State.ldcRst_good, State.hostGuard_good, good_ite,
    good_mk_iff, good_parts, goodRes_next, good_foldl, good_foldl1, good_ite1, implies_true]

end Sys2Proof.Machine
end

