-- ==== Sys2Proof/Laws/KeepEce.lean ====
section
/-! SUPPORT. The operations of Machine/Ece.lean keep what `Good` says. -/

namespace Sys2Proof.Machine
open Sys2Proof

set_option Elab.async false
set_option linter.unusedSimpArgs false
set_option linter.unusedVariables false
set_option linter.unreachableTactic false
set_option linter.unusedTactic false

variable {k : Keep} {s : State}

theorem State.setEce_good {j : Nat} {x : Option Ece} (h : Good k s) : Good k (State.setEce s j x) := by
  simp (maxDischargeDepth := 99) only [State.setEce, h, good_mk_iff, good_parts]

theorem State.onEce_good {j : Nat} {f : Ece → Ece} (h : Good k s) : Good k (State.onEce s j f) := by
  unfold State.onEce
  split <;> simp (maxDischargeDepth := 99) +contextual only [h, State.setEce_good, good_ite, good_mk_iff, good_parts,
    good_foldl, good_foldl1, good_ite1, implies_true]

theorem State.histWrite_good {j : Nat} {wide : Bool} {t : Nat} {xi yi e : Int} {flags : Nat} (h : Good k s) : Good k
    (State.histWrite s j wide t xi yi e flags) := by
  simp (maxDischargeDepth := 99) only [State.histWrite, h, State.wrBytes_good, good_ite, good_mk_iff, good_parts]

theorem State.eceEvent_good {x : Ece} {code : Nat} {payload : List Nat} (h : Good k s) : Good k (State.eceEvent s x code
    payload) := by
  simp (maxDischargeDepth := 99) only [State.eceEvent, h, State.event_good, good_ite, good_mk_iff, good_parts]

theorem State.toneEvent_good {j : Nat} {x : Ece} {kind : Nat} (h : Good k s) : Good k (State.toneEvent s j x kind) := by
  simp (maxDischargeDepth := 99) only [State.toneEvent, h, State.irq_good, State.eceEvent_good, good_ite, good_mk_iff,
    good_parts]

theorem State.reconvDone_good {j : Nat} {x : Ece} {result reason : Nat} (h : Good k s) : Good k (State.reconvDone s j x
    result reason) := by
  unfold State.reconvDone
  split <;> simp (maxDischargeDepth := 99) +contextual only [h, State.irq_good, State.eceEvent_good, good_ite,
    good_mk_iff, good_parts, good_foldl, good_foldl1, good_ite1, implies_true]

theorem State.fadeDone_good {j : Nat} (h : Good k s) : Good k (State.fadeDone s j) := by
  unfold State.fadeDone
  repeat' first
    | with_reducible assumption
    | simp (maxDischargeDepth := 99) +contextual only [h, State.bump_good, State.eceEvent_good, State.reconvDone_good,
      State.setEce_good, good_ite, good_mk_iff, good_parts, good_foldl, good_foldl1, good_ite1, implies_true]
    | split

theorem State.abandon_good {j : Nat} {reason : Option Nat} (h : Good k s) : Good k (State.abandon s j reason) := by
  unfold State.abandon
  repeat' first
    | with_reducible assumption
    | simp (maxDischargeDepth := 99) +contextual only [h, State.fadeDone_good, State.reconvDone_good, State.setEce_good,
      good_ite, good_mk_iff, good_parts, good_foldl, good_foldl1, good_ite1, implies_true]
    | split

theorem State.acceptTrig_good {j cause r10 : Nat} {x : Ece} (h : Good k s) : Good k (State.acceptTrig s j cause r10 x) := by
  simp (maxDischargeDepth := 99) only [State.acceptTrig, h, State.irq_good, State.eceEvent_good, State.setEce_good,
    good_ite, good_mk_iff, good_parts]

theorem State.autoTrig_good {j cause : Nat} (h : Good k s) : Good k (State.autoTrig s j cause) := by
  unfold State.autoTrig
  split <;> simp (maxDischargeDepth := 99) +contextual only [h, State.bump_good, State.irq_good, State.acceptTrig_good,
    State.setEce_good, good_ite, good_mk_iff, good_parts, good_foldl, good_foldl1, good_ite1, implies_true]

theorem State.replayStart_good {cl : Nat} (h : Good k s) : Good k (State.replayStart s cl) := by
  unfold State.replayStart
  repeat' first
    | with_reducible assumption
    | simp (maxDischargeDepth := 99) +contextual only [h, State.setEce_good, good_ite, good_mk_iff, good_parts,
      good_foldl, good_foldl1, good_ite1, implies_true]
    | split

theorem State.bgFrame_good {n j : Nat} (h : Good k s) : Good k (State.bgFrame s n j) := by
  unfold State.bgFrame
  repeat' first
    | with_reducible assumption
    | simp (maxDischargeDepth := 99) +contextual only [h, State.abandon_good, State.setEce_good, good_ite, good_mk_iff,
      good_parts, good_foldl, good_foldl1, good_ite1, implies_true]
    | split

theorem State.bypassSet_good {j : Nat} {was : Bool} {x : Ece} (h : Good k s) : Good k (State.bypassSet s j was x) := by
  simp (maxDischargeDepth := 99) only [State.bypassSet, h, State.toneEvent_good, State.abandon_good, good_ite,
    good_mk_iff, good_parts]

theorem State.toneAct_good {j : Nat} {x : Ece} (h : Good k s) : Good k (State.toneAct s j x) := by
  unfold State.toneAct
  split <;> simp (maxDischargeDepth := 99) +contextual only [h, State.toneEvent_good, State.onEce_good,
    State.abandon_good, good_ite, good_mk_iff, good_parts, good_foldl, good_foldl1, good_ite1, implies_true]

theorem State.fadeStart_good {j : Nat} (h : Good k s) : Good k (State.fadeStart s j) := by
  simp (maxDischargeDepth := 99) only [State.fadeStart, h, State.onEce_good, good_ite, good_mk_iff, good_parts]

theorem State.eceBoundary_good {j : Nat} {rst : Bool} (h : Good k s) : Good k (State.eceBoundary s j rst) := by
  unfold State.eceBoundary
  repeat' first
    | with_reducible assumption
    | simp (maxDischargeDepth := 99) +contextual only [h, State.fadeDone_good, State.fadeStart_good, State.toneAct_good,
      State.bypassSet_good, State.setEce_good, good_ite, good_mk_iff, good_parts, good_foldl, good_foldl1, good_ite1,
      implies_true]
    | split

theorem State.eceClear_good {cl : Nat} (h : Good k s) : Good k (State.eceClear s cl) := by
  simp (maxDischargeDepth := 99) +contextual only [State.eceClear, h, State.onEce_good, State.each_good,
    State.pageReset_good, State.headerReset_good, good_ite, good_mk_iff, good_parts, good_foldl, good_foldl1, good_ite1,
    implies_true]

theorem State.eceOpen_good (h : Good k s) : Good k (State.eceOpen s) := by
  simp (maxDischargeDepth := 99) +contextual only [State.eceOpen, h, State.eceBoundary_good, State.eceClear_good,
    State.each_good, good_ite, good_mk_iff, good_parts, good_foldl, good_foldl1, good_ite1, implies_true]

theorem State.eceLine_good {n : Nat} {o : LineOut} (h : Good k s) : Good k (State.eceLine s n o).1 := by
  unfold State.eceLine
  repeat' first
    | with_reducible assumption
    | simp (maxDischargeDepth := 99) +contextual only [h, State.autoTrig_good, State.histWrite_good, State.setEce_good,
      good_ite, good_mk_iff, good_parts, good_foldl, good_foldl1, good_ite1, implies_true]
    | split

theorem State.eceSubmit_good {g v jt : Nat} (h : Good k s) : Good k (State.eceSubmit s g v jt) := by
  unfold State.eceSubmit
  repeat' first
    | with_reducible assumption
    | simp (maxDischargeDepth := 99) +contextual only [h, State.post_good, State.bump_good, good_ite, good_mk_iff,
      good_parts, good_foldl, good_foldl1, good_ite1, implies_true]
    | split

theorem State.packetBlock_good {b : EceBlock} {x : Ece} (h : Good k s) : Good k (State.packetBlock s b x) := by
  simp (maxDischargeDepth := 99) +contextual only [State.packetBlock, h, State.post_good, State.jnlBlock_good,
    State.wrBytes_good, State.histWrite_good, State.setEce_good, good_ite, good_mk_iff, good_parts, good_foldl,
    good_foldl1, good_ite1, implies_true]

theorem State.packetDone_good {cl : Nat} (h : Good k s) : Good k (State.packetDone s cl) := by
  unfold State.packetDone
  repeat' first
    | with_reducible assumption
    | simp (maxDischargeDepth := 99) +contextual only [h, State.bump_good, State.packetBlock_good, good_ite, good_mk_iff,
      good_parts, good_foldl, good_foldl1, good_ite1, implies_true]
    | split

theorem State.swapOverrun_good {j : Nat} (h : Good k s) : Good k (State.swapOverrun s j) := by
  simp (maxDischargeDepth := 99) only [State.swapOverrun, h, State.err_good, State.irq_good, State.setN_good, good_ite,
    good_mk_iff, good_parts]

theorem State.eceSwapReq_good {j : Nat} {x : Ece} (h : Good k s) : Good k (State.eceSwapReq s j x).1 := by
  simp (maxDischargeDepth := 99) +contextual only [State.eceSwapReq, h, State.swapOverrun_good, State.setEce_good,
    good_ite, good_mk_iff, good_parts, good_foldl, good_foldl1, good_ite1, implies_true]

theorem State.comparisonEnd_good {j : Nat} (h : Good k s) : Good k (State.comparisonEnd s j) := by
  unfold State.comparisonEnd
  repeat' first
    | with_reducible assumption
    | simp (maxDischargeDepth := 99) +contextual only [h, State.eceSwapReq_good, State.reconvDone_good, State.setEce_good,
      good_ite, good_mk_iff, good_parts, good_foldl, good_foldl1, good_ite1, implies_true]
    | split

theorem State.eceCmd_good {r : CmdRef} {op c : Nat} {f : Nat → Ece → State} (h : Good k s) (hf : ∀ i x, Good k (f i x)) :
    Good k (State.eceCmd s r op c f) := by
  unfold State.eceCmd
  split
  · exact hf _ _
  · exact State.respond_good h

theorem State.eceAttach_good {c : Nat} {f : EchoFields} {wide : Bool} {u : Nat} (h : Good k s) : Good k (State.eceAttach s
    c f wide u) := by
  simp (maxDischargeDepth := 99) only [State.eceAttach, h, State.setEce_good, good_ite, good_mk_iff, good_parts]

theorem State.eceRelease_good {c : Nat} (h : Good k s) : Good k (State.eceRelease s c) := by
  unfold State.eceRelease
  split <;> simp (maxDischargeDepth := 99) +contextual only [h, State.setEce_good, good_ite, good_mk_iff, good_parts,
    good_foldl, good_foldl1, good_ite1, implies_true]

theorem State.cmdEceAttach_good {r : CmdRef} {c : Nat} {f : EchoFields} (h : Good k s) : Good k (State.cmdEceAttach s r c
    f) := by
  simp (maxDischargeDepth := 99) only [State.cmdEceAttach, h, State.wake_good, State.respond_good, State.eceAttach_good,
    good_ite, good_mk_iff, good_parts]

theorem State.cmdEceModify_good {r : CmdRef} {c : Nat} {f : EchoChange} (h : Good k s) : Good k (State.cmdEceModify s r c
    f) := by
  simp (maxDischargeDepth := 99) +contextual only [State.cmdEceModify, h, State.onEce_good, State.abandon_good,
    State.respond_good, State.eceCmd_good, good_ite, good_mk_iff, good_parts, good_foldl, good_foldl1, good_ite1,
    implies_true]

theorem State.cmdEceDetach_good {r : CmdRef} {c : Nat} (h : Good k s) : Good k (State.cmdEceDetach s r c) := by
  simp (maxDischargeDepth := 99) +contextual only [State.cmdEceDetach, h, State.abandon_good, State.respond_good,
    State.eceCmd_good, State.eceRelease_good, good_ite, good_mk_iff, good_parts, good_foldl, good_foldl1, good_ite1,
    implies_true]

theorem State.cmdEceQuery_good {r : CmdRef} {c : Nat} (h : Good k s) : Good k (State.cmdEceQuery s r c) := by
  simp (maxDischargeDepth := 99) +contextual only [State.cmdEceQuery, h, State.respond_good, State.eceCmd_good, good_ite,
    good_mk_iff, good_parts, good_foldl, good_foldl1, good_ite1, implies_true]

theorem State.cmdReconverge_good {r : CmdRef} {c len : Nat} (h : Good k s) : Good k (State.cmdReconverge s r c len) := by
  simp (maxDischargeDepth := 99) +contextual only [State.cmdReconverge, h, State.acceptTrig_good, State.respond_good,
    State.eceCmd_good, good_ite, good_mk_iff, good_parts, good_foldl, good_foldl1, good_ite1, implies_true]

theorem State.cmdEceLoad_good {r : CmdRef} {c a : Nat} (h : Good k s) : Good k (State.cmdEceLoad s r c a) := by
  simp (maxDischargeDepth := 99) +contextual only [State.cmdEceLoad, h, State.respond_good, State.eceCmd_good,
    State.setEce_good, good_ite, good_mk_iff, good_parts, good_foldl, good_foldl1, good_ite1, implies_true]

theorem State.cmdEceSwap_good {r : CmdRef} {c : Nat} (h : Good k s) : Good k (State.cmdEceSwap s r c) := by
  simp (maxDischargeDepth := 99) +contextual only [State.cmdEceSwap, h, State.eceSwapReq_good, State.respond_good,
    State.eceCmd_good, good_ite, good_mk_iff, good_parts, good_foldl, good_foldl1, good_ite1, implies_true]

theorem State.cmdEceRead_good {r : CmdRef} {c a : Nat} {back : Bool} (h : Good k s) : Good k (State.cmdEceRead s r c a
    back) := by
  unfold State.cmdEceRead
  repeat' first
    | with_reducible assumption
    | simp (maxDischargeDepth := 99) +contextual only [h, State.respond_good, State.wrBytes_good, State.eceCmd_good,
      good_ite, good_mk_iff, good_parts, good_foldl, good_foldl1, good_ite1, implies_true]
    | with_reducible refine State.each_good ?_ (fun s x h => ?_)
    | with_reducible refine good_ite ?_ ?_
    | with_reducible refine good_ite1 ?_ ?_
    | split
    | refine State.eceCmd_good ?_ (fun j x => ?_)

theorem State.writeEcePrf_good {cl a : Nat} {v : Word} (h : Good k s) : Good k (State.writeEcePrf s cl a v) := by
  simp (maxDischargeDepth := 99) only [State.writeEcePrf, h, State.setReg_good, State.cfgErr_good, good_ite, good_mk_iff,
    good_parts]

theorem State.eceRst_good {cl : Nat} (h : Good k s) : Good k (State.eceRst s cl) := by
  simp (maxDischargeDepth := 99) only [State.eceRst, h, State.headerReset_good, State.setN_good, good_ite, good_mk_iff,
    good_parts]

theorem execEceSubmit_good {g : Nat} {v : Word} (h : Good k s) : GoodRes k (execEceSubmit g v s) := by
  simp (maxDischargeDepth := 99) only [execEceSubmit, h, State.eceSubmit_good, good_ite, good_mk_iff, good_parts,
    goodRes_next]

theorem execPacketBlockDone_good {cl : Nat} (h : Good k s) : GoodRes k (execPacketBlockDone cl s) := by
  simp (maxDischargeDepth := 99) only [execPacketBlockDone, h, State.packetDone_good, good_ite, good_mk_iff, good_parts,
    goodRes_next]

theorem execFocusPlace_good {cl u : Nat} (h : Good k s) : GoodRes k (execFocusPlace cl u s) := by
  simp (maxDischargeDepth := 99) only [execFocusPlace, h, State.onEce_good, good_ite, good_mk_iff, good_parts, goodRes_next]

theorem execDtHangEnd_good {cl u : Nat} (h : Good k s) : GoodRes k (execDtHangEnd cl u s) := by
  simp (maxDischargeDepth := 99) only [execDtHangEnd, h, State.onEce_good, good_ite, good_mk_iff, good_parts, goodRes_next]

theorem execToneReenable_good {cl u : Nat} (h : Good k s) : GoodRes k (execToneReenable cl u s) := by
  unfold execToneReenable
  refine goodRes_next.mpr ?_
  split <;> simp (maxDischargeDepth := 99) +contextual only [h, State.toneEvent_good, State.setEce_good, good_ite,
    good_mk_iff, good_parts, goodRes_next, good_foldl, good_foldl1, good_ite1, implies_true]

theorem execErleDrop_good {cl u : Nat} (h : Good k s) : GoodRes k (execErleDrop cl u s) := by
  unfold execErleDrop
  refine goodRes_next.mpr ?_
  split <;> simp (maxDischargeDepth := 99) +contextual only [h, State.autoTrig_good, good_ite, good_mk_iff, good_parts,
    goodRes_next, good_foldl, good_foldl1, good_ite1, implies_true]

theorem execDtLong_good {cl u : Nat} (h : Good k s) : GoodRes k (execDtLong cl u s) := by
  unfold execDtLong
  refine goodRes_next.mpr ?_
  split <;> simp (maxDischargeDepth := 99) +contextual only [h, State.autoTrig_good, good_ite, good_mk_iff, good_parts,
    goodRes_next, good_foldl, good_foldl1, good_ite1, implies_true]

theorem execReplayStart_good {cl : Nat} (h : Good k s) : GoodRes k (execReplayStart cl s) := by
  simp (maxDischargeDepth := 99) only [execReplayStart, h, State.replayStart_good, good_ite, good_mk_iff, good_parts,
    goodRes_next]

theorem execReplayFallback_good {cl u : Nat} (h : Good k s) : GoodRes k (execReplayFallback cl u s) := by
  unfold execReplayFallback
  refine goodRes_next.mpr ?_
  repeat' first
    | with_reducible assumption
    | simp (maxDischargeDepth := 99) +contextual only [h, State.bump_good, State.irq_good, State.setEce_good, good_ite,
      good_mk_iff, good_parts, goodRes_next, good_foldl, good_foldl1, good_ite1, implies_true]
    | split

theorem execReplayCatchUp_good {cl u : Nat} (h : Good k s) : GoodRes k (execReplayCatchUp cl u s) := by
  simp (maxDischargeDepth := 99) only [execReplayCatchUp, h, State.onEce_good, good_ite, good_mk_iff, good_parts,
    goodRes_next]

theorem execComparisonEnd_good {cl u : Nat} (h : Good k s) : GoodRes k (execComparisonEnd cl u s) := by
  simp (maxDischargeDepth := 99) only [execComparisonEnd, h, State.comparisonEnd_good, good_ite, good_mk_iff, good_parts,
    goodRes_next]

theorem execEceFadeEnd_good {cl u : Nat} (h : Good k s) : GoodRes k (execEceFadeEnd cl u s) := by
  simp (maxDischargeDepth := 99) only [execEceFadeEnd, h, State.fadeDone_good, good_ite, good_mk_iff, good_parts,
    goodRes_next]

theorem execEceAttach_good {r : CmdRef} {c : Nat} {f : EchoFields} (h : Good k s) : GoodRes k (execEceAttach r c f s) := by
  simp (maxDischargeDepth := 99) +contextual only [execEceAttach, h, State.cmdEceAttach_good, State.carryOut_good,
    good_ite, good_mk_iff, good_parts, goodRes_next, good_foldl, good_foldl1, good_ite1, implies_true]

theorem execEceModify_good {r : CmdRef} {c : Nat} {f : EchoChange} (h : Good k s) : GoodRes k (execEceModify r c f s) := by
  simp (maxDischargeDepth := 99) +contextual only [execEceModify, h, State.carryOut_good, State.cmdEceModify_good,
    good_ite, good_mk_iff, good_parts, goodRes_next, good_foldl, good_foldl1, good_ite1, implies_true]

theorem execEceDetach_good {r : CmdRef} {c : Nat} (h : Good k s) : GoodRes k (execEceDetach r c s) := by
  simp (maxDischargeDepth := 99) +contextual only [execEceDetach, h, State.cmdEceDetach_good, State.carryOut_good,
    good_ite, good_mk_iff, good_parts, goodRes_next, good_foldl, good_foldl1, good_ite1, implies_true]

theorem execEceQuery_good {r : CmdRef} {c : Nat} (h : Good k s) : GoodRes k (execEceQuery r c s) := by
  simp (maxDischargeDepth := 99) +contextual only [execEceQuery, h, State.carryOut_good, State.cmdEceQuery_good, good_ite,
    good_mk_iff, good_parts, goodRes_next, good_foldl, good_foldl1, good_ite1, implies_true]

theorem execEceReconverge_good {r : CmdRef} {c len : Nat} (h : Good k s) : GoodRes k (execEceReconverge r c len s) := by
  simp (maxDischargeDepth := 99) +contextual only [execEceReconverge, h, State.carryOut_good, State.cmdReconverge_good,
    good_ite, good_mk_iff, good_parts, goodRes_next, good_foldl, good_foldl1, good_ite1, implies_true]

theorem execEceLoad_good {r : CmdRef} {c a : Nat} (h : Good k s) : GoodRes k (execEceLoad r c a s) := by
  simp (maxDischargeDepth := 99) +contextual only [execEceLoad, h, State.carryOut_good, State.cmdEceLoad_good, good_ite,
    good_mk_iff, good_parts, goodRes_next, good_foldl, good_foldl1, good_ite1, implies_true]

theorem execEceSwap_good {r : CmdRef} {c : Nat} (h : Good k s) : GoodRes k (execEceSwap r c s) := by
  simp (maxDischargeDepth := 99) +contextual only [execEceSwap, h, State.carryOut_good, State.cmdEceSwap_good, good_ite,
    good_mk_iff, good_parts, goodRes_next, good_foldl, good_foldl1, good_ite1, implies_true]

theorem execEceRead_good {r : CmdRef} {c a : Nat} {back : Bool} (h : Good k s) : GoodRes k (execEceRead r c a back s) := by
  simp (maxDischargeDepth := 99) +contextual only [execEceRead, h, State.carryOut_good, State.cmdEceRead_good, good_ite,
    good_mk_iff, good_parts, goodRes_next, good_foldl, good_foldl1, good_ite1, implies_true]

theorem execEceRst_good {w : Win} {cl : Nat} (h : Good k s) : GoodRes k (execEceRst w cl s) := by
  simp (maxDischargeDepth := 99) +contextual only [execEceRst, h, State.eceRst_good, State.hostGuard_good, good_ite,
    good_mk_iff, good_parts, goodRes_next, good_foldl, good_foldl1, good_ite1, implies_true]

end Sys2Proof.Machine
end

