-- ==== Sys2Proof/Laws/KeepTurn.lean ====
section
/-! SUPPORT. The operations of Machine/Turn.lean keep what `Good` says. -/

namespace Sys2Proof.Machine
open Sys2Proof

set_option Elab.async false
set_option linter.unusedSimpArgs false
set_option linter.unusedVariables false
set_option linter.unreachableTactic false
set_option linter.unusedTactic false

variable {k : Keep} {s : State}

theorem State.readyMove_good {type flow stamp : Nat} {solo miss : Bool} {a b : Nat × Nat} {res shr : Nat} (h : Good k s) :
    Good k (State.readyMove s type flow stamp solo miss a b res shr) := by
  simp (maxDischargeDepth := 99) only [State.readyMove, h, good_mk_iff, good_parts]

theorem State.flowTook_good {f : Nat} {left : List Held} {stamp : Nat} (h : Good k s) : Good k (State.flowTook s f left
    stamp) := by
  simp (maxDischargeDepth := 99) only [State.flowTook, h, State.setFlow_good, good_ite, good_mk_iff, good_parts]

theorem State.solo_good {h1 : Held} (h : Good k s) : Good k (State.solo s h1) := by
  simp (maxDischargeDepth := 99) only [State.solo, h, State.bump_good, State.readyMove_good, good_ite, good_mk_iff,
    good_parts]

theorem State.matchLine_good {h1 : Held} (h : Good k s) : Good k (State.matchLine s h1) := by
  unfold State.matchLine
  repeat' first
    | with_reducible assumption
    | simp (maxDischargeDepth := 99) +contextual only [h, State.bump_good, State.setFlow_good, State.solo_good,
      State.flowTook_good, State.readyMove_good, good_ite, good_mk_iff, good_parts, good_foldl, good_foldl1, good_ite1,
      implies_true]
    | split

theorem State.accept_good {o : Operand} (h : Good k s) : Good k (State.accept s o) := by
  simp (maxDischargeDepth := 99) only [State.accept, h, State.bump_good, State.setFlow_good, State.matchLine_good,
    State.readyMove_good, good_ite, good_mk_iff, good_parts]

theorem State.flowModeChange_good {f : Nat} (h : Good k s) : Good k (State.flowModeChange s f) := by
  simp (maxDischargeDepth := 99) +contextual only [State.flowModeChange, h, State.setFlow_good, State.solo_good,
    State.each_good, good_ite, good_mk_iff, good_parts, good_foldl, good_foldl1, good_ite1, implies_true]

theorem State.refuse_good {o : Operand} {p : Producer} (h : Good k s) : Good k (State.refuse s o p) := by
  unfold State.refuse
  split <;> simp (maxDischargeDepth := 99) +contextual only [h, State.bump_good, State.irq_good, State.setN_good,
    good_ite, good_mk_iff, good_parts, good_foldl, good_foldl1, good_ite1, implies_true]

theorem State.operandAccept_good (h : Good k s) : Good k (State.operandAccept s) := by
  unfold State.operandAccept
  split <;> simp (maxDischargeDepth := 99) +contextual only [h, State.refuse_good, State.accept_good, good_ite,
    good_mk_iff, good_parts, good_foldl, good_foldl1, good_ite1, implies_true]

theorem State.retryPosts_good (h : Good k s) : Good k (State.retryPosts s) := by
  simp (maxDischargeDepth := 99) only [State.retryPosts, h, State.irq_good, State.addN_good, good_ite, good_mk_iff,
    good_parts]

theorem State.place_good {m : Move} {j : Nat} (h : Good k s) : Good k (State.place s m j) := by
  simp (maxDischargeDepth := 99) only [State.place, h, State.setFlow_good, State.maxN_good, State.add64_good,
    State.setCore_good, good_ite, good_mk_iff, good_parts]

theorem State.dispatch_good {dus : Nat} (h : Good k s) : Good k (State.dispatch s dus) := by
  unfold State.dispatch
  repeat' first
    | with_reducible assumption
    | simp (maxDischargeDepth := 99) +contextual only [h, State.bump_good, State.place_good, good_ite, good_mk_iff,
      good_parts, good_foldl, good_foldl1, good_ite1, implies_true]
    | split

theorem State.promote_good {dus : Nat} (h : Good k s) : Good k (State.promote s dus) := by
  simp (maxDischargeDepth := 99) +contextual only [State.promote, h, State.bump_good, State.irq_good, State.each_good,
    good_ite, good_mk_iff, good_parts, good_foldl, good_foldl1, good_ite1, implies_true]

theorem State.release_good {f : Nat} (h : Good k s) : Good k (State.release s f) := by
  simp (maxDischargeDepth := 99) only [State.release, h, State.setFlow_good, good_ite, good_mk_iff, good_parts]

theorem State.setTimer_good {id : Nat} {t : Option Timer} (h : Good k s) : Good k (State.setTimer s id t) := by
  simp (maxDischargeDepth := 99) only [State.setTimer, h, good_mk_iff, good_parts]

theorem State.fire_good {id : Nat} {t : Timer} (h : Good k s) : Good k (State.fire s id t) := by
  simp (maxDischargeDepth := 99) only [State.fire, h, State.post_good, State.bump_good, State.setTimer_good, good_ite,
    good_mk_iff, good_parts]

theorem State.hourglass_good {ph : Nat} (h : Good k s) : Good k (State.hourglass s ph) := by
  simp (maxDischargeDepth := 99) +contextual only [State.hourglass, h, State.fire_good, State.maxN_good, State.each_good,
    good_ite, good_mk_iff, good_parts, good_foldl, good_foldl1, good_ite1, implies_true]

theorem State.arm_good {id flow due period user : Nat} (h : Good k s) : Good k (State.arm s id flow due period user) := by
  simp (maxDischargeDepth := 99) only [State.arm, h, State.bump_good, State.setTimer_good, good_ite, good_mk_iff,
    good_parts]

theorem State.treqErr_good {w1 : Nat} (h : Good k s) : Good k (State.treqErr s w1) := by
  simp (maxDischargeDepth := 99) only [State.treqErr, h, State.err_good, State.bump_good, State.irq_good, good_ite,
    good_mk_iff, good_parts]

theorem State.takeTreq_good {mine : Treq → Bool} (h : Good k s) : Good k (State.takeTreq s mine) := by
  unfold State.takeTreq
  repeat' first
    | with_reducible assumption
    | simp (maxDischargeDepth := 99) +contextual only [h, State.bump_good, State.irq_good, State.arm_good,
      State.popItem_good, State.setTimer_good, State.accept_good, State.treqErr_good, good_ite, good_mk_iff, good_parts,
      good_foldl, good_foldl1, good_ite1, implies_true]
    | split

theorem State.sysPost_good {idx : Nat} (h : Good k s) : Good k (State.sysPost s idx) := by
  simp (maxDischargeDepth := 99) only [State.sysPost, h, State.refuse_good, State.accept_good, good_ite, good_mk_iff,
    good_parts]

theorem State.dropFlow_good {f : Nat} {ctr : Option Nat} (h : Good k s) : Good k (State.dropFlow s f ctr) := by
  unfold State.dropFlow
  split <;> simp (maxDischargeDepth := 99) +contextual only [h, State.setFlow_good, State.addN_good, good_ite,
    good_mk_iff, good_parts, good_foldl, good_foldl1, good_ite1, implies_true]

theorem State.writeSysflow_good {n : Nat} {v : Word} (h : Good k s) : Good k (State.writeSysflow s n v) := by
  simp (maxDischargeDepth := 99) only [State.writeSysflow, h, State.setReg_good, State.wake_good, State.dropFlow_good,
    good_ite, good_mk_iff, good_parts]

theorem State.cancelTimers_good {f : Nat} (h : Good k s) : Good k (State.cancelTimers s f) := by
  simp (maxDischargeDepth := 99) only [State.cancelTimers, h, good_mk_iff, good_parts]

theorem State.commandTake_good {q : Nat} (h : Good k s) : Good k (State.commandTake s q) := by
  unfold State.commandTake
  repeat' first
    | with_reducible assumption
    | simp (maxDischargeDepth := 99) +contextual only [h, State.bump_good, State.answer_good, State.irq_good,
      State.setQue_good, State.audit_good, State.popItem_good, State.noRights_good, State.drawn_good, State.accept_good,
      good_ite, good_mk_iff, good_parts, good_foldl, good_foldl1, good_ite1, implies_true]
    | split

theorem State.turnOpen_good (h : Good k s) : Good k (State.turnOpen s) := by
  simp (maxDischargeDepth := 99) +contextual only [State.turnOpen, h, State.retryPosts_good, State.commandTake_good,
    State.each_good, State.takeTreq_good, good_ite, good_mk_iff, good_parts, good_foldl, good_foldl1, good_ite1,
    implies_true]

theorem State.turnRst_good (h : Good k s) : Good k (State.turnRst s) := by
  simp (maxDischargeDepth := 99) only [State.turnRst, h, State.pageReset_good, State.headerReset_good,
    State.rstRefused_good, good_ite, good_mk_iff, good_parts]

theorem execCommandTake_good {q : Nat} (h : Good k s) : GoodRes k (execCommandTake q s) := by
  simp (maxDischargeDepth := 99) only [execCommandTake, h, State.commandTake_good, good_ite, good_mk_iff, good_parts,
    goodRes_next]

theorem execOperandAccept_good (h : Good k s) : GoodRes k (execOperandAccept s) := by
  simp (maxDischargeDepth := 99) only [execOperandAccept, h, State.operandAccept_good, good_ite, good_mk_iff, good_parts,
    goodRes_next]

theorem execDispatchPeriod_good {dus : Nat} (h : Good k s) : GoodRes k (execDispatchPeriod dus s) := by
  simp (maxDischargeDepth := 99) only [execDispatchPeriod, h, State.dispatch_good, good_ite, good_mk_iff, good_parts,
    goodRes_next]

theorem execMovePromotion_good {dus : Nat} (h : Good k s) : GoodRes k (execMovePromotion dus s) := by
  simp (maxDischargeDepth := 99) only [execMovePromotion, h, State.promote_good, good_ite, good_mk_iff, good_parts,
    goodRes_next]

theorem execHourglassFire_good {ph : Nat} (h : Good k s) : GoodRes k (execHourglassFire ph s) := by
  simp (maxDischargeDepth := 99) only [execHourglassFire, h, State.hourglass_good, good_ite, good_mk_iff, good_parts,
    goodRes_next]

theorem execPost_good (h : Good k s) : GoodRes k (execPost s) := by
  simp (maxDischargeDepth := 99) only [execPost, h, State.takeTreq_good, good_ite, good_mk_iff, good_parts, goodRes_next]

theorem execTimerSet_good (h : Good k s) : GoodRes k (execTimerSet s) := by
  simp (maxDischargeDepth := 99) only [execTimerSet, h, State.takeTreq_good, good_ite, good_mk_iff, good_parts,
    goodRes_next]

theorem execTimerCancel_good (h : Good k s) : GoodRes k (execTimerCancel s) := by
  simp (maxDischargeDepth := 99) only [execTimerCancel, h, State.takeTreq_good, good_ite, good_mk_iff, good_parts,
    goodRes_next]

theorem execSysPost_good {w : Win} {idx : Nat} (h : Good k s) : GoodRes k (execSysPost w idx s) := by
  simp (maxDischargeDepth := 99) +contextual only [execSysPost, h, State.sysPost_good, State.hostGuard_good, good_ite,
    good_mk_iff, good_parts, goodRes_next, good_foldl, good_foldl1, good_ite1, implies_true]

theorem execSysflowDisable_good {w : Win} {n : Nat} (h : Good k s) : GoodRes k (execSysflowDisable w n s) := by
  simp (maxDischargeDepth := 99) +contextual only [execSysflowDisable, h, State.writeSysflow_good, State.hostGuard_good,
    good_ite, good_mk_iff, good_parts, goodRes_next, good_foldl, good_foldl1, good_ite1, implies_true]

theorem execTurnRst_good {w : Win} (h : Good k s) : GoodRes k (execTurnRst w s) := by
  simp (maxDischargeDepth := 99) +contextual only [execTurnRst, h, State.turnRst_good, State.hostGuard_good, good_ite,
    good_mk_iff, good_parts, goodRes_next, good_foldl, good_foldl1, good_ite1, implies_true]

end Sys2Proof.Machine
end

