-- ==== Sys2Proof/Laws/KeepSage.lean ====
section
/-! SUPPORT. The operations of Machine/Sage.lean keep what `Good` says. -/

namespace Sys2Proof.Machine
open Sys2Proof

set_option Elab.async false
set_option linter.unusedSimpArgs false
set_option linter.unusedVariables false
set_option linter.unreachableTactic false
set_option linter.unusedTactic false

variable {k : Keep} {s : State}

theorem State.setSlot_good {j : Nat} {x : Option SageSlot} (h : Good k s) : Good k (State.setSlot s j x) := by
  simp (maxDischargeDepth := 99) only [State.setSlot, h, good_mk_iff, good_parts]

theorem State.onSlot_good {j : Nat} {f : SageSlot → SageSlot} (h : Good k s) : Good k (State.onSlot s j f) := by
  unfold State.onSlot
  split <;> simp (maxDischargeDepth := 99) +contextual only [h, State.setSlot_good, good_ite, good_mk_iff, good_parts,
    good_foldl, good_foldl1, good_ite1, implies_true]

theorem State.sageFlow_good {j d : Nat} {x : SageSlot} {r : SageRec} (h : Good k s) : Good k (State.sageFlow s j d x r) :=
    by
  unfold State.sageFlow
  repeat' first
    | with_reducible assumption
    | simp (maxDischargeDepth := 99) +contextual only [h, State.post_good, State.bump_good, State.irq_good,
      State.wrBytes_good, State.onSlot_good, good_ite, good_mk_iff, good_parts, good_foldl, good_foldl1, good_ite1,
      implies_true]
    | split

theorem State.sagePost_good {n d : Nat} {r : SageRec} (h : Good k s) : Good k (State.sagePost s n d r) := by
  unfold State.sagePost
  split
  · exact h
  · rename_i x _
    extract_lets cl st route s1 s2 b s3 s4 s5 data src
    have h2 : Good k s2 := good_ite (State.bump_good (State.onSlot_good h)) (State.onSlot_good h)
    clear_value s2
    have h4 : Good k s4 := by
      have h3 : Good k s3 := good_ite (State.event_good h2) h2
      exact good_ite (State.sageFlow_good h3) h3
    clear_value s3 s4
    have h5 : Good k s5 := by
      dsimp only [s5]
      refine good_ite ?_ h4
      split
      · exact State.onEce_good h4
      · exact h4
    clear_value s5
    simp only [good_ite, good_mk_iff, good_parts, h5]

theorem State.sageFeed_good {j d t : Nat} {wide : Bool} {l : List (Option Int)} (h : Good k s) : Good k (State.sageFeed s
    j d t wide l) := by
  unfold State.sageFeed
  split <;> simp (maxDischargeDepth := 99) +contextual only [h, State.sagePost_good, State.setSlot_good, State.each_good,
    good_ite, good_mk_iff, good_parts, good_foldl, good_foldl1, good_ite1, implies_true]

theorem State.onStream_good {j d : Nat} {f : Stream → Stream} (h : Good k s) : Good k (State.onStream s j d f) := by
  simp (maxDischargeDepth := 99) only [State.onStream, h, State.onSlot_good, good_ite, good_mk_iff, good_parts]

theorem State.streamChange_good {n j d : Nat} {prof mask : Option Nat} (h : Good k s) : Good k (State.streamChange s n j d
    prof mask) := by
  unfold State.streamChange
  split <;> simp (maxDischargeDepth := 99) +contextual only [h, State.sagePost_good, State.onStream_good, State.each_good,
    good_ite, good_mk_iff, good_parts, good_foldl, good_foldl1, good_ite1, implies_true]

theorem State.streamFeed_good {n j d : Nat} {x : SageSlot} (h : Good k s) : Good k (State.streamFeed s n j d x) := by
  simp (maxDischargeDepth := 99) only [State.streamFeed, h, State.onStream_good, State.sageFeed_good, good_ite,
    good_mk_iff, good_parts]

theorem State.slotOpen_good {n j : Nat} (h : Good k s) : Good k (State.slotOpen s n j) := by
  unfold State.slotOpen
  repeat' first
    | with_reducible assumption
    | simp (maxDischargeDepth := 99) +contextual only [h, State.streamChange_good, State.setSlot_good,
      State.streamFeed_good, State.onSlot_good, good_ite, good_mk_iff, good_parts, good_foldl, good_foldl1, good_ite1,
      implies_true]
    | split

theorem State.sageClear_good {cl : Nat} (h : Good k s) : Good k (State.sageClear s cl) := by
  simp (maxDischargeDepth := 99) +contextual only [State.sageClear, h, State.each_good, State.pageReset_good,
    State.headerReset_good, State.onSlot_good, good_ite, good_mk_iff, good_parts, good_foldl, good_foldl1, good_ite1,
    implies_true]

theorem State.sageOpen_good {n : Nat} (h : Good k s) : Good k (State.sageOpen s n) := by
  simp (maxDischargeDepth := 99) +contextual only [State.sageOpen, h, State.each_good, State.sageClear_good,
    State.slotOpen_good, good_ite, good_mk_iff, good_parts, good_foldl, good_foldl1, good_ite1, implies_true]

theorem State.sageLine_good {f : LineFrame} (h : Good k s) : Good k (State.sageLine s f) := by
  unfold State.sageLine
  split <;> simp (maxDischargeDepth := 99) +contextual only [h, State.setSlot_good, good_ite, good_mk_iff, good_parts,
    good_foldl, good_foldl1, good_ite1, implies_true]

theorem State.sageSubmit_good {g v time : Nat} (h : Good k s) : Good k (State.sageSubmit s g v time) := by
  unfold State.sageSubmit
  repeat' first
    | with_reducible assumption
    | simp (maxDischargeDepth := 99) +contextual only [h, State.bump_good, State.irq_good, State.onStream_good, good_ite,
      good_mk_iff, good_parts, good_foldl, good_foldl1, good_ite1, implies_true]
    | split

theorem State.blockRead_good {cl j d : Nat} (h : Good k s) : Good k (State.blockRead s cl j d) := by
  unfold State.blockRead
  repeat' first
    | with_reducible assumption
    | simp (maxDischargeDepth := 99) +contextual only [h, State.bump_good, State.irq_good, State.onStream_good,
      State.sageFeed_good, good_ite, good_mk_iff, good_parts, good_foldl, good_foldl1, good_ite1, implies_true]
    | split

theorem State.sageRead_good {cl v : Nat} (h : Good k s) : Good k (State.sageRead s cl v) := by
  unfold State.sageRead
  repeat' first
    | with_reducible assumption
    | simp (maxDischargeDepth := 99) +contextual only [h, State.blockRead_good, good_ite, good_mk_iff, good_parts,
      good_foldl, good_foldl1, good_ite1, implies_true]
    | split

theorem State.sageFree_good {c i : Nat} (h : Good k s) : Good k (State.sageFree s c i) := by
  simp (maxDischargeDepth := 99) only [State.sageFree, h, good_mk_iff, good_parts]

theorem State.sageAttach_good {c : Nat} {f : SageFields} {i : Nat} (h : Good k s) : Good k (State.sageAttach s c f i) := by
  simp (maxDischargeDepth := 99) only [State.sageAttach, h, State.setSlot_good, good_ite, good_mk_iff, good_parts]

theorem State.sageRelease_good {c : Nat} (h : Good k s) : Good k (State.sageRelease s c) := by
  unfold State.sageRelease
  repeat' first
    | with_reducible assumption
    | simp (maxDischargeDepth := 99) +contextual only [h, State.setSlot_good, good_ite, good_mk_iff, good_parts,
      good_foldl, good_foldl1, good_ite1, implies_true]
    | split

theorem State.cmdSageAttach_good {r : CmdRef} {c : Nat} {f : SageFields} (h : Good k s) : Good k (State.cmdSageAttach s r
    c f) := by
  simp (maxDischargeDepth := 99) only [State.cmdSageAttach, h, State.sageAttach_good, State.wake_good, State.respond_good,
    good_ite, good_mk_iff, good_parts]

theorem State.cmdSageModify_good {r : CmdRef} {c : Nat} {f : SageChange} (h : Good k s) : Good k (State.cmdSageModify s r
    c f) := by
  unfold State.cmdSageModify
  split <;> simp (maxDischargeDepth := 99) +contextual only [h, State.setSlot_good, State.respond_good, good_ite,
    good_mk_iff, good_parts, good_foldl, good_foldl1, good_ite1, implies_true]

theorem State.cmdSageDetach_good {r : CmdRef} {c : Nat} (h : Good k s) : Good k (State.cmdSageDetach s r c) := by
  unfold State.cmdSageDetach
  split <;> simp (maxDischargeDepth := 99) +contextual only [h, State.setSlot_good, State.respond_good, good_ite,
    good_mk_iff, good_parts, good_foldl, good_foldl1, good_ite1, implies_true]

theorem State.cmdSageQuery_good {r : CmdRef} {c : Nat} (h : Good k s) : Good k (State.cmdSageQuery s r c) := by
  unfold State.cmdSageQuery
  split <;> simp (maxDischargeDepth := 99) +contextual only [h, State.respond_good, good_ite, good_mk_iff, good_parts,
    good_foldl, good_foldl1, good_ite1, implies_true]

theorem State.writeSagePrf_good {cl a : Nat} {v : Word} (h : Good k s) : Good k (State.writeSagePrf s cl a v) := by
  simp (maxDischargeDepth := 99) only [State.writeSagePrf, h, State.setReg_good, State.cfgErr_good, good_ite, good_mk_iff,
    good_parts]

theorem State.sageRst_good {cl : Nat} (h : Good k s) : Good k (State.sageRst s cl) := by
  simp (maxDischargeDepth := 99) only [State.sageRst, h, State.headerReset_good, State.setN_good, good_ite, good_mk_iff,
    good_parts]

theorem execSageSubmit_good {g : Nat} {v : Word} (h : Good k s) : GoodRes k (execSageSubmit g v s) := by
  simp (maxDischargeDepth := 99) only [execSageSubmit, h, State.sageSubmit_good, good_ite, good_mk_iff, good_parts,
    goodRes_next]

theorem execSageBlockRead_good {cl v : Nat} (h : Good k s) : GoodRes k (execSageBlockRead cl v s) := by
  simp (maxDischargeDepth := 99) only [execSageBlockRead, h, State.sageRead_good, good_ite, good_mk_iff, good_parts,
    goodRes_next]

theorem execSageAttach_good {r : CmdRef} {c : Nat} {f : SageFields} (h : Good k s) : GoodRes k (execSageAttach r c f s) :=
    by
  simp (maxDischargeDepth := 99) +contextual only [execSageAttach, h, State.carryOut_good, State.cmdSageAttach_good,
    good_ite, good_mk_iff, good_parts, goodRes_next, good_foldl, good_foldl1, good_ite1, implies_true]

theorem execSageModify_good {r : CmdRef} {c : Nat} {f : SageChange} (h : Good k s) : GoodRes k (execSageModify r c f s) :=
    by
  simp (maxDischargeDepth := 99) +contextual only [execSageModify, h, State.carryOut_good, State.cmdSageModify_good,
    good_ite, good_mk_iff, good_parts, goodRes_next, good_foldl, good_foldl1, good_ite1, implies_true]

theorem execSageDetach_good {r : CmdRef} {c : Nat} (h : Good k s) : GoodRes k (execSageDetach r c s) := by
  simp (maxDischargeDepth := 99) +contextual only [execSageDetach, h, State.carryOut_good, State.cmdSageDetach_good,
    good_ite, good_mk_iff, good_parts, goodRes_next, good_foldl, good_foldl1, good_ite1, implies_true]

theorem execSageQuery_good {r : CmdRef} {c : Nat} (h : Good k s) : GoodRes k (execSageQuery r c s) := by
  simp (maxDischargeDepth := 99) +contextual only [execSageQuery, h, State.carryOut_good, State.cmdSageQuery_good,
    good_ite, good_mk_iff, good_parts, goodRes_next, good_foldl, good_foldl1, good_ite1, implies_true]

theorem execSageRst_good {w : Win} {cl : Nat} (h : Good k s) : GoodRes k (execSageRst w cl s) := by
  simp (maxDischargeDepth := 99) +contextual only [execSageRst, h, State.sageRst_good, State.hostGuard_good, good_ite,
    good_mk_iff, good_parts, goodRes_next, good_foldl, good_foldl1, good_ite1, implies_true]

end Sys2Proof.Machine
end

