-- ==== Sys2Proof/Laws/KeepJbe.lean ====
section
/-! SUPPORT. The operations of Machine/Jbe.lean keep what `Good` says. -/

namespace Sys2Proof.Machine
open Sys2Proof

set_option Elab.async false
set_option linter.unusedSimpArgs false
set_option linter.unusedVariables false
set_option linter.unreachableTactic false
set_option linter.unusedTactic false

variable {k : Keep} {s : State}

theorem State.slotClear_good {c slot : Nat} (h : Good k s) : Good k (State.slotClear s c slot) := by
  simp (maxDischargeDepth := 99) only [State.slotClear, h, State.wr8_good, good_ite, good_mk_iff, good_parts]

theorem State.ringClear_good {c : Nat} (h : Good k s) : Good k (State.ringClear s c) := by
  simp (maxDischargeDepth := 99) +contextual only [State.ringClear, h, State.slotClear_good, State.each_good, good_ite,
    good_mk_iff, good_parts, good_foldl, good_foldl1, good_ite1, implies_true]

theorem State.showPlayout_good {c : Nat} (h : Good k s) : Good k (State.showPlayout s c) := by
  simp (maxDischargeDepth := 99) only [State.showPlayout, h, State.writeRecord_good, good_ite, good_mk_iff, good_parts]

theorem State.showEvent_good {c : Nat} (h : Good k s) : Good k (State.showEvent s c) := by
  unfold State.showEvent
  split <;> simp (maxDischargeDepth := 99) +contextual only [h, State.writeRecord_good, good_ite, good_mk_iff, good_parts,
    good_foldl, good_foldl1, good_ite1, implies_true]

theorem State.showLatch_good {c : Nat} (h : Good k s) : Good k (State.showLatch s c) := by
  simp (maxDischargeDepth := 99) only [State.showLatch, h, State.writeRecord_good, good_ite, good_mk_iff, good_parts]

theorem State.jbeCount_good {a j : Nat} (h : Good k s) : Good k (State.jbeCount s a j) := by
  simp (maxDischargeDepth := 99) only [State.jbeCount, h, State.addN_good, good_ite, good_mk_iff, good_parts]

theorem State.discard_good {c j : Nat} (h : Good k s) : Good k (State.discard s c j) := by
  simp (maxDischargeDepth := 99) only [State.discard, h, State.irq_good, State.jbeCount_good, State.setCtx_good, good_ite,
    good_mk_iff, good_parts]

theorem State.latchTo_good {c : Nat} {p : Peer} (h : Good k s) : Good k (State.latchTo s c p) := by
  simp (maxDischargeDepth := 99) only [State.latchTo, h, State.irq_good, State.showLatch_good, State.setCtx_good,
    State.event_good, good_ite, good_mk_iff, good_parts]

theorem State.follow_good {c : Nat} {p : RtpPacket} (h : Good k s) : Good k (State.follow s c p).1 := by
  unfold State.follow
  repeat' first
    | with_reducible assumption
    | simp (maxDischargeDepth := 99) +contextual only [h, State.showLatch_good, State.latchTo_good, State.setCtx_good,
      good_ite, good_mk_iff, good_parts, good_foldl, good_foldl1, good_ite1, implies_true]
    | split

theorem State.sourceSeen_good {c : Nat} {p : RtpPacket} (h : Good k s) : Good k (State.sourceSeen s c p) := by
  simp (maxDischargeDepth := 99) only [State.sourceSeen, h, State.showLatch_good, State.setCtx_good, good_ite,
    good_mk_iff, good_parts]

theorem State.storePacket_good {c : Nat} {p : RtpPacket} {n : Nat} {cn : Bool} {lead : Int} (h : Good k s) : Good k
    (State.storePacket s c p n cn lead) := by
  simp (maxDischargeDepth := 99) only [State.storePacket, h, State.wrBytes_good, State.latchTo_good, State.jbeCount_good,
    State.setCtx_good, good_ite, good_mk_iff, good_parts]

theorem State.anchor_good {c : Nat} {p : RtpPacket} {cn : Bool} {cause : Option Nat} (h : Good k s) : Good k (State.anchor
    s c p cn cause) := by
  unfold State.anchor
  split <;> simp (maxDischargeDepth := 99) +contextual only [h, State.irq_good, State.ringClear_good,
    State.storePacket_good, State.follow_good, State.jbeCount_good, State.setCtx_good, State.event_good, good_ite,
    good_mk_iff, good_parts, good_foldl, good_foldl1, good_ite1, implies_true]

theorem State.judgePlaced_good {c : Nat} {p : RtpPacket} {cn : Bool} (h : Good k s) : Good k (State.judgePlaced s c p cn)
    := by
  simp (maxDischargeDepth := 99) only [State.judgePlaced, h, State.anchor_good, State.storePacket_good, State.follow_good,
    State.jbeCount_good, State.setCtx_good, good_ite, good_mk_iff, good_parts]

theorem State.judgeVoice_good {c : Nat} {p : RtpPacket} (h : Good k s) : Good k (State.judgeVoice s c p) := by
  simp (maxDischargeDepth := 99) only [State.judgeVoice, h, State.anchor_good, State.discard_good, State.judgePlaced_good,
    State.setCtx_good, State.event_good, good_ite, good_mk_iff, good_parts]

theorem State.rxEventPost_good {c : Nat} {e : RxEvent} {end_ : Bool} (h : Good k s) : Good k (State.rxEventPost s c e
    end_) := by
  simp (maxDischargeDepth := 99) only [State.rxEventPost, h, State.event_good, good_ite, good_mk_iff, good_parts]

theorem State.rxEventEnd_good {c : Nat} (h : Good k s) : Good k (State.rxEventEnd s c) := by
  unfold State.rxEventEnd
  repeat' first
    | with_reducible assumption
    | simp (maxDischargeDepth := 99) +contextual only [h, State.rxEventPost_good, State.showEvent_good, State.setCtx_good,
      good_ite, good_mk_iff, good_parts, good_foldl, good_foldl1, good_ite1, implies_true]
    | split

theorem State.judgeEvent_good {c : Nat} {p : RtpPacket} (h : Good k s) : Good k (State.judgeEvent s c p) := by
  simp (maxDischargeDepth := 99) only [State.judgeEvent, h, State.rxEventPost_good, State.rxEventEnd_good,
    State.showEvent_good, State.setCtx_good, good_ite, good_mk_iff, good_parts]

theorem State.judge_good {p : RtpPacket} (h : Good k s) : Good k (State.judge s p) := by
  simp (maxDischargeDepth := 99) only [State.judge, h, State.post_good, State.judgeVoice_good, State.sourceSeen_good,
    State.poolFree_good, State.judgeEvent_good, State.setCtx_good, good_ite, good_mk_iff, good_parts]

theorem State.judgeAll_good {c : Nat} {p : RtpPacket → Bool} (h : Good k s) : Good k (State.judgeAll s c p) := by
  simp (maxDischargeDepth := 99) +contextual only [State.judgeAll, h, State.judge_good, State.each_good, good_ite,
    good_mk_iff, good_parts, good_foldl, good_foldl1, good_ite1, implies_true]

theorem State.judgeOne_good {c : Nat} (h : Good k s) : Good k (State.judgeOne s c) := by
  unfold State.judgeOne
  split <;> simp (maxDischargeDepth := 99) +contextual only [h, State.judge_good, good_ite, good_mk_iff, good_parts,
    good_foldl, good_foldl1, good_ite1, implies_true]

theorem State.dataEnter_good {c src : Nat} (h : Good k s) : Good k (State.dataEnter s c src) := by
  simp (maxDischargeDepth := 99) only [State.dataEnter, h, State.setCtx_good, State.event_good, good_ite, good_mk_iff,
    good_parts]

theorem State.adaptEnd_good {c : Nat} (h : Good k s) : Good k (State.adaptEnd s c) := by
  simp (maxDischargeDepth := 99) only [State.adaptEnd, h, State.setCtx_good, good_ite, good_mk_iff, good_parts]

theorem State.takeMods_good {c : Nat} (h : Good k s) : Good k (State.takeMods s c) := by
  unfold State.takeMods
  repeat' first
    | with_reducible assumption
    | simp (maxDischargeDepth := 99) +contextual only [h, State.dataEnter_good, State.setCtx_good, State.setJctx_good,
      State.event_good, good_ite, good_mk_iff, good_parts, good_foldl, good_foldl1, good_ite1, implies_true]
    | split

theorem State.claimSlots_good {c lo hi : Nat} {cn : Bool} (h : Good k s) : Good k (State.claimSlots s c lo hi cn).1 := by
  simp (maxDischargeDepth := 99) +contextual only [State.claimSlots, h, State.jbeCount_good, State.setCtx_good, good_ite,
    good_mk_iff, good_parts, good_foldl, good_foldl1, good_ite1, implies_true]

theorem State.claim_good {c n : Nat} (h : Good k s) : Good k (State.claim s c n).1 := by
  simp (maxDischargeDepth := 99) +contextual only [State.claim, h, State.slotClear_good, State.each_good,
    State.claimSlots_good, State.setCtx_good, good_ite, good_mk_iff, good_parts, good_foldl, good_foldl1, good_ite1,
    implies_true]

theorem State.playout_good {c n : Nat} (h : Good k s) : Good k (State.playout s c n) := by
  simp (maxDischargeDepth := 99) only [State.playout, h, State.post_good, State.maxN_good, State.judgeAll_good,
    State.claim_good, State.takeMods_good, State.setCtx_good, State.showPlayout_good, State.drawn_good, good_ite,
    good_mk_iff, good_parts]

theorem State.bindApply_good {c : Nat} (h : Good k s) : Good k (State.bindApply s c) := by
  unfold State.bindApply
  repeat' first
    | with_reducible assumption
    | simp (maxDischargeDepth := 99) +contextual only [h, State.setLine_good, State.flowModeChange_good,
      State.setFld_good, State.abandon_good, State.setCtx_good, State.eceRelease_good, good_ite, good_mk_iff, good_parts,
      good_foldl, good_foldl1, good_ite1, implies_true]
    | split

theorem State.jbeBound_good {n : Nat} (h : Good k s) : Good k (State.jbeBound s n) := by
  unfold State.jbeBound
  repeat' first
    | with_reducible assumption
    | simp (maxDischargeDepth := 99) +contextual only [h, State.bindApply_good, State.each_good, State.setCtx_good,
      good_ite, good_mk_iff, good_parts, good_foldl, good_foldl1, good_ite1, implies_true]
    | with_reducible refine State.each_good ?_ (fun s x h => ?_)
    | with_reducible refine good_ite ?_ ?_
    | with_reducible refine good_ite1 ?_ ?_
    | split

theorem State.jbeData_good (h : Good k s) : Good k (State.jbeData s) := by
  simp (maxDischargeDepth := 99) +contextual only [State.jbeData, h, State.dataEnter_good, State.each_good, good_ite,
    good_mk_iff, good_parts, good_foldl, good_foldl1, good_ite1, implies_true]

theorem State.jbeOpen_good {n : Nat} (h : Good k s) : Good k (State.jbeOpen s n) := by
  simp (maxDischargeDepth := 99) +contextual only [State.jbeOpen, h, State.playout_good, State.each_good, good_ite,
    good_mk_iff, good_parts, good_foldl, good_foldl1, good_ite1, implies_true]

theorem State.ringApply_good {c : Nat} (h : Good k s) : Good k (State.ringApply s c) := by
  unfold State.ringApply
  repeat' first
    | with_reducible assumption
    | simp (maxDischargeDepth := 99) +contextual only [h, State.setCtx_good, State.event_good, good_ite, good_mk_iff,
      good_parts, good_foldl, good_foldl1, good_ite1, implies_true]
    | split

theorem execRxPacketJudge_good {c : Nat} (h : Good k s) : GoodRes k (execRxPacketJudge c s) := by
  simp (maxDischargeDepth := 99) only [execRxPacketJudge, h, State.judgeOne_good, good_ite, good_mk_iff, good_parts,
    goodRes_next]

theorem execAdaptWindowEnd_good {c : Nat} (h : Good k s) : GoodRes k (execAdaptWindowEnd c s) := by
  simp (maxDischargeDepth := 99) only [execAdaptWindowEnd, h, State.adaptEnd_good, good_ite, good_mk_iff, good_parts,
    goodRes_next]

theorem execRxEventTimeout_good {c : Nat} (h : Good k s) : GoodRes k (execRxEventTimeout c s) := by
  simp (maxDischargeDepth := 99) only [execRxEventTimeout, h, State.rxEventEnd_good, good_ite, good_mk_iff, good_parts,
    goodRes_next]

theorem execRingApply_good {c : Nat} (h : Good k s) : GoodRes k (execRingApply c s) := by
  simp (maxDischargeDepth := 99) only [execRingApply, h, State.ringApply_good, good_ite, good_mk_iff, good_parts,
    goodRes_next]

end Sys2Proof.Machine
end

