-- ==== Sys2Proof/Laws/KeepCxl.lean ====
section
/-! SUPPORT. The operations of Machine/Cxl.lean keep what `Good` says. -/

namespace Sys2Proof.Machine
open Sys2Proof

set_option Elab.async false
set_option linter.unusedSimpArgs false
set_option linter.unusedVariables false
set_option linter.unreachableTactic false
set_option linter.unusedTactic false

variable {k : Keep} {s : State}

theorem State.cxlEvent_good {num : Nat} {p : List Nat} (h : Good k s) : Good k (State.cxlEvent s num p) := by
  simp (maxDischargeDepth := 99) only [State.cxlEvent, h, State.sysEvent_good, good_ite, good_mk_iff, good_parts]

theorem State.cxlGo_good {p st cause : Nat} (h : Good k s) : Good k (State.cxlGo s p st cause) := by
  simp (maxDischargeDepth := 99) only [State.cxlGo, h, State.irq_good, State.setFld_good, State.cxlEvent_good, good_ite,
    good_mk_iff, good_parts]

theorem State.farLoss_good (h : Good k s) : Good k (State.farLoss s) := by
  simp (maxDischargeDepth := 99) +contextual only [State.farLoss, h, State.endCopy_good, State.each_good,
    State.thymeLost_good, State.mirrorCheck_good, good_ite, good_mk_iff, good_parts, good_foldl, good_foldl1, good_ite1,
    implies_true]

theorem State.portLost_good {p cause lost : Nat} (h : Good k s) : Good k (State.portLost s p cause lost) := by
  simp (maxDischargeDepth := 99) only [State.portLost, h, State.cxlGo_good, State.farLoss_good, State.irq_good,
    State.addN_good, good_ite, good_mk_iff, good_parts]

theorem State.portEnable_good {p : Nat} (h : Good k s) : Good k (State.portEnable s p) := by
  simp (maxDischargeDepth := 99) only [State.portEnable, h, State.cxlGo_good, State.setFld_good, State.cfgErr_good,
    good_ite, good_mk_iff, good_parts]

theorem State.portDisable_good {p lost : Nat} (h : Good k s) : Good k (State.portDisable s p lost) := by
  simp (maxDischargeDepth := 99) only [State.portDisable, h, State.cxlGo_good, State.setFld_good, State.portLost_good,
    good_ite, good_mk_iff, good_parts]

theorem State.trainDone_good {p width speed cause : Nat} (h : Good k s) : Good k (State.trainDone s p width speed cause)
    := by
  simp (maxDischargeDepth := 99) only [State.trainDone, h, State.cxlGo_good, State.setFld_good, good_ite, good_mk_iff,
    good_parts]

theorem State.portActivate_good {p : Nat} {active : Bool} (h : Good k s) : Good k (State.portActivate s p active) := by
  simp (maxDischargeDepth := 99) only [State.portActivate, h, State.cxlGo_good, State.setFld_good, good_ite, good_mk_iff,
    good_parts]

theorem State.xioGo_good {v : Word} (h : Good k s) : Good k (State.xioGo s v) := by
  simp (maxDischargeDepth := 99) only [State.xioGo, h, State.cfgErr_good, State.setReg_good, State.setN_good, good_ite,
    good_mk_iff, good_parts]

theorem State.xioDone_good {e : XioEnd} (h : Good k s) : Good k (State.xioDone s e) := by
  unfold State.xioDone
  repeat' first
    | with_reducible assumption
    | simp (maxDischargeDepth := 99) +contextual only [h, State.setReg_good, State.setN_good, good_ite, good_mk_iff,
      good_parts, good_foldl, good_foldl1, good_ite1, implies_true]
    | split

theorem State.decCommit_good {d : Nat} {v : Word} (h : Good k s) : Good k (State.decCommit s d v) := by
  simp (maxDischargeDepth := 99) only [State.decCommit, h, State.setReg_good, State.setFld_good, State.cfgErr_good,
    good_ite, good_mk_iff, good_parts]

theorem State.decUncommit_good {d : Nat} (h : Good k s) : Good k (State.decUncommit s d) := by
  simp (maxDischargeDepth := 99) only [State.decUncommit, h, State.setFld_good, State.cfgErr_good, good_ite, good_mk_iff,
    good_parts]

theorem State.writeDecCtl_good {d : Nat} {v : Word} (h : Good k s) : Good k (State.writeDecCtl s d v) := by
  simp (maxDischargeDepth := 99) only [State.writeDecCtl, h, State.setReg_good, State.decCommit_good,
    State.decUncommit_good, good_ite, good_mk_iff, good_parts]

theorem State.writePortCtl_good {p : Nat} {v : Word} (h : Good k s) : Good k (State.writePortCtl s p v) := by
  simp (maxDischargeDepth := 99) only [State.writePortCtl, h, State.portDisable_good, State.portActivate_good,
    State.portEnable_good, good_ite, good_mk_iff, good_parts]

theorem State.writeCxlCfg_good {v : Word} (h : Good k s) : Good k (State.writeCxlCfg s v) := by
  simp (maxDischargeDepth := 99) only [State.writeCxlCfg, h, State.setReg_good, State.cfgErr_good, good_ite, good_mk_iff,
    good_parts]

theorem State.memReadDone_good {p a : Nat} {poison : Bool} (h : Good k s) : Good k (State.memReadDone s p a poison) := by
  unfold State.memReadDone
  repeat' first
    | with_reducible assumption
    | simp (maxDischargeDepth := 99) +contextual only [h, State.bump_good, State.setPoison_good, State.irq_good,
      State.add64_good, State.cxlEvent_good, good_ite, good_mk_iff, good_parts, good_foldl, good_foldl1, good_ite1,
      implies_true]
    | split

theorem State.cxlRecover_good {p : Nat} (h : Good k s) : Good k (State.cxlRecover s p) := by
  simp (maxDischargeDepth := 99) only [State.cxlRecover, h, State.cxlGo_good, good_ite, good_mk_iff, good_parts]

theorem State.l0Return_good {p : Nat} (h : Good k s) : Good k (State.l0Return s p) := by
  simp (maxDischargeDepth := 99) only [State.l0Return, h, State.cxlGo_good, State.bump_good, good_ite, good_mk_iff,
    good_parts]

theorem State.cxlRst_good (h : Good k s) : Good k (State.cxlRst s) := by
  simp (maxDischargeDepth := 99) only [State.cxlRst, h, State.pageReset_good, State.headerReset_good,
    State.rstRefused_good, good_ite, good_mk_iff, good_parts]

theorem execCxlPortEnable_good {w : Win} {p : Nat} (h : Good k s) : GoodRes k (execCxlPortEnable w p s) := by
  simp (maxDischargeDepth := 99) +contextual only [execCxlPortEnable, h, State.portEnable_good, State.hostGuard_good,
    good_ite, good_mk_iff, good_parts, goodRes_next, good_foldl, good_foldl1, good_ite1, implies_true]

theorem execCxlPortDisable_good {w : Win} {p lost : Nat} (h : Good k s) : GoodRes k (execCxlPortDisable w p lost s) := by
  simp (maxDischargeDepth := 99) +contextual only [execCxlPortDisable, h, State.portDisable_good, State.hostGuard_good,
    good_ite, good_mk_iff, good_parts, goodRes_next, good_foldl, good_foldl1, good_ite1, implies_true]

theorem execCxlTrainDone_good {p width speed cause : Nat} (h : Good k s) : GoodRes k (execCxlTrainDone p width speed cause
    s) := by
  simp (maxDischargeDepth := 99) only [execCxlTrainDone, h, State.trainDone_good, good_ite, good_mk_iff, good_parts,
    goodRes_next]

theorem execActivate_good {w : Win} {p : Nat} {active : Bool} (h : Good k s) : GoodRes k (execActivate w p active s) := by
  simp (maxDischargeDepth := 99) +contextual only [execActivate, h, State.portActivate_good, State.hostGuard_good,
    good_ite, good_mk_iff, good_parts, goodRes_next, good_foldl, good_foldl1, good_ite1, implies_true]

theorem execXioGo_good {w : Win} {v : Word} (h : Good k s) : GoodRes k (execXioGo w v s) := by
  simp (maxDischargeDepth := 99) +contextual only [execXioGo, h, State.xioGo_good, State.hostGuard_good, good_ite,
    good_mk_iff, good_parts, goodRes_next, good_foldl, good_foldl1, good_ite1, implies_true]

theorem execXioComplete_good {e : XioEnd} (h : Good k s) : GoodRes k (execXioComplete e s) := by
  simp (maxDischargeDepth := 99) only [execXioComplete, h, State.xioDone_good, good_ite, good_mk_iff, good_parts,
    goodRes_next]

theorem execDecCommit_good {w : Win} {d : Nat} {v : Word} (h : Good k s) : GoodRes k (execDecCommit w d v s) := by
  simp (maxDischargeDepth := 99) +contextual only [execDecCommit, h, State.decCommit_good, State.hostGuard_good, good_ite,
    good_mk_iff, good_parts, goodRes_next, good_foldl, good_foldl1, good_ite1, implies_true]

theorem execDecUncommit_good {w : Win} {d : Nat} (h : Good k s) : GoodRes k (execDecUncommit w d s) := by
  simp (maxDischargeDepth := 99) +contextual only [execDecUncommit, h, State.decUncommit_good, State.hostGuard_good,
    good_ite, good_mk_iff, good_parts, goodRes_next, good_foldl, good_foldl1, good_ite1, implies_true]

theorem execCxlMemReadDone_good {p a : Nat} {poison : Bool} (h : Good k s) : GoodRes k (execCxlMemReadDone p a poison s)
    := by
  simp (maxDischargeDepth := 99) only [execCxlMemReadDone, h, State.memReadDone_good, good_ite, good_mk_iff, good_parts,
    goodRes_next]

theorem execCxlRecovery_good {p : Nat} (h : Good k s) : GoodRes k (execCxlRecovery p s) := by
  simp (maxDischargeDepth := 99) only [execCxlRecovery, h, State.cxlRecover_good, good_ite, good_mk_iff, good_parts,
    goodRes_next]

theorem execCxlL0Return_good {p : Nat} (h : Good k s) : GoodRes k (execCxlL0Return p s) := by
  simp (maxDischargeDepth := 99) only [execCxlL0Return, h, State.l0Return_good, good_ite, good_mk_iff, good_parts,
    goodRes_next]

theorem execRecovTimeout_good {p lost : Nat} (h : Good k s) : GoodRes k (execRecovTimeout p lost s) := by
  simp (maxDischargeDepth := 99) only [execRecovTimeout, h, State.portLost_good, good_ite, good_mk_iff, good_parts,
    goodRes_next]

theorem execMemTimeout_good {p lost : Nat} (h : Good k s) : GoodRes k (execMemTimeout p lost s) := by
  simp (maxDischargeDepth := 99) only [execMemTimeout, h, State.portLost_good, good_ite, good_mk_iff, good_parts,
    goodRes_next]

theorem execCxlViral_good {p lost : Nat} (h : Good k s) : GoodRes k (execCxlViral p lost s) := by
  simp (maxDischargeDepth := 99) only [execCxlViral, h, State.irq_good, State.portLost_good, State.cxlEvent_good,
    good_ite, good_mk_iff, good_parts, goodRes_next]

theorem execCxlRst_good {w : Win} (h : Good k s) : GoodRes k (execCxlRst w s) := by
  simp (maxDischargeDepth := 99) +contextual only [execCxlRst, h, State.cxlRst_good, State.hostGuard_good, good_ite,
    good_mk_iff, good_parts, goodRes_next, good_foldl, good_foldl1, good_ite1, implies_true]

end Sys2Proof.Machine
end

