-- ==== Sys2Proof/Laws/KeepNmc.lean ====
section
/-! SUPPORT. The operations of Machine/Nmc.lean keep what `Good` says. -/

namespace Sys2Proof.Machine
open Sys2Proof

set_option Elab.async false
set_option linter.unusedSimpArgs false
set_option linter.unusedVariables false
set_option linter.unreachableTactic false
set_option linter.unusedTactic false

variable {k : Keep} {s : State}

theorem State.nmEvent_good {num : Nat} {p : List Nat} (h : Good k s) : Good k (State.nmEvent s num p) := by
  simp (maxDischargeDepth := 99) only [State.nmEvent, h, State.sysEvent_good, good_ite, good_mk_iff, good_parts]

theorem State.retire_good {slot cause : Nat} (h : Good k s) : Good k (State.retire s slot cause) := by
  unfold State.retire
  split <;> simp (maxDischargeDepth := 99) +contextual only [h, good_ite, good_mk_iff, good_parts, good_foldl,
    good_foldl1, good_ite1, implies_true]

theorem State.ceWindow_good {i : Nat} (h : Good k s) : Good k (State.ceWindow s i) := by
  unfold State.ceWindow
  repeat' first
    | with_reducible assumption
    | simp (maxDischargeDepth := 99) +contextual only [h, State.setN_good, good_ite, good_mk_iff, good_parts, good_foldl,
      good_foldl1, good_ite1, implies_true]
    | split

theorem State.ceFound_good {slot n : Nat} (h : Good k s) : Good k (State.ceFound s slot n) := by
  simp (maxDischargeDepth := 99) only [State.ceFound, h, State.retire_good, State.irq_good, State.addN_good,
    State.ceWindow_good, State.setN_good, good_ite, good_mk_iff, good_parts]

theorem State.ueFound_good {slot : Nat} {line : Option Nat} {port src : Nat} (h : Good k s) : Good k (State.ueFound s slot
    line port src) := by
  unfold State.ueFound
  split <;> simp (maxDischargeDepth := 99) +contextual only [h, State.bump_good, State.setPoison_good, State.retire_good,
    State.irq_good, State.drawn_good, State.nmEvent_good, good_ite, good_mk_iff, good_parts, good_foldl, good_foldl1,
    good_ite1, implies_true]

theorem State.lineErr_good {line port src : Nat} {e : LineErr} (h : Good k s) : Good k (State.lineErr s line port src e)
    := by
  simp (maxDischargeDepth := 99) only [State.lineErr, h, State.ueFound_good, State.ceFound_good, good_ite, good_mk_iff,
    good_parts]

theorem State.wakeChan_good {ch : Nat} (h : Good k s) : Good k (State.wakeChan s ch) := by
  simp (maxDischargeDepth := 99) only [State.wakeChan, h, State.bump_good, good_ite, good_mk_iff, good_parts]

theorem State.nmClock_good {t : Nat} (h : Good k s) : Good k (State.nmClock s t) := by
  simp (maxDischargeDepth := 99) only [State.nmClock, h, good_mk_iff, good_parts]

theorem State.nmRequest_good {port : Nat} {write : Bool} {a n : Nat} {data : List Nat} {t : Nat} (h : Good k s) : Good k
    (State.nmRequest s port write a n data t) := by
  simp (maxDischargeDepth := 99) +contextual only [State.nmRequest, h, State.err_good, State.each_good,
    State.wakeChan_good, State.nmClock_good, good_ite, good_mk_iff, good_parts, good_foldl, good_foldl1, good_ite1,
    implies_true]

theorem State.setReq_good {r r' : NmReq} (h : Good k s) : Good k (State.setReq s r r') := by
  simp (maxDischargeDepth := 99) only [State.setReq, h, good_mk_iff, good_parts]

theorem State.reqDone_good {r : NmReq} {t : Nat} (h : Good k s) : Good k (State.reqDone s r t) := by
  simp (maxDischargeDepth := 99) only [State.reqDone, h, State.maxN_good, good_ite, good_mk_iff, good_parts]

theorem State.setWq_good {ch : Nat} {l : List NmEntry} (h : Good k s) : Good k (State.setWq s ch l) := by
  simp (maxDischargeDepth := 99) only [State.setWq, h, good_mk_iff, good_parts]

theorem State.activate_good {slot bank row port t : Nat} (h : Good k s) : Good k (State.activate s slot bank row port t)
    := by
  unfold State.activate
  repeat' first
    | with_reducible assumption
    | simp (maxDischargeDepth := 99) +contextual only [h, State.bump_good, State.irq_good, State.nmEvent_good, good_ite,
      good_mk_iff, good_parts, good_foldl, good_foldl1, good_ite1, implies_true]
    | split

theorem State.touch_good {line port t : Nat} (h : Good k s) : Good k (State.touch s line port t) := by
  simp (maxDischargeDepth := 99) only [State.touch, h, State.activate_good, good_ite, good_mk_iff, good_parts]

theorem State.entryOut_good {ch : Nat} {x : NmEntry} {t : Nat} {e : LineErr} (h : Good k s) : Good k (State.entryOut s ch
    x t e) := by
  simp (maxDischargeDepth := 99) only [State.entryOut, h, State.touch_good, State.bump_good, State.setPoison_good,
    State.setWq_good, State.lineErr_good, good_ite, good_mk_iff, good_parts]

theorem State.serveWrite_good {ch : Nat} {r : NmReq} {t : Nat} (h : Good k s) : Good k (State.serveWrite s ch r t) := by
  unfold State.serveWrite
  extract_lets q m s1
  have h1 : Good k s1 := by
    dsimp only [s1]
    split <;> exact State.setWq_good h
  clear_value s1
  exact State.reqDone_good (good_wrMem h1)

theorem State.answered_good {r : NmReq} {st : Nat} {b : List Nat} {t : Nat} (h : Good k s) : Good k (State.answered s r st
    b t) := by
  simp (maxDischargeDepth := 99) only [State.answered, h, State.reqDone_good, good_ite, good_mk_iff, good_parts]

theorem State.dieRead_good {r : NmReq} {t : Nat} {e : LineErr} {b : List Nat} (h : Good k s) : Good k (State.dieRead s r t
    e b) := by
  simp (maxDischargeDepth := 99) only [State.dieRead, h, State.touch_good, State.bump_good, State.answered_good,
    State.lineErr_good, good_ite, good_mk_iff, good_parts]

theorem State.serveRead_good {ch : Nat} {r : NmReq} {t : Nat} {e : LineErr} (h : Good k s) : Good k (State.serveRead s ch
    r t e) := by
  unfold State.serveRead
  split <;> simp (maxDischargeDepth := 99) +contextual only [h, State.dieRead_good, State.bump_good, State.setReq_good,
    State.answered_good, State.entryOut_good, State.drawn_good, good_ite, good_mk_iff, good_parts, good_foldl,
    good_foldl1, good_ite1, implies_true]

theorem State.setDebt_good {i d : Nat} (h : Good k s) : Good k (State.setDebt s i d) := by
  simp (maxDischargeDepth := 99) only [State.setDebt, h, good_mk_iff, good_parts]

theorem State.ageAll_good {ch t : Nat} (h : Good k s) : Good k (State.ageAll s ch t) := by
  simp (maxDischargeDepth := 99) +contextual only [State.ageAll, h, State.bump_good, State.setReq_good, State.each_good,
    good_ite, good_mk_iff, good_parts, good_foldl, good_foldl1, good_ite1, implies_true]

theorem State.chooseReq_good {ok : List NmReq} {ch t : Nat} {e : LineErr} (h : Good k s) : Good k (State.chooseReq s ok ch
    t e) := by
  unfold State.chooseReq
  repeat' first
    | with_reducible assumption
    | simp (maxDischargeDepth := 99) +contextual only [h, State.serveWrite_good, State.entryOut_good,
      State.serveRead_good, good_ite, good_mk_iff, good_parts, good_foldl, good_foldl1, good_ite1, implies_true]
    | split

theorem State.pullIn_good {ch : Nat} (h : Good k s) : Good k (State.pullIn s ch) := by
  unfold State.pullIn
  repeat' first
    | with_reducible assumption
    | simp (maxDischargeDepth := 99) +contextual only [h, State.drawn_good, good_ite, good_mk_iff, good_parts, good_foldl,
      good_foldl1, good_ite1, implies_true]
    | split

theorem State.commandSlot_good {ch t : Nat} {e : LineErr} (h : Good k s) : Good k (State.commandSlot s ch t e) := by
  unfold State.commandSlot
  repeat' first
    | with_reducible assumption
    | simp (maxDischargeDepth := 99) +contextual only [h, State.ageAll_good, State.setDebt_good, State.pullIn_good,
      State.entryOut_good, State.chooseReq_good, State.nmClock_good, good_ite, good_mk_iff, good_parts, good_foldl,
      good_foldl1, good_ite1, implies_true]
    | split

theorem State.refreshOwed_good {i : Nat} (h : Good k s) : Good k (State.refreshOwed s i) := by
  simp (maxDischargeDepth := 99) only [State.refreshOwed, h, State.bump_good, State.setDebt_good, good_ite, good_mk_iff,
    good_parts]

theorem State.rhWindow_good {n : Nat} (h : Good k s) : Good k (State.rhWindow s n) := by
  simp (maxDischargeDepth := 99) only [State.rhWindow, h, good_ite, good_mk_iff, good_parts]

theorem State.scrubRead_good {ce ue : List Nat} (h : Good k s) : Good k (State.scrubRead s ce ue) := by
  unfold State.scrubRead
  refine good_ite h ?_
  split
  · simp only [good_mk_iff, good_parts, State.bump_good, h]
  · refine good_ite h ?_
    extract_lets s0 j line queued s1 s2
    have h1 : Good k s1 := State.ceFound_good (State.wakeChan_good h)
    have h2 : Good k s2 := State.each_good h1 fun s x hs => by
      split
      · exact good_ite hs (State.ueFound_good (State.drawn_good hs))
      · exact State.ueFound_good (State.drawn_good hs)
    clear_value s2
    refine good_ite (good_mk_iff.mpr (good_parts h2)) ?_
    split
    · exact good_mk_iff.mpr (good_parts h2)
    · exact good_mk_iff.mpr (good_parts (State.bump_good h2))

theorem State.maintEnd_good {st : Nat} (h : Good k s) : Good k (State.maintEnd s st) := by
  simp (maxDischargeDepth := 99) only [State.maintEnd, h, State.setN_good, good_ite, good_mk_iff, good_parts]

theorem State.maintOf_good {r st : Nat} (h : Good k s) : Good k (State.maintOf s r st) := by
  simp (maxDischargeDepth := 99) only [State.maintOf, h, State.maintEnd_good, good_ite, good_mk_iff, good_parts]

theorem State.migStart_good (h : Good k s) : Good k (State.migStart s) := by
  unfold State.migStart
  repeat' first
    | with_reducible assumption
    | simp (maxDischargeDepth := 99) +contextual only [h, State.err_good, State.irq_good, State.maintOf_good,
      State.ceWindow_good, State.setFld_good, State.setN_good, State.nmEvent_good, good_ite, good_mk_iff, good_parts,
      good_foldl, good_foldl1, good_ite1, implies_true]
    | split

theorem State.migDone_good {m : NmMig} (h : Good k s) : Good k (State.migDone s m) := by
  simp (maxDischargeDepth := 99) only [State.migDone, h, State.maintOf_good, State.setFld_good, State.setN_good,
    State.nmEvent_good, good_ite, good_mk_iff, good_parts]

theorem State.pageCopy_good {ce ue : List Nat} (h : Good k s) : Good k (State.pageCopy s ce ue) := by
  unfold State.pageCopy
  split <;> simp (maxDischargeDepth := 99) +contextual only [h, State.migDone_good, State.ueFound_good, State.setFld_good,
    State.each_good, State.entryOut_good, State.wakeChan_good, State.ceFound_good, State.drawn_good, good_ite,
    good_mk_iff, good_parts, good_foldl, good_foldl1, good_ite1, implies_true]

theorem State.maintRetire_good {slot : Nat} (h : Good k s) : Good k (State.maintRetire s slot) := by
  unfold State.maintRetire
  repeat' first
    | with_reducible assumption
    | simp (maxDischargeDepth := 99) +contextual only [h, State.retire_good, State.maintEnd_good, State.cfgErr_good,
      State.setN_good, good_ite, good_mk_iff, good_parts, good_foldl, good_foldl1, good_ite1, implies_true]
    | split

theorem State.retrainDue_good {i trigger : Nat} (h : Good k s) : Good k (State.retrainDue s i trigger) := by
  simp (maxDischargeDepth := 99) only [State.retrainDue, h, good_ite, good_mk_iff, good_parts]

theorem State.applySweep_good {i : Nat} {w : Sweep} (h : Good k s) : Good k (State.applySweep s i w) := by
  unfold State.applySweep
  split <;> simp (maxDischargeDepth := 99) +contextual only [h, State.setFld_good, good_ite, good_mk_iff, good_parts,
    good_foldl, good_foldl1, good_ite1, implies_true]

theorem State.retrainStep_good {i : Nat} {sweeps : Option (List Sweep)} {temp : Int} (h : Good k s) : Good k
    (State.retrainStep s i sweeps temp) := by
  unfold State.retrainStep
  split <;> [skip; cases sweeps] <;> simp (maxDischargeDepth := 99) +contextual only [h, State.irq_good, State.applySweep_good, State.setFld_good,
    State.maintEnd_good, State.each_good, State.wakeChan_good, State.nmEvent_good, good_ite, good_mk_iff, good_parts,
    good_foldl, good_foldl1, good_ite1, implies_true]

theorem State.maintRetrain_good {i : Nat} (h : Good k s) : Good k (State.maintRetrain s i) := by
  simp (maxDischargeDepth := 99) only [State.maintRetrain, h, State.maintEnd_good, State.cfgErr_good,
    State.retrainDue_good, State.setN_good, good_ite, good_mk_iff, good_parts]

theorem State.trnGo_good {errs : List Nat} (h : Good k s) : Good k (State.trnGo s errs) := by
  simp (maxDischargeDepth := 99) +contextual only [State.trnGo, h, State.each_good, State.setN_good, good_ite,
    good_mk_iff, good_parts, good_foldl, good_foldl1, good_ite1, implies_true]

theorem State.trnApply_good {i : Nat} (h : Good k s) : Good k (State.trnApply s i) := by
  simp (maxDischargeDepth := 99) +contextual only [State.trnApply, h, State.cfgErr_good, State.each_good, State.setN_good,
    good_ite, good_mk_iff, good_parts, good_foldl, good_foldl1, good_ite1, implies_true]

theorem State.writeTrn_good {a : Nat} {v : Word} (h : Good k s) : Good k (State.writeTrn s a v) := by
  simp (maxDischargeDepth := 99) only [State.writeTrn, h, State.setReg_good, State.cfgErr_good, good_ite, good_mk_iff,
    good_parts]

theorem State.hoursFrom_good (h : Good k s) : Good k (State.hoursFrom s) := by
  simp (maxDischargeDepth := 99) +contextual only [State.hoursFrom, h, State.each_good, State.setN_good, good_ite,
    good_mk_iff, good_parts, good_foldl, good_foldl1, good_ite1, implies_true]

theorem State.writeNmcCfg_good {v : Word} (h : Good k s) : Good k (State.writeNmcCfg s v) := by
  simp (maxDischargeDepth := 99) only [State.writeNmcCfg, h, State.setReg_good, State.hoursFrom_good, good_ite,
    good_mk_iff, good_parts]

theorem State.nmStartup_good {fails : List Nat} (h : Good k s) : Good k (State.nmStartup s fails) := by
  unfold State.nmStartup
  repeat' first
    | with_reducible assumption
    | simp (maxDischargeDepth := 99) +contextual only [h, State.err_good, State.irq_good, State.setFld_good,
      State.each_good, State.setN_good, State.nmEvent_good, good_ite, good_mk_iff, good_parts, good_foldl, good_foldl1,
      good_ite1, implies_true]
    | split

theorem State.selfRefresh_good {ch : Nat} (h : Good k s) : Good k (State.selfRefresh s ch) := by
  simp (maxDischargeDepth := 99) only [State.selfRefresh, h, State.bump_good, good_ite, good_mk_iff, good_parts]

theorem State.nmcRst_good (h : Good k s) : Good k (State.nmcRst s) := by
  simp (maxDischargeDepth := 99) only [State.nmcRst, h, State.resetRegs_good, State.headerReset_good,
    State.rstRefused_good, good_ite, good_mk_iff, good_parts]

theorem execNmPortRequest_good {port : Nat} {write : Bool} {a n : Nat} {data : List Nat} {t : Nat} (h : Good k s) :
    GoodRes k (execNmPortRequest port write a n data t s) := by
  simp (maxDischargeDepth := 99) only [execNmPortRequest, h, State.nmRequest_good, good_ite, good_mk_iff, good_parts,
    goodRes_next]

theorem execNmCommandSlot_good {ch t : Nat} {e : LineErr} (h : Good k s) : GoodRes k (execNmCommandSlot ch t e s) := by
  simp (maxDischargeDepth := 99) only [execNmCommandSlot, h, State.commandSlot_good, good_ite, good_mk_iff, good_parts,
    goodRes_next]

theorem execRefreshDue_good {i : Nat} (h : Good k s) : GoodRes k (execRefreshDue i s) := by
  simp (maxDischargeDepth := 99) only [execRefreshDue, h, State.refreshOwed_good, good_ite, good_mk_iff, good_parts,
    goodRes_next]

theorem execRefreshRateRead_good {i rate : Nat} (h : Good k s) : GoodRes k (execRefreshRateRead i rate s) := by
  simp (maxDischargeDepth := 99) only [execRefreshRateRead, h, good_ite, good_mk_iff, good_parts, goodRes_next]

theorem execScrubRead_good {ce ue : List Nat} (h : Good k s) : GoodRes k (execScrubRead ce ue s) := by
  simp (maxDischargeDepth := 99) only [execScrubRead, h, State.scrubRead_good, good_ite, good_mk_iff, good_parts,
    goodRes_next]

theorem execCeHourWindow_good {i : Nat} (h : Good k s) : GoodRes k (execCeHourWindow i s) := by
  simp (maxDischargeDepth := 99) only [execCeHourWindow, h, State.ceWindow_good, good_ite, good_mk_iff, good_parts,
    goodRes_next]

theorem execMigrationStart_good (h : Good k s) : GoodRes k (execMigrationStart s) := by
  simp (maxDischargeDepth := 99) only [execMigrationStart, h, State.migStart_good, good_ite, good_mk_iff, good_parts,
    goodRes_next]

theorem execPageCopy_good {ce ue : List Nat} (h : Good k s) : GoodRes k (execPageCopy ce ue s) := by
  simp (maxDischargeDepth := 99) only [execPageCopy, h, State.pageCopy_good, good_ite, good_mk_iff, good_parts,
    goodRes_next]

theorem execRetrainDue_good {i trigger : Nat} (h : Good k s) : GoodRes k (execRetrainDue i trigger s) := by
  simp (maxDischargeDepth := 99) only [execRetrainDue, h, State.retrainDue_good, good_ite, good_mk_iff, good_parts,
    goodRes_next]

theorem execRetrainStep_good {i : Nat} {sweeps : Option (List Sweep)} {temp : Int} (h : Good k s) : GoodRes k
    (execRetrainStep i sweeps temp s) := by
  simp (maxDischargeDepth := 99) only [execRetrainStep, h, State.retrainStep_good, good_ite, good_mk_iff, good_parts,
    goodRes_next]

theorem execMaintRetire_good {w : Win} {i : Nat} (h : Good k s) : GoodRes k (execMaintRetire w i s) := by
  simp (maxDischargeDepth := 99) +contextual only [execMaintRetire, h, State.maintRetire_good, State.hostGuard_good,
    good_ite, good_mk_iff, good_parts, goodRes_next, good_foldl, good_foldl1, good_ite1, implies_true]

theorem execMaintRetrain_good {w : Win} {i : Nat} (h : Good k s) : GoodRes k (execMaintRetrain w i s) := by
  simp (maxDischargeDepth := 99) +contextual only [execMaintRetrain, h, State.maintRetrain_good, State.hostGuard_good,
    good_ite, good_mk_iff, good_parts, goodRes_next, good_foldl, good_foldl1, good_ite1, implies_true]

theorem execTrnGo_good {w : Win} {errs : List Nat} (h : Good k s) : GoodRes k (execTrnGo w errs s) := by
  simp (maxDischargeDepth := 99) +contextual only [execTrnGo, h, State.trnGo_good, State.hostGuard_good, good_ite,
    good_mk_iff, good_parts, goodRes_next, good_foldl, good_foldl1, good_ite1, implies_true]

theorem execTrnApply_good {w : Win} {i : Nat} (h : Good k s) : GoodRes k (execTrnApply w i s) := by
  simp (maxDischargeDepth := 99) +contextual only [execTrnApply, h, State.trnApply_good, State.hostGuard_good, good_ite,
    good_mk_iff, good_parts, goodRes_next, good_foldl, good_foldl1, good_ite1, implies_true]

theorem execSelfRefreshEntry_good {ch : Nat} (h : Good k s) : GoodRes k (execSelfRefreshEntry ch s) := by
  simp (maxDischargeDepth := 99) only [execSelfRefreshEntry, h, State.selfRefresh_good, good_ite, good_mk_iff, good_parts,
    goodRes_next]

theorem execNmcRst_good {w : Win} (h : Good k s) : GoodRes k (execNmcRst w s) := by
  simp (maxDischargeDepth := 99) +contextual only [execNmcRst, h, State.nmcRst_good, State.hostGuard_good, good_ite,
    good_mk_iff, good_parts, goodRes_next, good_foldl, good_foldl1, good_ite1, implies_true]

end Sys2Proof.Machine
end

