-- ==== Sys2Proof/Laws/KeepRook.lean ====
section
/-! SUPPORT. The operations of Machine/Rook.lean keep what `Good` says. -/

namespace Sys2Proof.Machine
open Sys2Proof

set_option Elab.async false
set_option linter.unusedSimpArgs false
set_option linter.unusedVariables false
set_option linter.unreachableTactic false
set_option linter.unusedTactic false

variable {k : Keep} {s : State}

theorem State.rookEvent_good {num : Nat} {p : List Nat} (h : Good k s) : Good k (State.rookEvent s num p) := by
  simp (maxDischargeDepth := 99) only [State.rookEvent, h, State.sysEvent_good, good_ite, good_mk_iff, good_parts]

theorem State.setMeas_good {m : Nat} {d : List Nat} (h : Good k s) : Good k (State.setMeas s m d) := by
  simp (maxDischargeDepth := 99) +contextual only [State.setMeas, h, State.each_good, State.setN_good, good_ite,
    good_mk_iff, good_parts, good_foldl, good_foldl1, good_ite1, implies_true]

theorem State.runImage_good {b : List Nat} {source : Nat} (h : Good k s) : Good k (State.runImage s b source) := by
  simp (maxDischargeDepth := 99) only [State.runImage, h, State.audit_good, State.setN_good, State.setMeas_good, good_ite,
    good_mk_iff, good_parts]

theorem State.bootFail_good {st source : Nat} (h : Good k s) : Good k (State.bootFail s st source) := by
  simp (maxDischargeDepth := 99) only [State.bootFail, h, State.irq_good, State.setN_good, good_ite, good_mk_iff,
    good_parts]

theorem State.resetRelease_good {bootsel : Nat} {a b : List Nat} {samples : List Bool} (h : Good k s) :
    Good k (State.resetRelease s bootsel a b samples) := by
  unfold State.resetRelease
  refine good_ite h ?_
  extract_lets bs c0 r0 s1 s2 s3 s4 s5 s6
  have h2 : Good k s2 := State.setN_good (good_mk_iff.mpr (good_parts h))
  have h3 : Good k s3 := good_ite (State.setFld_good h2) h2
  have h4 : Good k s4 := by
    dsimp only [s4]
    split
    · exact State.setFld_good (State.setN_good h3)
    · exact h3
  have h5 : Good k s5 := State.setFld_good h4
  clear_value s5
  exact good_ite h5 (good_ite (good_mk_iff.mpr (good_parts h5)) (good_ite (State.runImage_good h5)
    (good_ite (State.runImage_good h5) (good_ite (good_mk_iff.mpr (good_parts (State.setN_good h5))) (State.bootFail_good
      h5)))))

theorem State.bootData_good {v : Word} (h : Good k s) : Good k (State.bootData s v) := by
  simp (maxDischargeDepth := 99) only [State.bootData, h, good_ite, good_mk_iff, good_parts]

theorem State.bootStart_good (h : Good k s) : Good k (State.bootStart s) := by
  simp (maxDischargeDepth := 99) only [State.bootStart, h, State.bootFail_good, State.runImage_good, good_ite,
    good_mk_iff, good_parts]

theorem State.bootDone_good {fails : List Nat} (h : Good k s) : Good k (State.bootDone s fails) := by
  simp (maxDischargeDepth := 99) only [State.bootDone, h, State.setFld_good, State.nmStartup_good, State.hoursFrom_good,
    good_ite, good_mk_iff, good_parts]

theorem State.challenge_good {w : Win} (h : Good k s) : Good k (State.challenge s w) := by
  simp (maxDischargeDepth := 99) only [State.challenge, h, State.setSess_good, State.drawn_good, good_ite, good_mk_iff,
    good_parts]

theorem State.sessOpen_good {w : Win} {key : Nat} (h : Good k s) : Good k (State.sessOpen s w key) := by
  simp (maxDischargeDepth := 99) only [State.sessOpen, h, State.setSess_good, good_ite, good_mk_iff, good_parts]

theorem State.sessEvent_good {w : Win} {what key st cause : Nat} (h : Good k s) : Good k (State.sessEvent s w what key st
    cause) := by
  simp (maxDischargeDepth := 99) only [State.sessEvent, h, State.irq_good, State.rookEvent_good, good_ite, good_mk_iff,
    good_parts]

theorem State.sessVerify_good {w : Win} (h : Good k s) : Good k (State.sessVerify s w) := by
  unfold State.sessVerify
  repeat' first
    | with_reducible assumption
    | simp (maxDischargeDepth := 99) +contextual only [h, State.bump_good, State.sessEvent_good, State.audit_good,
      State.setSess_good, good_ite, good_mk_iff, good_parts, good_foldl, good_foldl1, good_ite1, implies_true]
    | split

theorem State.sessClose_good {w : Win} {cause : Nat} (h : Good k s) : Good k (State.sessClose s w cause) := by
  simp (maxDischargeDepth := 99) only [State.sessClose, h, State.sessEvent_good, State.audit_good, State.setSess_good,
    good_ite, good_mk_iff, good_parts]

theorem State.sessIdle_good {w : Win} (h : Good k s) : Good k (State.sessIdle s w) := by
  simp (maxDischargeDepth := 99) only [State.sessIdle, h, State.sessClose_good, good_ite, good_mk_iff, good_parts]

theorem State.writeSessCtl_good {w : Win} {v : Word} (h : Good k s) : Good k (State.writeSessCtl s w v) := by
  unfold State.writeSessCtl
  split <;> simp (maxDischargeDepth := 99) +contextual only [h, State.challenge_good, State.sessOpen_good,
    State.sessClose_good, State.setSess_good, good_ite, good_mk_iff, good_parts, good_foldl, good_foldl1, good_ite1,
    implies_true]

theorem State.mboxWrite_good {w : Win} {v : Word} (h : Good k s) : Good k (State.mboxWrite s w v) := by
  simp (maxDischargeDepth := 99) only [State.mboxWrite, h, State.setSess_good, good_ite, good_mk_iff, good_parts]

theorem State.consentEnd_good (h : Good k s) : Good k (State.consentEnd s) := by
  simp (maxDischargeDepth := 99) only [State.consentEnd, h, State.sessClose_good, good_ite, good_mk_iff, good_parts]

theorem State.cmdLifecycle_good {r : CmdRef} {target : Nat} {vdd : Bool} (h : Good k s) : Good k (State.cmdLifecycle s r
    target vdd) := by
  unfold State.cmdLifecycle
  repeat' first
    | with_reducible assumption
    | simp (maxDischargeDepth := 99) +contextual only [h, State.consentEnd_good, State.setFld_good, State.respondA_good,
      State.noRights_good, State.burn_good, good_ite, good_mk_iff, good_parts, good_foldl, good_foldl1, good_ite1,
      implies_true]
    | split

theorem State.cmdConsent_good {r : CmdRef} (h : Good k s) : Good k (State.cmdConsent s r) := by
  simp (maxDischargeDepth := 99) only [State.cmdConsent, h, State.respondA_good, State.noRights_good, good_ite,
    good_mk_iff, good_parts]

theorem State.consentHour_good (h : Good k s) : Good k (State.consentHour s) := by
  simp (maxDischargeDepth := 99) only [State.consentHour, h, State.consentEnd_good, good_ite, good_mk_iff, good_parts]

theorem State.cmdGenWrite_good {r : CmdRef} {addr : Nat} {vdd : Bool} (h : Good k s) : Good k (State.cmdGenWrite s r addr
    vdd) := by
  unfold State.cmdGenWrite
  repeat' first
    | with_reducible assumption
    | simp (maxDischargeDepth := 99) +contextual only [h, State.respondA_good, State.noRights_good, State.burn_good,
      good_ite, good_mk_iff, good_parts, good_foldl, good_foldl1, good_ite1, implies_true]
    | split

theorem State.cmdRollback_good {r : CmdRef} {n : Nat} {vdd : Bool} (h : Good k s) : Good k (State.cmdRollback s r n vdd)
    := by
  simp (maxDischargeDepth := 99) only [State.cmdRollback, h, State.respondA_good, State.noRights_good, State.burn_good,
    good_ite, good_mk_iff, good_parts]

theorem State.cmdGrant_good {r : CmdRef} {on : Bool} (h : Good k s) : Good k (State.cmdGrant s r on) := by
  simp (maxDischargeDepth := 99) only [State.cmdGrant, h, State.setFld_good, State.respondA_good, State.noRights_good,
    good_ite, good_mk_iff, good_parts]

theorem State.cmdIdentity_good {r : CmdRef} {serial part root : List Nat} {vdd : Bool} (h : Good k s) : Good k
    (State.cmdIdentity s r serial part root vdd) := by
  simp (maxDischargeDepth := 99) only [State.cmdIdentity, h, State.respondA_good, State.noRights_good, State.drawn_good,
    State.burn_good, good_ite, good_mk_iff, good_parts]

theorem State.cmdRootWrite_good {r : CmdRef} {hash : List Nat} {vdd : Bool} (h : Good k s) : Good k (State.cmdRootWrite s
    r hash vdd) := by
  simp (maxDischargeDepth := 99) only [State.cmdRootWrite, h, State.respondA_good, State.noRights_good, State.burn_good,
    good_ite, good_mk_iff, good_parts]

theorem State.protCommit_good {w : Win} (h : Good k s) : Good k (State.protCommit s w) := by
  simp (maxDischargeDepth := 99) +contextual only [State.protCommit, h, State.setReg_good, State.bump_good,
    State.each_good, State.audit_good, good_ite, good_mk_iff, good_parts, good_foldl, good_foldl1, good_ite1,
    implies_true]

theorem State.protLoad_good (h : Good k s) : Good k (State.protLoad s) := by
  simp (maxDischargeDepth := 99) +contextual only [State.protLoad, h, State.setReg_good, State.each_good, good_ite,
    good_mk_iff, good_parts, good_foldl, good_foldl1, good_ite1, implies_true]

theorem State.writeStage_good {a : Nat} {v : Word} (h : Good k s) : Good k (State.writeStage s a v) := by
  simp (maxDischargeDepth := 99) only [State.writeStage, h, State.setReg_good, good_ite, good_mk_iff, good_parts]

theorem State.writeProtCtl_good {w : Win} {v : Word} (h : Good k s) : Good k (State.writeProtCtl s w v) := by
  simp (maxDischargeDepth := 99) only [State.writeProtCtl, h, State.protCommit_good, State.protLoad_good, good_ite,
    good_mk_iff, good_parts]

theorem State.numberAll_good (h : Good k s) : Good k (State.numberAll s) := by
  unfold State.numberAll
  split
  rename_i e
  have := good_fst e (good_foldr1 h fun r p hp => good_ite1 hp (State.numbered_good hp))
  simp only [good_mk_iff, good_parts, this]

theorem State.newEpoch_good (h : Good k s) : Good k (State.newEpoch s) := by
  simp (maxDischargeDepth := 99) only [State.newEpoch, h, State.trimLog_good, State.numberAll_good, State.burn_good,
    good_ite, good_mk_iff, good_parts]

theorem State.mirrorBacklog_good (h : Good k s) : Good k (State.mirrorBacklog s) := by
  simp (maxDischargeDepth := 99) +contextual only [State.mirrorBacklog, h, State.toMirror_good, State.each_good, good_ite,
    good_mk_iff, good_parts, good_foldl, good_foldl1, good_ite1, implies_true]

theorem State.cmdMirror_good {r : CmdRef} {b j : Nat} (h : Good k s) : Good k (State.cmdMirror s r b j) := by
  simp (maxDischargeDepth := 99) only [State.cmdMirror, h, State.mirrorBacklog_good, State.setFld_good,
    State.auditEvent_good, State.numberAll_good, State.respond_good, State.noRights_good, State.newEpoch_good, good_ite,
    good_mk_iff, good_parts]

theorem State.auditBase_good (h : Good k s) : Good k (State.auditBase s) := by
  simp (maxDischargeDepth := 99) only [State.auditBase, h, State.setFld_good, State.newEpoch_good, good_ite, good_mk_iff,
    good_parts]

theorem State.cmdAttest_good {r : CmdRef} {challenge : List Nat} {dest : Nat} (h : Good k s) : Good k (State.cmdAttest s r
    challenge dest) := by
  simp (maxDischargeDepth := 99) only [State.cmdAttest, h, State.respond_good, State.wrBytes_good, good_ite, good_mk_iff,
    good_parts]

theorem State.trngBlock_good {l : List Bool} (h : Good k s) : Good k (State.trngBlock s l) := by
  simp (maxDischargeDepth := 99) only [State.trngBlock, h, State.bump_good, State.irq_good, State.setFld_good,
    State.rookEvent_good, State.audit_good, good_ite, good_mk_iff, good_parts]

theorem State.trngRetest_good {l : List Bool} (h : Good k s) : Good k (State.trngRetest s l) := by
  simp (maxDischargeDepth := 99) only [State.trngRetest, h, State.irq_good, State.setFld_good, State.rookEvent_good,
    State.audit_good, good_ite, good_mk_iff, good_parts]

theorem execRookLifecycle_good {r : CmdRef} {target : Nat} {vdd : Bool} (h : Good k s) : GoodRes k (execRookLifecycle r
    target vdd s) := by
  simp (maxDischargeDepth := 99) +contextual only [execRookLifecycle, h, State.carryOut_good, State.cmdLifecycle_good,
    good_ite, good_mk_iff, good_parts, goodRes_next, good_foldl, good_foldl1, good_ite1, implies_true]

theorem execRookRmaConsent_good {r : CmdRef} (h : Good k s) : GoodRes k (execRookRmaConsent r s) := by
  simp (maxDischargeDepth := 99) +contextual only [execRookRmaConsent, h, State.cmdConsent_good, State.carryOut_good,
    good_ite, good_mk_iff, good_parts, goodRes_next, good_foldl, good_foldl1, good_ite1, implies_true]

theorem execRmaConsentEnd_good (h : Good k s) : GoodRes k (execRmaConsentEnd s) := by
  simp (maxDischargeDepth := 99) only [execRmaConsentEnd, h, State.consentHour_good, good_ite, good_mk_iff, good_parts,
    goodRes_next]

theorem execOtpGenWrite_good {r : CmdRef} {addr : Nat} {vdd : Bool} (h : Good k s) : GoodRes k (execOtpGenWrite r addr vdd
    s) := by
  simp (maxDischargeDepth := 99) +contextual only [execOtpGenWrite, h, State.carryOut_good, State.cmdGenWrite_good,
    good_ite, good_mk_iff, good_parts, goodRes_next, good_foldl, good_foldl1, good_ite1, implies_true]

theorem execRollbackSet_good {r : CmdRef} {n : Nat} {vdd : Bool} (h : Good k s) : GoodRes k (execRollbackSet r n vdd s) :=
    by
  simp (maxDischargeDepth := 99) +contextual only [execRollbackSet, h, State.carryOut_good, State.cmdRollback_good,
    good_ite, good_mk_iff, good_parts, goodRes_next, good_foldl, good_foldl1, good_ite1, implies_true]

theorem execJnlGrant_good {r : CmdRef} {on : Bool} (h : Good k s) : GoodRes k (execJnlGrant r on s) := by
  simp (maxDischargeDepth := 99) +contextual only [execJnlGrant, h, State.carryOut_good, State.cmdGrant_good, good_ite,
    good_mk_iff, good_parts, goodRes_next, good_foldl, good_foldl1, good_ite1, implies_true]

theorem execAttest_good {r : CmdRef} {challenge : List Nat} {dest : Nat} (h : Good k s) : GoodRes k (execAttest r
    challenge dest s) := by
  simp (maxDischargeDepth := 99) +contextual only [execAttest, h, State.carryOut_good, State.cmdAttest_good, good_ite,
    good_mk_iff, good_parts, goodRes_next, good_foldl, good_foldl1, good_ite1, implies_true]

theorem execAuditMirror_good {r : CmdRef} {b j : Nat} (h : Good k s) : GoodRes k (execAuditMirror r b j s) := by
  simp (maxDischargeDepth := 99) +contextual only [execAuditMirror, h, State.carryOut_good, State.cmdMirror_good,
    good_ite, good_mk_iff, good_parts, goodRes_next, good_foldl, good_foldl1, good_ite1, implies_true]

theorem execOtpIdentity_good {r : CmdRef} {serial part root : List Nat} {vdd : Bool} (h : Good k s) : GoodRes k
    (execOtpIdentity r serial part root vdd s) := by
  simp (maxDischargeDepth := 99) +contextual only [execOtpIdentity, h, State.carryOut_good, State.cmdIdentity_good,
    good_ite, good_mk_iff, good_parts, goodRes_next, good_foldl, good_foldl1, good_ite1, implies_true]

theorem execOtpRootWrite_good {r : CmdRef} {hash : List Nat} {vdd : Bool} (h : Good k s) : GoodRes k (execOtpRootWrite r
    hash vdd s) := by
  simp (maxDischargeDepth := 99) +contextual only [execOtpRootWrite, h, State.carryOut_good, State.cmdRootWrite_good,
    good_ite, good_mk_iff, good_parts, goodRes_next, good_foldl, good_foldl1, good_ite1, implies_true]

theorem execChallenge_good {w : Win} (h : Good k s) : GoodRes k (execChallenge w s) := by
  simp (maxDischargeDepth := 99) +contextual only [execChallenge, h, State.challenge_good, State.hostGuard_good, good_ite,
    good_mk_iff, good_parts, goodRes_next, good_foldl, good_foldl1, good_ite1, implies_true]

theorem execMboxReset_good {w : Win} (h : Good k s) : GoodRes k (execMboxReset w s) := by
  simp (maxDischargeDepth := 99) +contextual only [execMboxReset, h, State.setSess_good, State.hostGuard_good, good_ite,
    good_mk_iff, good_parts, goodRes_next, good_foldl, good_foldl1, good_ite1, implies_true]

theorem execMboxData_good {w : Win} {v : Word} (h : Good k s) : GoodRes k (execMboxData w v s) := by
  simp (maxDischargeDepth := 99) +contextual only [execMboxData, h, State.mboxWrite_good, State.hostGuard_good, good_ite,
    good_mk_iff, good_parts, goodRes_next, good_foldl, good_foldl1, good_ite1, implies_true]

theorem execSessionOpen_good {w : Win} {key : Nat} (h : Good k s) : GoodRes k (execSessionOpen w key s) := by
  simp (maxDischargeDepth := 99) +contextual only [execSessionOpen, h, State.sessOpen_good, State.hostGuard_good,
    good_ite, good_mk_iff, good_parts, goodRes_next, good_foldl, good_foldl1, good_ite1, implies_true]

theorem execSessionVerifyDone_good {w : Win} (h : Good k s) : GoodRes k (execSessionVerifyDone w s) := by
  simp (maxDischargeDepth := 99) only [execSessionVerifyDone, h, State.sessVerify_good, good_ite, good_mk_iff, good_parts,
    goodRes_next]

theorem execSessionClose_good {w : Win} (h : Good k s) : GoodRes k (execSessionClose w s) := by
  simp (maxDischargeDepth := 99) +contextual only [execSessionClose, h, State.sessClose_good, State.hostGuard_good,
    good_ite, good_mk_iff, good_parts, goodRes_next, good_foldl, good_foldl1, good_ite1, implies_true]

theorem execSessionIdleTimeout_good {w : Win} (h : Good k s) : GoodRes k (execSessionIdleTimeout w s) := by
  simp (maxDischargeDepth := 99) only [execSessionIdleTimeout, h, State.sessIdle_good, good_ite, good_mk_iff, good_parts,
    goodRes_next]

theorem execProtCommit_good {w : Win} (h : Good k s) : GoodRes k (execProtCommit w s) := by
  simp (maxDischargeDepth := 99) +contextual only [execProtCommit, h, State.protCommit_good, State.hostGuard_good,
    good_ite, good_mk_iff, good_parts, goodRes_next, good_foldl, good_foldl1, good_ite1, implies_true]

theorem execProtLoad_good {w : Win} (h : Good k s) : GoodRes k (execProtLoad w s) := by
  simp (maxDischargeDepth := 99) +contextual only [execProtLoad, h, State.protLoad_good, State.hostGuard_good, good_ite,
    good_mk_iff, good_parts, goodRes_next, good_foldl, good_foldl1, good_ite1, implies_true]

theorem execAuditBaseFix_good (h : Good k s) : GoodRes k (execAuditBaseFix s) := by
  simp (maxDischargeDepth := 99) only [execAuditBaseFix, h, State.auditBase_good, good_ite, good_mk_iff, good_parts,
    goodRes_next]

theorem execTrngBlock_good {l : List Bool} (h : Good k s) : GoodRes k (execTrngBlock l s) := by
  simp (maxDischargeDepth := 99) only [execTrngBlock, h, State.trngBlock_good, good_ite, good_mk_iff, good_parts,
    goodRes_next]

theorem execTrngRetest_good {l : List Bool} (h : Good k s) : GoodRes k (execTrngRetest l s) := by
  simp (maxDischargeDepth := 99) only [execTrngRetest, h, State.trngRetest_good, good_ite, good_mk_iff, good_parts,
    goodRes_next]

theorem execBootData_good {w : Win} {v : Word} (h : Good k s) : GoodRes k (execBootData w v s) := by
  simp (maxDischargeDepth := 99) +contextual only [execBootData, h, State.bootData_good, State.hostGuard_good, good_ite,
    good_mk_iff, good_parts, goodRes_next, good_foldl, good_foldl1, good_ite1, implies_true]

theorem execBootCtlStart_good {w : Win} (h : Good k s) : GoodRes k (execBootCtlStart w s) := by
  simp (maxDischargeDepth := 99) +contextual only [execBootCtlStart, h, State.bootStart_good, State.hostGuard_good,
    good_ite, good_mk_iff, good_parts, goodRes_next, good_foldl, good_foldl1, good_ite1, implies_true]

theorem execBootDone_good {fails : List Nat} (h : Good k s) : GoodRes k (execBootDone fails s) := by
  simp (maxDischargeDepth := 99) only [execBootDone, h, State.bootDone_good, good_ite, good_mk_iff, good_parts,
    goodRes_next]

theorem execRookRst_good {w : Win} {page : Nat} (h : Good k s) : GoodRes k (execRookRst w page s) := by
  simp (maxDischargeDepth := 99) +contextual only [execRookRst, h, State.rstRefused_good, State.hostGuard_good, good_ite,
    good_mk_iff, good_parts, goodRes_next, good_foldl, good_foldl1, good_ite1, implies_true]

theorem execResetRelease_good {bootsel : Nat} {a b : List Nat} {samples : List Bool} (h : Good k s) : GoodRes k
    (execResetRelease bootsel a b samples s) := by
  simp (maxDischargeDepth := 99) only [execResetRelease, h, State.resetRelease_good, good_ite, good_mk_iff, good_parts,
    goodRes_next]

end Sys2Proof.Machine
end

