-- ==== Sys2Proof/Laws/KeepCtx.lean ====
section
/-! SUPPORT. The operations of Machine/Ctx.lean keep what `Good` says. -/

namespace Sys2Proof.Machine
open Sys2Proof

set_option Elab.async false
set_option linter.unusedSimpArgs false
set_option linter.unusedVariables false
set_option linter.unreachableTactic false
set_option linter.unusedTactic false

variable {k : Keep} {s : State}

theorem State.bindLine_good {i : Nat} (h : Good k s) : Good k (State.bindLine s i) := by
  simp (maxDischargeDepth := 99) only [State.bindLine, h, State.setLine_good, State.setFld_good, good_ite, good_mk_iff,
    good_parts]

theorem State.openWake_good {home : Nat} {f : OpenFields} (h : Good k s) : Good k (State.openWake s home f) := by
  simp (maxDischargeDepth := 99) only [State.openWake, h, State.wake_good, good_ite, good_mk_iff, good_parts]

theorem State.openAttach_good {c : Nat} {f : OpenFields} (h : Good k s) : Good k (State.openAttach s c f).2 := by
  unfold State.openAttach
  extract_lets x a g bad full s1 s2
  have h1 : Good k s1 := by
    dsimp only [s1]
    split
    · exact State.eceAttach_good h
    · exact h
  clear_value s1
  have h2 : Good k s2 := by
    dsimp only [s2]
    split
    · exact State.sageAttach_good h1
    · exact h1
  clear_value s2
  split
  · exact h
  · split
    · exact h
    · exact good_ite (State.entriesTake_good h2) h2

theorem State.tryOpen_good {f : OpenFields} (h : Good k s) : Good k (State.tryOpen s f).2.2 := by
  unfold State.tryOpen
  extract_lets c x bs obj t att u1 u2 d u3 u4 u5
  have ht : Good k t := State.setCtx_good (State.openWake_good h)
  clear_value t
  have h1 : Good k u1 := State.openAttach_good ht
  clear_value u1
  have h2 : Good k u2 := good_ite h1 (State.bindLine_good h1)
  clear_value u2
  have h5 : Good k u5 := State.setFlow_good (State.setCtx_good (State.drawn_good (State.drawn_good (State.drawn_good h2))))
  clear_value u5
  repeat' first
    | exact h
    | exact State.jnlArm_good (State.showTx_good h5)
    | split

theorem State.cmdOpen_good {r : CmdRef} {f : OpenFields} (h : Good k s) : Good k (State.cmdOpen s r f) :=
  State.respond_good (State.tryOpen_good h)

theorem State.cmdModify_good {r : CmdRef} {c : Nat} {f : ModifyFields} (h : Good k s) : Good k (State.cmdModify s r c f)
    := by
  simp (maxDischargeDepth := 99) only [State.cmdModify, h, State.ringClear_good, State.discard_good, State.respond_good,
    State.setCtx_good, good_ite, good_mk_iff, good_parts]

theorem State.endCtx_good {c st : Nat} (h : Good k s) : Good k (State.endCtx s c st) := by
  unfold State.endCtx
  repeat' first
    | with_reducible assumption
    | simp (maxDischargeDepth := 99) +contextual only [h, State.setLine_good, State.setFld_good, State.entriesDrop_good,
      State.each_good, State.cipherClear_good, State.thymeEnd_good, State.poolFree_good, State.setCtx_good,
      State.dropFlow_good, State.cancelTimers_good, State.sageRelease_good, State.eceRelease_good, good_ite, good_mk_iff,
      good_parts, good_foldl, good_foldl1, good_ite1, implies_true]
    | split

theorem State.cmdClose_good {r : CmdRef} {c : Nat} (h : Good k s) : Good k (State.cmdClose s r c) := by
  simp (maxDischargeDepth := 99) only [State.cmdClose, h, State.endCtx_good, State.respond_good, good_ite, good_mk_iff,
    good_parts]

theorem State.cmdQuery_good {r : CmdRef} {c : Nat} (h : Good k s) : Good k (State.cmdQuery s r c) := by
  simp (maxDischargeDepth := 99) only [State.cmdQuery, h, State.respond_good, good_ite, good_mk_iff, good_parts]

theorem State.cmdStats_good {r : CmdRef} {c : Nat} {clear : Bool} (h : Good k s) : Good k (State.cmdStats s r c clear) := by
  simp (maxDischargeDepth := 99) only [State.cmdStats, h, State.respond_good, State.setCtx_good, good_ite, good_mk_iff,
    good_parts]

theorem State.cmdBind_good {r : CmdRef} {c i : Nat} (h : Good k s) : Good k (State.cmdBind s r c i) := by
  simp (maxDischargeDepth := 99) only [State.cmdBind, h, State.bindLine_good, State.wake_good, State.respond_good,
    State.setCtx_good, good_ite, good_mk_iff, good_parts]

theorem State.cmdUnbind_good {r : CmdRef} {c : Nat} (h : Good k s) : Good k (State.cmdUnbind s r c) := by
  simp (maxDischargeDepth := 99) only [State.cmdUnbind, h, State.respond_good, State.setCtx_good, good_ite, good_mk_iff,
    good_parts]

theorem State.cmdJoin_good {r : CmdRef} {c p mode : Nat} (h : Good k s) : Good k (State.cmdJoin s r c p mode) := by
  simp (maxDischargeDepth := 99) only [State.cmdJoin, h, State.respond_good, State.setCtx_good, good_ite, good_mk_iff,
    good_parts]

theorem State.cmdSplit_good {r : CmdRef} {c : Nat} (h : Good k s) : Good k (State.cmdSplit s r c) := by
  unfold State.cmdSplit
  repeat' first
    | with_reducible assumption
    | simp (maxDischargeDepth := 99) +contextual only [h, State.respond_good, State.setCtx_good, good_ite, good_mk_iff,
      good_parts, good_foldl, good_foldl1, good_ite1, implies_true]
    | split

theorem State.cmdTemplate_good {r : CmdRef} {c : Nat} {f : TemplateFields} (h : Good k s) : Good k
    (State.cmdTemplate s r c f) := by
  unfold State.cmdTemplate
  repeat' first
    | with_reducible assumption
    | simp (maxDischargeDepth := 99) +contextual only [h, State.showTx_good, State.cipherFault_good, State.respond_good,
      State.setCtx_good, State.installKey_good, State.entriesKey_good, good_ite, good_mk_iff, good_parts, good_foldl,
      good_foldl1, good_ite1, implies_true]
    | split

theorem State.cmdSendEvent_good {r : CmdRef} {c code vol dur : Nat} (h : Good k s) : Good k (State.cmdSendEvent s r c code
    vol dur) := by
  simp (maxDischargeDepth := 99) only [State.cmdSendEvent, h, State.respond_good, State.setCtx_good, good_ite,
    good_mk_iff, good_parts]

theorem execCtxOpen_good {r : CmdRef} {f : OpenFields} (h : Good k s) : GoodRes k (execCtxOpen r f s) := by
  simp (maxDischargeDepth := 99) +contextual only [execCtxOpen, h, State.cmdOpen_good, State.carryOut_good, good_ite,
    good_mk_iff, good_parts, goodRes_next, good_foldl, good_foldl1, good_ite1, implies_true]

theorem execCtxModify_good {r : CmdRef} {c : Nat} {f : ModifyFields} (h : Good k s) : GoodRes k (execCtxModify r c f s) :=
    by
  simp (maxDischargeDepth := 99) +contextual only [execCtxModify, h, State.carryOut_good, State.cmdModify_good, good_ite,
    good_mk_iff, good_parts, goodRes_next, good_foldl, good_foldl1, good_ite1, implies_true]

theorem execCtxClose_good {r : CmdRef} {c : Nat} (h : Good k s) : GoodRes k (execCtxClose r c s) := by
  simp (maxDischargeDepth := 99) +contextual only [execCtxClose, h, State.carryOut_good, State.cmdClose_good, good_ite,
    good_mk_iff, good_parts, goodRes_next, good_foldl, good_foldl1, good_ite1, implies_true]

theorem execCtxQuery_good {r : CmdRef} {c : Nat} (h : Good k s) : GoodRes k (execCtxQuery r c s) := by
  simp (maxDischargeDepth := 99) +contextual only [execCtxQuery, h, State.carryOut_good, State.cmdQuery_good, good_ite,
    good_mk_iff, good_parts, goodRes_next, good_foldl, good_foldl1, good_ite1, implies_true]

theorem execCtxBindLine_good {r : CmdRef} {c i : Nat} (h : Good k s) : GoodRes k (execCtxBindLine r c i s) := by
  simp (maxDischargeDepth := 99) +contextual only [execCtxBindLine, h, State.carryOut_good, State.cmdBind_good, good_ite,
    good_mk_iff, good_parts, goodRes_next, good_foldl, good_foldl1, good_ite1, implies_true]

theorem execCtxUnbindLine_good {r : CmdRef} {c : Nat} (h : Good k s) : GoodRes k (execCtxUnbindLine r c s) := by
  simp (maxDischargeDepth := 99) +contextual only [execCtxUnbindLine, h, State.cmdUnbind_good, State.carryOut_good,
    good_ite, good_mk_iff, good_parts, goodRes_next, good_foldl, good_foldl1, good_ite1, implies_true]

theorem execCtxJoin_good {r : CmdRef} {c p mode : Nat} (h : Good k s) : GoodRes k (execCtxJoin r c p mode s) := by
  simp (maxDischargeDepth := 99) +contextual only [execCtxJoin, h, State.carryOut_good, State.cmdJoin_good, good_ite,
    good_mk_iff, good_parts, goodRes_next, good_foldl, good_foldl1, good_ite1, implies_true]

theorem execCtxSplit_good {r : CmdRef} {c : Nat} (h : Good k s) : GoodRes k (execCtxSplit r c s) := by
  simp (maxDischargeDepth := 99) +contextual only [execCtxSplit, h, State.carryOut_good, State.cmdSplit_good, good_ite,
    good_mk_iff, good_parts, goodRes_next, good_foldl, good_foldl1, good_ite1, implies_true]

theorem execCtxSetTemplate_good {r : CmdRef} {c : Nat} {f : TemplateFields} (h : Good k s) : GoodRes k
    (execCtxSetTemplate r c f s) := by
  simp (maxDischargeDepth := 99) +contextual only [execCtxSetTemplate, h, State.carryOut_good, State.cmdTemplate_good,
    good_ite, good_mk_iff, good_parts, goodRes_next, good_foldl, good_foldl1, good_ite1, implies_true]

theorem execCtxSendEvent_good {r : CmdRef} {c code vol dur : Nat} (h : Good k s) : GoodRes k (execCtxSendEvent r c code
    vol dur s) := by
  simp (maxDischargeDepth := 99) +contextual only [execCtxSendEvent, h, State.carryOut_good, State.cmdSendEvent_good,
    good_ite, good_mk_iff, good_parts, goodRes_next, good_foldl, good_foldl1, good_ite1, implies_true]

theorem execCtxStats_good {r : CmdRef} {c : Nat} {clear : Bool} (h : Good k s) : GoodRes k (execCtxStats r c clear s) := by
  simp (maxDischargeDepth := 99) +contextual only [execCtxStats, h, State.carryOut_good, State.cmdStats_good, good_ite,
    good_mk_iff, good_parts, goodRes_next, good_foldl, good_foldl1, good_ite1, implies_true]

end Sys2Proof.Machine
end

