-- ==== Sys2Proof/Laws/KeepYathar.lean ====
section
/-! SUPPORT. The operations of Machine/Yathar.lean keep what `Good` says. -/

namespace Sys2Proof.Machine
open Sys2Proof

set_option Elab.async false
set_option linter.unusedSimpArgs false
set_option linter.unusedVariables false
set_option linter.unreachableTactic false
set_option linter.unusedTactic false

variable {k : Keep} {s : State}

theorem State.onCore_good {g : Nat} {f : Core → Core} (h : Good k s) : Good k (State.onCore s g f) := by
  simp (maxDischargeDepth := 99) only [State.onCore, h, State.setCore_good, good_ite, good_mk_iff, good_parts]

theorem State.setSpr_good {g off v : Nat} (h : Good k s) : Good k (State.setSpr s g off v) := by
  simp (maxDischargeDepth := 99) only [State.setSpr, h, State.onCore_good, good_ite, good_mk_iff, good_parts]

theorem State.dbSend_good {g v : Nat} (h : Good k s) : Good k (State.dbSend s g v) := by
  simp (maxDischargeDepth := 99) +contextual only [State.dbSend, h, State.setSpr_good, State.each_good, good_ite,
    good_mk_iff, good_parts, good_foldl, good_foldl1, good_ite1, implies_true]

theorem State.endService_good {g : Nat} (h : Good k s) : Good k (State.endService s g) := by
  unfold State.endService
  repeat' first
    | with_reducible assumption
    | simp (maxDischargeDepth := 99) +contextual only [h, State.addN_good, State.sageFree_good, State.setCore_good,
      State.poolFree_good, State.release_good, good_ite, good_mk_iff, good_parts, good_foldl, good_foldl1, good_ite1,
      implies_true]
    | split

theorem State.abandonMove_good {g : Nat} (h : Good k s) : Good k (State.abandonMove s g) := by
  simp (maxDischargeDepth := 99) only [State.abandonMove, h, State.bump_good, State.endService_good, good_ite,
    good_mk_iff, good_parts]

theorem State.returnSlot_good {g : Nat} (h : Good k s) : Good k (State.returnSlot s g) := by
  unfold State.returnSlot
  repeat' first
    | with_reducible assumption
    | simp (maxDischargeDepth := 99) +contextual only [h, State.setCore_good, State.release_good, good_ite, good_mk_iff,
      good_parts, good_foldl, good_foldl1, good_ite1, implies_true]
    | split

theorem State.takeMove_good {g b : Nat} (h : Good k s) : Good k (State.takeMove s g b).1 := by
  unfold State.takeMove
  repeat' first
    | with_reducible assumption
    | simp (maxDischargeDepth := 99) +contextual only [h, State.setCore_good, good_ite, good_mk_iff, good_parts,
      good_foldl, good_foldl1, good_ite1, implies_true]
    | split

theorem State.done_good {g st : Nat} (h : Good k s) : Good k (State.done s g st) := by
  unfold State.done
  repeat' first
    | with_reducible assumption
    | simp (maxDischargeDepth := 99) +contextual only [h, State.err_good, State.bump_good, State.irq_good,
      State.endService_good, State.drawn_good, State.onCore_good, good_ite, good_mk_iff, good_parts, good_foldl,
      good_foldl1, good_ite1, implies_true]
    | split

theorem State.dmaGo_good {g v : Nat} (h : Good k s) : Good k (State.dmaGo s g v) := by
  simp (maxDischargeDepth := 99) only [State.dmaGo, h, State.onCore_good, good_ite, good_mk_iff, good_parts]

theorem State.sprRead_good {g off : Nat} (h : Good k s) : Good k (State.sprRead s g off).1 := by
  unfold State.sprRead
  extract_lets c
  clear_value c
  refine good_ite1 h (good_ite1 h (good_ite1 h (good_ite1 h (good_ite1 (State.drawn_good h) (good_ite1 h (good_ite1 h
    (good_ite1 h (good_ite1 h (good_ite1 h ?_)))))))))
  split <;> exact h

theorem State.sprWrite_good {g off v : Nat} (h : Good k s) : Good k (State.sprWrite s g off v) := by
  unfold State.sprWrite
  extract_lets port
  have hp : ∀ f, Good k (port f) := fun f => State.onCore_good h
  clear_value port
  refine good_ite (hp _) ?_
  split <;> first
    | exact h
    | exact hp _
    | exact State.setSpr_good h
    | exact State.dbSend_good h
    | exact State.done_good h
    | exact State.eceSubmit_good h
    | exact State.sageSubmit_good h
    | exact State.jnlSubmit_good h
    | exact State.dmaGo_good h
    | exact State.qpCommit_good h
    | exact State.qpPop_good h

theorem State.haltCore_good {g cause : Nat} (h : Good k s) : Good k (State.haltCore s g cause) := by
  simp (maxDischargeDepth := 99) only [State.haltCore, h, State.sysEvent_good, State.irq_good, State.returnSlot_good,
    State.abandonMove_good, State.setN_good, State.onCore_good, good_ite, good_mk_iff, good_parts]

theorem State.exception_good {g cause ret : Nat} (h : Good k s) : Good k (State.exception s g cause ret) := by
  simp (maxDischargeDepth := 99) only [State.exception, h, State.setSpr_good, State.haltCore_good, State.onCore_good,
    good_ite, good_mk_iff, good_parts]

theorem State.precise_good {g cause addr : Nat} (h : Good k s) : Good k (State.precise s g cause addr) := by
  simp (maxDischargeDepth := 99) only [State.precise, h, State.setSpr_good, State.exception_good, good_ite, good_mk_iff,
    good_parts]

theorem State.finish_good {g next : Nat} (h : Good k s) : Good k (State.finish s g next) := by
  unfold State.finish
  repeat' first
    | with_reducible assumption
    | simp (maxDischargeDepth := 99) +contextual only [h, State.setSpr_good, State.haltCore_good, State.exception_good,
      State.setCore_good, good_ite, good_mk_iff, good_parts, good_foldl, good_foldl1, good_ite1, implies_true]
    | split

theorem State.bundleEnd_good {g first last : Nat} (h : Good k s) : Good k (State.bundleEnd s g first last) := by
  simp (maxDischargeDepth := 99) only [State.bundleEnd, h, State.finish_good, State.setCore_good, good_ite, good_mk_iff,
    good_parts]

theorem State.loopEndAction_good {g : Nat} (h : Good k s) : Good k (State.loopEndAction s g) := by
  unfold State.loopEndAction
  repeat' first
    | with_reducible assumption
    | simp (maxDischargeDepth := 99) +contextual only [h, State.finish_good, State.setCore_good, good_ite, good_mk_iff,
      good_parts, good_foldl, good_foldl1, good_ite1, implies_true]
    | split

theorem State.loadAt_good {g : Nat} {a : Access} (h : Good k s) : Good k (State.loadAt s g a).1 := by
  unfold State.loadAt
  split <;> simp (maxDischargeDepth := 99) +contextual only [h, State.sprRead_good, good_ite, good_mk_iff, good_parts,
    good_foldl, good_foldl1, good_ite1, implies_true]

theorem State.storeAt_good {g : Nat} {a : Access} {v : Nat} (h : Good k s) : Good k (State.storeAt s g a v) := by
  unfold State.storeAt
  split <;> simp (maxDischargeDepth := 99) +contextual only [h, State.sprWrite_good, State.wrLE_good, good_ite,
    good_mk_iff, good_parts, good_foldl, good_foldl1, good_ite1, implies_true]

theorem State.issue_good {g key : Nat} {f : Nat → Nat → State → State} (h : Good k s)
    (hf : ∀ b w s, Good k s → Good k (f b w s)) : Good k (State.issue s g key f) := by
  unfold State.issue
  extract_lets c
  clear_value c
  split
  · exact good_ite h (State.bundleEnd_good (hf _ _ _ h))
  · refine good_ite h ?_
    have ht := State.setCore_good (g := g) (x := c.rtiDone) h
    split
    · exact good_ite (State.precise_good ht) h
    · exact good_ite h (good_ite (State.bundleEnd_good (hf _ _ _ ht)) (State.onCore_good (hf _ _ _ ht)))

theorem State.issueC_good {g key : Nat} {f : Nat → Core → Core} (h : Good k s) : Good k (State.issueC s g key f) := by
  unfold State.issueC
  exact State.issue_good h fun b w s h => State.onCore_good h

theorem State.moveLoad_good {g : Nat} {b : Bus} {p0 m : Nat} (h : Good k s) : Good k (State.moveLoad s g b p0 m) := by
  simp (maxDischargeDepth := 99) only [State.moveLoad, h, State.loadAt_good, State.onCore_good, good_ite, good_mk_iff,
    good_parts]

theorem State.moveStore_good {g : Nat} {b : Bus} {p0 m : Nat} (h : Good k s) : Good k (State.moveStore s g b p0 m) := by
  simp (maxDischargeDepth := 99) only [State.moveStore, h, State.storeAt_good, good_ite, good_mk_iff, good_parts]

theorem State.dmov_good {g w : Nat} (h : Good k s) : Good k (State.dmov s g w) := by
  simp (maxDischargeDepth := 99) only [State.dmov, h, State.moveStore_good, State.moveLoad_good, State.onCore_good,
    good_ite, good_mk_iff, good_parts]

theorem State.ld_good {g w : Nat} (h : Good k s) : Good k (State.ld s g w) := by
  simp (maxDischargeDepth := 99) only [State.ld, h, State.loadAt_good, State.onCore_good, good_ite, good_mk_iff, good_parts]

theorem State.st_good {g w : Nat} (h : Good k s) : Good k (State.st s g w) := by
  simp (maxDischargeDepth := 99) only [State.st, h, State.storeAt_good, State.setCore_good, good_ite, good_mk_iff,
    good_parts]

theorem State.sta_good {g w : Nat} (h : Good k s) : Good k (State.sta s g w) := by
  simp (maxDischargeDepth := 99) only [State.sta, h, State.storeAt_good, State.setCore_good, good_ite, good_mk_iff,
    good_parts]

theorem State.push_good {g w : Nat} (h : Good k s) : Good k (State.push s g w) := by
  simp (maxDischargeDepth := 99) only [State.push, h, State.storeAt_good, State.setCore_good, good_ite, good_mk_iff,
    good_parts]

theorem State.pop_good {g w : Nat} (h : Good k s) : Good k (State.pop s g w) := by
  simp (maxDischargeDepth := 99) only [State.pop, h, State.loadAt_good, State.onCore_good, good_ite, good_mk_iff,
    good_parts]

theorem State.loop_good {g b w : Nat} (h : Good k s) : Good k (State.loop s g b w) := by
  simp (maxDischargeDepth := 99) only [State.loop, h, State.onCore_good, good_ite, good_mk_iff, good_parts]

end Sys2Proof.Machine
end

