-- ==== Sys2Proof/Laws/KeepWords.lean ====
section
/-! SUPPORT. The operations of Machine/Words.lean keep what `Good` says. -/

namespace Sys2Proof.Machine
open Sys2Proof

set_option Elab.async false
set_option linter.unusedSimpArgs false
set_option linter.unusedVariables false
set_option linter.unreachableTactic false
set_option linter.unusedTactic false

variable {k : Keep} {s : State}

theorem execMpy_good {g : Nat} (h : Good k s) : GoodRes k (execMpy g s) := by
  simp (maxDischargeDepth := 99) only [execMpy, h, State.issueC_good, good_ite, good_mk_iff, good_parts, goodRes_next]

theorem execMac_good {g : Nat} (h : Good k s) : GoodRes k (execMac g s) := by
  simp (maxDischargeDepth := 99) only [execMac, h, State.issueC_good, good_ite, good_mk_iff, good_parts, goodRes_next]

theorem execMsu_good {g : Nat} (h : Good k s) : GoodRes k (execMsu g s) := by
  simp (maxDischargeDepth := 99) only [execMsu, h, State.issueC_good, good_ite, good_mk_iff, good_parts, goodRes_next]

theorem execAdd_good {g : Nat} (h : Good k s) : GoodRes k (execAdd g s) := by
  simp (maxDischargeDepth := 99) only [execAdd, h, State.issueC_good, good_ite, good_mk_iff, good_parts, goodRes_next]

theorem execSub_good {g : Nat} (h : Good k s) : GoodRes k (execSub g s) := by
  simp (maxDischargeDepth := 99) only [execSub, h, State.issueC_good, good_ite, good_mk_iff, good_parts, goodRes_next]

theorem execAdds_good {g : Nat} (h : Good k s) : GoodRes k (execAdds g s) := by
  simp (maxDischargeDepth := 99) only [execAdds, h, State.issueC_good, good_ite, good_mk_iff, good_parts, goodRes_next]

theorem execSubs_good {g : Nat} (h : Good k s) : GoodRes k (execSubs g s) := by
  simp (maxDischargeDepth := 99) only [execSubs, h, State.issueC_good, good_ite, good_mk_iff, good_parts, goodRes_next]

theorem execAdd2_good {g : Nat} (h : Good k s) : GoodRes k (execAdd2 g s) := by
  simp (maxDischargeDepth := 99) only [execAdd2, h, State.issueC_good, good_ite, good_mk_iff, good_parts, goodRes_next]

theorem execSub2_good {g : Nat} (h : Good k s) : GoodRes k (execSub2 g s) := by
  simp (maxDischargeDepth := 99) only [execSub2, h, State.issueC_good, good_ite, good_mk_iff, good_parts, goodRes_next]

theorem execAdds2_good {g : Nat} (h : Good k s) : GoodRes k (execAdds2 g s) := by
  simp (maxDischargeDepth := 99) only [execAdds2, h, State.issueC_good, good_ite, good_mk_iff, good_parts, goodRes_next]

theorem execSubs2_good {g : Nat} (h : Good k s) : GoodRes k (execSubs2 g s) := by
  simp (maxDischargeDepth := 99) only [execSubs2, h, State.issueC_good, good_ite, good_mk_iff, good_parts, goodRes_next]

theorem execAnd_good {g : Nat} (h : Good k s) : GoodRes k (execAnd g s) := by
  simp (maxDischargeDepth := 99) only [execAnd, h, State.issueC_good, good_ite, good_mk_iff, good_parts, goodRes_next]

theorem execOr_good {g : Nat} (h : Good k s) : GoodRes k (execOr g s) := by
  simp (maxDischargeDepth := 99) only [execOr, h, State.issueC_good, good_ite, good_mk_iff, good_parts, goodRes_next]

theorem execXor_good {g : Nat} (h : Good k s) : GoodRes k (execXor g s) := by
  simp (maxDischargeDepth := 99) only [execXor, h, State.issueC_good, good_ite, good_mk_iff, good_parts, goodRes_next]

theorem execAndn_good {g : Nat} (h : Good k s) : GoodRes k (execAndn g s) := by
  simp (maxDischargeDepth := 99) only [execAndn, h, State.issueC_good, good_ite, good_mk_iff, good_parts, goodRes_next]

theorem execMin_good {g : Nat} (h : Good k s) : GoodRes k (execMin g s) := by
  simp (maxDischargeDepth := 99) +contextual only [execMin, h, State.issue_good, State.drawn_good, State.onCore_good,
    good_ite, good_mk_iff, good_parts, goodRes_next, good_foldl, good_foldl1, good_ite1, implies_true]

theorem execMax_good {g : Nat} (h : Good k s) : GoodRes k (execMax g s) := by
  simp (maxDischargeDepth := 99) +contextual only [execMax, h, State.issue_good, State.drawn_good, State.onCore_good,
    good_ite, good_mk_iff, good_parts, goodRes_next, good_foldl, good_foldl1, good_ite1, implies_true]

theorem execAbs_good {g : Nat} (h : Good k s) : GoodRes k (execAbs g s) := by
  simp (maxDischargeDepth := 99) +contextual only [execAbs, h, State.issue_good, State.drawn_good, State.onCore_good,
    good_ite, good_mk_iff, good_parts, goodRes_next, good_foldl, good_foldl1, good_ite1, implies_true]

theorem execNeg_good {g : Nat} (h : Good k s) : GoodRes k (execNeg g s) := by
  simp (maxDischargeDepth := 99) only [execNeg, h, State.issueC_good, good_ite, good_mk_iff, good_parts, goodRes_next]

theorem execCmp_good {g : Nat} (h : Good k s) : GoodRes k (execCmp g s) := by
  simp (maxDischargeDepth := 99) only [execCmp, h, State.issueC_good, good_ite, good_mk_iff, good_parts, goodRes_next]

theorem execAadd_good {g : Nat} (h : Good k s) : GoodRes k (execAadd g s) := by
  simp (maxDischargeDepth := 99) only [execAadd, h, State.issueC_good, good_ite, good_mk_iff, good_parts, goodRes_next]

theorem execAsub_good {g : Nat} (h : Good k s) : GoodRes k (execAsub g s) := by
  simp (maxDischargeDepth := 99) only [execAsub, h, State.issueC_good, good_ite, good_mk_iff, good_parts, goodRes_next]

theorem execAneg_good {g : Nat} (h : Good k s) : GoodRes k (execAneg g s) := by
  simp (maxDischargeDepth := 99) only [execAneg, h, State.issueC_good, good_ite, good_mk_iff, good_parts, goodRes_next]

theorem execAabs_good {g : Nat} (h : Good k s) : GoodRes k (execAabs g s) := by
  simp (maxDischargeDepth := 99) only [execAabs, h, State.issueC_good, good_ite, good_mk_iff, good_parts, goodRes_next]

theorem execAclr_good {g : Nat} (h : Good k s) : GoodRes k (execAclr g s) := by
  simp (maxDischargeDepth := 99) only [execAclr, h, State.issueC_good, good_ite, good_mk_iff, good_parts, goodRes_next]

theorem execAld_good {g : Nat} (h : Good k s) : GoodRes k (execAld g s) := by
  simp (maxDischargeDepth := 99) only [execAld, h, State.issueC_good, good_ite, good_mk_iff, good_parts, goodRes_next]

theorem execAldh_good {g : Nat} (h : Good k s) : GoodRes k (execAldh g s) := by
  simp (maxDischargeDepth := 99) only [execAldh, h, State.issueC_good, good_ite, good_mk_iff, good_parts, goodRes_next]

theorem execAmov_good {g : Nat} (h : Good k s) : GoodRes k (execAmov g s) := by
  simp (maxDischargeDepth := 99) only [execAmov, h, State.issueC_good, good_ite, good_mk_iff, good_parts, goodRes_next]

theorem execAsh_good {g : Nat} (h : Good k s) : GoodRes k (execAsh g s) := by
  simp (maxDischargeDepth := 99) only [execAsh, h, State.issueC_good, good_ite, good_mk_iff, good_parts, goodRes_next]

theorem execLsh_good {g : Nat} (h : Good k s) : GoodRes k (execLsh g s) := by
  simp (maxDischargeDepth := 99) only [execLsh, h, State.issueC_good, good_ite, good_mk_iff, good_parts, goodRes_next]

theorem execRot_good {g : Nat} (h : Good k s) : GoodRes k (execRot g s) := by
  simp (maxDischargeDepth := 99) only [execRot, h, State.issueC_good, good_ite, good_mk_iff, good_parts, goodRes_next]

theorem execAshs_good {g : Nat} (h : Good k s) : GoodRes k (execAshs g s) := by
  simp (maxDischargeDepth := 99) only [execAshs, h, State.issueC_good, good_ite, good_mk_iff, good_parts, goodRes_next]

theorem execAsh2_good {g : Nat} (h : Good k s) : GoodRes k (execAsh2 g s) := by
  simp (maxDischargeDepth := 99) only [execAsh2, h, State.issueC_good, good_ite, good_mk_iff, good_parts, goodRes_next]

theorem execExp_good {g : Nat} (h : Good k s) : GoodRes k (execExp g s) := by
  simp (maxDischargeDepth := 99) only [execExp, h, State.issueC_good, good_ite, good_mk_iff, good_parts, goodRes_next]

theorem execExp16_good {g : Nat} (h : Good k s) : GoodRes k (execExp16 g s) := by
  simp (maxDischargeDepth := 99) only [execExp16, h, State.issueC_good, good_ite, good_mk_iff, good_parts, goodRes_next]

theorem execNorm_good {g : Nat} (h : Good k s) : GoodRes k (execNorm g s) := by
  simp (maxDischargeDepth := 99) only [execNorm, h, State.issueC_good, good_ite, good_mk_iff, good_parts, goodRes_next]

theorem execAash_good {g : Nat} (h : Good k s) : GoodRes k (execAash g s) := by
  simp (maxDischargeDepth := 99) only [execAash, h, State.issueC_good, good_ite, good_mk_iff, good_parts, goodRes_next]

theorem execExpb_good {g : Nat} (h : Good k s) : GoodRes k (execExpb g s) := by
  simp (maxDischargeDepth := 99) only [execExpb, h, State.issueC_good, good_ite, good_mk_iff, good_parts, goodRes_next]

theorem execExpb2_good {g : Nat} (h : Good k s) : GoodRes k (execExpb2 g s) := by
  simp (maxDischargeDepth := 99) only [execExpb2, h, State.issueC_good, good_ite, good_mk_iff, good_parts, goodRes_next]

theorem execAexp_good {g : Nat} (h : Good k s) : GoodRes k (execAexp g s) := by
  simp (maxDischargeDepth := 99) only [execAexp, h, State.issueC_good, good_ite, good_mk_iff, good_parts, goodRes_next]

theorem execAnorm_good {g : Nat} (h : Good k s) : GoodRes k (execAnorm g s) := by
  simp (maxDischargeDepth := 99) only [execAnorm, h, State.issueC_good, good_ite, good_mk_iff, good_parts, goodRes_next]

theorem execAsat_good {g : Nat} (h : Good k s) : GoodRes k (execAsat g s) := by
  simp (maxDischargeDepth := 99) only [execAsat, h, State.issueC_good, good_ite, good_mk_iff, good_parts, goodRes_next]

theorem execArnd_good {g : Nat} (h : Good k s) : GoodRes k (execArnd g s) := by
  simp (maxDischargeDepth := 99) only [execArnd, h, State.issueC_good, good_ite, good_mk_iff, good_parts, goodRes_next]

theorem execAmv_good {g : Nat} (h : Good k s) : GoodRes k (execAmv g s) := by
  simp (maxDischargeDepth := 99) only [execAmv, h, State.issueC_good, good_ite, good_mk_iff, good_parts, goodRes_next]

theorem execDmov_good {g : Nat} (h : Good k s) : GoodRes k (execDmov g s) := by
  simp (maxDischargeDepth := 99) +contextual only [execDmov, h, State.issue_good, State.dmov_good, good_ite, good_mk_iff,
    good_parts, goodRes_next, good_foldl, good_foldl1, good_ite1, implies_true]

theorem execLd_good {g : Nat} (h : Good k s) : GoodRes k (execLd g s) := by
  simp (maxDischargeDepth := 99) +contextual only [execLd, h, State.issue_good, State.ld_good, good_ite, good_mk_iff,
    good_parts, goodRes_next, good_foldl, good_foldl1, good_ite1, implies_true]

theorem execSt_good {g : Nat} (h : Good k s) : GoodRes k (execSt g s) := by
  simp (maxDischargeDepth := 99) +contextual only [execSt, h, State.issue_good, State.st_good, good_ite, good_mk_iff,
    good_parts, goodRes_next, good_foldl, good_foldl1, good_ite1, implies_true]

theorem execSta_good {g : Nat} (h : Good k s) : GoodRes k (execSta g s) := by
  simp (maxDischargeDepth := 99) +contextual only [execSta, h, State.issue_good, State.sta_good, good_ite, good_mk_iff,
    good_parts, goodRes_next, good_foldl, good_foldl1, good_ite1, implies_true]

theorem execLea_good {g : Nat} (h : Good k s) : GoodRes k (execLea g s) := by
  simp (maxDischargeDepth := 99) only [execLea, h, State.issueC_good, good_ite, good_mk_iff, good_parts, goodRes_next]

theorem execPush_good {g : Nat} (h : Good k s) : GoodRes k (execPush g s) := by
  simp (maxDischargeDepth := 99) +contextual only [execPush, h, State.issue_good, State.push_good, good_ite, good_mk_iff,
    good_parts, goodRes_next, good_foldl, good_foldl1, good_ite1, implies_true]

theorem execPop_good {g : Nat} (h : Good k s) : GoodRes k (execPop g s) := by
  simp (maxDischargeDepth := 99) +contextual only [execPop, h, State.issue_good, State.pop_good, good_ite, good_mk_iff,
    good_parts, goodRes_next, good_foldl, good_foldl1, good_ite1, implies_true]

theorem execMov_good {g : Nat} (h : Good k s) : GoodRes k (execMov g s) := by
  simp (maxDischargeDepth := 99) only [execMov, h, State.issueC_good, good_ite, good_mk_iff, good_parts, goodRes_next]

theorem execLdi_good {g : Nat} (h : Good k s) : GoodRes k (execLdi g s) := by
  simp (maxDischargeDepth := 99) only [execLdi, h, State.issueC_good, good_ite, good_mk_iff, good_parts, goodRes_next]

theorem execLdih_good {g : Nat} (h : Good k s) : GoodRes k (execLdih g s) := by
  simp (maxDischargeDepth := 99) only [execLdih, h, State.issueC_good, good_ite, good_mk_iff, good_parts, goodRes_next]

theorem execBr_good {g : Nat} (h : Good k s) : GoodRes k (execBr g s) := by
  simp (maxDischargeDepth := 99) +contextual only [execBr, h, State.issue_good, State.onCore_good, good_ite, good_mk_iff,
    good_parts, goodRes_next, good_foldl, good_foldl1, good_ite1, implies_true]

theorem execCall_good {g : Nat} (h : Good k s) : GoodRes k (execCall g s) := by
  simp (maxDischargeDepth := 99) +contextual only [execCall, h, State.issue_good, State.onCore_good, good_ite,
    good_mk_iff, good_parts, goodRes_next, good_foldl, good_foldl1, good_ite1, implies_true]

theorem execJmp_good {g : Nat} (h : Good k s) : GoodRes k (execJmp g s) := by
  simp (maxDischargeDepth := 99) only [execJmp, h, State.issueC_good, good_ite, good_mk_iff, good_parts, goodRes_next]

theorem execCalli_good {g : Nat} (h : Good k s) : GoodRes k (execCalli g s) := by
  simp (maxDischargeDepth := 99) +contextual only [execCalli, h, State.issue_good, State.onCore_good, good_ite,
    good_mk_iff, good_parts, goodRes_next, good_foldl, good_foldl1, good_ite1, implies_true]

theorem execRts_good {g : Nat} (h : Good k s) : GoodRes k (execRts g s) := by
  simp (maxDischargeDepth := 99) only [execRts, h, State.issueC_good, good_ite, good_mk_iff, good_parts, goodRes_next]

theorem execRti_good {g : Nat} (h : Good k s) : GoodRes k (execRti g s) := by
  simp (maxDischargeDepth := 99) only [execRti, h, State.issueC_good, good_ite, good_mk_iff, good_parts, goodRes_next]

theorem execLoop_good {g : Nat} (h : Good k s) : GoodRes k (execLoop g s) := by
  simp (maxDischargeDepth := 99) +contextual only [execLoop, h, State.loop_good, State.issue_good, good_ite, good_mk_iff,
    good_parts, goodRes_next, good_foldl, good_foldl1, good_ite1, implies_true]

theorem execTake_good {g : Nat} (h : Good k s) : GoodRes k (execTake g s) := by
  simp (maxDischargeDepth := 99) +contextual only [execTake, h, State.issue_good, State.takeMove_good, State.onCore_good,
    good_ite, good_mk_iff, good_parts, goodRes_next, good_foldl, good_foldl1, good_ite1, implies_true]

theorem execWait_good {g : Nat} (h : Good k s) : GoodRes k (execWait g s) := by
  simp (maxDischargeDepth := 99) only [execWait, h, State.issueC_good, good_ite, good_mk_iff, good_parts, goodRes_next]

theorem execTrap_good {g : Nat} (h : Good k s) : GoodRes k (execTrap g s) := by
  simp (maxDischargeDepth := 99) only [execTrap, h, State.issueC_good, good_ite, good_mk_iff, good_parts, goodRes_next]

theorem execHalt_good {g : Nat} (h : Good k s) : GoodRes k (execHalt g s) := by
  simp (maxDischargeDepth := 99) only [execHalt, h, State.issueC_good, good_ite, good_mk_iff, good_parts, goodRes_next]

theorem execNop_good {g : Nat} (h : Good k s) : GoodRes k (execNop g s) := by
  simp (maxDischargeDepth := 99) only [execNop, h, State.issueC_good, good_ite, good_mk_iff, good_parts, goodRes_next]

theorem execLoopEndAction_good {g : Nat} (h : Good k s) : GoodRes k (execLoopEndAction g s) := by
  simp (maxDischargeDepth := 99) only [execLoopEndAction, h, State.loopEndAction_good, good_ite, good_mk_iff, good_parts,
    goodRes_next]

end Sys2Proof.Machine
end

