-- ==== Sys2Proof/Laws/KeepCluster.lean ====
section
/-! SUPPORT. The operations of Machine/Cluster.lean keep what `Good` says. -/

namespace Sys2Proof.Machine
open Sys2Proof

set_option Elab.async false
set_option linter.unusedSimpArgs false
set_option linter.unusedVariables false
set_option linter.unreachableTactic false
set_option linter.unusedTactic false

variable {k : Keep} {s : State}

theorem State.interruptEntry_good {g : Nat} (h : Good k s) : Good k (State.interruptEntry s g) := by
  unfold State.interruptEntry
  split <;> simp (maxDischargeDepth := 99) +contextual only [h, State.setCore_good, good_ite, good_mk_iff, good_parts,
    good_foldl, good_foldl1, good_ite1, implies_true]

theorem State.timerExpire_good {g : Nat} (h : Good k s) : Good k (State.timerExpire s g) := by
  simp (maxDischargeDepth := 99) only [State.timerExpire, h, State.setSpr_good, good_ite, good_mk_iff, good_parts]

theorem State.watchdog_good {g : Nat} (h : Good k s) : Good k (State.watchdog s g) := by
  simp (maxDischargeDepth := 99) only [State.watchdog, h, State.exception_good, State.setCore_good, good_ite, good_mk_iff,
    good_parts]

theorem State.dmaDone_good {g : Nat} (h : Good k s) : Good k (State.dmaDone s g) := by
  unfold State.dmaDone
  repeat' first
    | with_reducible assumption
    | simp (maxDischargeDepth := 99) +contextual only [h, State.bump_good, State.irq_good, State.setSpr_good,
      State.add64_good, State.wrDev_good, State.drawn_good, State.onCore_good, good_ite, good_mk_iff, good_parts,
      good_foldl, good_foldl1, good_ite1, implies_true]
    | split

theorem State.coreRefused_good {g st : Nat} (h : Good k s) : Good k (State.coreRefused s g st) := by
  simp (maxDischargeDepth := 99) only [State.coreRefused, h, State.cfgErr_good, good_ite, good_mk_iff, good_parts]

theorem State.coreAct_good {g v : Nat} (h : Good k s) : GoodOpt k (State.coreAct s g v) := by
  unfold State.coreAct
  extract_lets c stop s1
  have hs : Good k (stop s) := State.onCore_good (State.returnSlot_good (State.abandonMove_good h))
  have h1 : Good k s1 := State.returnSlot_good h
  clear_value stop s1
  repeat' first
    | exact goodOpt_none
    | exact goodOpt_some h
    | exact goodOpt_some hs
    | exact goodOpt_some (State.onCore_good h1)
    | exact goodOpt_some (State.setN_good (State.setCore_good (State.wake_good h)))
    | split

theorem State.writeCoreCtl_good {g v : Nat} (h : Good k s) : Good k (State.writeCoreCtl s g v) := by
  unfold State.writeCoreCtl
  refine good_ite (State.coreRefused_good h) ?_
  split
  · exact State.setN_good (State.coreAct_good h _ (by assumption))
  · exact State.coreRefused_good h

theorem State.wrPram_good {g a : Nat} {l : List Nat} (h : Good k s) : Good k (State.wrPram s g a l) := by
  simp (maxDischargeDepth := 99) +contextual only [State.wrPram, h, State.each_good, good_ite, good_mk_iff, good_parts,
    good_foldl, good_foldl1, good_ite1, implies_true]

theorem State.wrSegment_good {cl cores target a : Nat} {l : List Nat} (h : Good k s) : Good k (State.wrSegment s cl cores
    target a l) := by
  simp (maxDischargeDepth := 99) +contextual only [State.wrSegment, h, State.wrPram_good, State.each_good,
    State.wrBytes_good, good_ite, good_mk_iff, good_parts, good_foldl, good_foldl1, good_ite1, implies_true]

theorem State.cmdCodeLoad_good {r : CmdRef} {addr clusters cores : Nat} (h : Good k s) : Good k (State.cmdCodeLoad s r
    addr clusters cores) := by
  simp (maxDischargeDepth := 99) +contextual only [State.cmdCodeLoad, h, State.wrSegment_good, State.wake_good,
    State.respondA_good, State.each_good, State.noRights_good, State.setMeas_good, good_ite, good_mk_iff, good_parts,
    good_foldl, good_foldl1, good_ite1, implies_true]

theorem State.clusRst_good {cl : Nat} (h : Good k s) : Good k (State.clusRst s cl) := by
  simp (maxDischargeDepth := 99) +contextual only [State.clusRst, h, State.ciphZero_good, State.returnSlot_good,
    State.endCtx_good, State.eceClear_good, State.each_good, State.ciphRebuild_good, State.pageReset_good,
    State.abandonMove_good, State.setCore_good, State.sageClear_good, State.headerReset_good, State.event_good, good_ite,
    good_mk_iff, good_parts, good_foldl, good_foldl1, good_ite1, implies_true]

theorem execInterruptEntry_good {g : Nat} (h : Good k s) : GoodRes k (execInterruptEntry g s) := by
  simp (maxDischargeDepth := 99) only [execInterruptEntry, h, State.interruptEntry_good, good_ite, good_mk_iff,
    good_parts, goodRes_next]

theorem execCoreTimerExpire_good {g : Nat} (h : Good k s) : GoodRes k (execCoreTimerExpire g s) := by
  simp (maxDischargeDepth := 99) only [execCoreTimerExpire, h, State.timerExpire_good, good_ite, good_mk_iff, good_parts,
    goodRes_next]

theorem execWdog_good {g : Nat} (h : Good k s) : GoodRes k (execWdog g s) := by
  simp (maxDischargeDepth := 99) only [execWdog, h, State.watchdog_good, good_ite, good_mk_iff, good_parts, goodRes_next]

theorem execDbSend_good {g : Nat} {v : Word} (h : Good k s) : GoodRes k (execDbSend g v s) := by
  simp (maxDischargeDepth := 99) only [execDbSend, h, State.dbSend_good, good_ite, good_mk_iff, good_parts, goodRes_next]

theorem execDone_good {g : Nat} {v : Word} (h : Good k s) : GoodRes k (execDone g v s) := by
  simp (maxDischargeDepth := 99) only [execDone, h, State.done_good, good_ite, good_mk_iff, good_parts, goodRes_next]

theorem execDmaGo_good {g : Nat} {v : Word} (h : Good k s) : GoodRes k (execDmaGo g v s) := by
  simp (maxDischargeDepth := 99) only [execDmaGo, h, State.dmaGo_good, good_ite, good_mk_iff, good_parts, goodRes_next]

theorem execDmaTransferDone_good {g : Nat} (h : Good k s) : GoodRes k (execDmaTransferDone g s) := by
  simp (maxDischargeDepth := 99) only [execDmaTransferDone, h, State.dmaDone_good, good_ite, good_mk_iff, good_parts,
    goodRes_next]

theorem execCodeLoad_good {r : CmdRef} {addr clusters cores : Nat} (h : Good k s) : GoodRes k (execCodeLoad r addr
    clusters cores s) := by
  simp (maxDischargeDepth := 99) +contextual only [execCodeLoad, h, State.carryOut_good, State.cmdCodeLoad_good, good_ite,
    good_mk_iff, good_parts, goodRes_next, good_foldl, good_foldl1, good_ite1, implies_true]

theorem State.hostCore_good {w : Win} {g i : Nat} (h : Good k s) : Good k (State.hostCore s w g i) := by
  simp (maxDischargeDepth := 99) +contextual only [State.hostCore, h, State.writeCoreCtl_good, State.hostGuard_good,
    good_ite, good_mk_iff, good_parts, good_foldl, good_foldl1, good_ite1, implies_true]

theorem execCoreStart_good {w : Win} {g : Nat} (h : Good k s) : GoodRes k (execCoreStart w g s) := by
  simp (maxDischargeDepth := 99) only [execCoreStart, h, State.hostCore_good, good_ite, good_mk_iff, good_parts,
    goodRes_next]

theorem execCoreStop_good {w : Win} {g : Nat} (h : Good k s) : GoodRes k (execCoreStop w g s) := by
  simp (maxDischargeDepth := 99) only [execCoreStop, h, State.hostCore_good, good_ite, good_mk_iff, good_parts,
    goodRes_next]

theorem execCoreDrain_good {w : Win} {g : Nat} (h : Good k s) : GoodRes k (execCoreDrain w g s) := by
  simp (maxDischargeDepth := 99) only [execCoreDrain, h, State.hostCore_good, good_ite, good_mk_iff, good_parts,
    goodRes_next]

theorem execClusRst_good {w : Win} {c : Nat} (h : Good k s) : GoodRes k (execClusRst w c s) := by
  simp (maxDischargeDepth := 99) +contextual only [execClusRst, h, State.clusRst_good, State.hostGuard_good, good_ite,
    good_mk_iff, good_parts, goodRes_next, good_foldl, good_foldl1, good_ite1, implies_true]

end Sys2Proof.Machine
end

