-- ==== Sys2Proof/Laws/KeepHost.lean ====
section
/-! SUPPORT. The operations of Machine/Host.lean keep what `Good` says. -/

namespace Sys2Proof.Machine
open Sys2Proof

set_option Elab.async false
set_option linter.unusedSimpArgs false
set_option linter.unusedVariables false
set_option linter.unreachableTactic false
set_option linter.unusedTactic false

variable {k : Keep} {s : State}

theorem State.vecSend_good {v : Nat} (h : Good k s) : Good k (State.vecSend s v) := by
  simp (maxDischargeDepth := 99) only [State.vecSend, h, good_mk_iff, good_parts]

theorem State.vecTry_good {v : Nat} (h : Good k s) : Good k (State.vecTry s v) := by
  simp (maxDischargeDepth := 99) only [State.vecTry, h, State.vecSend_good, good_ite, good_mk_iff, good_parts]

theorem State.vecRelease_good (h : Good k s) : Good k (State.vecRelease s) := by
  simp (maxDischargeDepth := 99) +contextual only [State.vecRelease, h, State.vecSend_good, State.each_good, good_ite,
    good_mk_iff, good_parts, good_foldl, good_foldl1, good_ite1, implies_true]

theorem State.vecRearm_good {v : Word} (h : Good k s) : Good k (State.vecRearm s v) := by
  simp (maxDischargeDepth := 99) only [State.vecRearm, h, State.vecTry_good, good_ite, good_mk_iff, good_parts]

theorem State.msixWrite_good {a : Nat} {v : Word} (h : Good k s) : Good k (State.msixWrite s a v) := by
  simp (maxDischargeDepth := 99) only [State.msixWrite, h, State.setReg_good, State.vecRelease_good, good_ite,
    good_mk_iff, good_parts]

theorem State.cfgSpace_good {en mask d3 : Bool} (h : Good k s) : Good k (State.cfgSpace s en mask d3) := by
  simp (maxDischargeDepth := 99) only [State.cfgSpace, h, State.vecRelease_good, good_ite, good_mk_iff, good_parts]

theorem State.ringWrite_good {n a : Nat} {l : List Nat} (h : Good k s) : Good k (State.ringWrite s n a l) := by
  unfold State.ringWrite
  exact good_ite (State.wrDev_good h) (good_wrHost h)

theorem State.descMove_good {d : HostDesc} {m : Nat} {bad : List (Nat × Nat)} (h : Good k s) :
    Good k (State.descMove s d m bad).1 := by
  unfold State.descMove
  exact good_ite1 (good_wrHost h) (State.wrDev_good h)

theorem State.descEnd_good {j st m : Nat} {irq : Bool} (h : Good k s) : Good k (State.descEnd s j st m irq) := by
  simp (maxDischargeDepth := 99) only [State.descEnd, h, State.ringWrite_good, State.bump_good, State.setFld_good,
    State.add64_good, State.setN_good, good_ite, good_mk_iff, good_parts]

theorem State.hostDma_good {j st n : Nat} {bad : List (Nat × Nat)} (h : Good k s) : Good k (State.hostDma s j st n bad) :=
    by
  unfold State.hostDma
  repeat' first
    | with_reducible assumption
    | simp (maxDischargeDepth := 99) +contextual only [h, State.bump_good, State.addN_good, State.descEnd_good,
      State.descMove_good, good_ite, good_mk_iff, good_parts, good_foldl, good_foldl1, good_ite1, implies_true]
    | split

theorem State.writeHostTail_good {j : Nat} {v : Word} (h : Good k s) : Good k (State.writeHostTail s j v) := by
  simp (maxDischargeDepth := 99) only [State.writeHostTail, h, State.cfgErr_good, State.setN_good, good_ite, good_mk_iff,
    good_parts]

theorem State.writeRingCfg_good {j : Nat} {v : Word} (h : Good k s) : Good k (State.writeRingCfg s j v) := by
  simp (maxDischargeDepth := 99) only [State.writeRingCfg, h, State.setReg_good, State.cfgErr_good, State.setN_good,
    good_ite, good_mk_iff, good_parts]

theorem State.readHostStat_good {j : Nat} (h : Good k s) : Good k (State.readHostStat s j) := by
  simp (maxDischargeDepth := 99) only [State.readHostStat, h, State.setFld_good, good_ite, good_mk_iff, good_parts]

/-- A cold reset keeps all but THERMTRIP_L. -/
theorem State.restart_good (ht : k.tr = false) (h : Good k s) : Good k (State.restart s) := by
  refine ⟨h.pending, fun hc => ?_, h.otp, fun e => by rw [ht] at e; cases e⟩
  have := h.can hc
  rw [State.canonical_iff] at *
  refine ⟨?_, this.2.1, rfl, ?_, this.2.2.2.2⟩
  · exact Tab.drop_wf (p := fun a => !farAddr a) this.1
  · exact Tab.drop_wf (p := fun l => !farAddr (64 * l)) this.2.2.2.1

theorem State.dmaOff_good (h : Good k s) : Good k (State.dmaOff s) := by
  simp (maxDischargeDepth := 99) +contextual only [State.dmaOff, h, State.setFld_good, State.each_good, good_ite,
    good_mk_iff, good_parts, good_foldl, good_foldl1, good_ite1, implies_true]

theorem State.warmReset_good {n : Nat} (h : Good k s) : Good k (State.warmReset s n) := by
  unfold State.warmReset
  extract_lets src t
  have ht : Good k t := by
    refine ⟨h.pending, fun hc => ?_, h.otp, h.trip⟩
    have := h.can hc
    rw [State.canonical_iff] at *
    refine ⟨?_, this.2.1, ?_, ?_, this.2.2.2.2⟩
    · exact Tab.drop_wf (p := fun a => !farAddr a) this.1
    · exact Tab.drop_wf (p := fun a => !warmKept a) this.2.2.1
    · exact Tab.drop_wf (p := fun l => !farAddr (64 * l)) this.2.2.2.1
  clear_value t
  exact State.setN_good (State.dmaOff_good ht)

theorem State.swWarm_good {v : Word} (h : Good k s) : Good k (State.swWarm s v) := by
  simp (maxDischargeDepth := 99) only [State.swWarm, h, State.warmReset_good, good_ite, good_mk_iff, good_parts]

theorem State.hotReset_good (h : Good k s) : Good k (State.hotReset s) := by
  simp (maxDischargeDepth := 99) +contextual only [State.hotReset, h, State.sysEvent_good, State.irq_good,
    State.resetRegs_good, State.sessClose_good, State.each_good, State.dmaOff_good, State.setN_good, good_ite,
    good_mk_iff, good_parts, good_foldl, good_foldl1, good_ite1, implies_true]

theorem State.hostRst_good (h : Good k s) : Good k (State.hostRst s) := by
  simp (maxDischargeDepth := 99) +contextual only [State.hostRst, h, State.ringWrite_good, State.resetRegs_good,
    State.each_good, State.headerReset_good, good_ite, good_mk_iff, good_parts, good_foldl, good_foldl1, good_ite1,
    implies_true]

theorem State.topRst_good (h : Good k s) : Good k (State.topRst s) := by
  simp (maxDischargeDepth := 99) only [State.topRst, h, State.rstRefused_good, good_ite, good_mk_iff, good_parts]

theorem State.jbeRst_good (h : Good k s) : Good k (State.jbeRst s) := by
  simp (maxDischargeDepth := 99) only [State.jbeRst, h, State.resetRegs_good, State.headerReset_good,
    State.rstRefused_good, good_ite, good_mk_iff, good_parts]

theorem State.pwrRst_good (h : Good k s) : Good k (State.pwrRst s) := by
  simp (maxDischargeDepth := 99) only [State.pwrRst, h, State.resetRegs_good, State.headerReset_good, good_ite,
    good_mk_iff, good_parts]

theorem State.miscRst_good (h : Good k s) : Good k (State.miscRst s) := by
  simp (maxDischargeDepth := 99) only [State.miscRst, h, State.headerReset_good, State.setN_good, good_ite, good_mk_iff,
    good_parts]

theorem State.blockSleep_good {page st : Nat} (h : Good k s) : Good k (State.blockSleep s page st) := by
  unfold State.blockSleep
  split <;> simp (maxDischargeDepth := 99) +contextual only [h, State.setFld_good, good_ite, good_mk_iff, good_parts,
    good_foldl, good_foldl1, good_ite1, implies_true]

theorem State.blockWake_good {page : Nat} (h : Good k s) : Good k (State.blockWake s page) := by
  unfold State.blockWake
  split <;> simp (maxDischargeDepth := 99) +contextual only [h, State.wake_good, good_ite, good_mk_iff, good_parts,
    good_foldl, good_foldl1, good_ite1, implies_true]

theorem State.pwrEvent_good {on : Bool} {sensor : Nat} (h : Good k s) : Good k (State.pwrEvent s on sensor) := by
  simp (maxDischargeDepth := 99) only [State.pwrEvent, h, State.sysEvent_good, State.irq_good, good_ite, good_mk_iff,
    good_parts]

theorem State.tempSample_good {l : List Int} (h : Good k s) : Good k (State.tempSample s l) := by
  simp (maxDischargeDepth := 99) +contextual only [State.tempSample, h, State.pwrEvent_good, State.each_good,
    State.setN_good, good_ite, good_mk_iff, good_parts, good_foldl, good_foldl1, good_ite1, implies_true]

/-- COLD_RESET keeps all but THERMTRIP_L. -/
theorem execColdReset_good (ht : k.tr = false) (h : Good k s) : GoodRes k (execColdReset s) :=
  ⟨_, rfl, State.restart_good ht h⟩

theorem execWarmReset_good (h : Good k s) : GoodRes k (execWarmReset s) := by
  simp (maxDischargeDepth := 99) only [execWarmReset, h, State.warmReset_good, good_ite, good_mk_iff, good_parts,
    goodRes_next]

theorem execSwWarm_good {w : Win} {v : Word} (h : Good k s) : GoodRes k (execSwWarm w v s) := by
  simp (maxDischargeDepth := 99) +contextual only [execSwWarm, h, State.swWarm_good, State.hostGuard_good, good_ite,
    good_mk_iff, good_parts, goodRes_next, good_foldl, good_foldl1, good_ite1, implies_true]

theorem execPcieHotReset_good (h : Good k s) : GoodRes k (execPcieHotReset s) := by
  simp (maxDischargeDepth := 99) only [execPcieHotReset, h, State.hotReset_good, good_ite, good_mk_iff, good_parts,
    goodRes_next]

theorem execHostDmaDescriptor_good {j st n : Nat} {bad : List (Nat × Nat)} (h : Good k s) : GoodRes k
    (execHostDmaDescriptor j st n bad s) := by
  simp (maxDischargeDepth := 99) only [execHostDmaDescriptor, h, State.hostDma_good, good_ite, good_mk_iff, good_parts,
    goodRes_next]

theorem execDmaTailWrite_good {w : Win} {j : Nat} {v : Word} (h : Good k s) : GoodRes k (execDmaTailWrite w j v s) := by
  simp (maxDischargeDepth := 99) +contextual only [execDmaTailWrite, h, State.writeHostTail_good, State.hostGuard_good,
    good_ite, good_mk_iff, good_parts, goodRes_next, good_foldl, good_foldl1, good_ite1, implies_true]

theorem execRingCfgEnable_good {w : Win} {j : Nat} {v : Word} (h : Good k s) : GoodRes k (execRingCfgEnable w j v s) := by
  simp (maxDischargeDepth := 99) +contextual only [execRingCfgEnable, h, State.writeRingCfg_good, State.hostGuard_good,
    good_ite, good_mk_iff, good_parts, goodRes_next, good_foldl, good_foldl1, good_ite1, implies_true]

theorem execDmaStatRead_good {w : Win} {j : Nat} (h : Good k s) : GoodRes k (execDmaStatRead w j s) := by
  simp (maxDischargeDepth := 99) +contextual only [execDmaStatRead, h, State.readHostStat_good, State.hostGuard_good,
    good_ite, good_mk_iff, good_parts, goodRes_next, good_foldl, good_foldl1, good_ite1, implies_true]

theorem execVectorFire_good {v dus : Nat} (h : Good k s) : GoodRes k (execVectorFire v dus s) := by
  simp (maxDischargeDepth := 99) only [execVectorFire, h, State.vecTry_good, good_ite, good_mk_iff, good_parts,
    goodRes_next]

theorem execVecRearm_good {w : Win} {v : Word} (h : Good k s) : GoodRes k (execVecRearm w v s) := by
  simp (maxDischargeDepth := 99) +contextual only [execVecRearm, h, State.vecRearm_good, State.hostGuard_good, good_ite,
    good_mk_iff, good_parts, goodRes_next, good_foldl, good_foldl1, good_ite1, implies_true]

theorem execMsixTableWrite_good {w : Win} {a : Nat} {v : Word} (h : Good k s) : GoodRes k (execMsixTableWrite w a v s) := by
  simp (maxDischargeDepth := 99) +contextual only [execMsixTableWrite, h, State.msixWrite_good, State.hostGuard_good,
    good_ite, good_mk_iff, good_parts, goodRes_next, good_foldl, good_foldl1, good_ite1, implies_true]

theorem execBlockSleep_good {page st : Nat} (h : Good k s) : GoodRes k (execBlockSleep page st s) := by
  simp (maxDischargeDepth := 99) only [execBlockSleep, h, State.blockSleep_good, good_ite, good_mk_iff, good_parts,
    goodRes_next]

theorem execBlockWake_good {page : Nat} (h : Good k s) : GoodRes k (execBlockWake page s) := by
  simp (maxDischargeDepth := 99) only [execBlockWake, h, State.blockWake_good, good_ite, good_mk_iff, good_parts,
    goodRes_next]

theorem execTempSample_good {readings : List Int} (h : Good k s) : GoodRes k (execTempSample readings s) := by
  simp (maxDischargeDepth := 99) only [execTempSample, h, State.tempSample_good, good_ite, good_mk_iff, good_parts,
    goodRes_next]

theorem execThermtrip_good (h : Good k s) : GoodRes k (execThermtrip s) := ⟨_, rfl, h.pending, h.can, h.otp, fun _ => rfl⟩

theorem execTopRst_good {w : Win} (h : Good k s) : GoodRes k (execTopRst w s) := by
  simp (maxDischargeDepth := 99) +contextual only [execTopRst, h, State.topRst_good, State.hostGuard_good, good_ite,
    good_mk_iff, good_parts, goodRes_next, good_foldl, good_foldl1, good_ite1, implies_true]

theorem execJbeRst_good {w : Win} (h : Good k s) : GoodRes k (execJbeRst w s) := by
  simp (maxDischargeDepth := 99) +contextual only [execJbeRst, h, State.jbeRst_good, State.hostGuard_good, good_ite,
    good_mk_iff, good_parts, goodRes_next, good_foldl, good_foldl1, good_ite1, implies_true]

theorem execHostRst_good {w : Win} (h : Good k s) : GoodRes k (execHostRst w s) := by
  simp (maxDischargeDepth := 99) +contextual only [execHostRst, h, State.hostRst_good, State.hostGuard_good, good_ite,
    good_mk_iff, good_parts, goodRes_next, good_foldl, good_foldl1, good_ite1, implies_true]

theorem execPwrRst_good {w : Win} (h : Good k s) : GoodRes k (execPwrRst w s) := by
  simp (maxDischargeDepth := 99) +contextual only [execPwrRst, h, State.hostGuard_good, State.pwrRst_good, good_ite,
    good_mk_iff, good_parts, goodRes_next, good_foldl, good_foldl1, good_ite1, implies_true]

theorem execMiscRst_good {w : Win} (h : Good k s) : GoodRes k (execMiscRst w s) := by
  simp (maxDischargeDepth := 99) +contextual only [execMiscRst, h, State.miscRst_good, State.hostGuard_good, good_ite,
    good_mk_iff, good_parts, goodRes_next, good_foldl, good_foldl1, good_ite1, implies_true]

theorem execPcieLinkUp_good {gen width : Nat} (h : Good k s) : GoodRes k (execPcieLinkUp gen width s) := by
  simp (maxDischargeDepth := 99) only [execPcieLinkUp, h, State.setN_good, good_ite, good_mk_iff, good_parts, goodRes_next]

theorem execConfigSpaceWrite_good {msixEn msixMask d3 : Bool} (h : Good k s) : GoodRes k (execConfigSpaceWrite msixEn
    msixMask d3 s) := by
  simp (maxDischargeDepth := 99) only [execConfigSpaceWrite, h, State.cfgSpace_good, good_ite, good_mk_iff, good_parts,
    goodRes_next]

end Sys2Proof.Machine
end

