-- ==== Sys2Proof/Laws/KeepMisc.lean ====
section
/-! SUPPORT. The operations of Machine/Misc.lean keep what `Good` says. -/

namespace Sys2Proof.Machine
open Sys2Proof

set_option Elab.async false
set_option linter.unusedSimpArgs false
set_option linter.unusedVariables false
set_option linter.unreachableTactic false
set_option linter.unusedTactic false

variable {k : Keep} {s : State}

theorem State.spiOwned_good {a : Nat} {f : State → State} (h : Good k s) (hf : ∀ s, Good k s → Good k (f s)) :
    Good k (State.spiOwned s a f) := by
  unfold State.spiOwned
  exact good_ite (hf _ h) (State.err_good h)

theorem State.spiGo_good {v : Word} (h : Good k s) : Good k (State.spiGo s v) := by
  simp (maxDischargeDepth := 99) only [State.spiGo, h, State.setN_good, good_ite, good_mk_iff, good_parts]

theorem State.writeSpiCmd_good {v : Word} (h : Good k s) : Good k (State.writeSpiCmd s v) := by
  simp (maxDischargeDepth := 99) +contextual only [State.writeSpiCmd, h, State.spiOwned_good, State.spiGo_good, good_ite,
    good_mk_iff, good_parts, good_foldl, good_foldl1, good_ite1, implies_true]

theorem State.bufPut_good {a : Nat} {l : List Nat} (h : Good k s) : Good k (State.bufPut s a l) := by
  simp (maxDischargeDepth := 99) +contextual only [State.bufPut, h, State.setFld_good, State.each_good, good_ite,
    good_mk_iff, good_parts, good_foldl, good_foldl1, good_ite1, implies_true]

theorem State.spiEnd_good {st : Nat} {data : List Nat} (h : Good k s) : Good k (State.spiEnd s st data) := by
  unfold State.spiEnd
  split <;> simp (maxDischargeDepth := 99) +contextual only [h, State.bufPut_good, State.irq_good, State.setN_good,
    good_ite, good_mk_iff, good_parts, good_foldl, good_foldl1, good_ite1, implies_true]

theorem State.uartPut_good {v : Word} (h : Good k s) : Good k (State.uartPut s v) := by
  simp (maxDischargeDepth := 99) only [State.uartPut, h, good_ite, good_mk_iff, good_parts]

theorem State.uartPop_good (h : Good k s) : Good k (State.uartPop s) := by
  unfold State.uartPop
  split <;> simp (maxDischargeDepth := 99) +contextual only [h, good_ite, good_mk_iff, good_parts, good_foldl,
    good_foldl1, good_ite1, implies_true]

theorem State.uartArrive_good {b : Nat} {framing : Bool} (h : Good k s) : Good k (State.uartArrive s b framing) := by
  simp (maxDischargeDepth := 99) only [State.uartArrive, h, State.irq_good, good_ite, good_mk_iff, good_parts]

theorem State.uartSent_good (h : Good k s) : Good k (State.uartSent s) := by
  unfold State.uartSent
  split <;> simp (maxDischargeDepth := 99) +contextual only [h, State.irq_good, good_ite, good_mk_iff, good_parts,
    good_foldl, good_foldl1, good_ite1, implies_true]

theorem State.setI2c_good {i : Nat} {x : Option (Bool × Nat × Nat)} (h : Good k s) : Good k (State.setI2c s i x) := by
  simp (maxDischargeDepth := 99) only [State.setI2c, h, good_mk_iff, good_parts]

theorem State.writeI2cCmd_good {i : Nat} {v : Word} (h : Good k s) : Good k (State.writeI2cCmd s i v) := by
  simp (maxDischargeDepth := 99) only [State.writeI2cCmd, h, State.setFld_good, State.setI2c_good, State.setN_good,
    good_ite, good_mk_iff, good_parts]

theorem State.i2cEnd_good {i st n : Nat} {data : List Nat} (h : Good k s) : Good k (State.i2cEnd s i st n data) := by
  unfold State.i2cEnd
  split <;> simp (maxDischargeDepth := 99) +contextual only [h, State.bufPut_good, State.irq_good, State.setI2c_good,
    State.setN_good, good_ite, good_mk_iff, good_parts, good_foldl, good_foldl1, good_ite1, implies_true]

theorem State.gpioEdges_good {old new : Nat} (h : Good k s) : Good k (State.gpioEdges s old new) := by
  simp (maxDischargeDepth := 99) only [State.gpioEdges, h, State.irq_good, State.setN_good, good_ite, good_mk_iff,
    good_parts]

theorem State.gpioChange_good {f : State → State} (h : Good k s) (hf : ∀ s, Good k s → Good k (f s)) :
    Good k (State.gpioChange s f) := by
  unfold State.gpioChange
  exact State.gpioEdges_good (hf _ h)

theorem execSpiRead_good {w : Win} {v : Word} (h : Good k s) : GoodRes k (execSpiRead w v s) := by
  simp (maxDischargeDepth := 99) +contextual only [execSpiRead, h, State.hostGuard_good, State.writeSpiCmd_good, good_ite,
    good_mk_iff, good_parts, goodRes_next, good_foldl, good_foldl1, good_ite1, implies_true]

theorem execSpiProgram_good {w : Win} {v : Word} (h : Good k s) : GoodRes k (execSpiProgram w v s) := by
  simp (maxDischargeDepth := 99) +contextual only [execSpiProgram, h, State.hostGuard_good, State.writeSpiCmd_good,
    good_ite, good_mk_iff, good_parts, goodRes_next, good_foldl, good_foldl1, good_ite1, implies_true]

theorem execSpiErase_good {w : Win} {v : Word} (h : Good k s) : GoodRes k (execSpiErase w v s) := by
  simp (maxDischargeDepth := 99) +contextual only [execSpiErase, h, State.hostGuard_good, State.writeSpiCmd_good,
    good_ite, good_mk_iff, good_parts, goodRes_next, good_foldl, good_foldl1, good_ite1, implies_true]

theorem execSpiRegisterRead_good {w : Win} {v : Word} (h : Good k s) : GoodRes k (execSpiRegisterRead w v s) := by
  simp (maxDischargeDepth := 99) +contextual only [execSpiRegisterRead, h, State.hostGuard_good, State.writeSpiCmd_good,
    good_ite, good_mk_iff, good_parts, goodRes_next, good_foldl, good_foldl1, good_ite1, implies_true]

theorem execSpiDone_good {st : Nat} {data : List Nat} (h : Good k s) : GoodRes k (execSpiDone st data s) := by
  simp (maxDischargeDepth := 99) only [execSpiDone, h, State.spiEnd_good, good_ite, good_mk_iff, good_parts, goodRes_next]

theorem execUartTx_good {w : Win} {v : Word} (h : Good k s) : GoodRes k (execUartTx w v s) := by
  simp (maxDischargeDepth := 99) +contextual only [execUartTx, h, State.uartPut_good, State.hostGuard_good, good_ite,
    good_mk_iff, good_parts, goodRes_next, good_foldl, good_foldl1, good_ite1, implies_true]

theorem execUartRx_good {w : Win} (h : Good k s) : GoodRes k (execUartRx w s) := by
  simp (maxDischargeDepth := 99) +contextual only [execUartRx, h, State.uartPop_good, State.hostGuard_good, good_ite,
    good_mk_iff, good_parts, goodRes_next, good_foldl, good_foldl1, good_ite1, implies_true]

theorem execUartRxByte_good {byte : Nat} {framing : Bool} (h : Good k s) : GoodRes k (execUartRxByte byte framing s) := by
  simp (maxDischargeDepth := 99) only [execUartRxByte, h, State.uartArrive_good, good_ite, good_mk_iff, good_parts,
    goodRes_next]

theorem execUartTxByte_good (h : Good k s) : GoodRes k (execUartTxByte s) := by
  simp (maxDischargeDepth := 99) only [execUartTxByte, h, State.uartSent_good, good_ite, good_mk_iff, good_parts,
    goodRes_next]

theorem execI2cRead_good {w : Win} {i : Nat} {v : Word} (h : Good k s) : GoodRes k (execI2cRead w i v s) := by
  simp (maxDischargeDepth := 99) +contextual only [execI2cRead, h, State.writeI2cCmd_good, State.hostGuard_good, good_ite,
    good_mk_iff, good_parts, goodRes_next, good_foldl, good_foldl1, good_ite1, implies_true]

theorem execI2cWrite_good {w : Win} {i : Nat} {v : Word} (h : Good k s) : GoodRes k (execI2cWrite w i v s) := by
  simp (maxDischargeDepth := 99) +contextual only [execI2cWrite, h, State.writeI2cCmd_good, State.hostGuard_good,
    good_ite, good_mk_iff, good_parts, goodRes_next, good_foldl, good_foldl1, good_ite1, implies_true]

theorem execI2cDone_good {i st n : Nat} {data : List Nat} (h : Good k s) : GoodRes k (execI2cDone i st n data s) := by
  simp (maxDischargeDepth := 99) only [execI2cDone, h, State.i2cEnd_good, good_ite, good_mk_iff, good_parts, goodRes_next]

theorem execGpioEdge_good {levels : Nat} (h : Good k s) : GoodRes k (execGpioEdge levels s) := by
  simp (maxDischargeDepth := 99) +contextual only [execGpioEdge, h, State.gpioChange_good, good_ite, good_mk_iff,
    good_parts, goodRes_next, good_foldl, good_foldl1, good_ite1, implies_true]

end Sys2Proof.Machine
end

