-- ==== Sys2Proof/Laws/KeepTime.lean ====
section
/-! SUPPORT. The operations of Machine/Time.lean keep what `Good` says. -/

namespace Sys2Proof.Machine
open Sys2Proof

set_option Elab.async false
set_option linter.unusedSimpArgs false
set_option linter.unusedVariables false
set_option linter.unreachableTactic false
set_option linter.unusedTactic false

variable {k : Keep} {s : State}

theorem State.timeEvent_good {num : Nat} {payload : List Nat} (h : Good k s) : Good k (State.timeEvent s num payload) := by
  simp (maxDischargeDepth := 99) only [State.timeEvent, h, State.sysEvent_good, good_ite, good_mk_iff, good_parts]

theorem State.showPhase_good (h : Good k s) : Good k (State.showPhase s) := by
  simp (maxDischargeDepth := 99) only [State.showPhase, h, State.setN_good, good_ite, good_mk_iff, good_parts]

theorem State.setDpll_good {st src : Nat} (h : Good k s) : Good k (State.setDpll s st src) := by
  simp (maxDischargeDepth := 99) only [State.setDpll, h, State.irq_good, State.setFld_good, State.showPhase_good,
    State.timeEvent_good, good_ite, good_mk_iff, good_parts]

theorem State.selectBest_good (h : Good k s) : Good k (State.selectBest s) := by
  unfold State.selectBest
  repeat' first
    | with_reducible assumption
    | simp (maxDischargeDepth := 99) +contextual only [h, State.setDpll_good, good_ite, good_mk_iff, good_parts,
      good_foldl, good_foldl1, good_ite1, implies_true]
    | split

theorem State.sourceQualify_good {src : Nat} (h : Good k s) : Good k (State.sourceQualify s src) := by
  unfold State.sourceQualify
  repeat' first
    | with_reducible assumption
    | simp (maxDischargeDepth := 99) +contextual only [h, State.setDpll_good, State.setFld_good, State.setN_good,
      State.selectBest_good, good_ite, good_mk_iff, good_parts, good_foldl, good_foldl1, good_ite1, implies_true]
    | split

theorem State.afterLoss_good (h : Good k s) : Good k (State.afterLoss s) := by
  unfold State.afterLoss
  repeat' first
    | with_reducible assumption
    | simp (maxDischargeDepth := 99) +contextual only [h, State.setDpll_good, State.setN_good, State.drawn_good, good_ite,
      good_mk_iff, good_parts, good_foldl, good_foldl1, good_ite1, implies_true]
    | split

theorem State.sourceLost_good {src : Nat} (h : Good k s) : Good k (State.sourceLost s src) := by
  simp (maxDischargeDepth := 99) only [State.sourceLost, h, State.irq_good, State.afterLoss_good, State.timeEvent_good,
    State.setN_good, good_ite, good_mk_iff, good_parts]

theorem State.phaseSample_good {src : Nat} {err : Int} (h : Good k s) : Good k (State.phaseSample s src err) := by
  simp (maxDischargeDepth := 99) only [State.phaseSample, h, State.showPhase_good, State.setN_good, State.drawn_good,
    good_ite, good_mk_iff, good_parts]

theorem State.ptpSample_good {v : Word} (h : Good k s) : Good k (State.ptpSample s v) := by
  simp (maxDischargeDepth := 99) only [State.ptpSample, h, State.phaseSample_good, good_ite, good_mk_iff, good_parts]

theorem State.ppsinEdge_good {ph : Nat} (h : Good k s) : Good k (State.ppsinEdge s ph) := by
  simp (maxDischargeDepth := 99) only [State.ppsinEdge, h, State.phaseSample_good, State.setN_good, good_ite, good_mk_iff,
    good_parts]

theorem State.dsyncPulse_good {ph : Nat} {wide : Bool} (h : Good k s) : Good k (State.dsyncPulse s ph wide) := by
  simp (maxDischargeDepth := 99) only [State.dsyncPulse, h, State.phaseSample_good, State.setFld_good, good_ite,
    good_mk_iff, good_parts]

theorem State.takeTrigger_good (h : Good k s) : Good k (State.takeTrigger s) := by
  simp (maxDischargeDepth := 99) only [State.takeTrigger, h, State.setFld_good, good_ite, good_mk_iff, good_parts]

theorem State.armSync_good (h : Good k s) : Good k (State.armSync s) := by
  simp (maxDischargeDepth := 99) only [State.armSync, h, State.irq_good, State.setFld_good, good_ite, good_mk_iff,
    good_parts]

theorem State.writeSyncCtrl_good {v : Word} (h : Good k s) : Good k (State.writeSyncCtrl s v) := by
  simp (maxDischargeDepth := 99) only [State.writeSyncCtrl, h, State.setFld_good, State.armSync_good,
    State.takeTrigger_good, good_ite, good_mk_iff, good_parts]

theorem State.reselect_good (h : Good k s) : Good k (State.reselect s) := by
  unfold State.reselect
  split <;> simp (maxDischargeDepth := 99) +contextual only [h, State.setDpll_good, State.selectBest_good, good_ite,
    good_mk_iff, good_parts, good_foldl, good_foldl1, good_ite1, implies_true]

theorem State.writeSrcCfg_good {v : Word} (h : Good k s) : Good k (State.writeSrcCfg s v) := by
  unfold State.writeSrcCfg
  repeat' first
    | with_reducible assumption
    | simp (maxDischargeDepth := 99) +contextual only [h, State.setReg_good, State.cfgErr_good, State.reselect_good,
      good_ite, good_mk_iff, good_parts, good_foldl, good_foldl1, good_ite1, implies_true]
    | split

theorem State.writeDsyncCfg_good {v : Word} (h : Good k s) : Good k (State.writeDsyncCfg s v) := by
  simp (maxDischargeDepth := 99) only [State.writeDsyncCfg, h, State.setReg_good, State.reselect_good, good_ite,
    good_mk_iff, good_parts]

theorem State.timeOpen_good (h : Good k s) : Good k (State.timeOpen s) := by
  simp (maxDischargeDepth := 99) only [State.timeOpen, h, State.setFld_good, State.setN_good, good_ite, good_mk_iff,
    good_parts]

theorem State.timeRegsReset_good (h : Good k s) : Good k (State.timeRegsReset s) := by
  simp (maxDischargeDepth := 99) only [State.timeRegsReset, h, State.resetRegs_good, good_ite, good_mk_iff, good_parts]

theorem State.timeRst_good (h : Good k s) : Good k (State.timeRst s) := by
  simp (maxDischargeDepth := 99) only [State.timeRst, h, State.sysEvent_good, State.irq_good, State.timeRegsReset_good,
    State.headerReset_good, good_ite, good_mk_iff, good_parts]

theorem execPpsoutFall_good (h : Good k s) : GoodRes k (execPpsoutFall s) := by
  unfold execPpsoutFall
  refine goodRes_next.mpr ?_
  split <;> simp (maxDischargeDepth := 99) +contextual only [h, good_ite, good_mk_iff, good_parts, goodRes_next,
    good_foldl, good_foldl1, good_ite1, implies_true]

theorem execPpsinEdge_good {ph : Nat} (h : Good k s) : GoodRes k (execPpsinEdge ph s) := by
  simp (maxDischargeDepth := 99) only [execPpsinEdge, h, State.ppsinEdge_good, good_ite, good_mk_iff, good_parts,
    goodRes_next]

theorem execPpsinMiss_good (h : Good k s) : GoodRes k (execPpsinMiss s) := by
  simp (maxDischargeDepth := 99) only [execPpsinMiss, h, State.irq_good, State.timeEvent_good, good_ite, good_mk_iff,
    good_parts, goodRes_next]

theorem execPtpOffsetWrite_good {w : Win} {v : Word} (h : Good k s) : GoodRes k (execPtpOffsetWrite w v s) := by
  simp (maxDischargeDepth := 99) +contextual only [execPtpOffsetWrite, h, State.ptpSample_good, State.hostGuard_good,
    good_ite, good_mk_iff, good_parts, goodRes_next, good_foldl, good_foldl1, good_ite1, implies_true]

theorem execSourceQualify_good {src : Nat} (h : Good k s) : GoodRes k (execSourceQualify src s) := by
  simp (maxDischargeDepth := 99) only [execSourceQualify, h, State.sourceQualify_good, good_ite, good_mk_iff, good_parts,
    goodRes_next]

theorem execSourceLost_good {src : Nat} (h : Good k s) : GoodRes k (execSourceLost src s) := by
  simp (maxDischargeDepth := 99) only [execSourceLost, h, State.sourceLost_good, good_ite, good_mk_iff, good_parts,
    goodRes_next]

theorem execRevertiveSelect_good {src : Nat} (h : Good k s) : GoodRes k (execRevertiveSelect src s) := by
  simp (maxDischargeDepth := 99) only [execRevertiveSelect, h, State.setDpll_good, good_ite, good_mk_iff, good_parts,
    goodRes_next]

theorem execDpllLock_good (h : Good k s) : GoodRes k (execDpllLock s) := by
  simp (maxDischargeDepth := 99) only [execDpllLock, h, State.setDpll_good, good_ite, good_mk_iff, good_parts, goodRes_next]

theorem execHoQualSet_good (h : Good k s) : GoodRes k (execHoQualSet s) := by
  simp (maxDischargeDepth := 99) only [execHoQualSet, h, State.setFld_good, good_ite, good_mk_iff, good_parts, goodRes_next]

theorem execPtptSetArm_good {w : Win} {v : Word} (h : Good k s) : GoodRes k (execPtptSetArm w v s) := by
  simp (maxDischargeDepth := 99) +contextual only [execPtptSetArm, h, State.setFld_good, State.hostGuard_good, good_ite,
    good_mk_iff, good_parts, goodRes_next, good_foldl, good_foldl1, good_ite1, implies_true]

theorem execSyncCtrlNow_good {w : Win} {v : Word} (h : Good k s) : GoodRes k (execSyncCtrlNow w v s) := by
  simp (maxDischargeDepth := 99) +contextual only [execSyncCtrlNow, h, State.writeSyncCtrl_good, State.hostGuard_good,
    good_ite, good_mk_iff, good_parts, goodRes_next, good_foldl, good_foldl1, good_ite1, implies_true]

theorem execAtArm_good {w : Win} {v : Word} (h : Good k s) : GoodRes k (execAtArm w v s) := by
  simp (maxDischargeDepth := 99) +contextual only [execAtArm, h, State.writeSyncCtrl_good, State.hostGuard_good, good_ite,
    good_mk_iff, good_parts, goodRes_next, good_foldl, good_foldl1, good_ite1, implies_true]

theorem execLsyncEdge_good {ph : Nat} (h : Good k s) : GoodRes k (execLsyncEdge ph s) := by
  simp (maxDischargeDepth := 99) only [execLsyncEdge, h, State.takeTrigger_good, good_ite, good_mk_iff, good_parts,
    goodRes_next]

theorem execDsynciPulse_good {ph : Nat} {wide : Bool} {err : Int} (h : Good k s) : GoodRes k (execDsynciPulse ph wide err s) := by
  simp (maxDischargeDepth := 99) only [execDsynciPulse, h, State.dsyncPulse_good, good_ite, good_mk_iff, good_parts,
    goodRes_next]

theorem execDsyncErr_good (h : Good k s) : GoodRes k (execDsyncErr s) := by
  simp (maxDischargeDepth := 99) only [execDsyncErr, h, State.irq_good, State.setFld_good, State.timeEvent_good, good_ite,
    good_mk_iff, good_parts, goodRes_next]

theorem execTimeRst_good {w : Win} (h : Good k s) : GoodRes k (execTimeRst w s) := by
  simp (maxDischargeDepth := 99) +contextual only [execTimeRst, h, State.timeRst_good, State.hostGuard_good, good_ite,
    good_mk_iff, good_parts, goodRes_next, good_foldl, good_foldl1, good_ite1, implies_true]

end Sys2Proof.Machine
end

