-- ==== Sys2Proof/Laws/KeepRegio.lean ====
section
/-! SUPPORT. The operations of Machine/Regio.lean keep what `Good` says. -/

namespace Sys2Proof.Machine
open Sys2Proof

set_option Elab.async false
set_option linter.unusedSimpArgs false
set_option linter.unusedVariables false
set_option linter.unreachableTactic false
set_option linter.unusedTactic false

variable {k : Keep} {s : State}

theorem State.irqForce_good {i : PageInfo} {v : Word} (h : Good k s) : Good k (State.irqForce s i v) := by
  simp (maxDischargeDepth := 99) only [State.irqForce, h, State.setReg_good, good_ite, good_mk_iff, good_parts]

theorem State.pageRst_good {i : PageInfo} (h : Good k s) : Good k (State.pageRst s i) := by
  unfold State.pageRst
  split <;> simp (maxDischargeDepth := 99) +contextual only [h, State.timeRst_good, State.turnRst_good,
    State.thymeRst_good, State.topRst_good, State.eceRst_good, State.qmRst_good, State.sageRst_good, State.nmcRst_good,
    State.jbeRst_good, State.cxlRst_good, State.ciphRst_good, State.linkRst_good, State.clusRst_good, State.ldcRst_good,
    State.miscRst_good, State.hostRst_good, State.rstRefused_good, State.macRst_good, State.preRst_good,
    State.pwrRst_good, good_ite, good_mk_iff, good_parts, good_foldl, good_foldl1, good_ite1, implies_true]

theorem State.headerWrite_good {i : PageInfo} {o : Nat} {v : Word} (h : Good k s) : Good k (State.headerWrite s i o v) := by
  simp (maxDischargeDepth := 99) only [State.headerWrite, h, State.setReg_good, State.netLink_good, State.setFld_good,
    State.irqForce_good, State.pageRst_good, good_ite, good_mk_iff, good_parts]

theorem State.refuse__good {i : PageInfo} {st a : Nat} (h : Good k s) : Good k (State.refuse_ s i st a) := by
  simp (maxDischargeDepth := 99) only [State.refuse_, h, State.cfgErr_good, good_ite, good_mk_iff, good_parts]

theorem State.checked_good {i : PageInfo} {a : Nat} {v : Word} {f : RegRow → State} (h : Good k s) (hf : ∀ r, Good k (f
    r)) :
    Good k (State.checked s i a v f) := by
  unfold State.checked
  split
  · exact h
  · exact good_ite (State.refuse__good h) (hf _)

theorem State.plain_good {i : PageInfo} {a : Nat} {v : Word} (h : Good k s) : Good k (State.plain s i a v) := by
  simp (maxDischargeDepth := 99) +contextual only [State.plain, h, State.setReg_good, State.checked_good, good_ite,
    good_mk_iff, good_parts, good_foldl, good_foldl1, good_ite1, implies_true]

theorem State.rookWrite_good {i : PageInfo} {w : Win} {a : Nat} {v : Word} (h : Good k s) : Good k (State.rookWrite s i w
    a v) := by
  simp (maxDischargeDepth := 99) only [State.rookWrite, h, State.writeStage_good, State.bootData_good,
    State.writeProtCtl_good, State.writeSessCtl_good, State.bootStart_good, State.plain_good, State.mboxWrite_good,
    good_ite, good_mk_iff, good_parts]

theorem State.timeWrite_good {i : PageInfo} {a : Nat} {v : Word} (h : Good k s) : Good k (State.timeWrite s i a v) := by
  simp (maxDischargeDepth := 99) only [State.timeWrite, h, State.writeSyncCtrl_good, State.plain_good,
    State.writeSrcCfg_good, State.ptpSample_good, State.writeDsyncCfg_good, good_ite, good_mk_iff, good_parts]

theorem State.linkWrite_good {i : PageInfo} {o : Nat} {v : Word} (h : Good k s) : Good k (State.linkWrite s i o v) := by
  simp (maxDischargeDepth := 99) only [State.linkWrite, h, State.plain_good, State.writeLnkCtrl_good,
    State.writeBankCfg_good, good_ite, good_mk_iff, good_parts]

theorem State.ldcWrite_good {i : PageInfo} {o : Nat} {v : Word} (h : Good k s) : Good k (State.ldcWrite s i o v) := by
  simp (maxDischargeDepth := 99) only [State.ldcWrite, h, State.writeSetCtrl_good, State.writeLineCfg_good,
    State.ldcSync_good, State.writeCoef_good, State.plain_good, State.writeSet_good, good_ite, good_mk_iff, good_parts]

theorem State.eceWrite_good {i : PageInfo} {o : Nat} {v : Word} (h : Good k s) : Good k (State.eceWrite s i o v) := by
  simp (maxDischargeDepth := 99) +contextual only [State.eceWrite, h, State.writeEcePrf_good, State.checked_good,
    State.plain_good, good_ite, good_mk_iff, good_parts, good_foldl, good_foldl1, good_ite1, implies_true]

theorem State.sageWrite_good {i : PageInfo} {o : Nat} {v : Word} (h : Good k s) : Good k (State.sageWrite s i o v) := by
  simp (maxDischargeDepth := 99) +contextual only [State.sageWrite, h, State.writeSagePrf_good, State.checked_good,
    State.plain_good, good_ite, good_mk_iff, good_parts, good_foldl, good_foldl1, good_ite1, implies_true]

theorem State.ciphWrite_good {i : PageInfo} {o : Nat} {v : Word} (h : Good k s) : Good k (State.ciphWrite s i o v) := by
  simp (maxDischargeDepth := 99) only [State.ciphWrite, h, State.plain_good, State.setN_good, good_ite, good_mk_iff,
    good_parts]

theorem State.clusWrite_good {i : PageInfo} {o : Nat} {v : Word} (h : Good k s) : Good k (State.clusWrite s i o v) := by
  simp (maxDischargeDepth := 99) only [State.clusWrite, h, State.writeCoreCtl_good, State.plain_good, good_ite,
    good_mk_iff, good_parts]

theorem State.turnWrite_good {i : PageInfo} {a : Nat} {v : Word} (h : Good k s) : Good k (State.turnWrite s i a v) := by
  simp (maxDischargeDepth := 99) only [State.turnWrite, h, State.writeSysflow_good, State.plain_good, State.sysPost_good,
    State.refuse__good, good_ite, good_mk_iff, good_parts]

theorem State.qmWrite_good {i : PageInfo} {a : Nat} {v : Word} (h : Good k s) : Good k (State.qmWrite s i a v) := by
  simp (maxDischargeDepth := 99) only [State.qmWrite, h, State.writeQcfg_good, State.plain_good, State.flush_good,
    good_ite, good_mk_iff, good_parts]

theorem State.jbeWrite_good {i : PageInfo} {a : Nat} {v : Word} (h : Good k s) : Good k (State.jbeWrite s i a v) := by
  simp (maxDischargeDepth := 99) only [State.jbeWrite, h, State.setReg_good, State.setFld_good, State.plain_good,
    State.refuse__good, good_ite, good_mk_iff, good_parts]

theorem State.preWrite_good {i : PageInfo} {a : Nat} {v : Word} (h : Good k s) : Good k (State.preWrite s i a v) := by
  simp (maxDischargeDepth := 99) only [State.preWrite, h, State.plain_good, State.refuse__good, good_ite, good_mk_iff,
    good_parts]

theorem State.macWrite_good {i : PageInfo} {o : Nat} {v : Word} (h : Good k s) : Good k (State.macWrite s i o v) := by
  simp (maxDischargeDepth := 99) only [State.macWrite, h, State.writeRxrCfg_good, State.writeRxTail_good,
    State.writeTxrCfg_good, State.writeTxTail_good, State.plain_good, State.refuse__good, good_ite, good_mk_iff,
    good_parts]

theorem State.thymeWrite_good {i : PageInfo} {a : Nat} {v : Word} (h : Good k s) : Good k (State.thymeWrite s i a v) := by
  simp (maxDischargeDepth := 99) only [State.thymeWrite, h, State.plain_good, State.writeThymeCfg_good,
    State.refuse__good, good_ite, good_mk_iff, good_parts]

theorem State.nmcWrite_good {i : PageInfo} {a : Nat} {v : Word} (h : Good k s) : Good k (State.nmcWrite s i a v) := by
  unfold State.nmcWrite
  repeat' first
    | with_reducible assumption
    | simp (maxDischargeDepth := 99) +contextual only [h, State.writeNmcCfg_good, State.maintRetrain_good,
      State.maintRetire_good, State.checked_good, State.plain_good, State.trnApply_good, State.trnGo_good,
      State.writeTrn_good, State.refuse__good, good_ite, good_mk_iff, good_parts, good_foldl, good_foldl1, good_ite1,
      implies_true]
    | split

theorem State.cxlWrite_good {i : PageInfo} {a : Nat} {v : Word} (h : Good k s) : Good k (State.cxlWrite s i a v) := by
  simp (maxDischargeDepth := 99) +contextual only [State.cxlWrite, h, State.writeCxlCfg_good, State.writeDecCtl_good,
    State.checked_good, State.writePortCtl_good, State.plain_good, State.xioGo_good, State.refuse__good, good_ite,
    good_mk_iff, good_parts, good_foldl, good_foldl1, good_ite1, implies_true]

theorem State.hostWrite_good {i : PageInfo} {a : Nat} {v : Word} (h : Good k s) : Good k (State.hostWrite s i a v) := by
  simp (maxDischargeDepth := 99) only [State.hostWrite, h, State.writeHostTail_good, State.vecRearm_good,
    State.writeRingCfg_good, State.plain_good, State.msixWrite_good, good_ite, good_mk_iff, good_parts]

theorem State.miscWrite_good {i : PageInfo} {a : Nat} {v : Word} (h : Good k s) : Good k (State.miscWrite s i a v) := by
  simp (maxDischargeDepth := 99) +contextual only [State.miscWrite, h, State.spiOwned_good, State.plain_good,
    State.uartPut_good, State.writeI2cCmd_good, State.gpioChange_good, State.writeSpiCmd_good, good_ite, good_mk_iff,
    good_parts, good_foldl, good_foldl1, good_ite1, implies_true]

theorem State.spanWrite_good {w : Win} {q o : Nat} {v : Word} (h : Good k s) : Good k (State.spanWrite s w q o v) := by
  simp (maxDischargeDepth := 99) only [State.spanWrite, h, State.dataWrite_good, State.endResv_good,
    State.commitWrite_good, good_ite, good_mk_iff, good_parts]

theorem State.regWrite_good {w : Win} {a : Nat} {v : Word} (h : Good k s) : Good k (State.regWrite s w a v) := by
  unfold State.regWrite
  repeat' first
    | with_reducible assumption
    | simp (maxDischargeDepth := 99) +contextual only [h, State.sageWrite_good, State.eceWrite_good,
      State.headerWrite_good, State.thymeWrite_good, State.clusWrite_good, State.spanWrite_good, State.qmWrite_good,
      State.miscWrite_good, State.cxlWrite_good, State.ldcWrite_good, State.swWarm_good, State.nmcWrite_good,
      State.timeWrite_good, State.turnWrite_good, State.hostWrite_good, State.plain_good, State.linkWrite_good,
      State.preWrite_good, State.jbeWrite_good, State.ciphWrite_good, State.rookWrite_good, State.macWrite_good, good_ite,
      good_mk_iff, good_parts, good_foldl, good_foldl1, good_ite1, implies_true]
    | split

theorem State.clearRc_good {a : Nat} (h : Good k s) : Good k (State.clearRc s a) := by
  simp (maxDischargeDepth := 99) only [State.clearRc, h, State.setN_good, good_ite, good_mk_iff, good_parts]

theorem State.readLow_good {w : Win} {a : Nat} (h : Good k s) : Good k (State.readLow s w a) := by
  simp (maxDischargeDepth := 99) +contextual only [State.readLow, h, State.each_good, State.setN_good, good_ite,
    good_mk_iff, good_parts, good_foldl, good_foldl1, good_ite1, implies_true]

theorem State.readOther_good {w : Win} {a : Nat} (h : Good k s) : Good k (State.readOther s w a) := by
  unfold State.readOther
  split <;> simp (maxDischargeDepth := 99) +contextual only [h, State.clearRc_good, good_ite, good_mk_iff, good_parts,
    good_foldl, good_foldl1, good_ite1, implies_true]

theorem State.readReg_good {w : Win} {a : Nat} (h : Good k s) : Good k (State.readReg s w a) := by
  simp (maxDischargeDepth := 99) only [State.readReg, h, State.uartPop_good, State.readCoef_good, State.dataRead_good,
    State.readLow_good, State.readOther_good, State.readHostStat_good, good_ite, good_mk_iff, good_parts]

theorem State.wrongWidth_good {w : Win} {write : Bool} {be a : Nat} (h : Good k s) : Good k (State.wrongWidth s w write be
    a) := by
  simp (maxDischargeDepth := 99) only [State.wrongWidth, h, State.setN_good, good_ite, good_mk_iff, good_parts]

theorem execIrqForce_good {w : Win} {page : Nat} {v : Word} (h : Good k s) : GoodRes k (execIrqForce w page v s) := by
  unfold execIrqForce
  refine goodRes_next.mpr ?_
  split <;> simp (maxDischargeDepth := 99) +contextual only [h, State.irqForce_good, State.hostGuard_good, good_ite,
    good_mk_iff, good_parts, goodRes_next, good_foldl, good_foldl1, good_ite1, implies_true]

theorem execWrongWidthAccess_good {w : Win} {write : Bool} {be a : Nat} (h : Good k s) : GoodRes k (execWrongWidthAccess w
    write be a s) := by
  simp (maxDischargeDepth := 99) only [execWrongWidthAccess, h, State.wrongWidth_good, good_ite, good_mk_iff, good_parts,
    goodRes_next]

theorem execClearOnRead_good {w : Win} {a : Nat} (h : Good k s) : GoodRes k (execClearOnRead w a s) := by
  simp (maxDischargeDepth := 99) +contextual only [execClearOnRead, h, State.readReg_good, State.hostGuard_good, good_ite,
    good_mk_iff, good_parts, goodRes_next, good_foldl, good_foldl1, good_ite1, implies_true]

theorem execCounterLowRead_good {w : Win} {a : Nat} (h : Good k s) : GoodRes k (execCounterLowRead w a s) := by
  simp (maxDischargeDepth := 99) +contextual only [execCounterLowRead, h, State.readLow_good, State.readReg_good,
    State.hostGuard_good, good_ite, good_mk_iff, good_parts, goodRes_next, good_foldl, good_foldl1, good_ite1,
    implies_true]

theorem execRegisterWrite_good {w : Win} {a : Nat} {v : Word} (h : Good k s) : GoodRes k (execRegisterWrite w a v s) := by
  simp (maxDischargeDepth := 99) +contextual only [execRegisterWrite, h, State.regWrite_good, State.hostGuard_good,
    good_ite, good_mk_iff, good_parts, goodRes_next, good_foldl, good_foldl1, good_ite1, implies_true]

theorem execDeniedRead_good {w : Win} {a : Nat} (h : Good k s) : GoodRes k (execDeniedRead w a s) := by
  simp (maxDischargeDepth := 99) +contextual only [execDeniedRead, h, State.readReg_good, State.hostGuard_good, good_ite,
    good_mk_iff, good_parts, goodRes_next, good_foldl, good_foldl1, good_ite1, implies_true]

end Sys2Proof.Machine
end

