-- ==== Sys2Proof/Laws/KeepFrame.lean ====
section
/-! SUPPORT. The operations of Machine/Frame.lean keep what `Good` says. -/

namespace Sys2Proof.Machine
open Sys2Proof

set_option Elab.async false
set_option linter.unusedSimpArgs false
set_option linter.unusedVariables false
set_option linter.unreachableTactic false
set_option linter.unusedTactic false

variable {k : Keep} {s : State}

theorem State.linePass_good {n : Nat} {o : LineOut} (h : Good k s) : Good k (State.linePass s n o) := by
  unfold State.linePass
  repeat' first
    | with_reducible assumption
    | simp (maxDischargeDepth := 99) +contextual only [h, State.eceLine_good, State.storeSamples_good,
      State.jnlFrame_good, State.sageLine_good, good_ite, good_mk_iff, good_parts, good_foldl, good_foldl1, good_ite1,
      implies_true]
    | split

theorem State.openFrame_good {n : Nat} (h : Good k s) : Good k (State.openFrame s n) := by
  simp (maxDischargeDepth := 99) +contextual only [State.openFrame, h, State.turnOpen_good, State.linkOpen_good,
    State.bgFrame_good, State.timeOpen_good, State.linePass_good, State.jbeOpen_good, State.sageOpen_good,
    State.ldcOpen_good, State.each_good, State.jbeData_good, State.ciphOpen_good, State.eceOpen_good, State.linkDone_good,
    State.txSlots_good, State.jbeBound_good, State.thymeOpen_good, State.rhWindow_good, good_ite, good_mk_iff, good_parts,
    good_foldl, good_foldl1, good_ite1, implies_true]

theorem State.stepSec_good {n m : Nat} (h : Good k s) : Good k (State.stepSec s n m) := by
  unfold State.stepSec
  split <;> simp (maxDischargeDepth := 99) +contextual only [h, State.setN_good, good_ite, good_mk_iff, good_parts,
    good_foldl, good_foldl1, good_ite1, implies_true]

theorem State.dpllStep_good (h : Good k s) : Good k (State.dpllStep s) := by
  simp (maxDischargeDepth := 99) only [State.dpllStep, h, State.stepSec_good, State.openFrame_good, State.setFld_good,
    State.showPhase_good, State.setN_good, good_ite, good_mk_iff, good_parts]

theorem execFrameTick_good (h : Good k s) : GoodRes k (execFrameTick s) := by
  simp (maxDischargeDepth := 99) only [execFrameTick, h, State.openFrame_good, good_ite, good_mk_iff, good_parts,
    goodRes_next]

theorem execDpllStep_good {err : Int} (h : Good k s) : GoodRes k (execDpllStep err s) := by
  simp (maxDischargeDepth := 99) only [execDpllStep, h, State.dpllStep_good, good_ite, good_mk_iff, good_parts,
    goodRes_next]

end Sys2Proof.Machine
end

