-- ==== Sys2Proof/Laws/KeepExec.lean ====
section
/-! SUPPORT. Every command answers a next state that keeps what `Good` says: a cold reset all but THERMTRIP_L, every other
command all of it. -/

namespace Sys2Proof.Machine
open Sys2Proof

set_option Elab.async false

variable {k : Keep} {s : State}

/-- Every command keeps it. -/
theorem exec_good {c : Instr} (hc : k.tr = true → c ≠ .coldReset) (h : Good k s) : GoodRes k (exec c s) := by
  cases c with
  | frameTick => exact execFrameTick_good h
  | ppsoutFall => exact execPpsoutFall_good h
  | ppsinEdge _ => exact execPpsinEdge_good h
  | ppsinMiss => exact execPpsinMiss_good h
  | ptpOffsetWrite _ _ => exact execPtpOffsetWrite_good h
  | sourceQualify _ => exact execSourceQualify_good h
  | sourceLost _ => exact execSourceLost_good h
  | revertiveSelect _ => exact execRevertiveSelect_good h
  | dpllLock => exact execDpllLock_good h
  | hoQualSet => exact execHoQualSet_good h
  | dpllStep _ => exact execDpllStep_good h
  | ptptSetArm _ _ => exact execPtptSetArm_good h
  | syncCtrlNow _ _ => exact execSyncCtrlNow_good h
  | atArm _ _ => exact execAtArm_good h
  | lsyncEdge _ => exact execLsyncEdge_good h
  | dsynciPulse _ _ _ => exact execDsynciPulse_good h
  | dsyncErr => exact execDsyncErr_good h
  | timeRst _ => exact execTimeRst_good h
  | ldiFrame _ _ _ => exact execLdiFrame_good h
  | ldoFrameStart _ => exact execLdoFrameStart_good h
  | linkEnSet _ _ => exact execLinkEnSet_good h
  | linkEnClear _ _ => exact execLinkEnClear_good h
  | tapScanStep _ => exact execTapScanStep_good h
  | linkUp _ => exact execLinkUp_good h
  | confirmTimeout _ => exact execConfirmTimeout_good h
  | clkLoss _ => exact execClkLoss_good h
  | fsErr _ => exact execFsErr_good h
  | syncLoss _ => exact execSyncLoss_good h
  | crcLimit _ => exact execCrcLimit_good h
  | clockRegularRetrain _ => exact execClockRegularRetrain_good h
  | noEyeRetry _ => exact execNoEyeRetry_good h
  | lnkCtrlRetrain _ _ _ => exact execLnkCtrlRetrain_good h
  | tapManWrite _ _ _ => exact execTapManWrite_good h
  | statusDebounce _ _ => exact execStatusDebounce_good h
  | cadenceStep _ => exact execCadenceStep_good h
  | lineSet _ _ _ _ _ _ _ _ => exact execLineSet_good h
  | lineRing _ _ _ _ _ => exact execLineRing_good h
  | lineRingStop _ _ => exact execLineRingStop_good h
  | linkMgmtSend _ _ _ _ => exact execLinkMgmtSend_good h
  | linkRetrain _ _ _ => exact execLinkRetrain_good h
  | linkRst _ _ => exact execLinkRst_good h
  | lineEnable _ _ _ => exact execLineEnable_good h
  | lineDisable _ _ => exact execLineDisable_good h
  | lineSetChange _ _ _ => exact execLineSetChange_good h
  | linePhaseWrite _ _ _ => exact execLinePhaseWrite_good h
  | lineBphWrite _ _ _ => exact execLineBphWrite_good h
  | ldcLinkSync _ _ _ => exact execLdcLinkSync_good h
  | ldcBankSync _ _ => exact execLdcBankSync_good h
  | swapRequest _ _ _ _ => exact execSwapRequest_good h
  | fadeEnd _ _ => exact execFadeEnd_good h
  | coefDataWrite _ _ _ => exact execCoefDataWrite_good h
  | coefDataRead _ _ => exact execCoefDataRead_good h
  | lineMeas _ _ _ _ _ _ => exact execLineMeas_good h
  | lineMeasDone _ => exact execLineMeasDone_good h
  | ldcRst _ _ => exact execLdcRst_good h
  | eceSubmit _ _ => exact execEceSubmit_good h
  | packetBlockDone _ => exact execPacketBlockDone_good h
  | focusPlace _ _ => exact execFocusPlace_good h
  | dtHangEnd _ _ => exact execDtHangEnd_good h
  | toneReenable _ _ => exact execToneReenable_good h
  | erleDrop _ _ => exact execErleDrop_good h
  | dtLong _ _ => exact execDtLong_good h
  | replayStart _ => exact execReplayStart_good h
  | replayFallback _ _ => exact execReplayFallback_good h
  | replayCatchUp _ _ => exact execReplayCatchUp_good h
  | comparisonEnd _ _ => exact execComparisonEnd_good h
  | eceFadeEnd _ _ => exact execEceFadeEnd_good h
  | eceAttach _ _ _ => exact execEceAttach_good h
  | eceModify _ _ _ => exact execEceModify_good h
  | eceDetach _ _ => exact execEceDetach_good h
  | eceQuery _ _ => exact execEceQuery_good h
  | eceReconverge _ _ _ => exact execEceReconverge_good h
  | eceLoad _ _ _ => exact execEceLoad_good h
  | eceSwap _ _ => exact execEceSwap_good h
  | eceRead _ _ _ _ => exact execEceRead_good h
  | eceRst _ _ => exact execEceRst_good h
  | sageSubmit _ _ => exact execSageSubmit_good h
  | sageBlockRead _ _ => exact execSageBlockRead_good h
  | sageAttach _ _ _ => exact execSageAttach_good h
  | sageModify _ _ _ => exact execSageModify_good h
  | sageDetach _ _ => exact execSageDetach_good h
  | sageQuery _ _ => exact execSageQuery_good h
  | sageRst _ _ => exact execSageRst_good h
  | ctxOpen _ _ => exact execCtxOpen_good h
  | ctxModify _ _ _ => exact execCtxModify_good h
  | ctxClose _ _ => exact execCtxClose_good h
  | ctxQuery _ _ => exact execCtxQuery_good h
  | ctxBindLine _ _ _ => exact execCtxBindLine_good h
  | ctxUnbindLine _ _ => exact execCtxUnbindLine_good h
  | ctxJoin _ _ _ _ => exact execCtxJoin_good h
  | ctxSplit _ _ => exact execCtxSplit_good h
  | ctxSetTemplate _ _ _ => exact execCtxSetTemplate_good h
  | ctxSendEvent _ _ _ _ _ => exact execCtxSendEvent_good h
  | ctxStats _ _ _ => exact execCtxStats_good h
  | rxPacketJudge _ => exact execRxPacketJudge_good h
  | adaptWindowEnd _ => exact execAdaptWindowEnd_good h
  | rxEventTimeout _ => exact execRxEventTimeout_good h
  | ringApply _ => exact execRingApply_good h
  | preTxTake _ => exact execPreTxTake_good h
  | jnlSubmit _ _ => exact execJnlSubmit_good h
  | thymeBlockCode _ => exact execThymeBlockCode_good h
  | thymeSlotWrite => exact execThymeSlotWrite_good h
  | thymeSet _ _ _ => exact execThymeSet_good h
  | thymeRead _ _ _ _ _ _ _ => exact execThymeRead_good h
  | thymeCopy _ _ _ _ _ _ _ => exact execThymeCopy_good h
  | thymeStop _ _ => exact execThymeStop_good h
  | thymeQuery _ _ => exact execThymeQuery_good h
  | thymeCode _ _ => exact execThymeCode_good h
  | thymeCodeDone => exact execThymeCodeDone_good h
  | thymeKey _ _ => exact execThymeKey_good h
  | thymeEnable _ _ => exact execThymeEnable_good h
  | thymeDisable _ _ => exact execThymeDisable_good h
  | thymeRst _ => exact execThymeRst_good h
  | mpy _ => exact execMpy_good h
  | mac _ => exact execMac_good h
  | msu _ => exact execMsu_good h
  | add _ => exact execAdd_good h
  | sub _ => exact execSub_good h
  | adds _ => exact execAdds_good h
  | subs _ => exact execSubs_good h
  | add2 _ => exact execAdd2_good h
  | sub2 _ => exact execSub2_good h
  | adds2 _ => exact execAdds2_good h
  | subs2 _ => exact execSubs2_good h
  | and _ => exact execAnd_good h
  | or _ => exact execOr_good h
  | xor _ => exact execXor_good h
  | andn _ => exact execAndn_good h
  | min _ => exact execMin_good h
  | max _ => exact execMax_good h
  | abs _ => exact execAbs_good h
  | neg _ => exact execNeg_good h
  | cmp _ => exact execCmp_good h
  | aadd _ => exact execAadd_good h
  | asub _ => exact execAsub_good h
  | aneg _ => exact execAneg_good h
  | aabs _ => exact execAabs_good h
  | aclr _ => exact execAclr_good h
  | ald _ => exact execAld_good h
  | aldh _ => exact execAldh_good h
  | amov _ => exact execAmov_good h
  | ash _ => exact execAsh_good h
  | lsh _ => exact execLsh_good h
  | rot _ => exact execRot_good h
  | ashs _ => exact execAshs_good h
  | ash2 _ => exact execAsh2_good h
  | aash _ => exact execAash_good h
  | exp _ => exact execExp_good h
  | exp16 _ => exact execExp16_good h
  | expb _ => exact execExpb_good h
  | expb2 _ => exact execExpb2_good h
  | norm _ => exact execNorm_good h
  | aexp _ => exact execAexp_good h
  | anorm _ => exact execAnorm_good h
  | asat _ => exact execAsat_good h
  | arnd _ => exact execArnd_good h
  | amv _ => exact execAmv_good h
  | dmov _ => exact execDmov_good h
  | ld _ => exact execLd_good h
  | st _ => exact execSt_good h
  | sta _ => exact execSta_good h
  | lea _ => exact execLea_good h
  | push _ => exact execPush_good h
  | pop _ => exact execPop_good h
  | mov _ => exact execMov_good h
  | ldi _ => exact execLdi_good h
  | ldih _ => exact execLdih_good h
  | br _ => exact execBr_good h
  | call _ => exact execCall_good h
  | jmp _ => exact execJmp_good h
  | calli _ => exact execCalli_good h
  | rts _ => exact execRts_good h
  | rti _ => exact execRti_good h
  | loop _ => exact execLoop_good h
  | loopEndAction _ => exact execLoopEndAction_good h
  | take _ => exact execTake_good h
  | wait _ => exact execWait_good h
  | trap _ => exact execTrap_good h
  | halt _ => exact execHalt_good h
  | nop _ => exact execNop_good h
  | interruptEntry _ => exact execInterruptEntry_good h
  | coreTimerExpire _ => exact execCoreTimerExpire_good h
  | wdog _ => exact execWdog_good h
  | dbSend _ _ => exact execDbSend_good h
  | done _ _ => exact execDone_good h
  | dmaGo _ _ => exact execDmaGo_good h
  | dmaTransferDone _ => exact execDmaTransferDone_good h
  | codeLoad _ _ _ _ => exact execCodeLoad_good h
  | coreStart _ _ => exact execCoreStart_good h
  | coreStop _ _ => exact execCoreStop_good h
  | coreDrain _ _ => exact execCoreDrain_good h
  | clusRst _ _ => exact execClusRst_good h
  | operandAccept => exact execOperandAccept_good h
  | dispatchPeriod _ => exact execDispatchPeriod_good h
  | movePromotion _ => exact execMovePromotion_good h
  | hourglassFire _ => exact execHourglassFire_good h
  | post => exact execPost_good h
  | timerSet => exact execTimerSet_good h
  | timerCancel => exact execTimerCancel_good h
  | sysPost _ _ => exact execSysPost_good h
  | sysflowDisable _ _ => exact execSysflowDisable_good h
  | turnRst _ => exact execTurnRst_good h
  | queueDataWrite _ _ _ => exact execQueueDataWrite_good h
  | commit _ _ _ => exact execCommit_good h
  | abort _ _ _ => exact execAbort_good h
  | reservationTimeout _ => exact execReservationTimeout_good h
  | queueDataRead _ _ => exact execQueueDataRead_good h
  | qpCommit _ _ => exact execQpCommit_good h
  | commitAccept _ => exact execCommitAccept_good h
  | qpPop _ => exact execQpPop_good h
  | qflush _ _ => exact execQflush_good h
  | qcfgEnable _ _ _ _ => exact execQcfgEnable_good h
  | qcfgDisable _ _ _ => exact execQcfgDisable_good h
  | qcfgResize _ _ _ _ => exact execQcfgResize_good h
  | queueResizeApply _ => exact execQueueResizeApply_good h
  | commandTake _ => exact execCommandTake_good h
  | responseWrite _ => exact execResponseWrite_good h
  | eventPost _ => exact execEventPost_good h
  | qmRst _ => exact execQmRst_good h
  | srtpRxPacket _ _ => exact execSrtpRxPacket_good h
  | srtpTxPacket _ _ => exact execSrtpTxPacket_good h
  | ciphJournalSlot _ _ => exact execCiphJournalSlot_good h
  | ciphJobTake _ => exact execCiphJobTake_good h
  | ciphJobDone _ _ => exact execCiphJobDone_good h
  | keySrtp _ _ _ _ _ => exact execKeySrtp_good h
  | keySrtpClear _ _ _ => exact execKeySrtpClear_good h
  | keySlotLoad _ _ _ _ => exact execKeySlotLoad_good h
  | keySlotGen _ _ _ _ _ _ _ => exact execKeySlotGen_good h
  | keySlotClear _ _ _ => exact execKeySlotClear_good h
  | keySlotQuery _ _ _ => exact execKeySlotQuery_good h
  | srtpQuery _ _ _ => exact execSrtpQuery_good h
  | ciphLockSet _ _ => exact execCiphLockSet_good h
  | ciphRst _ _ => exact execCiphRst_good h
  | ciphRebuilt _ => exact execCiphRebuilt_good h
  | macRxFrame _ _ => exact execMacRxFrame_good h
  | pauseExpire _ => exact execPauseExpire_good h
  | pauseSend _ => exact execPauseSend_good h
  | pauseXon _ => exact execPauseXon_good h
  | preClassify _ => exact execPreClassify_good h
  | rxRingDma _ _ => exact execRxRingDma_good h
  | rxrTailWrite _ _ _ _ => exact execRxrTailWrite_good h
  | txrTailWrite _ _ _ _ => exact execTxrTailWrite_good h
  | rxRingDisable _ _ _ => exact execRxRingDisable_good h
  | macTxStart _ _ => exact execMacTxStart_good h
  | macTxDone _ => exact execMacTxDone_good h
  | txStale _ => exact execTxStale_good h
  | netLink _ _ _ => exact execNetLink_good h
  | netEntryAdd _ _ => exact execNetEntryAdd_good h
  | netEntryDel _ _ _ _ => exact execNetEntryDel_good h
  | netQuery _ => exact execNetQuery_good h
  | macRst _ _ => exact execMacRst_good h
  | preRst _ => exact execPreRst_good h
  | nmPortRequest _ _ _ _ _ _ => exact execNmPortRequest_good h
  | nmCommandSlot _ _ _ => exact execNmCommandSlot_good h
  | refreshDue _ => exact execRefreshDue_good h
  | refreshRateRead _ _ => exact execRefreshRateRead_good h
  | scrubRead _ _ => exact execScrubRead_good h
  | ceHourWindow _ => exact execCeHourWindow_good h
  | migrationStart => exact execMigrationStart_good h
  | pageCopy _ _ => exact execPageCopy_good h
  | retrainDue _ _ => exact execRetrainDue_good h
  | retrainStep _ _ _ => exact execRetrainStep_good h
  | maintRetire _ _ => exact execMaintRetire_good h
  | maintRetrain _ _ => exact execMaintRetrain_good h
  | trnGo _ _ => exact execTrnGo_good h
  | trnApply _ _ => exact execTrnApply_good h
  | selfRefreshEntry _ => exact execSelfRefreshEntry_good h
  | nmcRst _ => exact execNmcRst_good h
  | cxlPortEnable _ _ => exact execCxlPortEnable_good h
  | cxlPortDisable _ _ _ => exact execCxlPortDisable_good h
  | cxlTrainDone _ _ _ _ => exact execCxlTrainDone_good h
  | activate _ _ _ => exact execActivate_good h
  | xioGo _ _ => exact execXioGo_good h
  | xioComplete _ => exact execXioComplete_good h
  | decCommit _ _ _ => exact execDecCommit_good h
  | decUncommit _ _ => exact execDecUncommit_good h
  | cxlMemReadDone _ _ _ => exact execCxlMemReadDone_good h
  | cxlRecovery _ => exact execCxlRecovery_good h
  | cxlL0Return _ => exact execCxlL0Return_good h
  | recovTimeout _ _ => exact execRecovTimeout_good h
  | memTimeout _ _ => exact execMemTimeout_good h
  | cxlViral _ _ => exact execCxlViral_good h
  | cxlRst _ => exact execCxlRst_good h
  | rookLifecycle _ _ _ => exact execRookLifecycle_good h
  | rookRmaConsent _ => exact execRookRmaConsent_good h
  | rmaConsentEnd => exact execRmaConsentEnd_good h
  | otpGenWrite _ _ _ => exact execOtpGenWrite_good h
  | rollbackSet _ _ _ => exact execRollbackSet_good h
  | jnlGrant _ _ => exact execJnlGrant_good h
  | attest _ _ _ => exact execAttest_good h
  | auditMirror _ _ _ => exact execAuditMirror_good h
  | otpIdentity _ _ _ _ _ => exact execOtpIdentity_good h
  | otpRootWrite _ _ _ => exact execOtpRootWrite_good h
  | challenge _ => exact execChallenge_good h
  | mboxReset _ => exact execMboxReset_good h
  | mboxData _ _ => exact execMboxData_good h
  | sessionOpen _ _ => exact execSessionOpen_good h
  | sessionVerifyDone _ => exact execSessionVerifyDone_good h
  | sessionClose _ => exact execSessionClose_good h
  | sessionIdleTimeout _ => exact execSessionIdleTimeout_good h
  | protCommit _ => exact execProtCommit_good h
  | protLoad _ => exact execProtLoad_good h
  | auditBaseFix => exact execAuditBaseFix_good h
  | trngBlock _ => exact execTrngBlock_good h
  | trngRetest _ => exact execTrngRetest_good h
  | bootData _ _ => exact execBootData_good h
  | bootCtlStart _ => exact execBootCtlStart_good h
  | bootDone _ => exact execBootDone_good h
  | rookRst _ _ => exact execRookRst_good h
  | coldReset => exact execColdReset_good (Bool.eq_false_iff.mpr fun e => hc e rfl) h
  | warmReset => exact execWarmReset_good h
  | swWarm _ _ => exact execSwWarm_good h
  | pcieHotReset => exact execPcieHotReset_good h
  | hostDmaDescriptor _ _ _ _ => exact execHostDmaDescriptor_good h
  | dmaTailWrite _ _ _ => exact execDmaTailWrite_good h
  | ringCfgEnable _ _ _ => exact execRingCfgEnable_good h
  | dmaStatRead _ _ => exact execDmaStatRead_good h
  | vectorFire _ _ => exact execVectorFire_good h
  | vecRearm _ _ => exact execVecRearm_good h
  | msixTableWrite _ _ _ => exact execMsixTableWrite_good h
  | blockSleep _ _ => exact execBlockSleep_good h
  | blockWake _ => exact execBlockWake_good h
  | tempSample _ => exact execTempSample_good h
  | thermtrip => exact execThermtrip_good h
  | topRst _ => exact execTopRst_good h
  | jbeRst _ => exact execJbeRst_good h
  | hostRst _ => exact execHostRst_good h
  | pwrRst _ => exact execPwrRst_good h
  | miscRst _ => exact execMiscRst_good h
  | irqForce _ _ _ => exact execIrqForce_good h
  | wrongWidthAccess _ _ _ _ => exact execWrongWidthAccess_good h
  | clearOnRead _ _ => exact execClearOnRead_good h
  | counterLowRead _ _ => exact execCounterLowRead_good h
  | registerWrite _ _ _ => exact execRegisterWrite_good h
  | spiRead _ _ => exact execSpiRead_good h
  | spiProgram _ _ => exact execSpiProgram_good h
  | spiErase _ _ => exact execSpiErase_good h
  | spiRegisterRead _ _ => exact execSpiRegisterRead_good h
  | spiDone _ _ => exact execSpiDone_good h
  | uartTx _ _ => exact execUartTx_good h
  | uartRx _ => exact execUartRx_good h
  | uartRxByte _ _ => exact execUartRxByte_good h
  | uartTxByte => exact execUartTxByte_good h
  | i2cRead _ _ _ => exact execI2cRead_good h
  | i2cWrite _ _ _ => exact execI2cWrite_good h
  | i2cDone _ _ _ _ => exact execI2cDone_good h
  | gpioEdge _ => exact execGpioEdge_good h
  | resetRelease _ _ _ _ => exact execResetRelease_good h
  | pcieLinkUp _ _ => exact execPcieLinkUp_good h
  | configSpaceWrite _ _ _ => exact execConfigSpaceWrite_good h
  | deniedRead _ _ => exact execDeniedRead_good h

end Sys2Proof.Machine
end

