-- ==== Sys2Proof/Laws/Ldc.lean ====
section
/-! SUPPORT. What a write of LINE_CFG can do: an accepted value is taken, any other is recorded as refused. -/

namespace Sys2Proof.Machine
open Sys2Proof

variable {s : State} {i : Nat} {v : Word}

/-- An accepted value is taken. -/
theorem writeLineCfg_taken (h : s.lineCfgStatus i (v &&& 0x873F7F00#32).toNat = 0) :
    s.writeLineCfg i v = s.lineCfgTaken i (v &&& 0x873F7F00#32).toNat := by
  unfold State.writeLineCfg State.lineCfgTaken
  generalize (v &&& 0x873F7F00#32).toNat = n at h ⊢
  simp only [h, stOk, ne_eq, not_true_eq_false, if_false, ldcPage]; rfl

/-- A refused value is recorded with its status. -/
theorem writeLineCfg_refused (h : s.lineCfgStatus i (v &&& 0x873F7F00#32).toNat ≠ 0) :
    s.writeLineCfg i v = s.ldcErr (i / 128) (s.lineCfgStatus i (v &&& 0x873F7F00#32).toNat) (lineCfg i) := by
  unfold State.writeLineCfg
  generalize (v &&& 0x873F7F00#32).toNat = n at h ⊢
  simp only [h, stOk, ne_eq, not_false_eq_true, if_true]

end Sys2Proof.Machine
end

