-- ==== Sys2Proof/Laws/Misc.lean ====
section
/-! SUPPORT. The command words of the I²C rows: GO and READ are as the row has them, the other fields are the operand's. -/

namespace Sys2Proof.Machine
open Sys2Proof

theorem i2cWord_toNat (v : Word) (r : Bool) : (i2cWord v r).toNat = bitSet (putField v.toNat 16 1 (b2n r)) 31 := by
  have := v.isLt
  unfold i2cWord w32
  rw [BitVec.toNat_ofNat, Nat.mod_eq_of_lt]
  unfold bitSet bitOf putField b2n
  cases r <;> simp <;> split <;> omega

theorem i2cWord_go (v : Word) (r : Bool) : bitOf (i2cWord v r).toNat 31 = true := by
  have := v.isLt
  rw [i2cWord_toNat]
  unfold bitSet bitOf putField b2n
  cases r <;> simp <;> split <;> omega

theorem i2cWord_read (v : Word) (r : Bool) : bitOf (i2cWord v r).toNat 16 = r := by
  have := v.isLt
  rw [i2cWord_toNat]
  unfold bitSet bitOf putField b2n
  cases r <;> simp <;> split <;> omega

theorem i2cWord_len (v : Word) (r : Bool) : (i2cWord v r).toNat % 64 = v.toNat % 64 := by
  have := v.isLt
  rw [i2cWord_toNat]
  unfold bitSet bitOf putField b2n
  cases r <;> simp <;> split <;> omega

theorem i2cWord_addr (v : Word) (r : Bool) : fieldOf (i2cWord v r).toNat 8 7 = fieldOf v.toNat 8 7 := by
  have := v.isLt
  rw [i2cWord_toNat]
  unfold bitSet bitOf putField b2n fieldOf
  cases r <;> simp <;> split <;> omega

end Sys2Proof.Machine
end

