-- ==== Sys2Proof/Laws/State.lean ====
section
/-! SUPPORT. What each update of the state leaves: one lemma for each field and update, true by definition, and what reads after a
write of a table give. -/

namespace Sys2Proof.Machine
open Sys2Proof

set_option Elab.async false

variable {s : State}

section
variable {a : Nat}
variable {v : Word}
@[simp] theorem State.setReg_mem : (s.setReg a v).mem = s.mem := rfl
@[simp] theorem State.setReg_poison : (s.setReg a v).poison = s.poison := rfl
@[simp] theorem State.setReg_hostMem : (s.setReg a v).hostMem = s.hostMem := rfl
@[simp] theorem State.setReg_rdata : (s.setReg a v).rdata = s.rdata := rfl
@[simp] theorem State.setReg_draws : (s.setReg a v).draws = s.draws := rfl
@[simp] theorem State.setReg_time : (s.setReg a v).time = s.time := rfl
@[simp] theorem State.setReg_link : (s.setReg a v).link = s.link := rfl
@[simp] theorem State.setReg_ldc : (s.setReg a v).ldc = s.ldc := rfl
@[simp] theorem State.setReg_ece : (s.setReg a v).ece = s.ece := rfl
@[simp] theorem State.setReg_sage : (s.setReg a v).sage = s.sage := rfl
@[simp] theorem State.setReg_jbe : (s.setReg a v).jbe = s.jbe := rfl
@[simp] theorem State.setReg_thyme : (s.setReg a v).thyme = s.thyme := rfl
@[simp] theorem State.setReg_ciph : (s.setReg a v).ciph = s.ciph := rfl
@[simp] theorem State.setReg_net : (s.setReg a v).net = s.net := rfl
@[simp] theorem State.setReg_nmc : (s.setReg a v).nmc = s.nmc := rfl
@[simp] theorem State.setReg_cxl : (s.setReg a v).cxl = s.cxl := rfl
@[simp] theorem State.setReg_rook : (s.setReg a v).rook = s.rook := rfl
@[simp] theorem State.setReg_host : (s.setReg a v).host = s.host := rfl
@[simp] theorem State.setReg_core : (s.setReg a v).core = s.core := rfl
@[simp] theorem State.setReg_turn : (s.setReg a v).turn = s.turn := rfl
@[simp] theorem State.setReg_qm : (s.setReg a v).qm = s.qm := rfl
@[simp] theorem State.setReg_pending : (s.setReg a v).pending = s.pending := rfl
end

section
variable {a n : Nat}
@[simp] theorem State.setN_mem : (s.setN a n).mem = s.mem := rfl
@[simp] theorem State.setN_poison : (s.setN a n).poison = s.poison := rfl
@[simp] theorem State.setN_hostMem : (s.setN a n).hostMem = s.hostMem := rfl
@[simp] theorem State.setN_rdata : (s.setN a n).rdata = s.rdata := rfl
@[simp] theorem State.setN_draws : (s.setN a n).draws = s.draws := rfl
@[simp] theorem State.setN_time : (s.setN a n).time = s.time := rfl
@[simp] theorem State.setN_link : (s.setN a n).link = s.link := rfl
@[simp] theorem State.setN_ldc : (s.setN a n).ldc = s.ldc := rfl
@[simp] theorem State.setN_ece : (s.setN a n).ece = s.ece := rfl
@[simp] theorem State.setN_sage : (s.setN a n).sage = s.sage := rfl
@[simp] theorem State.setN_jbe : (s.setN a n).jbe = s.jbe := rfl
@[simp] theorem State.setN_thyme : (s.setN a n).thyme = s.thyme := rfl
@[simp] theorem State.setN_ciph : (s.setN a n).ciph = s.ciph := rfl
@[simp] theorem State.setN_net : (s.setN a n).net = s.net := rfl
@[simp] theorem State.setN_nmc : (s.setN a n).nmc = s.nmc := rfl
@[simp] theorem State.setN_cxl : (s.setN a n).cxl = s.cxl := rfl
@[simp] theorem State.setN_rook : (s.setN a n).rook = s.rook := rfl
@[simp] theorem State.setN_host : (s.setN a n).host = s.host := rfl
@[simp] theorem State.setN_core : (s.setN a n).core = s.core := rfl
@[simp] theorem State.setN_turn : (s.setN a n).turn = s.turn := rfl
@[simp] theorem State.setN_qm : (s.setN a n).qm = s.qm := rfl
@[simp] theorem State.setN_pending : (s.setN a n).pending = s.pending := rfl
end

section
variable {a lo w v : Nat}
@[simp] theorem State.setFld_mem : (s.setFld a lo w v).mem = s.mem := rfl
@[simp] theorem State.setFld_poison : (s.setFld a lo w v).poison = s.poison := rfl
@[simp] theorem State.setFld_hostMem : (s.setFld a lo w v).hostMem = s.hostMem := rfl
@[simp] theorem State.setFld_rdata : (s.setFld a lo w v).rdata = s.rdata := rfl
@[simp] theorem State.setFld_draws : (s.setFld a lo w v).draws = s.draws := rfl
@[simp] theorem State.setFld_time : (s.setFld a lo w v).time = s.time := rfl
@[simp] theorem State.setFld_link : (s.setFld a lo w v).link = s.link := rfl
@[simp] theorem State.setFld_ldc : (s.setFld a lo w v).ldc = s.ldc := rfl
@[simp] theorem State.setFld_ece : (s.setFld a lo w v).ece = s.ece := rfl
@[simp] theorem State.setFld_sage : (s.setFld a lo w v).sage = s.sage := rfl
@[simp] theorem State.setFld_jbe : (s.setFld a lo w v).jbe = s.jbe := rfl
@[simp] theorem State.setFld_thyme : (s.setFld a lo w v).thyme = s.thyme := rfl
@[simp] theorem State.setFld_ciph : (s.setFld a lo w v).ciph = s.ciph := rfl
@[simp] theorem State.setFld_net : (s.setFld a lo w v).net = s.net := rfl
@[simp] theorem State.setFld_nmc : (s.setFld a lo w v).nmc = s.nmc := rfl
@[simp] theorem State.setFld_cxl : (s.setFld a lo w v).cxl = s.cxl := rfl
@[simp] theorem State.setFld_rook : (s.setFld a lo w v).rook = s.rook := rfl
@[simp] theorem State.setFld_host : (s.setFld a lo w v).host = s.host := rfl
@[simp] theorem State.setFld_core : (s.setFld a lo w v).core = s.core := rfl
@[simp] theorem State.setFld_turn : (s.setFld a lo w v).turn = s.turn := rfl
@[simp] theorem State.setFld_qm : (s.setFld a lo w v).qm = s.qm := rfl
@[simp] theorem State.setFld_pending : (s.setFld a lo w v).pending = s.pending := rfl
end

section
variable {a j : Nat}
@[simp] theorem State.addN_mem : (s.addN a j).mem = s.mem := rfl
@[simp] theorem State.addN_poison : (s.addN a j).poison = s.poison := rfl
@[simp] theorem State.addN_hostMem : (s.addN a j).hostMem = s.hostMem := rfl
@[simp] theorem State.addN_rdata : (s.addN a j).rdata = s.rdata := rfl
@[simp] theorem State.addN_draws : (s.addN a j).draws = s.draws := rfl
@[simp] theorem State.addN_time : (s.addN a j).time = s.time := rfl
@[simp] theorem State.addN_link : (s.addN a j).link = s.link := rfl
@[simp] theorem State.addN_ldc : (s.addN a j).ldc = s.ldc := rfl
@[simp] theorem State.addN_ece : (s.addN a j).ece = s.ece := rfl
@[simp] theorem State.addN_sage : (s.addN a j).sage = s.sage := rfl
@[simp] theorem State.addN_jbe : (s.addN a j).jbe = s.jbe := rfl
@[simp] theorem State.addN_thyme : (s.addN a j).thyme = s.thyme := rfl
@[simp] theorem State.addN_ciph : (s.addN a j).ciph = s.ciph := rfl
@[simp] theorem State.addN_net : (s.addN a j).net = s.net := rfl
@[simp] theorem State.addN_nmc : (s.addN a j).nmc = s.nmc := rfl
@[simp] theorem State.addN_cxl : (s.addN a j).cxl = s.cxl := rfl
@[simp] theorem State.addN_rook : (s.addN a j).rook = s.rook := rfl
@[simp] theorem State.addN_host : (s.addN a j).host = s.host := rfl
@[simp] theorem State.addN_core : (s.addN a j).core = s.core := rfl
@[simp] theorem State.addN_turn : (s.addN a j).turn = s.turn := rfl
@[simp] theorem State.addN_qm : (s.addN a j).qm = s.qm := rfl
@[simp] theorem State.addN_pending : (s.addN a j).pending = s.pending := rfl
end

section
variable {a : Nat}
@[simp] theorem State.bump_mem : (s.bump a).mem = s.mem := rfl
@[simp] theorem State.bump_poison : (s.bump a).poison = s.poison := rfl
@[simp] theorem State.bump_hostMem : (s.bump a).hostMem = s.hostMem := rfl
@[simp] theorem State.bump_rdata : (s.bump a).rdata = s.rdata := rfl
@[simp] theorem State.bump_draws : (s.bump a).draws = s.draws := rfl
@[simp] theorem State.bump_time : (s.bump a).time = s.time := rfl
@[simp] theorem State.bump_link : (s.bump a).link = s.link := rfl
@[simp] theorem State.bump_ldc : (s.bump a).ldc = s.ldc := rfl
@[simp] theorem State.bump_ece : (s.bump a).ece = s.ece := rfl
@[simp] theorem State.bump_sage : (s.bump a).sage = s.sage := rfl
@[simp] theorem State.bump_jbe : (s.bump a).jbe = s.jbe := rfl
@[simp] theorem State.bump_thyme : (s.bump a).thyme = s.thyme := rfl
@[simp] theorem State.bump_ciph : (s.bump a).ciph = s.ciph := rfl
@[simp] theorem State.bump_net : (s.bump a).net = s.net := rfl
@[simp] theorem State.bump_nmc : (s.bump a).nmc = s.nmc := rfl
@[simp] theorem State.bump_cxl : (s.bump a).cxl = s.cxl := rfl
@[simp] theorem State.bump_rook : (s.bump a).rook = s.rook := rfl
@[simp] theorem State.bump_host : (s.bump a).host = s.host := rfl
@[simp] theorem State.bump_core : (s.bump a).core = s.core := rfl
@[simp] theorem State.bump_turn : (s.bump a).turn = s.turn := rfl
@[simp] theorem State.bump_qm : (s.bump a).qm = s.qm := rfl
@[simp] theorem State.bump_pending : (s.bump a).pending = s.pending := rfl
end

section
variable {a j : Nat}
@[simp] theorem State.add64_mem : (s.add64 a j).mem = s.mem := rfl
@[simp] theorem State.add64_poison : (s.add64 a j).poison = s.poison := rfl
@[simp] theorem State.add64_hostMem : (s.add64 a j).hostMem = s.hostMem := rfl
@[simp] theorem State.add64_rdata : (s.add64 a j).rdata = s.rdata := rfl
@[simp] theorem State.add64_draws : (s.add64 a j).draws = s.draws := rfl
@[simp] theorem State.add64_time : (s.add64 a j).time = s.time := rfl
@[simp] theorem State.add64_link : (s.add64 a j).link = s.link := rfl
@[simp] theorem State.add64_ldc : (s.add64 a j).ldc = s.ldc := rfl
@[simp] theorem State.add64_ece : (s.add64 a j).ece = s.ece := rfl
@[simp] theorem State.add64_sage : (s.add64 a j).sage = s.sage := rfl
@[simp] theorem State.add64_jbe : (s.add64 a j).jbe = s.jbe := rfl
@[simp] theorem State.add64_thyme : (s.add64 a j).thyme = s.thyme := rfl
@[simp] theorem State.add64_ciph : (s.add64 a j).ciph = s.ciph := rfl
@[simp] theorem State.add64_net : (s.add64 a j).net = s.net := rfl
@[simp] theorem State.add64_nmc : (s.add64 a j).nmc = s.nmc := rfl
@[simp] theorem State.add64_cxl : (s.add64 a j).cxl = s.cxl := rfl
@[simp] theorem State.add64_rook : (s.add64 a j).rook = s.rook := rfl
@[simp] theorem State.add64_host : (s.add64 a j).host = s.host := rfl
@[simp] theorem State.add64_core : (s.add64 a j).core = s.core := rfl
@[simp] theorem State.add64_turn : (s.add64 a j).turn = s.turn := rfl
@[simp] theorem State.add64_qm : (s.add64 a j).qm = s.qm := rfl
@[simp] theorem State.add64_pending : (s.add64 a j).pending = s.pending := rfl
end

section
variable {p b : Nat}
@[simp] theorem State.irq_mem : (s.irq p b).mem = s.mem := rfl
@[simp] theorem State.irq_poison : (s.irq p b).poison = s.poison := rfl
@[simp] theorem State.irq_hostMem : (s.irq p b).hostMem = s.hostMem := rfl
@[simp] theorem State.irq_rdata : (s.irq p b).rdata = s.rdata := rfl
@[simp] theorem State.irq_draws : (s.irq p b).draws = s.draws := rfl
@[simp] theorem State.irq_time : (s.irq p b).time = s.time := rfl
@[simp] theorem State.irq_link : (s.irq p b).link = s.link := rfl
@[simp] theorem State.irq_ldc : (s.irq p b).ldc = s.ldc := rfl
@[simp] theorem State.irq_ece : (s.irq p b).ece = s.ece := rfl
@[simp] theorem State.irq_sage : (s.irq p b).sage = s.sage := rfl
@[simp] theorem State.irq_jbe : (s.irq p b).jbe = s.jbe := rfl
@[simp] theorem State.irq_thyme : (s.irq p b).thyme = s.thyme := rfl
@[simp] theorem State.irq_ciph : (s.irq p b).ciph = s.ciph := rfl
@[simp] theorem State.irq_net : (s.irq p b).net = s.net := rfl
@[simp] theorem State.irq_nmc : (s.irq p b).nmc = s.nmc := rfl
@[simp] theorem State.irq_cxl : (s.irq p b).cxl = s.cxl := rfl
@[simp] theorem State.irq_rook : (s.irq p b).rook = s.rook := rfl
@[simp] theorem State.irq_host : (s.irq p b).host = s.host := rfl
@[simp] theorem State.irq_core : (s.irq p b).core = s.core := rfl
@[simp] theorem State.irq_turn : (s.irq p b).turn = s.turn := rfl
@[simp] theorem State.irq_qm : (s.irq p b).qm = s.qm := rfl
@[simp] theorem State.irq_pending : (s.irq p b).pending = s.pending := rfl
end

section
variable {a v : Nat}
@[simp] theorem State.wr8_regs : (s.wr8 a v).regs = s.regs := rfl
@[simp] theorem State.wr8_poison : (s.wr8 a v).poison = s.poison := rfl
@[simp] theorem State.wr8_hostMem : (s.wr8 a v).hostMem = s.hostMem := rfl
@[simp] theorem State.wr8_rdata : (s.wr8 a v).rdata = s.rdata := rfl
@[simp] theorem State.wr8_draws : (s.wr8 a v).draws = s.draws := rfl
@[simp] theorem State.wr8_time : (s.wr8 a v).time = s.time := rfl
@[simp] theorem State.wr8_link : (s.wr8 a v).link = s.link := rfl
@[simp] theorem State.wr8_ldc : (s.wr8 a v).ldc = s.ldc := rfl
@[simp] theorem State.wr8_ece : (s.wr8 a v).ece = s.ece := rfl
@[simp] theorem State.wr8_sage : (s.wr8 a v).sage = s.sage := rfl
@[simp] theorem State.wr8_jbe : (s.wr8 a v).jbe = s.jbe := rfl
@[simp] theorem State.wr8_thyme : (s.wr8 a v).thyme = s.thyme := rfl
@[simp] theorem State.wr8_ciph : (s.wr8 a v).ciph = s.ciph := rfl
@[simp] theorem State.wr8_net : (s.wr8 a v).net = s.net := rfl
@[simp] theorem State.wr8_nmc : (s.wr8 a v).nmc = s.nmc := rfl
@[simp] theorem State.wr8_cxl : (s.wr8 a v).cxl = s.cxl := rfl
@[simp] theorem State.wr8_rook : (s.wr8 a v).rook = s.rook := rfl
@[simp] theorem State.wr8_host : (s.wr8 a v).host = s.host := rfl
@[simp] theorem State.wr8_core : (s.wr8 a v).core = s.core := rfl
@[simp] theorem State.wr8_turn : (s.wr8 a v).turn = s.turn := rfl
@[simp] theorem State.wr8_qm : (s.wr8 a v).qm = s.qm := rfl
@[simp] theorem State.wr8_pending : (s.wr8 a v).pending = s.pending := rfl
end

section
variable {a : Nat}
variable {l : List Nat}
@[simp] theorem State.wrBytes_regs : (s.wrBytes a l).regs = s.regs := rfl
@[simp] theorem State.wrBytes_hostMem : (s.wrBytes a l).hostMem = s.hostMem := rfl
@[simp] theorem State.wrBytes_rdata : (s.wrBytes a l).rdata = s.rdata := rfl
@[simp] theorem State.wrBytes_draws : (s.wrBytes a l).draws = s.draws := rfl
@[simp] theorem State.wrBytes_time : (s.wrBytes a l).time = s.time := rfl
@[simp] theorem State.wrBytes_link : (s.wrBytes a l).link = s.link := rfl
@[simp] theorem State.wrBytes_ldc : (s.wrBytes a l).ldc = s.ldc := rfl
@[simp] theorem State.wrBytes_ece : (s.wrBytes a l).ece = s.ece := rfl
@[simp] theorem State.wrBytes_sage : (s.wrBytes a l).sage = s.sage := rfl
@[simp] theorem State.wrBytes_jbe : (s.wrBytes a l).jbe = s.jbe := rfl
@[simp] theorem State.wrBytes_thyme : (s.wrBytes a l).thyme = s.thyme := rfl
@[simp] theorem State.wrBytes_ciph : (s.wrBytes a l).ciph = s.ciph := rfl
@[simp] theorem State.wrBytes_net : (s.wrBytes a l).net = s.net := rfl
@[simp] theorem State.wrBytes_nmc : (s.wrBytes a l).nmc = s.nmc := rfl
@[simp] theorem State.wrBytes_cxl : (s.wrBytes a l).cxl = s.cxl := rfl
@[simp] theorem State.wrBytes_rook : (s.wrBytes a l).rook = s.rook := rfl
@[simp] theorem State.wrBytes_host : (s.wrBytes a l).host = s.host := rfl
@[simp] theorem State.wrBytes_core : (s.wrBytes a l).core = s.core := rfl
@[simp] theorem State.wrBytes_turn : (s.wrBytes a l).turn = s.turn := rfl
@[simp] theorem State.wrBytes_qm : (s.wrBytes a l).qm = s.qm := rfl
@[simp] theorem State.wrBytes_pending : (s.wrBytes a l).pending = s.pending := rfl
end

section
variable {a : Nat}
variable {b : Bool}
@[simp] theorem State.setPoison_regs : (s.setPoison a b).regs = s.regs := rfl
@[simp] theorem State.setPoison_mem : (s.setPoison a b).mem = s.mem := rfl
@[simp] theorem State.setPoison_hostMem : (s.setPoison a b).hostMem = s.hostMem := rfl
@[simp] theorem State.setPoison_rdata : (s.setPoison a b).rdata = s.rdata := rfl
@[simp] theorem State.setPoison_draws : (s.setPoison a b).draws = s.draws := rfl
@[simp] theorem State.setPoison_time : (s.setPoison a b).time = s.time := rfl
@[simp] theorem State.setPoison_link : (s.setPoison a b).link = s.link := rfl
@[simp] theorem State.setPoison_ldc : (s.setPoison a b).ldc = s.ldc := rfl
@[simp] theorem State.setPoison_ece : (s.setPoison a b).ece = s.ece := rfl
@[simp] theorem State.setPoison_sage : (s.setPoison a b).sage = s.sage := rfl
@[simp] theorem State.setPoison_jbe : (s.setPoison a b).jbe = s.jbe := rfl
@[simp] theorem State.setPoison_thyme : (s.setPoison a b).thyme = s.thyme := rfl
@[simp] theorem State.setPoison_ciph : (s.setPoison a b).ciph = s.ciph := rfl
@[simp] theorem State.setPoison_net : (s.setPoison a b).net = s.net := rfl
@[simp] theorem State.setPoison_nmc : (s.setPoison a b).nmc = s.nmc := rfl
@[simp] theorem State.setPoison_cxl : (s.setPoison a b).cxl = s.cxl := rfl
@[simp] theorem State.setPoison_rook : (s.setPoison a b).rook = s.rook := rfl
@[simp] theorem State.setPoison_host : (s.setPoison a b).host = s.host := rfl
@[simp] theorem State.setPoison_core : (s.setPoison a b).core = s.core := rfl
@[simp] theorem State.setPoison_turn : (s.setPoison a b).turn = s.turn := rfl
@[simp] theorem State.setPoison_qm : (s.setPoison a b).qm = s.qm := rfl
@[simp] theorem State.setPoison_pending : (s.setPoison a b).pending = s.pending := rfl
end

section
@[simp] theorem State.drawn_regs : (s.drawn).regs = s.regs := rfl
@[simp] theorem State.drawn_mem : (s.drawn).mem = s.mem := rfl
@[simp] theorem State.drawn_poison : (s.drawn).poison = s.poison := rfl
@[simp] theorem State.drawn_hostMem : (s.drawn).hostMem = s.hostMem := rfl
@[simp] theorem State.drawn_rdata : (s.drawn).rdata = s.rdata := rfl
@[simp] theorem State.drawn_time : (s.drawn).time = s.time := rfl
@[simp] theorem State.drawn_link : (s.drawn).link = s.link := rfl
@[simp] theorem State.drawn_ldc : (s.drawn).ldc = s.ldc := rfl
@[simp] theorem State.drawn_ece : (s.drawn).ece = s.ece := rfl
@[simp] theorem State.drawn_sage : (s.drawn).sage = s.sage := rfl
@[simp] theorem State.drawn_jbe : (s.drawn).jbe = s.jbe := rfl
@[simp] theorem State.drawn_thyme : (s.drawn).thyme = s.thyme := rfl
@[simp] theorem State.drawn_ciph : (s.drawn).ciph = s.ciph := rfl
@[simp] theorem State.drawn_net : (s.drawn).net = s.net := rfl
@[simp] theorem State.drawn_nmc : (s.drawn).nmc = s.nmc := rfl
@[simp] theorem State.drawn_cxl : (s.drawn).cxl = s.cxl := rfl
@[simp] theorem State.drawn_rook : (s.drawn).rook = s.rook := rfl
@[simp] theorem State.drawn_host : (s.drawn).host = s.host := rfl
@[simp] theorem State.drawn_core : (s.drawn).core = s.core := rfl
@[simp] theorem State.drawn_turn : (s.drawn).turn = s.turn := rfl
@[simp] theorem State.drawn_qm : (s.drawn).qm = s.qm := rfl
@[simp] theorem State.drawn_pending : (s.drawn).pending = s.pending := rfl
end

section
variable {op st : Nat}
variable {r : CmdRef} {l : List Nat} {b : Bool}
@[simp] theorem State.answer_regs : (s.answer r op st l b).regs = s.regs := rfl
@[simp] theorem State.answer_mem : (s.answer r op st l b).mem = s.mem := rfl
@[simp] theorem State.answer_poison : (s.answer r op st l b).poison = s.poison := rfl
@[simp] theorem State.answer_hostMem : (s.answer r op st l b).hostMem = s.hostMem := rfl
@[simp] theorem State.answer_rdata : (s.answer r op st l b).rdata = s.rdata := rfl
@[simp] theorem State.answer_draws : (s.answer r op st l b).draws = s.draws := rfl
@[simp] theorem State.answer_time : (s.answer r op st l b).time = s.time := rfl
@[simp] theorem State.answer_link : (s.answer r op st l b).link = s.link := rfl
@[simp] theorem State.answer_ldc : (s.answer r op st l b).ldc = s.ldc := rfl
@[simp] theorem State.answer_ece : (s.answer r op st l b).ece = s.ece := rfl
@[simp] theorem State.answer_sage : (s.answer r op st l b).sage = s.sage := rfl
@[simp] theorem State.answer_jbe : (s.answer r op st l b).jbe = s.jbe := rfl
@[simp] theorem State.answer_thyme : (s.answer r op st l b).thyme = s.thyme := rfl
@[simp] theorem State.answer_ciph : (s.answer r op st l b).ciph = s.ciph := rfl
@[simp] theorem State.answer_net : (s.answer r op st l b).net = s.net := rfl
@[simp] theorem State.answer_nmc : (s.answer r op st l b).nmc = s.nmc := rfl
@[simp] theorem State.answer_cxl : (s.answer r op st l b).cxl = s.cxl := rfl
@[simp] theorem State.answer_rook : (s.answer r op st l b).rook = s.rook := rfl
@[simp] theorem State.answer_host : (s.answer r op st l b).host = s.host := rfl
@[simp] theorem State.answer_core : (s.answer r op st l b).core = s.core := rfl
@[simp] theorem State.answer_turn : (s.answer r op st l b).turn = s.turn := rfl
@[simp] theorem State.answer_pending : (s.answer r op st l b).pending = s.pending := rfl
end

section
variable {q code : Nat}
variable {l : List Nat}
@[simp] theorem State.event_regs : (s.event q code l).regs = s.regs := rfl
@[simp] theorem State.event_mem : (s.event q code l).mem = s.mem := rfl
@[simp] theorem State.event_poison : (s.event q code l).poison = s.poison := rfl
@[simp] theorem State.event_hostMem : (s.event q code l).hostMem = s.hostMem := rfl
@[simp] theorem State.event_rdata : (s.event q code l).rdata = s.rdata := rfl
@[simp] theorem State.event_draws : (s.event q code l).draws = s.draws := rfl
@[simp] theorem State.event_time : (s.event q code l).time = s.time := rfl
@[simp] theorem State.event_link : (s.event q code l).link = s.link := rfl
@[simp] theorem State.event_ldc : (s.event q code l).ldc = s.ldc := rfl
@[simp] theorem State.event_ece : (s.event q code l).ece = s.ece := rfl
@[simp] theorem State.event_sage : (s.event q code l).sage = s.sage := rfl
@[simp] theorem State.event_jbe : (s.event q code l).jbe = s.jbe := rfl
@[simp] theorem State.event_thyme : (s.event q code l).thyme = s.thyme := rfl
@[simp] theorem State.event_ciph : (s.event q code l).ciph = s.ciph := rfl
@[simp] theorem State.event_net : (s.event q code l).net = s.net := rfl
@[simp] theorem State.event_nmc : (s.event q code l).nmc = s.nmc := rfl
@[simp] theorem State.event_cxl : (s.event q code l).cxl = s.cxl := rfl
@[simp] theorem State.event_rook : (s.event q code l).rook = s.rook := rfl
@[simp] theorem State.event_host : (s.event q code l).host = s.host := rfl
@[simp] theorem State.event_core : (s.event q code l).core = s.core := rfl
@[simp] theorem State.event_turn : (s.event q code l).turn = s.turn := rfl
@[simp] theorem State.event_pending : (s.event q code l).pending = s.pending := rfl
end

section
variable {op st : Nat}
variable {r : CmdRef} {l : List Nat}
@[simp] theorem State.respond_regs : (s.respond r op st l).regs = s.regs := by
  unfold State.respond; split <;> rfl
@[simp] theorem State.respond_mem : (s.respond r op st l).mem = s.mem := by
  unfold State.respond; split <;> rfl
@[simp] theorem State.respond_poison : (s.respond r op st l).poison = s.poison := by
  unfold State.respond; split <;> rfl
@[simp] theorem State.respond_hostMem : (s.respond r op st l).hostMem = s.hostMem := by
  unfold State.respond; split <;> rfl
@[simp] theorem State.respond_rdata : (s.respond r op st l).rdata = s.rdata := by
  unfold State.respond; split <;> rfl
@[simp] theorem State.respond_draws : (s.respond r op st l).draws = s.draws := by
  unfold State.respond; split <;> rfl
@[simp] theorem State.respond_time : (s.respond r op st l).time = s.time := by
  unfold State.respond; split <;> rfl
@[simp] theorem State.respond_link : (s.respond r op st l).link = s.link := by
  unfold State.respond; split <;> rfl
@[simp] theorem State.respond_ldc : (s.respond r op st l).ldc = s.ldc := by
  unfold State.respond; split <;> rfl
@[simp] theorem State.respond_ece : (s.respond r op st l).ece = s.ece := by
  unfold State.respond; split <;> rfl
@[simp] theorem State.respond_sage : (s.respond r op st l).sage = s.sage := by
  unfold State.respond; split <;> rfl
@[simp] theorem State.respond_jbe : (s.respond r op st l).jbe = s.jbe := by
  unfold State.respond; split <;> rfl
@[simp] theorem State.respond_thyme : (s.respond r op st l).thyme = s.thyme := by
  unfold State.respond; split <;> rfl
@[simp] theorem State.respond_ciph : (s.respond r op st l).ciph = s.ciph := by
  unfold State.respond; split <;> rfl
@[simp] theorem State.respond_net : (s.respond r op st l).net = s.net := by
  unfold State.respond; split <;> rfl
@[simp] theorem State.respond_nmc : (s.respond r op st l).nmc = s.nmc := by
  unfold State.respond; split <;> rfl
@[simp] theorem State.respond_cxl : (s.respond r op st l).cxl = s.cxl := by
  unfold State.respond; split <;> rfl
@[simp] theorem State.respond_rook : (s.respond r op st l).rook = s.rook := by
  unfold State.respond; split <;> rfl
@[simp] theorem State.respond_host : (s.respond r op st l).host = s.host := by
  unfold State.respond; split <;> rfl
@[simp] theorem State.respond_core : (s.respond r op st l).core = s.core := by
  unfold State.respond; split <;> rfl
@[simp] theorem State.respond_turn : (s.respond r op st l).turn = s.turn := by
  unfold State.respond; split <;> rfl
@[simp] theorem State.respond_pending : (s.respond r op st l).pending = s.pending := by
  unfold State.respond; split <;> rfl
end

section
variable {i : Nat}
variable {x : Link}
@[simp] theorem State.setLink_regs : (s.setLink i x).regs = s.regs := rfl
@[simp] theorem State.setLink_mem : (s.setLink i x).mem = s.mem := rfl
@[simp] theorem State.setLink_poison : (s.setLink i x).poison = s.poison := rfl
@[simp] theorem State.setLink_hostMem : (s.setLink i x).hostMem = s.hostMem := rfl
@[simp] theorem State.setLink_rdata : (s.setLink i x).rdata = s.rdata := rfl
@[simp] theorem State.setLink_draws : (s.setLink i x).draws = s.draws := rfl
@[simp] theorem State.setLink_time : (s.setLink i x).time = s.time := rfl
@[simp] theorem State.setLink_ldc : (s.setLink i x).ldc = s.ldc := rfl
@[simp] theorem State.setLink_ece : (s.setLink i x).ece = s.ece := rfl
@[simp] theorem State.setLink_sage : (s.setLink i x).sage = s.sage := rfl
@[simp] theorem State.setLink_jbe : (s.setLink i x).jbe = s.jbe := rfl
@[simp] theorem State.setLink_thyme : (s.setLink i x).thyme = s.thyme := rfl
@[simp] theorem State.setLink_ciph : (s.setLink i x).ciph = s.ciph := rfl
@[simp] theorem State.setLink_net : (s.setLink i x).net = s.net := rfl
@[simp] theorem State.setLink_nmc : (s.setLink i x).nmc = s.nmc := rfl
@[simp] theorem State.setLink_cxl : (s.setLink i x).cxl = s.cxl := rfl
@[simp] theorem State.setLink_rook : (s.setLink i x).rook = s.rook := rfl
@[simp] theorem State.setLink_host : (s.setLink i x).host = s.host := rfl
@[simp] theorem State.setLink_core : (s.setLink i x).core = s.core := rfl
@[simp] theorem State.setLink_turn : (s.setLink i x).turn = s.turn := rfl
@[simp] theorem State.setLink_qm : (s.setLink i x).qm = s.qm := rfl
@[simp] theorem State.setLink_pending : (s.setLink i x).pending = s.pending := rfl
end

section
variable {i : Nat}
variable {x : Bank}
@[simp] theorem State.setBank_regs : (s.setBank i x).regs = s.regs := rfl
@[simp] theorem State.setBank_mem : (s.setBank i x).mem = s.mem := rfl
@[simp] theorem State.setBank_poison : (s.setBank i x).poison = s.poison := rfl
@[simp] theorem State.setBank_hostMem : (s.setBank i x).hostMem = s.hostMem := rfl
@[simp] theorem State.setBank_rdata : (s.setBank i x).rdata = s.rdata := rfl
@[simp] theorem State.setBank_draws : (s.setBank i x).draws = s.draws := rfl
@[simp] theorem State.setBank_time : (s.setBank i x).time = s.time := rfl
@[simp] theorem State.setBank_ldc : (s.setBank i x).ldc = s.ldc := rfl
@[simp] theorem State.setBank_ece : (s.setBank i x).ece = s.ece := rfl
@[simp] theorem State.setBank_sage : (s.setBank i x).sage = s.sage := rfl
@[simp] theorem State.setBank_jbe : (s.setBank i x).jbe = s.jbe := rfl
@[simp] theorem State.setBank_thyme : (s.setBank i x).thyme = s.thyme := rfl
@[simp] theorem State.setBank_ciph : (s.setBank i x).ciph = s.ciph := rfl
@[simp] theorem State.setBank_net : (s.setBank i x).net = s.net := rfl
@[simp] theorem State.setBank_nmc : (s.setBank i x).nmc = s.nmc := rfl
@[simp] theorem State.setBank_cxl : (s.setBank i x).cxl = s.cxl := rfl
@[simp] theorem State.setBank_rook : (s.setBank i x).rook = s.rook := rfl
@[simp] theorem State.setBank_host : (s.setBank i x).host = s.host := rfl
@[simp] theorem State.setBank_core : (s.setBank i x).core = s.core := rfl
@[simp] theorem State.setBank_turn : (s.setBank i x).turn = s.turn := rfl
@[simp] theorem State.setBank_qm : (s.setBank i x).qm = s.qm := rfl
@[simp] theorem State.setBank_pending : (s.setBank i x).pending = s.pending := rfl
end

section
variable {i : Nat}
variable {x : Line}
@[simp] theorem State.setLine_regs : (s.setLine i x).regs = s.regs := rfl
@[simp] theorem State.setLine_mem : (s.setLine i x).mem = s.mem := rfl
@[simp] theorem State.setLine_poison : (s.setLine i x).poison = s.poison := rfl
@[simp] theorem State.setLine_hostMem : (s.setLine i x).hostMem = s.hostMem := rfl
@[simp] theorem State.setLine_rdata : (s.setLine i x).rdata = s.rdata := rfl
@[simp] theorem State.setLine_draws : (s.setLine i x).draws = s.draws := rfl
@[simp] theorem State.setLine_time : (s.setLine i x).time = s.time := rfl
@[simp] theorem State.setLine_ldc : (s.setLine i x).ldc = s.ldc := rfl
@[simp] theorem State.setLine_ece : (s.setLine i x).ece = s.ece := rfl
@[simp] theorem State.setLine_sage : (s.setLine i x).sage = s.sage := rfl
@[simp] theorem State.setLine_jbe : (s.setLine i x).jbe = s.jbe := rfl
@[simp] theorem State.setLine_thyme : (s.setLine i x).thyme = s.thyme := rfl
@[simp] theorem State.setLine_ciph : (s.setLine i x).ciph = s.ciph := rfl
@[simp] theorem State.setLine_net : (s.setLine i x).net = s.net := rfl
@[simp] theorem State.setLine_nmc : (s.setLine i x).nmc = s.nmc := rfl
@[simp] theorem State.setLine_cxl : (s.setLine i x).cxl = s.cxl := rfl
@[simp] theorem State.setLine_rook : (s.setLine i x).rook = s.rook := rfl
@[simp] theorem State.setLine_host : (s.setLine i x).host = s.host := rfl
@[simp] theorem State.setLine_core : (s.setLine i x).core = s.core := rfl
@[simp] theorem State.setLine_turn : (s.setLine i x).turn = s.turn := rfl
@[simp] theorem State.setLine_qm : (s.setLine i x).qm = s.qm := rfl
@[simp] theorem State.setLine_pending : (s.setLine i x).pending = s.pending := rfl
end

section
variable {i : Nat}
variable {x : LdcLine}
@[simp] theorem State.setDec_regs : (s.setDec i x).regs = s.regs := rfl
@[simp] theorem State.setDec_mem : (s.setDec i x).mem = s.mem := rfl
@[simp] theorem State.setDec_poison : (s.setDec i x).poison = s.poison := rfl
@[simp] theorem State.setDec_hostMem : (s.setDec i x).hostMem = s.hostMem := rfl
@[simp] theorem State.setDec_rdata : (s.setDec i x).rdata = s.rdata := rfl
@[simp] theorem State.setDec_draws : (s.setDec i x).draws = s.draws := rfl
@[simp] theorem State.setDec_time : (s.setDec i x).time = s.time := rfl
@[simp] theorem State.setDec_link : (s.setDec i x).link = s.link := rfl
@[simp] theorem State.setDec_ece : (s.setDec i x).ece = s.ece := rfl
@[simp] theorem State.setDec_sage : (s.setDec i x).sage = s.sage := rfl
@[simp] theorem State.setDec_jbe : (s.setDec i x).jbe = s.jbe := rfl
@[simp] theorem State.setDec_thyme : (s.setDec i x).thyme = s.thyme := rfl
@[simp] theorem State.setDec_ciph : (s.setDec i x).ciph = s.ciph := rfl
@[simp] theorem State.setDec_net : (s.setDec i x).net = s.net := rfl
@[simp] theorem State.setDec_nmc : (s.setDec i x).nmc = s.nmc := rfl
@[simp] theorem State.setDec_cxl : (s.setDec i x).cxl = s.cxl := rfl
@[simp] theorem State.setDec_rook : (s.setDec i x).rook = s.rook := rfl
@[simp] theorem State.setDec_host : (s.setDec i x).host = s.host := rfl
@[simp] theorem State.setDec_core : (s.setDec i x).core = s.core := rfl
@[simp] theorem State.setDec_turn : (s.setDec i x).turn = s.turn := rfl
@[simp] theorem State.setDec_qm : (s.setDec i x).qm = s.qm := rfl
@[simp] theorem State.setDec_pending : (s.setDec i x).pending = s.pending := rfl
end

section
variable {i : Nat}
variable {x : SetSt}
@[simp] theorem State.setSet_regs : (s.setSet i x).regs = s.regs := rfl
@[simp] theorem State.setSet_mem : (s.setSet i x).mem = s.mem := rfl
@[simp] theorem State.setSet_poison : (s.setSet i x).poison = s.poison := rfl
@[simp] theorem State.setSet_hostMem : (s.setSet i x).hostMem = s.hostMem := rfl
@[simp] theorem State.setSet_rdata : (s.setSet i x).rdata = s.rdata := rfl
@[simp] theorem State.setSet_draws : (s.setSet i x).draws = s.draws := rfl
@[simp] theorem State.setSet_time : (s.setSet i x).time = s.time := rfl
@[simp] theorem State.setSet_link : (s.setSet i x).link = s.link := rfl
@[simp] theorem State.setSet_ece : (s.setSet i x).ece = s.ece := rfl
@[simp] theorem State.setSet_sage : (s.setSet i x).sage = s.sage := rfl
@[simp] theorem State.setSet_jbe : (s.setSet i x).jbe = s.jbe := rfl
@[simp] theorem State.setSet_thyme : (s.setSet i x).thyme = s.thyme := rfl
@[simp] theorem State.setSet_ciph : (s.setSet i x).ciph = s.ciph := rfl
@[simp] theorem State.setSet_net : (s.setSet i x).net = s.net := rfl
@[simp] theorem State.setSet_nmc : (s.setSet i x).nmc = s.nmc := rfl
@[simp] theorem State.setSet_cxl : (s.setSet i x).cxl = s.cxl := rfl
@[simp] theorem State.setSet_rook : (s.setSet i x).rook = s.rook := rfl
@[simp] theorem State.setSet_host : (s.setSet i x).host = s.host := rfl
@[simp] theorem State.setSet_core : (s.setSet i x).core = s.core := rfl
@[simp] theorem State.setSet_turn : (s.setSet i x).turn = s.turn := rfl
@[simp] theorem State.setSet_qm : (s.setSet i x).qm = s.qm := rfl
@[simp] theorem State.setSet_pending : (s.setSet i x).pending = s.pending := rfl
end

section
variable {i : Nat}
variable {x : Ctx}
@[simp] theorem State.setCtx_regs : (s.setCtx i x).regs = s.regs := rfl
@[simp] theorem State.setCtx_mem : (s.setCtx i x).mem = s.mem := rfl
@[simp] theorem State.setCtx_poison : (s.setCtx i x).poison = s.poison := rfl
@[simp] theorem State.setCtx_hostMem : (s.setCtx i x).hostMem = s.hostMem := rfl
@[simp] theorem State.setCtx_rdata : (s.setCtx i x).rdata = s.rdata := rfl
@[simp] theorem State.setCtx_draws : (s.setCtx i x).draws = s.draws := rfl
@[simp] theorem State.setCtx_time : (s.setCtx i x).time = s.time := rfl
@[simp] theorem State.setCtx_link : (s.setCtx i x).link = s.link := rfl
@[simp] theorem State.setCtx_ldc : (s.setCtx i x).ldc = s.ldc := rfl
@[simp] theorem State.setCtx_ece : (s.setCtx i x).ece = s.ece := rfl
@[simp] theorem State.setCtx_sage : (s.setCtx i x).sage = s.sage := rfl
@[simp] theorem State.setCtx_thyme : (s.setCtx i x).thyme = s.thyme := rfl
@[simp] theorem State.setCtx_ciph : (s.setCtx i x).ciph = s.ciph := rfl
@[simp] theorem State.setCtx_net : (s.setCtx i x).net = s.net := rfl
@[simp] theorem State.setCtx_nmc : (s.setCtx i x).nmc = s.nmc := rfl
@[simp] theorem State.setCtx_cxl : (s.setCtx i x).cxl = s.cxl := rfl
@[simp] theorem State.setCtx_rook : (s.setCtx i x).rook = s.rook := rfl
@[simp] theorem State.setCtx_host : (s.setCtx i x).host = s.host := rfl
@[simp] theorem State.setCtx_core : (s.setCtx i x).core = s.core := rfl
@[simp] theorem State.setCtx_turn : (s.setCtx i x).turn = s.turn := rfl
@[simp] theorem State.setCtx_qm : (s.setCtx i x).qm = s.qm := rfl
@[simp] theorem State.setCtx_pending : (s.setCtx i x).pending = s.pending := rfl
end

section
variable {i : Nat}
variable {x : Core}
@[simp] theorem State.setCore_regs : (s.setCore i x).regs = s.regs := rfl
@[simp] theorem State.setCore_mem : (s.setCore i x).mem = s.mem := rfl
@[simp] theorem State.setCore_poison : (s.setCore i x).poison = s.poison := rfl
@[simp] theorem State.setCore_hostMem : (s.setCore i x).hostMem = s.hostMem := rfl
@[simp] theorem State.setCore_rdata : (s.setCore i x).rdata = s.rdata := rfl
@[simp] theorem State.setCore_draws : (s.setCore i x).draws = s.draws := rfl
@[simp] theorem State.setCore_time : (s.setCore i x).time = s.time := rfl
@[simp] theorem State.setCore_link : (s.setCore i x).link = s.link := rfl
@[simp] theorem State.setCore_ldc : (s.setCore i x).ldc = s.ldc := rfl
@[simp] theorem State.setCore_ece : (s.setCore i x).ece = s.ece := rfl
@[simp] theorem State.setCore_sage : (s.setCore i x).sage = s.sage := rfl
@[simp] theorem State.setCore_jbe : (s.setCore i x).jbe = s.jbe := rfl
@[simp] theorem State.setCore_thyme : (s.setCore i x).thyme = s.thyme := rfl
@[simp] theorem State.setCore_ciph : (s.setCore i x).ciph = s.ciph := rfl
@[simp] theorem State.setCore_net : (s.setCore i x).net = s.net := rfl
@[simp] theorem State.setCore_nmc : (s.setCore i x).nmc = s.nmc := rfl
@[simp] theorem State.setCore_cxl : (s.setCore i x).cxl = s.cxl := rfl
@[simp] theorem State.setCore_rook : (s.setCore i x).rook = s.rook := rfl
@[simp] theorem State.setCore_host : (s.setCore i x).host = s.host := rfl
@[simp] theorem State.setCore_turn : (s.setCore i x).turn = s.turn := rfl
@[simp] theorem State.setCore_qm : (s.setCore i x).qm = s.qm := rfl
@[simp] theorem State.setCore_pending : (s.setCore i x).pending = s.pending := rfl
end

section
variable {i : Nat}
variable {x : Queue}
@[simp] theorem State.setQue_regs : (s.setQue i x).regs = s.regs := rfl
@[simp] theorem State.setQue_mem : (s.setQue i x).mem = s.mem := rfl
@[simp] theorem State.setQue_poison : (s.setQue i x).poison = s.poison := rfl
@[simp] theorem State.setQue_hostMem : (s.setQue i x).hostMem = s.hostMem := rfl
@[simp] theorem State.setQue_rdata : (s.setQue i x).rdata = s.rdata := rfl
@[simp] theorem State.setQue_draws : (s.setQue i x).draws = s.draws := rfl
@[simp] theorem State.setQue_time : (s.setQue i x).time = s.time := rfl
@[simp] theorem State.setQue_link : (s.setQue i x).link = s.link := rfl
@[simp] theorem State.setQue_ldc : (s.setQue i x).ldc = s.ldc := rfl
@[simp] theorem State.setQue_ece : (s.setQue i x).ece = s.ece := rfl
@[simp] theorem State.setQue_sage : (s.setQue i x).sage = s.sage := rfl
@[simp] theorem State.setQue_jbe : (s.setQue i x).jbe = s.jbe := rfl
@[simp] theorem State.setQue_thyme : (s.setQue i x).thyme = s.thyme := rfl
@[simp] theorem State.setQue_ciph : (s.setQue i x).ciph = s.ciph := rfl
@[simp] theorem State.setQue_net : (s.setQue i x).net = s.net := rfl
@[simp] theorem State.setQue_nmc : (s.setQue i x).nmc = s.nmc := rfl
@[simp] theorem State.setQue_cxl : (s.setQue i x).cxl = s.cxl := rfl
@[simp] theorem State.setQue_rook : (s.setQue i x).rook = s.rook := rfl
@[simp] theorem State.setQue_host : (s.setQue i x).host = s.host := rfl
@[simp] theorem State.setQue_core : (s.setQue i x).core = s.core := rfl
@[simp] theorem State.setQue_turn : (s.setQue i x).turn = s.turn := rfl
@[simp] theorem State.setQue_pending : (s.setQue i x).pending = s.pending := rfl
end

section
variable {i : Nat}
variable {x : Flow}
@[simp] theorem State.setFlow_regs : (s.setFlow i x).regs = s.regs := rfl
@[simp] theorem State.setFlow_mem : (s.setFlow i x).mem = s.mem := rfl
@[simp] theorem State.setFlow_poison : (s.setFlow i x).poison = s.poison := rfl
@[simp] theorem State.setFlow_hostMem : (s.setFlow i x).hostMem = s.hostMem := rfl
@[simp] theorem State.setFlow_rdata : (s.setFlow i x).rdata = s.rdata := rfl
@[simp] theorem State.setFlow_draws : (s.setFlow i x).draws = s.draws := rfl
@[simp] theorem State.setFlow_time : (s.setFlow i x).time = s.time := rfl
@[simp] theorem State.setFlow_link : (s.setFlow i x).link = s.link := rfl
@[simp] theorem State.setFlow_ldc : (s.setFlow i x).ldc = s.ldc := rfl
@[simp] theorem State.setFlow_ece : (s.setFlow i x).ece = s.ece := rfl
@[simp] theorem State.setFlow_sage : (s.setFlow i x).sage = s.sage := rfl
@[simp] theorem State.setFlow_jbe : (s.setFlow i x).jbe = s.jbe := rfl
@[simp] theorem State.setFlow_thyme : (s.setFlow i x).thyme = s.thyme := rfl
@[simp] theorem State.setFlow_ciph : (s.setFlow i x).ciph = s.ciph := rfl
@[simp] theorem State.setFlow_net : (s.setFlow i x).net = s.net := rfl
@[simp] theorem State.setFlow_nmc : (s.setFlow i x).nmc = s.nmc := rfl
@[simp] theorem State.setFlow_cxl : (s.setFlow i x).cxl = s.cxl := rfl
@[simp] theorem State.setFlow_rook : (s.setFlow i x).rook = s.rook := rfl
@[simp] theorem State.setFlow_host : (s.setFlow i x).host = s.host := rfl
@[simp] theorem State.setFlow_core : (s.setFlow i x).core = s.core := rfl
@[simp] theorem State.setFlow_qm : (s.setFlow i x).qm = s.qm := rfl
@[simp] theorem State.setFlow_pending : (s.setFlow i x).pending = s.pending := rfl
end

section
variable {o : Operand} {p : Producer}
@[simp] theorem State.post_regs : (s.post o p).regs = s.regs := rfl
@[simp] theorem State.post_mem : (s.post o p).mem = s.mem := rfl
@[simp] theorem State.post_poison : (s.post o p).poison = s.poison := rfl
@[simp] theorem State.post_hostMem : (s.post o p).hostMem = s.hostMem := rfl
@[simp] theorem State.post_rdata : (s.post o p).rdata = s.rdata := rfl
@[simp] theorem State.post_draws : (s.post o p).draws = s.draws := rfl
@[simp] theorem State.post_time : (s.post o p).time = s.time := rfl
@[simp] theorem State.post_link : (s.post o p).link = s.link := rfl
@[simp] theorem State.post_ldc : (s.post o p).ldc = s.ldc := rfl
@[simp] theorem State.post_ece : (s.post o p).ece = s.ece := rfl
@[simp] theorem State.post_sage : (s.post o p).sage = s.sage := rfl
@[simp] theorem State.post_jbe : (s.post o p).jbe = s.jbe := rfl
@[simp] theorem State.post_thyme : (s.post o p).thyme = s.thyme := rfl
@[simp] theorem State.post_ciph : (s.post o p).ciph = s.ciph := rfl
@[simp] theorem State.post_net : (s.post o p).net = s.net := rfl
@[simp] theorem State.post_nmc : (s.post o p).nmc = s.nmc := rfl
@[simp] theorem State.post_cxl : (s.post o p).cxl = s.cxl := rfl
@[simp] theorem State.post_rook : (s.post o p).rook = s.rook := rfl
@[simp] theorem State.post_host : (s.post o p).host = s.host := rfl
@[simp] theorem State.post_core : (s.post o p).core = s.core := rfl
@[simp] theorem State.post_qm : (s.post o p).qm = s.qm := rfl
@[simp] theorem State.post_pending : (s.post o p).pending = s.pending := rfl
end

theorem State.link_setLink_ne {i j : Nat} {x : Link} (h : j ≠ i) : (s.setLink i x).link_ j = s.link_ j := Tab.get_put_ne h
theorem State.link_setLink_self {i : Nat} {x : Link} (h : Tab.wf (fun _ => {}) s.link.links = true) : (s.setLink i x).link_ i = x :=
  Tab.get_put_self h
theorem State.bank_setBank_ne {i j : Nat} {x : Bank} (h : j ≠ i) : (s.setBank i x).bank_ j = s.bank_ j := Tab.get_put_ne h
theorem State.bank_setBank_self {i : Nat} {x : Bank} (h : Tab.wf (fun _ => {}) s.link.banks = true) : (s.setBank i x).bank_ i = x :=
  Tab.get_put_self h
theorem State.line_setLine_ne {i j : Nat} {x : Line} (h : j ≠ i) : (s.setLine i x).line_ j = s.line_ j := Tab.get_put_ne h
theorem State.line_setLine_self {i : Nat} {x : Line} (h : Tab.wf (fun _ => {}) s.link.lines = true) : (s.setLine i x).line_ i = x :=
  Tab.get_put_self h
theorem State.dec_setDec_ne {i j : Nat} {x : LdcLine} (h : j ≠ i) : (s.setDec i x).dec_ j = s.dec_ j := Tab.get_put_ne h
theorem State.dec_setDec_self {i : Nat} {x : LdcLine} (h : Tab.wf (fun _ => {}) s.ldc.lines = true) : (s.setDec i x).dec_ i = x :=
  Tab.get_put_self h
theorem State.set_setSet_ne {i j : Nat} {x : SetSt} (h : j ≠ i) : (s.setSet i x).set_ j = s.set_ j := Tab.get_put_ne h
theorem State.set_setSet_self {i : Nat} {x : SetSt} (h : Tab.wf (fun _ => {}) s.ldc.sets = true) : (s.setSet i x).set_ i = x :=
  Tab.get_put_self h
theorem State.ctx_setCtx_ne {i j : Nat} {x : Ctx} (h : j ≠ i) : (s.setCtx i x).ctx_ j = s.ctx_ j := Tab.get_put_ne h
theorem State.ctx_setCtx_self {i : Nat} {x : Ctx} (h : Tab.wf (fun _ => {}) s.jbe.ctxs = true) : (s.setCtx i x).ctx_ i = x :=
  Tab.get_put_self h
theorem State.core_setCore_ne {i j : Nat} {x : Core} (h : j ≠ i) : (s.setCore i x).core_ j = s.core_ j := Tab.get_put_ne h
theorem State.core_setCore_self {i : Nat} {x : Core} (h : Tab.wf (fun _ => {}) s.core.cores = true) : (s.setCore i x).core_ i = x :=
  Tab.get_put_self h
theorem State.que_setQue_ne {i j : Nat} {x : Queue} (h : j ≠ i) : (s.setQue i x).que j = s.que j := Tab.get_put_ne h
theorem State.que_setQue_self {i : Nat} {x : Queue} (h : Tab.wf (fun _ => {}) s.qm.queues = true) : (s.setQue i x).que i = x :=
  Tab.get_put_self h
theorem State.flow_setFlow_ne {i j : Nat} {x : Flow} (h : j ≠ i) : (s.setFlow i x).flow_ j = s.flow_ j := Tab.get_put_ne h
theorem State.flow_setFlow_self {i : Nat} {x : Flow} (h : Tab.wf (fun _ => {}) s.turn.flows = true) : (s.setFlow i x).flow_ i = x :=
  Tab.get_put_self h

section
variable {a : Nat}
variable {v : Word}
variable {a0 i0 : Nat}
@[simp] theorem State.rd8_setReg : (s.setReg a v).rd8 a0 = s.rd8 a0 := rfl
@[simp] theorem State.link_setReg : (s.setReg a v).link_ i0 = s.link_ i0 := rfl
@[simp] theorem State.bank_setReg : (s.setReg a v).bank_ i0 = s.bank_ i0 := rfl
@[simp] theorem State.line_setReg : (s.setReg a v).line_ i0 = s.line_ i0 := rfl
@[simp] theorem State.dec_setReg : (s.setReg a v).dec_ i0 = s.dec_ i0 := rfl
@[simp] theorem State.set_setReg : (s.setReg a v).set_ i0 = s.set_ i0 := rfl
@[simp] theorem State.ctx_setReg : (s.setReg a v).ctx_ i0 = s.ctx_ i0 := rfl
@[simp] theorem State.core_setReg : (s.setReg a v).core_ i0 = s.core_ i0 := rfl
@[simp] theorem State.que_setReg : (s.setReg a v).que i0 = s.que i0 := rfl
@[simp] theorem State.flow_setReg : (s.setReg a v).flow_ i0 = s.flow_ i0 := rfl
end

section
variable {a n : Nat}
variable {a0 i0 : Nat}
@[simp] theorem State.rd8_setN : (s.setN a n).rd8 a0 = s.rd8 a0 := rfl
@[simp] theorem State.link_setN : (s.setN a n).link_ i0 = s.link_ i0 := rfl
@[simp] theorem State.bank_setN : (s.setN a n).bank_ i0 = s.bank_ i0 := rfl
@[simp] theorem State.line_setN : (s.setN a n).line_ i0 = s.line_ i0 := rfl
@[simp] theorem State.dec_setN : (s.setN a n).dec_ i0 = s.dec_ i0 := rfl
@[simp] theorem State.set_setN : (s.setN a n).set_ i0 = s.set_ i0 := rfl
@[simp] theorem State.ctx_setN : (s.setN a n).ctx_ i0 = s.ctx_ i0 := rfl
@[simp] theorem State.core_setN : (s.setN a n).core_ i0 = s.core_ i0 := rfl
@[simp] theorem State.que_setN : (s.setN a n).que i0 = s.que i0 := rfl
@[simp] theorem State.flow_setN : (s.setN a n).flow_ i0 = s.flow_ i0 := rfl
end

section
variable {a lo w v : Nat}
variable {a0 i0 : Nat}
@[simp] theorem State.rd8_setFld : (s.setFld a lo w v).rd8 a0 = s.rd8 a0 := rfl
@[simp] theorem State.link_setFld : (s.setFld a lo w v).link_ i0 = s.link_ i0 := rfl
@[simp] theorem State.bank_setFld : (s.setFld a lo w v).bank_ i0 = s.bank_ i0 := rfl
@[simp] theorem State.line_setFld : (s.setFld a lo w v).line_ i0 = s.line_ i0 := rfl
@[simp] theorem State.dec_setFld : (s.setFld a lo w v).dec_ i0 = s.dec_ i0 := rfl
@[simp] theorem State.set_setFld : (s.setFld a lo w v).set_ i0 = s.set_ i0 := rfl
@[simp] theorem State.ctx_setFld : (s.setFld a lo w v).ctx_ i0 = s.ctx_ i0 := rfl
@[simp] theorem State.core_setFld : (s.setFld a lo w v).core_ i0 = s.core_ i0 := rfl
@[simp] theorem State.que_setFld : (s.setFld a lo w v).que i0 = s.que i0 := rfl
@[simp] theorem State.flow_setFld : (s.setFld a lo w v).flow_ i0 = s.flow_ i0 := rfl
end

section
variable {a j : Nat}
variable {a0 i0 : Nat}
@[simp] theorem State.rd8_addN : (s.addN a j).rd8 a0 = s.rd8 a0 := rfl
@[simp] theorem State.link_addN : (s.addN a j).link_ i0 = s.link_ i0 := rfl
@[simp] theorem State.bank_addN : (s.addN a j).bank_ i0 = s.bank_ i0 := rfl
@[simp] theorem State.line_addN : (s.addN a j).line_ i0 = s.line_ i0 := rfl
@[simp] theorem State.dec_addN : (s.addN a j).dec_ i0 = s.dec_ i0 := rfl
@[simp] theorem State.set_addN : (s.addN a j).set_ i0 = s.set_ i0 := rfl
@[simp] theorem State.ctx_addN : (s.addN a j).ctx_ i0 = s.ctx_ i0 := rfl
@[simp] theorem State.core_addN : (s.addN a j).core_ i0 = s.core_ i0 := rfl
@[simp] theorem State.que_addN : (s.addN a j).que i0 = s.que i0 := rfl
@[simp] theorem State.flow_addN : (s.addN a j).flow_ i0 = s.flow_ i0 := rfl
end

section
variable {a : Nat}
variable {a0 i0 : Nat}
@[simp] theorem State.rd8_bump : (s.bump a).rd8 a0 = s.rd8 a0 := rfl
@[simp] theorem State.link_bump : (s.bump a).link_ i0 = s.link_ i0 := rfl
@[simp] theorem State.bank_bump : (s.bump a).bank_ i0 = s.bank_ i0 := rfl
@[simp] theorem State.line_bump : (s.bump a).line_ i0 = s.line_ i0 := rfl
@[simp] theorem State.dec_bump : (s.bump a).dec_ i0 = s.dec_ i0 := rfl
@[simp] theorem State.set_bump : (s.bump a).set_ i0 = s.set_ i0 := rfl
@[simp] theorem State.ctx_bump : (s.bump a).ctx_ i0 = s.ctx_ i0 := rfl
@[simp] theorem State.core_bump : (s.bump a).core_ i0 = s.core_ i0 := rfl
@[simp] theorem State.que_bump : (s.bump a).que i0 = s.que i0 := rfl
@[simp] theorem State.flow_bump : (s.bump a).flow_ i0 = s.flow_ i0 := rfl
end

section
variable {a j : Nat}
variable {a0 i0 : Nat}
@[simp] theorem State.rd8_add64 : (s.add64 a j).rd8 a0 = s.rd8 a0 := rfl
@[simp] theorem State.link_add64 : (s.add64 a j).link_ i0 = s.link_ i0 := rfl
@[simp] theorem State.bank_add64 : (s.add64 a j).bank_ i0 = s.bank_ i0 := rfl
@[simp] theorem State.line_add64 : (s.add64 a j).line_ i0 = s.line_ i0 := rfl
@[simp] theorem State.dec_add64 : (s.add64 a j).dec_ i0 = s.dec_ i0 := rfl
@[simp] theorem State.set_add64 : (s.add64 a j).set_ i0 = s.set_ i0 := rfl
@[simp] theorem State.ctx_add64 : (s.add64 a j).ctx_ i0 = s.ctx_ i0 := rfl
@[simp] theorem State.core_add64 : (s.add64 a j).core_ i0 = s.core_ i0 := rfl
@[simp] theorem State.que_add64 : (s.add64 a j).que i0 = s.que i0 := rfl
@[simp] theorem State.flow_add64 : (s.add64 a j).flow_ i0 = s.flow_ i0 := rfl
end

section
variable {p b : Nat}
variable {a0 i0 : Nat}
@[simp] theorem State.rd8_irq : (s.irq p b).rd8 a0 = s.rd8 a0 := rfl
@[simp] theorem State.link_irq : (s.irq p b).link_ i0 = s.link_ i0 := rfl
@[simp] theorem State.bank_irq : (s.irq p b).bank_ i0 = s.bank_ i0 := rfl
@[simp] theorem State.line_irq : (s.irq p b).line_ i0 = s.line_ i0 := rfl
@[simp] theorem State.dec_irq : (s.irq p b).dec_ i0 = s.dec_ i0 := rfl
@[simp] theorem State.set_irq : (s.irq p b).set_ i0 = s.set_ i0 := rfl
@[simp] theorem State.ctx_irq : (s.irq p b).ctx_ i0 = s.ctx_ i0 := rfl
@[simp] theorem State.core_irq : (s.irq p b).core_ i0 = s.core_ i0 := rfl
@[simp] theorem State.que_irq : (s.irq p b).que i0 = s.que i0 := rfl
@[simp] theorem State.flow_irq : (s.irq p b).flow_ i0 = s.flow_ i0 := rfl
end

section
variable {a v : Nat}
variable {a0 i0 : Nat}
@[simp] theorem State.reg_wr8 : (s.wr8 a v).reg a0 = s.reg a0 := rfl
@[simp] theorem State.rn_wr8 : (s.wr8 a v).rn a0 = s.rn a0 := rfl
@[simp] theorem State.link_wr8 : (s.wr8 a v).link_ i0 = s.link_ i0 := rfl
@[simp] theorem State.bank_wr8 : (s.wr8 a v).bank_ i0 = s.bank_ i0 := rfl
@[simp] theorem State.line_wr8 : (s.wr8 a v).line_ i0 = s.line_ i0 := rfl
@[simp] theorem State.dec_wr8 : (s.wr8 a v).dec_ i0 = s.dec_ i0 := rfl
@[simp] theorem State.set_wr8 : (s.wr8 a v).set_ i0 = s.set_ i0 := rfl
@[simp] theorem State.ctx_wr8 : (s.wr8 a v).ctx_ i0 = s.ctx_ i0 := rfl
@[simp] theorem State.core_wr8 : (s.wr8 a v).core_ i0 = s.core_ i0 := rfl
@[simp] theorem State.que_wr8 : (s.wr8 a v).que i0 = s.que i0 := rfl
@[simp] theorem State.flow_wr8 : (s.wr8 a v).flow_ i0 = s.flow_ i0 := rfl
end

section
variable {a : Nat}
variable {l : List Nat}
variable {a0 i0 : Nat}
@[simp] theorem State.reg_wrBytes : (s.wrBytes a l).reg a0 = s.reg a0 := rfl
@[simp] theorem State.rn_wrBytes : (s.wrBytes a l).rn a0 = s.rn a0 := rfl
@[simp] theorem State.link_wrBytes : (s.wrBytes a l).link_ i0 = s.link_ i0 := rfl
@[simp] theorem State.bank_wrBytes : (s.wrBytes a l).bank_ i0 = s.bank_ i0 := rfl
@[simp] theorem State.line_wrBytes : (s.wrBytes a l).line_ i0 = s.line_ i0 := rfl
@[simp] theorem State.dec_wrBytes : (s.wrBytes a l).dec_ i0 = s.dec_ i0 := rfl
@[simp] theorem State.set_wrBytes : (s.wrBytes a l).set_ i0 = s.set_ i0 := rfl
@[simp] theorem State.ctx_wrBytes : (s.wrBytes a l).ctx_ i0 = s.ctx_ i0 := rfl
@[simp] theorem State.core_wrBytes : (s.wrBytes a l).core_ i0 = s.core_ i0 := rfl
@[simp] theorem State.que_wrBytes : (s.wrBytes a l).que i0 = s.que i0 := rfl
@[simp] theorem State.flow_wrBytes : (s.wrBytes a l).flow_ i0 = s.flow_ i0 := rfl
end

section
variable {a : Nat}
variable {b : Bool}
variable {a0 i0 : Nat}
@[simp] theorem State.reg_setPoison : (s.setPoison a b).reg a0 = s.reg a0 := rfl
@[simp] theorem State.rn_setPoison : (s.setPoison a b).rn a0 = s.rn a0 := rfl
@[simp] theorem State.rd8_setPoison : (s.setPoison a b).rd8 a0 = s.rd8 a0 := rfl
@[simp] theorem State.link_setPoison : (s.setPoison a b).link_ i0 = s.link_ i0 := rfl
@[simp] theorem State.bank_setPoison : (s.setPoison a b).bank_ i0 = s.bank_ i0 := rfl
@[simp] theorem State.line_setPoison : (s.setPoison a b).line_ i0 = s.line_ i0 := rfl
@[simp] theorem State.dec_setPoison : (s.setPoison a b).dec_ i0 = s.dec_ i0 := rfl
@[simp] theorem State.set_setPoison : (s.setPoison a b).set_ i0 = s.set_ i0 := rfl
@[simp] theorem State.ctx_setPoison : (s.setPoison a b).ctx_ i0 = s.ctx_ i0 := rfl
@[simp] theorem State.core_setPoison : (s.setPoison a b).core_ i0 = s.core_ i0 := rfl
@[simp] theorem State.que_setPoison : (s.setPoison a b).que i0 = s.que i0 := rfl
@[simp] theorem State.flow_setPoison : (s.setPoison a b).flow_ i0 = s.flow_ i0 := rfl
end

section
variable {a0 i0 : Nat}
@[simp] theorem State.reg_drawn : (s.drawn).reg a0 = s.reg a0 := rfl
@[simp] theorem State.rn_drawn : (s.drawn).rn a0 = s.rn a0 := rfl
@[simp] theorem State.rd8_drawn : (s.drawn).rd8 a0 = s.rd8 a0 := rfl
@[simp] theorem State.link_drawn : (s.drawn).link_ i0 = s.link_ i0 := rfl
@[simp] theorem State.bank_drawn : (s.drawn).bank_ i0 = s.bank_ i0 := rfl
@[simp] theorem State.line_drawn : (s.drawn).line_ i0 = s.line_ i0 := rfl
@[simp] theorem State.dec_drawn : (s.drawn).dec_ i0 = s.dec_ i0 := rfl
@[simp] theorem State.set_drawn : (s.drawn).set_ i0 = s.set_ i0 := rfl
@[simp] theorem State.ctx_drawn : (s.drawn).ctx_ i0 = s.ctx_ i0 := rfl
@[simp] theorem State.core_drawn : (s.drawn).core_ i0 = s.core_ i0 := rfl
@[simp] theorem State.que_drawn : (s.drawn).que i0 = s.que i0 := rfl
@[simp] theorem State.flow_drawn : (s.drawn).flow_ i0 = s.flow_ i0 := rfl
end

section
variable {op st : Nat}
variable {r : CmdRef} {l : List Nat} {b : Bool}
variable {a0 i0 : Nat}
@[simp] theorem State.reg_answer : (s.answer r op st l b).reg a0 = s.reg a0 := rfl
@[simp] theorem State.rn_answer : (s.answer r op st l b).rn a0 = s.rn a0 := rfl
@[simp] theorem State.rd8_answer : (s.answer r op st l b).rd8 a0 = s.rd8 a0 := rfl
@[simp] theorem State.link_answer : (s.answer r op st l b).link_ i0 = s.link_ i0 := rfl
@[simp] theorem State.bank_answer : (s.answer r op st l b).bank_ i0 = s.bank_ i0 := rfl
@[simp] theorem State.line_answer : (s.answer r op st l b).line_ i0 = s.line_ i0 := rfl
@[simp] theorem State.dec_answer : (s.answer r op st l b).dec_ i0 = s.dec_ i0 := rfl
@[simp] theorem State.set_answer : (s.answer r op st l b).set_ i0 = s.set_ i0 := rfl
@[simp] theorem State.ctx_answer : (s.answer r op st l b).ctx_ i0 = s.ctx_ i0 := rfl
@[simp] theorem State.core_answer : (s.answer r op st l b).core_ i0 = s.core_ i0 := rfl
@[simp] theorem State.flow_answer : (s.answer r op st l b).flow_ i0 = s.flow_ i0 := rfl
end

section
variable {q code : Nat}
variable {l : List Nat}
variable {a0 i0 : Nat}
@[simp] theorem State.reg_event : (s.event q code l).reg a0 = s.reg a0 := rfl
@[simp] theorem State.rn_event : (s.event q code l).rn a0 = s.rn a0 := rfl
@[simp] theorem State.rd8_event : (s.event q code l).rd8 a0 = s.rd8 a0 := rfl
@[simp] theorem State.link_event : (s.event q code l).link_ i0 = s.link_ i0 := rfl
@[simp] theorem State.bank_event : (s.event q code l).bank_ i0 = s.bank_ i0 := rfl
@[simp] theorem State.line_event : (s.event q code l).line_ i0 = s.line_ i0 := rfl
@[simp] theorem State.dec_event : (s.event q code l).dec_ i0 = s.dec_ i0 := rfl
@[simp] theorem State.set_event : (s.event q code l).set_ i0 = s.set_ i0 := rfl
@[simp] theorem State.ctx_event : (s.event q code l).ctx_ i0 = s.ctx_ i0 := rfl
@[simp] theorem State.core_event : (s.event q code l).core_ i0 = s.core_ i0 := rfl
@[simp] theorem State.flow_event : (s.event q code l).flow_ i0 = s.flow_ i0 := rfl
end

section
variable {op st : Nat}
variable {r : CmdRef} {l : List Nat}
variable {a0 i0 : Nat}
@[simp] theorem State.reg_respond : (s.respond r op st l).reg a0 = s.reg a0 := by
  unfold State.respond; split <;> rfl
@[simp] theorem State.rn_respond : (s.respond r op st l).rn a0 = s.rn a0 := by
  unfold State.respond; split <;> rfl
@[simp] theorem State.rd8_respond : (s.respond r op st l).rd8 a0 = s.rd8 a0 := by
  unfold State.respond; split <;> rfl
@[simp] theorem State.link_respond : (s.respond r op st l).link_ i0 = s.link_ i0 := by
  unfold State.respond; split <;> rfl
@[simp] theorem State.bank_respond : (s.respond r op st l).bank_ i0 = s.bank_ i0 := by
  unfold State.respond; split <;> rfl
@[simp] theorem State.line_respond : (s.respond r op st l).line_ i0 = s.line_ i0 := by
  unfold State.respond; split <;> rfl
@[simp] theorem State.dec_respond : (s.respond r op st l).dec_ i0 = s.dec_ i0 := by
  unfold State.respond; split <;> rfl
@[simp] theorem State.set_respond : (s.respond r op st l).set_ i0 = s.set_ i0 := by
  unfold State.respond; split <;> rfl
@[simp] theorem State.ctx_respond : (s.respond r op st l).ctx_ i0 = s.ctx_ i0 := by
  unfold State.respond; split <;> rfl
@[simp] theorem State.core_respond : (s.respond r op st l).core_ i0 = s.core_ i0 := by
  unfold State.respond; split <;> rfl
@[simp] theorem State.flow_respond : (s.respond r op st l).flow_ i0 = s.flow_ i0 := by
  unfold State.respond; split <;> rfl
end

section
variable {i : Nat}
variable {x : Link}
variable {a0 i0 : Nat}
@[simp] theorem State.reg_setLink : (s.setLink i x).reg a0 = s.reg a0 := rfl
@[simp] theorem State.rn_setLink : (s.setLink i x).rn a0 = s.rn a0 := rfl
@[simp] theorem State.rd8_setLink : (s.setLink i x).rd8 a0 = s.rd8 a0 := rfl
@[simp] theorem State.dec_setLink : (s.setLink i x).dec_ i0 = s.dec_ i0 := rfl
@[simp] theorem State.set_setLink : (s.setLink i x).set_ i0 = s.set_ i0 := rfl
@[simp] theorem State.ctx_setLink : (s.setLink i x).ctx_ i0 = s.ctx_ i0 := rfl
@[simp] theorem State.core_setLink : (s.setLink i x).core_ i0 = s.core_ i0 := rfl
@[simp] theorem State.que_setLink : (s.setLink i x).que i0 = s.que i0 := rfl
@[simp] theorem State.flow_setLink : (s.setLink i x).flow_ i0 = s.flow_ i0 := rfl
end

section
variable {i : Nat}
variable {x : Bank}
variable {a0 i0 : Nat}
@[simp] theorem State.reg_setBank : (s.setBank i x).reg a0 = s.reg a0 := rfl
@[simp] theorem State.rn_setBank : (s.setBank i x).rn a0 = s.rn a0 := rfl
@[simp] theorem State.rd8_setBank : (s.setBank i x).rd8 a0 = s.rd8 a0 := rfl
@[simp] theorem State.dec_setBank : (s.setBank i x).dec_ i0 = s.dec_ i0 := rfl
@[simp] theorem State.set_setBank : (s.setBank i x).set_ i0 = s.set_ i0 := rfl
@[simp] theorem State.ctx_setBank : (s.setBank i x).ctx_ i0 = s.ctx_ i0 := rfl
@[simp] theorem State.core_setBank : (s.setBank i x).core_ i0 = s.core_ i0 := rfl
@[simp] theorem State.que_setBank : (s.setBank i x).que i0 = s.que i0 := rfl
@[simp] theorem State.flow_setBank : (s.setBank i x).flow_ i0 = s.flow_ i0 := rfl
end

section
variable {i : Nat}
variable {x : Line}
variable {a0 i0 : Nat}
@[simp] theorem State.reg_setLine : (s.setLine i x).reg a0 = s.reg a0 := rfl
@[simp] theorem State.rn_setLine : (s.setLine i x).rn a0 = s.rn a0 := rfl
@[simp] theorem State.rd8_setLine : (s.setLine i x).rd8 a0 = s.rd8 a0 := rfl
@[simp] theorem State.dec_setLine : (s.setLine i x).dec_ i0 = s.dec_ i0 := rfl
@[simp] theorem State.set_setLine : (s.setLine i x).set_ i0 = s.set_ i0 := rfl
@[simp] theorem State.ctx_setLine : (s.setLine i x).ctx_ i0 = s.ctx_ i0 := rfl
@[simp] theorem State.core_setLine : (s.setLine i x).core_ i0 = s.core_ i0 := rfl
@[simp] theorem State.que_setLine : (s.setLine i x).que i0 = s.que i0 := rfl
@[simp] theorem State.flow_setLine : (s.setLine i x).flow_ i0 = s.flow_ i0 := rfl
end

section
variable {i : Nat}
variable {x : LdcLine}
variable {a0 i0 : Nat}
@[simp] theorem State.reg_setDec : (s.setDec i x).reg a0 = s.reg a0 := rfl
@[simp] theorem State.rn_setDec : (s.setDec i x).rn a0 = s.rn a0 := rfl
@[simp] theorem State.rd8_setDec : (s.setDec i x).rd8 a0 = s.rd8 a0 := rfl
@[simp] theorem State.link_setDec : (s.setDec i x).link_ i0 = s.link_ i0 := rfl
@[simp] theorem State.bank_setDec : (s.setDec i x).bank_ i0 = s.bank_ i0 := rfl
@[simp] theorem State.line_setDec : (s.setDec i x).line_ i0 = s.line_ i0 := rfl
@[simp] theorem State.ctx_setDec : (s.setDec i x).ctx_ i0 = s.ctx_ i0 := rfl
@[simp] theorem State.core_setDec : (s.setDec i x).core_ i0 = s.core_ i0 := rfl
@[simp] theorem State.que_setDec : (s.setDec i x).que i0 = s.que i0 := rfl
@[simp] theorem State.flow_setDec : (s.setDec i x).flow_ i0 = s.flow_ i0 := rfl
end

section
variable {i : Nat}
variable {x : SetSt}
variable {a0 i0 : Nat}
@[simp] theorem State.reg_setSet : (s.setSet i x).reg a0 = s.reg a0 := rfl
@[simp] theorem State.rn_setSet : (s.setSet i x).rn a0 = s.rn a0 := rfl
@[simp] theorem State.rd8_setSet : (s.setSet i x).rd8 a0 = s.rd8 a0 := rfl
@[simp] theorem State.link_setSet : (s.setSet i x).link_ i0 = s.link_ i0 := rfl
@[simp] theorem State.bank_setSet : (s.setSet i x).bank_ i0 = s.bank_ i0 := rfl
@[simp] theorem State.line_setSet : (s.setSet i x).line_ i0 = s.line_ i0 := rfl
@[simp] theorem State.ctx_setSet : (s.setSet i x).ctx_ i0 = s.ctx_ i0 := rfl
@[simp] theorem State.core_setSet : (s.setSet i x).core_ i0 = s.core_ i0 := rfl
@[simp] theorem State.que_setSet : (s.setSet i x).que i0 = s.que i0 := rfl
@[simp] theorem State.flow_setSet : (s.setSet i x).flow_ i0 = s.flow_ i0 := rfl
end

section
variable {i : Nat}
variable {x : Ctx}
variable {a0 i0 : Nat}
@[simp] theorem State.reg_setCtx : (s.setCtx i x).reg a0 = s.reg a0 := rfl
@[simp] theorem State.rn_setCtx : (s.setCtx i x).rn a0 = s.rn a0 := rfl
@[simp] theorem State.rd8_setCtx : (s.setCtx i x).rd8 a0 = s.rd8 a0 := rfl
@[simp] theorem State.link_setCtx : (s.setCtx i x).link_ i0 = s.link_ i0 := rfl
@[simp] theorem State.bank_setCtx : (s.setCtx i x).bank_ i0 = s.bank_ i0 := rfl
@[simp] theorem State.line_setCtx : (s.setCtx i x).line_ i0 = s.line_ i0 := rfl
@[simp] theorem State.dec_setCtx : (s.setCtx i x).dec_ i0 = s.dec_ i0 := rfl
@[simp] theorem State.set_setCtx : (s.setCtx i x).set_ i0 = s.set_ i0 := rfl
@[simp] theorem State.core_setCtx : (s.setCtx i x).core_ i0 = s.core_ i0 := rfl
@[simp] theorem State.que_setCtx : (s.setCtx i x).que i0 = s.que i0 := rfl
@[simp] theorem State.flow_setCtx : (s.setCtx i x).flow_ i0 = s.flow_ i0 := rfl
end

section
variable {i : Nat}
variable {x : Core}
variable {a0 i0 : Nat}
@[simp] theorem State.reg_setCore : (s.setCore i x).reg a0 = s.reg a0 := rfl
@[simp] theorem State.rn_setCore : (s.setCore i x).rn a0 = s.rn a0 := rfl
@[simp] theorem State.rd8_setCore : (s.setCore i x).rd8 a0 = s.rd8 a0 := rfl
@[simp] theorem State.link_setCore : (s.setCore i x).link_ i0 = s.link_ i0 := rfl
@[simp] theorem State.bank_setCore : (s.setCore i x).bank_ i0 = s.bank_ i0 := rfl
@[simp] theorem State.line_setCore : (s.setCore i x).line_ i0 = s.line_ i0 := rfl
@[simp] theorem State.dec_setCore : (s.setCore i x).dec_ i0 = s.dec_ i0 := rfl
@[simp] theorem State.set_setCore : (s.setCore i x).set_ i0 = s.set_ i0 := rfl
@[simp] theorem State.ctx_setCore : (s.setCore i x).ctx_ i0 = s.ctx_ i0 := rfl
@[simp] theorem State.que_setCore : (s.setCore i x).que i0 = s.que i0 := rfl
@[simp] theorem State.flow_setCore : (s.setCore i x).flow_ i0 = s.flow_ i0 := rfl
end

section
variable {i : Nat}
variable {x : Queue}
variable {a0 i0 : Nat}
@[simp] theorem State.reg_setQue : (s.setQue i x).reg a0 = s.reg a0 := rfl
@[simp] theorem State.rn_setQue : (s.setQue i x).rn a0 = s.rn a0 := rfl
@[simp] theorem State.rd8_setQue : (s.setQue i x).rd8 a0 = s.rd8 a0 := rfl
@[simp] theorem State.link_setQue : (s.setQue i x).link_ i0 = s.link_ i0 := rfl
@[simp] theorem State.bank_setQue : (s.setQue i x).bank_ i0 = s.bank_ i0 := rfl
@[simp] theorem State.line_setQue : (s.setQue i x).line_ i0 = s.line_ i0 := rfl
@[simp] theorem State.dec_setQue : (s.setQue i x).dec_ i0 = s.dec_ i0 := rfl
@[simp] theorem State.set_setQue : (s.setQue i x).set_ i0 = s.set_ i0 := rfl
@[simp] theorem State.ctx_setQue : (s.setQue i x).ctx_ i0 = s.ctx_ i0 := rfl
@[simp] theorem State.core_setQue : (s.setQue i x).core_ i0 = s.core_ i0 := rfl
@[simp] theorem State.flow_setQue : (s.setQue i x).flow_ i0 = s.flow_ i0 := rfl
end

section
variable {i : Nat}
variable {x : Flow}
variable {a0 i0 : Nat}
@[simp] theorem State.reg_setFlow : (s.setFlow i x).reg a0 = s.reg a0 := rfl
@[simp] theorem State.rn_setFlow : (s.setFlow i x).rn a0 = s.rn a0 := rfl
@[simp] theorem State.rd8_setFlow : (s.setFlow i x).rd8 a0 = s.rd8 a0 := rfl
@[simp] theorem State.link_setFlow : (s.setFlow i x).link_ i0 = s.link_ i0 := rfl
@[simp] theorem State.bank_setFlow : (s.setFlow i x).bank_ i0 = s.bank_ i0 := rfl
@[simp] theorem State.line_setFlow : (s.setFlow i x).line_ i0 = s.line_ i0 := rfl
@[simp] theorem State.dec_setFlow : (s.setFlow i x).dec_ i0 = s.dec_ i0 := rfl
@[simp] theorem State.set_setFlow : (s.setFlow i x).set_ i0 = s.set_ i0 := rfl
@[simp] theorem State.ctx_setFlow : (s.setFlow i x).ctx_ i0 = s.ctx_ i0 := rfl
@[simp] theorem State.core_setFlow : (s.setFlow i x).core_ i0 = s.core_ i0 := rfl
@[simp] theorem State.que_setFlow : (s.setFlow i x).que i0 = s.que i0 := rfl
end

section
variable {o : Operand} {p : Producer}
variable {a0 i0 : Nat}
@[simp] theorem State.reg_post : (s.post o p).reg a0 = s.reg a0 := rfl
@[simp] theorem State.rn_post : (s.post o p).rn a0 = s.rn a0 := rfl
@[simp] theorem State.rd8_post : (s.post o p).rd8 a0 = s.rd8 a0 := rfl
@[simp] theorem State.link_post : (s.post o p).link_ i0 = s.link_ i0 := rfl
@[simp] theorem State.bank_post : (s.post o p).bank_ i0 = s.bank_ i0 := rfl
@[simp] theorem State.line_post : (s.post o p).line_ i0 = s.line_ i0 := rfl
@[simp] theorem State.dec_post : (s.post o p).dec_ i0 = s.dec_ i0 := rfl
@[simp] theorem State.set_post : (s.post o p).set_ i0 = s.set_ i0 := rfl
@[simp] theorem State.ctx_post : (s.post o p).ctx_ i0 = s.ctx_ i0 := rfl
@[simp] theorem State.core_post : (s.post o p).core_ i0 = s.core_ i0 := rfl
@[simp] theorem State.que_post : (s.post o p).que i0 = s.que i0 := rfl
end

end Sys2Proof.Machine
end

