-- ==== Sys2Proof/Laws/Take.lean ====
section
/-! SUPPORT. What carrying out a taken command can do: it acts on the state with the command marked as begun, or not at all;
and a state with a command begun differs from it in the queue manager alone. -/

namespace Sys2Proof.Machine
open Sys2Proof

theorem carryOut_due {s : State} {r : CmdRef} {op : Nat} {f : State → State} (h : s.cmdDue r op = true) :
    s.carryOut r op f = f (s.begun r op) := by
  simp only [State.carryOut, h, if_true]; rfl

theorem carryOut_not {s : State} {r : CmdRef} {op : Nat} {f : State → State} (h : s.cmdDue r op = false) :
    s.carryOut r op f = s := by
  simp only [State.carryOut, h, Bool.false_eq_true, if_false]

section
variable (s : State) (r : CmdRef) (op : Nat)

@[simp] theorem begun_regs : (s.begun r op).regs = s.regs := rfl
@[simp] theorem begun_mem : (s.begun r op).mem = s.mem := rfl
@[simp] theorem begun_poison : (s.begun r op).poison = s.poison := rfl
@[simp] theorem begun_hostMem : (s.begun r op).hostMem = s.hostMem := rfl
@[simp] theorem begun_rdata : (s.begun r op).rdata = s.rdata := rfl
@[simp] theorem begun_draws : (s.begun r op).draws = s.draws := rfl
@[simp] theorem begun_time : (s.begun r op).time = s.time := rfl
@[simp] theorem begun_link : (s.begun r op).link = s.link := rfl
@[simp] theorem begun_ldc : (s.begun r op).ldc = s.ldc := rfl
@[simp] theorem begun_ece : (s.begun r op).ece = s.ece := rfl
@[simp] theorem begun_sage : (s.begun r op).sage = s.sage := rfl
@[simp] theorem begun_jbe : (s.begun r op).jbe = s.jbe := rfl
@[simp] theorem begun_thyme : (s.begun r op).thyme = s.thyme := rfl
@[simp] theorem begun_ciph : (s.begun r op).ciph = s.ciph := rfl
@[simp] theorem begun_net : (s.begun r op).net = s.net := rfl
@[simp] theorem begun_nmc : (s.begun r op).nmc = s.nmc := rfl
@[simp] theorem begun_cxl : (s.begun r op).cxl = s.cxl := rfl
@[simp] theorem begun_rook : (s.begun r op).rook = s.rook := rfl
@[simp] theorem begun_host : (s.begun r op).host = s.host := rfl
@[simp] theorem begun_core : (s.begun r op).core = s.core := rfl
@[simp] theorem begun_turn : (s.begun r op).turn = s.turn := rfl
@[simp] theorem begun_pending : (s.begun r op).pending = s.pending := rfl
@[simp] theorem begun_reg (a : Nat) : (s.begun r op).reg a = s.reg a := rfl
@[simp] theorem begun_rn (a : Nat) : (s.begun r op).rn a = s.rn a := rfl
@[simp] theorem begun_bit (a i : Nat) : (s.begun r op).bit a i = s.bit a i := rfl
@[simp] theorem begun_fld (a lo w : Nat) : (s.begun r op).fld a lo w = s.fld a lo w := rfl
@[simp] theorem begun_now : (s.begun r op).now = s.now := rfl
@[simp] theorem begun_ctx (c : Nat) : (s.begun r op).ctx_ c = s.ctx_ c := rfl
@[simp] theorem begun_line (i : Nat) : (s.begun r op).line_ i = s.line_ i := rfl
@[simp] theorem begun_link_ (l : Nat) : (s.begun r op).link_ l = s.link_ l := rfl

end

end Sys2Proof.Machine
end

