-- ==== Sys2Proof/Tests/Slice0.lean ====
section
/-! SUPPORT. Tests: ill-formed commands that WellFormed refuses, states that meet the hypotheses of the statements, and
single steps whose results the spec's own tables give. -/

namespace Sys2Proof.Tests
open Sys2Proof Sys2Proof.Machine

set_option Elab.async false

/-- A device that has left reset: Rook has read a blank OTP, so the maker window has its rights (R324, R341). -/
def live : State := { State.reset with rook := { State.reset.rook with otpRead := true } }

/-- The live device 1 s later. -/
def live8000 : State :=
  { live.setN Reg.TIME_DSYNC_STAT 1 with time := { live.time with ftime := 8000, ppsLast := some 0, dsyncBad := 8 } }

/-- The live device with PPSOUT high for 100 ms. -/
def live800 : State := { live with time := { live.time with ftime := 800, ppsOut := some 0 } }

/-- An origin, and a device that has taken its command with opcode `op` and the given fields and not begun it. -/
def ref0 : CmdRef := ⟨0, 7, .operator⟩
def taking (s : State) (op : Nat) (fields : List Word := []) : State :=
  { s with qm := { s.qm with taken := [{ q := 0, tag := 7, op := op, win := some .operator, fields := fields }] } }

/-! ### States and operands that meet the hypotheses of the statements -/

theorem wit_ppsoutFall : live800.time.ppsOut = some 0 ∧ 0 + 8 * live800.fld Reg.TIME_PPSOUT_CFG 0 9 ≤ live800.now := by decide
theorem wit_ppsinEdge : live8000.time.ppsLast = some 0 ∧ 0 + 49151951 ≤ live8000.now * 6144 + 49 ∧
    live8000.now * 6144 + 49 ≤ 0 + 49152049 := by decide
theorem wit_ppsinEdge_bad : ∀ u, live8000.time.ppsLast = some u → u ≤ live8000.now * 6144 + 50 →
    (live8000.now * 6144 + 50 < u + 49151951 ∨ u + 49152049 < live8000.now * 6144 + 50) := by
  intro u h; cases h; decide
theorem wit_ppsinMiss : let s : State := { live with time := { live.time with ftime := 12000, ppsLast := some 6143 } }
    s.time.ppsMiss = false ∧ s.time.ppsLast = some 6143 ∧ 6143 + 73728000 ≤ s.now * 6144 + 6143 := by decide
theorem wit_lsyncEdge : (live.setN Reg.TIME_SYNC_CTRL 0x10001).bit Reg.TIME_SYNC_CTRL 16 = true := by decide
theorem wit_dsyncErr : 8 ≤ live8000.time.dsyncBad ∧ live8000.bit Reg.TIME_DSYNC_STAT 0 = true := by decide
theorem wit_phaseSample : live.dpllSrc ≠ 2 := by decide
theorem wit_ptptSetArm : live.opens .maker Reg.TIME_PTPT_SET_HI true = true := by decide
theorem wit_syncCtrl : live.canonical = true ∧ live.opens .maker Reg.TIME_SYNC_CTRL true = true ∧
    bitOf (0xFFFF : Word).toNat 18 = false ∧ bitOf (0xFFFF : Word).toNat 17 = false := by decide
theorem wit_timeRst : live.canonical = true ∧ live.opens .maker 0x8030 true = true := by decide
/-- Link 9 with a training in progress, and its LNK_STAT and BANK_CFG set. -/
def trainSt (t : Option Training) (stat cfg : Nat) : State :=
  (((live.setN (lnkStat 9) stat).setN (Reg.LINK_BANK_CFG 1) cfg).setLink 9 { (live.link_ 9) with training := t })
theorem wit_tapScanStep : ((trainSt (some (.scan false 0 63 5 4 4 0)) 0x40000000 0x400000).link_ 9).training =
      some (.scan false 0 63 5 4 4 0) ∧
    (trainSt (some (.scan false 0 63 5 4 4 0)) 0x40000000 0x400000).linkState 9 = 1 ∧
    (trainSt (some (.scan false 0 63 5 4 4 0)) 0x40000000 0x400000).trainFrames 9 ≤ 4 := by decide
theorem wit_confirm : (trainSt (some (.confirm false 64 7)) 0x40000000 0).linkState 9 = 1 ∧
    ((trainSt (some (.confirm false 8 8)) 0x40000000 0).link_ 9).training = some (.confirm false 8 8) := by decide
theorem wit_linkRetrain : (taking (trainSt none 0x80000000 0) 0x63 [9]).cmdDue ref0 0x63 = true ∧
    (taking (trainSt none 0x80000000 0) 0x63 [9]).linkState 9 = 2 := by decide
theorem wit_noEyeRetry :
    let s : State := { trainSt none 0xF0000000 0x200 with time := { ftime := 8000 } }
    s.linkState 9 = 3 ∧ s.fld (lnkStat 9) 27 3 = 6 ∧ s.autoRetrain 9 = true ∧ (s.link_ 9).downAt + 8000 ≤ s.now := by
  decide
theorem wit_lnkCtrl : live.opens .maker (Reg.LINK_LNK_CTRL (9 / 8) (9 % 8)) true = true ∧
    live.opens .maker (Reg.LINK_BANK_CFG (9 / 8)) true = true := by decide
theorem wit_linkEn : (live.setN (Reg.LINK_BANK_CFG 1) 0).rn (Reg.LINK_BANK_CFG 1) = 0 ∧ (live.link_ (8 * 1 + 1)).disabling = false ∧
    (trainSt none 0x80000000 2).rn (Reg.LINK_BANK_CFG 1) = 2 ^ 1 ∧ (trainSt none 0x80000000 2).linkState (8 * 1 + 1) ≠ 0 := by decide
/-- Link 9 UP with four frames without sync and 16 CRC errors, AUTO_RETRAIN as given. -/
def failSt (cfg : Nat) : State :=
  (((live.setN (lnkStat 9) 0x80000000).setN (Reg.LINK_BANK_CFG 1) cfg).setLink 9
    { (live.link_ 9) with noSync := 4, crcAt := List.replicate 16 0 })
theorem wit_syncLoss : (failSt 0).linkState 9 = 2 ∧ 4 ≤ ((failSt 0).link_ 9).noSync ∧
    ((failSt 0).linkDown 9 4).autoRetrain 9 = false ∧ ((failSt 0x200).linkDown 9 4).autoRetrain 9 = true := by decide
theorem wit_crcLimit : (failSt 0).fld (Reg.LINK_CRC_LIMIT (9 / 8)) 0 8 ≤ ((failSt 0).link_ 9).crcAt.length ∧
    ((failSt 0).linkDown 9 5).autoRetrain 9 = false ∧ ((failSt 0x200).linkDown 9 5).autoRetrain 9 = true := by decide
def ring0 : State := live.setN (Reg.LINK_CAD 0 0) 0x00080010
def ring1 : State := ring0.setLine 5 { ring0.line_ 5 with
  cadence := some ⟨[(8, 16)], 0, true, 1, 0, 0, 1, 0⟩, stepDue := true, deb := [(13, ⟨true, 1000, 7⟩)] }
theorem wit_lineSet : (taking live 0x60 [5]).cmdDue ref0 0x60 = true ∧ ((taking live 0x60 [5]).line_ 5).cadence = none := by decide
theorem wit_lineRing : (taking ring0 0x61 [5]).cmdDue ref0 0x61 = true ∧ (ring0.cadence (5 / 128) 0).getD 0 (0, 0) = (8, 16) ∧
    ring0.bit (lineStat 5) 15 = false ∧ ring0.bit (lineStat 5) 14 = false ∧ (ring0.line_ 5).cadence = none := by decide
theorem wit_cadence : (ring1.line_ 5).cadence = some ⟨[(8, 16)], 0, true, 1, 0, 0, 1, 0⟩ ∧ 1 ≤ ring1.now + 1 ∧
    (taking ring1 0x61 [5]).cmdDue ref0 0x61 = true ∧ ((taking ring1 0x61 [5]).begun ref0 0x61).cmdField ref0 0x61 2 ≤ 15 ∧
    ((taking ring1 0x61 [5, 0, 16]).begun ref0 0x61).cmdField ref0 0x61 2 = 16 ∧ (ring1.line_ 5).stepDue = true ∧
    ([(8, 16)] : List (Nat × Nat)).getD 0 (0, 0) = (8, 16) := by decide
theorem wit_statusDebounce : Tab.get (fun _ => {}) (ring1.line_ 5).deb 13 = ⟨true, 1000, 7⟩ ∧
    (ring1.setN (lnkStat 0) 0x80000000).debCount (5 / 128) 13 ≤ 1000 ∧
    (ring1.setN (lnkStat 0) 0x80000000).linkState (5 / 16) = 2 := by decide
theorem wit_linkMgmtSend : (taking (trainSt none 0x80000000 0) 0x62 [9]).cmdDue ref0 0x62 = true ∧ (live.link_ 9).mgmt.length < 4 ∧
    (trainSt none 0x80000000 0).linkState 9 ≠ 0 := by decide
theorem wit_ldoFrameStart :
    let s := (trainSt none 0x80000000 0).setLink 9 { (live.link_ 9) with closed := some ⟨1, false, false, [], [], none⟩ }
    s.linkState 9 ≠ 0 ∧ (s.link_ 9).started = 0 ∧ (s.link_ 9).closed = some ⟨1, false, false, [], [], none⟩ := by decide
theorem wit_ldoRepeat :
    let s := (trainSt none 0x80000000 0).setLink 9 { (live.link_ 9) with sent := some ⟨1, false, false, [], [], none⟩, started := 1 }
    s.linkState 9 ≠ 0 ∧ 0 < (s.link_ 9).started ∧ (s.link_ 9).sent = some ⟨1, false, false, [], [], none⟩ := by decide
theorem wit_linkRst : live.opens .maker (0x10000 + 1 * 0x1000 + 0x30) true = true ∧
    (live.setN (Reg.LDC_LINE_CFG 1 0) 0x40000000).opens .maker (0x10000 + 1 * 0x1000 + 0x30) true = true ∧
    ((live.setN (Reg.LDC_LINE_CFG 1 0) 0x40000000).seenBy .maker).bound (128 * 1 + 0) = true := by decide
theorem wit_linkRst_free : ∀ i, i < 128 → (live.seenBy .maker).bound (128 * 1 + i) = false := by decide
def line5 (v : Nat) : State := live.setN (lineCfg 5) v
theorem wit_lineEnable : live.opens .maker (lineCfg 5) true = true ∧
    (live.seenBy .maker).lineCfgStatus 5 ((0x270000 ||| 0x80000000#32) &&& 0x873F7F00#32).toNat = 0 := by decide
theorem wit_lineDisable : (line5 0x81000000).opens .maker (lineCfg 5) true = true ∧
    ((line5 0x81000000).seenBy .maker).lineCfgStatus 5
      (((line5 0x81000000).reg (lineCfg 5) &&& 0x7FFFFFFF#32) &&& 0x873F7F00#32).toNat = 0 := by decide
theorem wit_lineField : (line5 0).opens .maker (lineCfg 5) true = true ∧
    ((line5 0).seenBy .maker).lineCfgStatus 5 (w32 (putField ((line5 0).rn (lineCfg 5)) 24 3 7) &&& 0x873F7F00#32).toNat = 0 ∧
    ((line5 0).seenBy .maker).lineCfgStatus 5 (w32 (putField ((line5 0).rn (lineCfg 5)) 8 7 127) &&& 0x873F7F00#32).toNat = 0 ∧
    ((line5 0).seenBy .maker).lineCfgStatus 5 (w32 (putField ((line5 0).rn (lineCfg 5)) 16 6 39) &&& 0x873F7F00#32).toNat = 0 ∧
    (line5 0).bound 5 = false := by decide
theorem wit_lineDisable_bound : (line5 0xC0000000).opens .maker (lineCfg 5) true = true ∧ (line5 0xC0000000).bound 5 = true ∧
    (line5 0xC0000000).bit (lineCfg 5) 31 = true ∧ fieldOf 0x80007F00 16 6 = (line5 0xC0000000).fld (lineCfg 5) 16 6 ∧
    fieldOf 0x80007F00 24 3 = (line5 0xC0000000).fld (lineCfg 5) 24 3 ∧ bitOf 0x80007F00 31 = true := by decide
theorem wit_ldcSync : live.opens .maker (Reg.LDC_LDC_SYNC 3) true = true := by decide
theorem wit_swapRequest : live.opens .maker (Reg.LDC_SET_CTRL 3 6) true = true ∧ bitOf ((0#32) ||| 0x10000#32).toNat 16 = true ∧
    s3mode (live.rn (Reg.LDC_SET_CFG 3 6)) = 0 ∧ live.bit (Reg.LDC_SET_STAT 3 6) 2 = false := by decide
theorem wit_fadeEnd : ((live.setSet 30 { fade := some (4, 2) }).set_ (8 * 3 + 6)).fade = some (4, 2) ∧ 2 ^ 2 ≤ 4 := by decide
def coefSt : State := live.setN (Reg.LDC_COEF_SEL 3) 0x600
theorem wit_coefData : coefSt.opens .maker (Reg.LDC_COEF_DATA 3) true = true ∧
    coefSt.opens .maker (Reg.LDC_COEF_DATA 3) false = true ∧
    coefSt.fld (Reg.LDC_COEF_SEL 3) 8 3 = 6 ∧ coefSt.setUsed 3 6 = false ∧ (coefSt.set_ 30).fade = none ∧
    (coefSt.set_ 30).starting = false ∧ coefSt.bit (Reg.LDC_SET_STAT 3 6) 2 = false ∧
    coefSt.fld (Reg.LDC_COEF_SEL 3) 0 8 ≤ coefSt.fld (Reg.LDC_SET_CFG 3 6) 0 8 := by decide
theorem wit_lineMeas : (taking (line5 0x80000000) 0x64 [5]).cmdDue ref0 0x64 = true ∧ inNear 0x1000 (4 * 8) = true ∧
    (line5 0x80000000).bit (lineCfg 5) 31 = true ∧ ((line5 0x80000000).dec_ 5).meas = none ∧
    (line5 0x80000000).measCount (5 / 128) < 16 ∧ 0 < setRate ((line5 0x80000000).lineSetCfg 5) * 5 := by decide
theorem wit_lineMeasDone : ((live.setDec 5 { live.dec_ 5 with meas := some { start := 1, len := 1, freq := 0, dest := 0, rate := 8000, count := 1 } }).dec_
    5).meas = some { start := 1, len := 1, freq := 0, dest := 0, rate := 8000, count := 1 } := by decide
theorem wit_ldcRst : live.opens .maker (0x20000 + 3 * 0x1000 + 0x30) true = true := by decide
def ece0 : Ece := { ctx := 3, packet := true, wide := false, tlen := 2, bulk := 0, prof := 0, cnt := 40000 }
/-- Unit 2 of cluster 0 holds the instance given, with the blocks and triggers given, in frame 5,000. -/
def eceSt (x : Ece) (bl : List EceBlock) (tr : List EceTrig) : State :=
  { live.setEce 2 (some x) with
    ece := { (live.setEce 2 (some x)).ece with blocks := bl, trigs := tr }, time := { ftime := 5000 } }
theorem wit_eceSubmit : (eceSt ece0 [] []).ece_ (256 * (0 / 8) + (0x00050002#32).toNat % 256) = some ece0 ∧
    ece0.packet = true := by decide
theorem wit_focusPlace : (eceSt { ece0 with focusDue := true } [] []).ece_ (256 * 0 + 2) =
    some { ece0 with focusDue := true } := by decide
theorem wit_dtHangEnd : let x : Ece := { ece0 with dt := true, tone := 1, lowSince := some 0, dropSince := some 0 }
    (eceSt x [] []).ece_ (256 * 0 + 2) = some x ∧ x.dt = true ∧
    x.dtAt + fieldOf ((eceSt x [] []).ecePrf 0 x.prof 2) 16 8 * x.per ≤ x.cnt ∧ x.tone ≠ 0 ∧
    0 + 16 * fieldOf ((eceSt x [] []).ecePrf 0 x.prof 5) 16 8 ≤ x.frame (eceSt x [] []).now ∧ x.faulted = false ∧
    0 + 8 * max 1 (fieldOf ((eceSt x [] []).ecePrf 0 x.prof 4) 12 8) ≤ x.frame (eceSt x [] []).now := by decide
theorem wit_erleDrop : let x : Ece := { ece0 with dropSince := some 0 }
    (eceSt x [] []).trigStatus (256 * 0 + 2) x = 0 := by decide
theorem wit_dtLong : let x : Ece := { ece0 with dtSince := some 0 }
    let s := (eceSt x [] []).setN (Reg.ECE_PRF_DTD 0 0) 0x100
    s.ece_ (256 * 0 + 2) = some x ∧ fieldOf (s.ecePrf 0 x.prof 2) 8 8 ≠ 0 ∧
    0 + 64 * fieldOf (s.ecePrf 0 x.prof 2) 8 8 ≤ x.frame s.now ∧ s.trigStatus (256 * 0 + 2) x = 0 := by decide
theorem wit_replayStart : let s := (eceSt ece0 [] [⟨2, 2000⟩]).setN (Reg.ECE_ECE_CFG 0) 4
    s.ece.trigs.find? (fun t => t.inst / 256 == 0) = some ⟨2, 2000⟩ ∧ s.ece_ 2 = some ece0 ∧ ece0.bg = none ∧
    s.slotsUsed 0 true + ece0.per ≤ s.fld (Reg.ECE_ECE_CFG 0) 0 5 ∧ s.slotsUsed 0 false + ece0.per ≤ 16 := by decide
theorem wit_eceBg : let b : EceBg := { phase := 1, h := [], failed := true, retro := true, pos := 40000 }
    let x : Ece := { ece0 with bg := some b }
    (eceSt x [] []).ece_ (256 * 0 + 2) = some x ∧ b.failed = true ∧ x.cnt ≤ b.pos := by decide
theorem wit_comparisonEnd : let b : EceBg := { phase := 2, h := [], seen := 512, far := 255 }
    let x : Ece := { ece0 with bg := some b }
    (eceSt x [] []).ece_ (256 * 0 + 2) = some x ∧ 512 * x.per ≤ b.seen := by decide
theorem wit_eceFadeEnd : let x : Ece := { ece0 with bg := some { phase := 3, h := [1] }, ended := some ⟨128, 7, false⟩ }
    (eceSt x [] []).ece_ (256 * 0 + 2) = some x ∧ x.pend = false := by decide
theorem wit_packetBlockDone : let s := eceSt ece0 [⟨2, 5, 4998, 4990⟩] []
    s.ece.blocks.find? (fun b => b.inst / 256 == 0) = some ⟨2, 5, 4998, 4990⟩ ∧ s.ece_ 2 = some ece0 := by decide
def openSt : State := live.setCtx 3 { state := 1 }
theorem wit_eceAttach : (taking openSt 0x20 [3]).cmdDue ref0 0x20 = true ∧ (openSt.ctx_ 3).state = 1 ∧ openSt.eceOf 3 = none ∧
    openSt.freeUnit (openSt.ctx_ 3).home false = some 0 := by decide
theorem wit_eceCmd : let s := taking (eceSt ece0 [] []) 0x24 [3]
    s.cmdDue ref0 0x24 = true ∧ s.eceOf 3 = some (2, ece0) ∧ s.echoBad ece0 { prof := some 3 } = false ∧
    s.trigStatus 2 ece0 = 0 ∧ ece0.bg = none ∧
    s.slotsUsed (2 / 256) false + ece0.per ≤ 16 ∧ inNear 0x1000 (4 * ece0.taps) = true := by decide
theorem wit_eceCmds : (taking (eceSt ece0 [] []) 0x21 [3]).cmdDue ref0 0x21 = true ∧
    (taking (eceSt ece0 [] []) 0x22 [3]).cmdDue ref0 0x22 = true ∧ (taking (eceSt ece0 [] []) 0x23 [3]).cmdDue ref0 0x23 = true ∧
    (taking (eceSt ece0 [] []) 0x25 [3]).cmdDue ref0 0x25 = true ∧ (taking (eceSt ece0 [] []) 0x27 [3]).cmdDue ref0 0x27 = true := by
  decide
theorem wit_eceSwap : let x : Ece := { ece0 with bg := some { phase := 0, h := [], retro := false } }
    (taking (eceSt x [] []) 0x26 [3]).cmdDue ref0 0x26 = true ∧
    (taking (eceSt x [] []) 0x26 [3]).eceOf 3 = some (2, x) ∧ x.pend = false := by decide
theorem wit_eceRst : live.opens .maker (0x30000 + 2 * 0x1000 + 0x30) true = true := by decide
def sage0 : SageSlot := { ctx := 3, wide := false, s0 := {}, s1 := {}, fresh := false }
def sageSt (x : SageSlot) : State := { (live.setCtx 3 { state := 1 }).setSlot 1 (some x) with time := { ftime := 100 } }
theorem wit_sageSubmit : live.slot_ (512 * (0 / 8) + (2#32).toNat % 1024 / 2) = none ∧
    (sageSt sage0).slot_ (512 * (0 / 8) + (2#32).toNat % 1024 / 2) = some sage0 ∧
    (sageSt sage0).sageCore sage0 = true ∧ sage0.s0.block = none ∧ sage0.s1.blockEnd = none := by decide
theorem wit_sageBlockRead : let x : SageSlot := { sage0 with s0 := { block := some (99, 90) } }
    (sageSt x).slot_ (512 * 0 + 2 / 2) = some x ∧ 99 < (sageSt x).now := by decide
theorem wit_sageBlockRead1 : let x : SageSlot := { sage0 with s1 := { block := some (99, 90) } }
    (sageSt x).slot_ (512 * 0 + 3 / 2) = some x ∧ x.s0.block = none := by decide
theorem wit_sageAttach : (taking (live.setCtx 3 { state := 1 }) 0x30 [3]).cmdDue ref0 0x30 = true ∧
    (taking (live.setCtx 3 { state := 1 }) 0x30 [3]).sageAttachStatus 3 ⟨0, 7, 0⟩ = (0, 0) := by decide
theorem wit_sageCmd : (sageSt sage0).sageOf 3 = some (1, sage0) ∧ (taking (sageSt sage0) 0x31 [3]).cmdDue ref0 0x31 = true ∧
    (taking (sageSt sage0) 0x32 [3]).cmdDue ref0 0x32 = true ∧ (taking (sageSt sage0) 0x33 [3]).cmdDue ref0 0x33 = true := by decide
theorem wit_sageRst : live.opens .maker (0x40000 + 2 * 0x1000 + 0x30) true = true := by decide
def open0 : OpenFields := {
  id := 3, line := 0xFFFF, home := 0, evq := 16, codec := 1, rxpt := 20, txpt := 20, nslot := 64,
  minLead := 20, maxLead := 160, bph := 0xFFFF, pkph := 0xFFFF, txph := 0xFFFF, net := true, vpt := 0, evPt := 101, cnPt := 13,
  evtMode := 0, srtp := none, echo := none, sage := none }
theorem wit_ctxOpen : (taking live 1 [3]).cmdDue ref0 1 = true ∧ live.trngHalted = false ∧
    live.openBad open0 (live.openCtx 3 open0) = false ∧ live.ctxCnt < 8192 ∧ (live.ctx_ 3).state = 0 ∧
    live.overLimit 0 (live.openCtx 3 open0).clu = false ∧
    (((((taking live 1 [3]).begun ref0 1).openWake 0 open0).setCtx 3 (live.openCtx 3 open0)).openAttach 3 open0).1 = 0 := by decide
theorem wit_openAttach : let t := (live.openWake 0 open0).setCtx 3 (live.openCtx 3 open0)
    (t.ctx_ 3).srtp = none ∧ t.exactUsed + 2 ≤ 32768 := by decide
/-- Contexts 3 and 4 are open packet contexts with network parts, and the command of opcode `op` is due. -/
def ctxSt (x : Ctx) (op : Nat := 2) : State :=
  taking ((live.setCtx 3 x).setCtx 4 { state := 1, net := true, partner := some 3 }) op [3]
def ctx0 : Ctx := { state := 1, net := true, codec := 1, rxpt := 20, txpt := 20, nslot := 64, minLead := 20, maxLead := 160, evPt := 101, cnPt := 13, clu := 10 }
theorem wit_ctxModify : (ctxSt ctx0).cmdDue ref0 2 = true ∧ (ctxSt ctx0).ctx_ 3 = ctx0 ∧ ctx0.state = 1 ∧
    (ctxSt ctx0).shapeBad (ctx0.modShape { minLead := some 30, maxLead := none, data := some false }) = false ∧
    (ctxSt ctx0).overLimit ctx0.clu ((ctxSt ctx0).charge ctx0.codec ctx0.rxpt ctx0.txpt false) = false := by decide +kernel
theorem wit_ctxDue : (ctxSt ctx0 3).cmdDue ref0 3 = true ∧ (ctxSt ctx0 4).cmdDue ref0 4 = true ∧ (ctxSt ctx0 11).cmdDue ref0 11 = true ∧
    (ctxSt ctx0 9).cmdDue ref0 9 = true ∧ (ctxSt ctx0 10).cmdDue ref0 10 = true := by decide
theorem wit_ctxBind : let s := (ctxSt ctx0 5).setN (lineCfg 5) 0x81000000
    s.cmdDue ref0 5 = true ∧ (s.ctx_ 3).line = none ∧ (s.ctx_ 3).mate = none ∧ s.bindStatus 5 ctx0.nextCodec = 0 ∧
    5 / 128 = (s.ctx_ 3).home ∧ s.overLimit ctx0.clu (s.charge 1 20 20 true) = false := by decide
theorem wit_ctxUnbind : let s := ctxSt { ctx0 with line := some 5 } 6
    s.cmdDue ref0 6 = true ∧ (s.ctx_ 3).state = 1 ∧ (s.ctx_ 3).line = some 5 ∧ (s.ctx_ 3).hairpin = false ∧
    (s.ctx_ 3).joinDue.any Prod.snd = false := by decide
theorem wit_ctxJoin : let s := (ctxSt ctx0 7).setCtx 4 ctx0
    s.cmdDue ref0 7 = true ∧ (s.ctx_ 3) = ctx0 ∧ (s.ctx_ 4) = ctx0 ∧ ctx0.mate = none ∧ ctx0.line = none ∧ ctx0.net = true := by
  decide +kernel
theorem wit_ctxSplit : let s := ctxSt { ctx0 with partner := some 4 } 8
    s.cmdDue ref0 8 = true ∧ (s.ctx_ 3).mate = some 4 ∧ (s.ctx_ 3).state = 1 := by decide
def tmpl0 : TemplateFields := ⟨0, 1, 2, [], false, 1, 2, 46, 64, 0, 5004, 5004, false, none, none, none, none, false⟩
theorem wit_ctxSetTemplate : (ctxSt ctx0).templateBad 3 tmpl0 = false ∧ ((ctxSt ctx0).ctx_ 3).net = true ∧ tmpl0.rxKey = none ∧
    ((ctxSt ctx0).ctx_ 3).evPt ≠ 0 ∧ ((ctxSt ctx0).ctx_ 3).sending = none := by
  decide +kernel
def pkt0 : RtpPacket := ⟨3, 7, 90, 1, 5004, 2, 0, false, 0, 0, 0, [1, 2]⟩
def inboxSt (x : Ctx) : State := { ctxSt x with jbe := { (ctxSt x).jbe with inbox := [pkt0] } }
theorem wit_rxPacketJudge : (inboxSt ctx0).jbe.inbox.find? (fun k => k.ctx == 3) = some pkt0 ∧
    ((inboxSt { ctx0 with codec := 9 }).ctx_ 3).state = 1 ∧ ((inboxSt { ctx0 with codec := 9 }).ctx_ 3).codec = 9 ∧
    ((inboxSt ctx0).ctx_ 3).codec ≠ 9 ∧ ((inboxSt { ctx0 with state := 0 }).ctx_ 3).state ≠ 1 := by decide
theorem wit_judgePlaced : ctx0.run < (ctxSt ctx0).fld Reg.JBE_LATCH_CFG 8 8 := by decide
theorem wit_adaptWindowEnd : let s : State := { ctxSt ctx0 with time := { ftime := 100000 } }
    (s.ctx_ 3).state = 1 ∧ (s.ctx_ 3).winStart + 80 * s.fld Reg.JBE_ADAPT_CFG 22 10 ≤ s.now := by
  decide +kernel
theorem wit_rxEventTimeout : let s : State := { ctxSt { ctx0 with event := some ⟨0, 5, 10, 400, 90, true⟩ } with time := { ftime := 1690 } }
    (s.ctx_ 3).event = some ⟨0, 5, 10, 400, 90, true⟩ ∧ 90 + 1600 ≤ s.now := by decide
theorem wit_ringApply : let s := ctxSt { ctx0 with ringPend := some (32, 20), bph := 0 }
    (s.ctx_ 3).ringPend = some (32, 20) ∧ (s.ctx_ 3).state = 1 ∧ s.now % 40 = (s.ctx_ 3).bph ∧ s.validSlots 3 = [] := by
  decide +kernel
/-- Queue 256, the PRE queue of cluster 0, holds one item of context 3 with 2 octets. -/
def preQ : Queue := { en := true, size := 1, wr := 4, items := [(4, none, 0)] }
def preSt (x : Ctx) : State :=
  (((ctxSt x).setN Reg.PRE_POOL_CNT 4).setFld Reg.PRE_PRE_CFG 16 9 256 |>.setQue 256 preQ).putWords preQ 0 [0xA0000003, 3, 0, 2]
theorem wit_preTxTake : (preSt { ctx0 with codec := 9 }).poolPick = some 0 ∧
    ((preSt { ctx0 with codec := 9 }).frontItem ((preSt { ctx0 with codec := 9 }).fld Reg.PRE_PRE_CFG 16 9 + 0)).isSome = true := by
  decide +kernel
theorem wit_ptpOffset : live.opens .maker Reg.TIME_PTP_OFFSET true = true ∧
    (live.setFld Reg.TIME_DPLL_STAT 4 3 3).dpllSrc = 3 ∧ Tab.wf (fun _ => (0 : Int)) live.time.phErr = true := by decide
/-- Source 1 has priority 1, and the mode is as given. -/
def srcSt (mode : Nat) : State := live.setN Reg.TIME_SRC_CFG (0x1010 + mode)
theorem wit_sourceQualify : (srcSt 0).qualified 1 = false ∧ (live8000.setN Reg.TIME_DPLL_STAT 0).qualified 4 = false ∧
    16 ≤ ({ live with time := { live.time with dsyncGood := 16 } } : State).time.dsyncGood := by decide
theorem wit_sourceLost : let s := (srcSt 1).setN Reg.TIME_DPLL_STAT 0x20012
    s.qualified 1 = true ∧ s.meetsLoss 1 = true ∧ s.dpllSrc = 1 ∧ s.onXtal = false := by decide
theorem wit_revertive : let s := { (live.setN Reg.TIME_SRC_CFG 0x21000).setN Reg.TIME_DPLL_STAT 0x60022 with time := { ftime := 480000 } }
    s.dpllMode = 0 ∧ s.dpllSrc = 2 ∧ s.onXtal = false ∧ s.qualified 1 = true ∧ s.ranksAbove 1 2 = true ∧
    Tab.get (fun _ => 0) s.time.qualAt 1 + 480000 ≤ s.now := by decide +kernel
theorem wit_dpllLock : let s : State := { live.setN Reg.TIME_DPLL_STAT 0x21 with time := { ftime := 480000 } }
    s.dpllState = 1 ∧ s.time.critAt + 480000 ≤ s.now ∧
      (signed 32 (s.rn Reg.TIME_PHASE_ERR)).natAbs ≤ s.fld Reg.TIME_DPLL_CFG 16 12 := by decide
theorem wit_hoQual : (live.setN Reg.TIME_DPLL_STAT 0x22).dpllState = 2 ∧
    0 + 691200000 ≤ ({ live with time := { ftime := 691200000 } } : State).now := by decide +kernel
/-- A step is permitted, and source `x` is followed with a large error. -/
def stepSt (x : Nat) : State :=
  ((live.setFld Reg.TIME_DPLL_CFG 4 1 1).setN Reg.TIME_PHASE_ERR 0x7FFFFFFF).setN Reg.TIME_DPLL_STAT (1 + 16 * x)
theorem wit_dpllStep : (stepSt 2).mayStep = true ∧ (stepSt 2).dpllSrc = 2 ∧ (stepSt 4).mayStep = true ∧
    (stepSt 4).dpllSrc = 4 ∧ signed 32 ((stepSt 4).rn Reg.TIME_PHASE_ERR) = 0x7FFFFFFF := by decide +kernel
/-- Context 3 has a journal whose epoch began at frame 0; `fill` says that the first block holds all its sub-blocks. -/
def epoch0 : Epoch := {
  preset := 0, wide := false, enc := false, table := 0, bph := 0, stride := 184, nblk := 51, ep := 0, next := 0,
  kgenEp := 1, kgenW := 1, tOpen := 0 }
def jnlSt : State := { (live.setCtx 3 ctx0).setJctx 3 (some { cfg := ⟨true, 0, 0, 1, false⟩, epoch := some epoch0 }) with
  time := { ftime := 200 } }
theorem wit_jnlSubmit : let a := jnlSt.jsEntry 0 1
    let s := jnlSt.wrBytes a [40, 0, 0, 0, 3, 0, 40, 3]
    s.jsGood (s.jsEntry 0 1) = true ∧ s.thyme.subs.contains (0, 1) = false ∧ live.jsGood (live.jsEntry 0 1) = false := by
  decide +kernel
theorem wit_thymeBlockCode : let s := { jnlSt with time := { ftime := 240 } }
    s.blockReady 3 = true ∧ s.epoch 3 = some epoch0 := by decide +kernel
def slot0 (k : Nat) : JSlot := {
  ctx := 3, stream := k, block := 0, addr := 0x1000000000, bytes := [1], kgen := 1, plain := false, endFrame := 160 }
def slotSt (k : Nat) : State := { jnlSt with thyme := { jnlSt.thyme with slots := [slot0 k] } }
theorem wit_thymeSlotWrite : (slotSt 1).thyme.slots.find? (fun x => !x.plain) = some (slot0 1) := by decide
/-- Far memory is present, and the journal regions lie in it. -/
def farSt : State := (((((((live.setN Reg.THYME_JNL_BASE_HI 0x10).setN Reg.THYME_JDIR_BASE_HI 0x40).setN Reg.THYME_CREG
  1).setN (Reg.CXL_DEC_BASE 0) 0x100).setN (Reg.CXL_DEC_SIZE 0) 0x400).setN (Reg.CXL_DEC_CTL 0) 0xC0000000).setN
  (Reg.CXL_PORT_STAT 0) 0x40000000)
theorem wit_thymeEnable : let v : Word := 0x00001001
    let n := (v ||| 0x80000000#32).toNat
    farSt.opens .maker Reg.THYME_THYME_CFG true = true ∧ fieldOf n 12 9 = 1 ∧ fieldOf n 0 9 = 1 ∧
    farSt.regionsOk = true ∧ farSt.thymeEn = false ∧ farSt.trngHalted = false ∧
    farSt.farReady farSt.jnlBase (8192 * farSt.creg) = true ∧ farSt.farReady farSt.jdirBase 0x80000 = true ∧
    (farSt.setN Reg.THYME_THYME_CFG 0x80001001).opens .maker Reg.THYME_THYME_CFG true = true ∧
    (farSt.setN Reg.THYME_THYME_CFG 0x80001001).regionsOk = true ∧
    (farSt.setN Reg.THYME_THYME_CFG 0x80001001).thymeEn = true := by decide +kernel
theorem wit_thymeDisable : let v : Word := 0x00001001
    let s := farSt.setN Reg.THYME_THYME_CFG 0x80001001
    s.opens .maker Reg.THYME_THYME_CFG true = true ∧ fieldOf (v &&& 0x7FFFFFFF#32).toNat 12 9 = 1 ∧
    fieldOf (v &&& 0x7FFFFFFF#32).toNat 0 9 = 1 ∧ s.thymeEn = true := by decide +kernel
theorem wit_thymeRst : live.opens .maker 0x98030 true = true := by decide +kernel
def jset0 (on : Bool) (preset : Nat) : JournalFields := { on := on, preset := preset, table := 1, depth := 1, enc := false }
def setSt : State := ((jnlSt.setN Reg.THYME_THYME_CFG 0x80001001).setN Reg.THYME_CREG 1)
theorem wit_thymeSet : setSt.setStatus 3 (jset0 true 0) = 0 ∧ setSt.setStatus 3 (jset0 false 1) = 0 ∧
    (taking setSt 0x40 [3]).cmdDue ref0 0x40 = true := by decide +kernel
/-- Far memory holds the journal, and the epoch has blocks 0 and 1 written. -/
def readSt : State := ((farSt.setCtx 3 ctx0).setN Reg.THYME_THYME_CFG 0x80001001).setJctx 3
  (some { cfg := ⟨true, 0, 0, 1, false⟩, epoch := some { epoch0 with next := 2, last := some 1 } })
theorem wit_thymeRead : readSt.readStatus .installer 3 3 0 2 = 0 ∧ inNear 0x1000 (2 * 2 * 640) = true ∧
    (readSt.jrec 3).stride = 184 ∧ (taking readSt 0x41 [3]).cmdDue ref0 0x41 = true := by decide +kernel
theorem wit_thymeCopy : readSt.copyStatus .installer 3 1 0 (some 1) 0x3000000000 0x1000 = 0 ∧
    (taking readSt 0x42 [3]).cmdDue ref0 0x42 = true := by decide +kernel
theorem wit_thymeStop : live.journalRight .installer = true ∧ live.journalRight .maker = false ∧
    (taking live 0x43 [3]).cmdDue ref0 0x43 = true ∧ (taking live 0x44 [3]).cmdDue ref0 0x44 = true := by decide +kernel
def job0 (d : Bool) : JJob := ⟨ref0, d, false, 0, 0x1000, 320, 0x2000, 320, 0x3000, true⟩
theorem wit_thymeCode : live.codeStatus ⟨false, 0, 0, 0x1000, 320, 0x2000, 320, 0x3000, true⟩ = 0 ∧
    (taking live 0x45).cmdDue ref0 0x45 = true ∧
    ({ live with thyme := { live.thyme with jobs := [job0 true] } } : State).thyme.jobs = [job0 true] := by decide +kernel
theorem wit_thymeKey : let s := { live with thyme := { live.thyme with keys := [(1, 5)] } }
    s.jkey 1 = some 5 ∧ (taking s 0x46).cmdDue ref0 0x46 = true := by decide
def cxlSt (st : Nat) : State := (live.setN (Reg.CXL_PORT_STAT 0) (st * 2 ^ 28)).setN (Reg.CXL_PORT_CTL 0) 1
theorem wit_cxlPort : live.opens .maker (Reg.CXL_PORT_CTL 0) true = true ∧ live.bit (Reg.CXL_PORT_CTL 0) 0 = false ∧
    (cxlSt 4).opens .maker (Reg.CXL_PORT_CTL 0) true = true ∧ (cxlSt 4).bit (Reg.CXL_PORT_CTL 0) 0 = true ∧
    (((cxlSt 4).seenBy .maker).setFld (Reg.CXL_PORT_CTL 0) 0 1 0).cxlState 0 = 4 ∧
    (((cxlSt 3).seenBy .maker).setFld (Reg.CXL_PORT_CTL 0) 0 1 0).cxlState 0 = 3 ∧
    (cxlSt 3).opens .maker (Reg.CXL_PORT_CTL 0) true = true ∧ (cxlSt 1).cxlState 0 = 1 ∧ (cxlSt 5).cxlState 0 = 5 ∧
    (cxlSt 5).now < Tab.get (fun _ => 0) (cxlSt 5).cxl.recovAt 0 + 8 * (cxlSt 5).fld Reg.CXL_CXL_CFG 16 8 := by
  decide +kernel
theorem wit_cxlRst : live.opens .maker 0xB0030 true = true ∧ live.cxlState 0 < 3 ∧ live.cxlState 1 < 3 := by decide +kernel
theorem wit_decCommit : let s := ((live.setN (Reg.CXL_DEC_BASE 0) 0x100).setN (Reg.CXL_DEC_SIZE 0) 0x400).setN (Reg.CXL_PORT_STAT 0) 0x40000000
    s.opens .maker (Reg.CXL_DEC_CTL 0) true = true ∧ s.decOn 0 = false ∧ fieldOf (0x600 : Word).toNat 8 4 ≤ 6 ∧
    ((s.seenBy .maker).setReg (Reg.CXL_DEC_CTL 0) (0x600 &&& 0xF11#32)).commitBad 0 = false ∧
    ((live.seenBy .maker).setReg (Reg.CXL_DEC_CTL 0) (0x600 &&& 0xF11#32)).commitBad 0 = true := by decide +kernel
theorem wit_decUncommit : farSt.opens .maker (Reg.CXL_DEC_CTL 0) true = true ∧ farSt.decOn 0 = true ∧
    farSt.decNeeded 0 = false ∧ (farSt.setN Reg.THYME_THYME_CFG 0x80001001).decOn 0 = true ∧
    (farSt.setN Reg.THYME_THYME_CFG 0x80001001).decNeeded 0 = true := by decide +kernel
theorem wit_xio : let u := ((cxlSt 4).seenBy .maker).setReg Reg.CXL_XIO_CTL (0 &&& 0x3100000F#32)
    live.opens .maker Reg.CXL_XIO_CTL true = true ∧ live.bit Reg.CXL_XIO_STAT 31 = false ∧
    (cxlSt 4).opens .maker Reg.CXL_XIO_CTL true = true ∧ u.cxlState (u.fld Reg.CXL_XIO_CTL 24 1) = 4 ∧
    u.bit Reg.CXL_XIO_CTL 29 = false ∧ (live.setN Reg.CXL_XIO_STAT 0x80000000).bit Reg.CXL_XIO_STAT 31 = true ∧
    live.cxl.xioWr = false ∧ ({ xioWr := true } : CxlSt).xioWr = true := by
  decide +kernel
theorem wit_cxlMemReadDone : (cxlSt 4).cxlState 0 = 4 ∧ Tab.get (fun _ => none) (cxlSt 4).cxl.poison 0 = none := by
  decide +kernel
def turnSt (o : Operand) (p : Producer) (f : Flow) (line : Option Nat) : State :=
  let s := (live.setCtx 3 { ctx0 with line := line }).setFlow 3 f
  { s with turn := { s.turn with posted := [(o, p)] } }
def opL : Operand := ⟨1, 3, 40, 5, 6⟩
def opP : Operand := ⟨2, 3, 40, 7, 8⟩
def opE : Operand := ⟨7, 3, 0, 7, 8⟩
def turned (s : State) : State := { s with turn := { s.turn with posted := [] } }
/-- A store whose shared entries are all in use. -/
def fullSt (o : Operand) (p : Producer) : State :=
  let s := turnSt o p {} none
  { s with turn := { s.turn with ready := [⟨3, 9, 1, 1, false, false, 0, 0, 0, 0, 0, 0, 0, 0, 0, 16384⟩] } }
theorem wit_operandAccept : (turned live).flowLive 3 = false ∧
    (let s := turned (fullSt opE .host); s.discards opE = false ∧ s.needsShared opE = true ∧ 16384 ≤ s.sharedUsed) ∧
    (let s := turned (turnSt opE .keep {} none); s.discards opE = false ∧ s.sharedUsed < 16384 ∧ opE.boundary = false) ∧
    (let s := turned (turnSt opL (.boundary 40) { lastF := some 40 } none)
     opL.boundary = true ∧ (s.flow_ 3).lastF.any (fun k => notAfter32 40 k) = true) ∧
    (let s := turned (turnSt opL (.boundary 40) { unmatched := [⟨opP, false⟩] } (some 5))
     s.discards opL = false ∧ s.lineFlow 3 = true ∧ (s.flow_ 3).unmatched = [⟨opP, false⟩] ∧ s.needsShared opL = false) := by
  decide +kernel
def move0 (lvl lat : Nat) : Move := ⟨3, 3, lvl, 1, false, false, 0, 0, lat, 0, 0, 0, 0, 0, 0, 1⟩
def readySt (m : Move) : State := { live.setCore 0 { (live.core_ 0) with state := 1 } with
  turn := { live.turn with ready := [m] }, time := { us := 5000 } }
theorem wit_dispatch : (readySt (move0 1 0)).bgBlocked = false ∧ (readySt (move0 1 0)).choose = some (move0 1 0, 0) := by
  decide +kernel
theorem wit_promotion : (readySt (move0 3 0)).ageLimit 3 ≤ 5000 - 0 ∧ (readySt (move0 1 0)).ageLimit 1 ≤ 5000 - 0 := by
  decide +kernel
theorem wit_hourglass : pastDue 0 (live.now % 2 ^ 32) = true := by decide +kernel
/-- The request queue is queue 32, with one item of `n` payload words. -/
def treqSt (l : List Word) : State :=
  let q : Queue := { en := true, size := 1, wr := l.length, items := [(l.length, none, 0)] }
  (((live.setCtx 3 ctx0).setFld Reg.TURN_TURN_CFG 0 9 32).setQue 32 q).putWords q 0 l
def treqOf (l : List Word) (t : Treq) : Bool :=
  let s := treqSt l
  decide (s.treqQ = 32) && (s.frontItem 32).any (fun i => decide (i.1 = l.headD 0 ∧ i.2.1 = l.tail ∧
    s.readTreq i.1 i.2.1 = t))
theorem wit_requests : treqOf [0xA4000003, 0x02000003, 5, 6] (.post 8 3 5 6) = true ∧
    treqOf [0xA4000004, 0x18000001, 0x00000003, 10, 9] (.set 1 3 10 0 9) = true ∧
    treqOf [0xA4000001, 0x20000001] (.cancel 1) = true ∧ treqOf [0xA4000001, 0x30000001] (.bad 0x30000001) = true ∧
    (treqSt [0xA4000003, 0x02000003, 5, 6]).turn.reqHeld = false := by decide +kernel
theorem wit_sysPost : let s := live.setN (Reg.TURN_SYSFLOW_CFG 3) 0x80000000
    s.opens .maker Reg.TURN_SYS_POST true = true ∧ s.flowLive (8192 + 3 % 64) = true ∧ s.sharedUsed < 16384 ∧
    s.opens .maker (Reg.TURN_SYSFLOW_CFG 3) true = true ∧ s.bit (Reg.TURN_SYSFLOW_CFG 3) 31 = true := by decide +kernel
theorem wit_turnRst : live.opens .maker 0x70030 true = true ∧ live.anyCtx = false ∧ live.allStopped = true := by
  decide +kernel
def q0 : Queue := { en := true, size := 1 }
def qSt (x : Queue) : State := live.setQue 40 x
theorem wit_queueWrite : (∀ b, (qSt q0).opens .maker (0x400000 + 40 * 0x800) b = true) ∧
    (qSt q0).opens .maker (0x400000 + 40 * 0x800 + 0x400) true = true ∧
    (qSt q0).opens .maker (0x400000 + 40 * 0x800 + 0x404) true = true ∧ 2 ≤ q0.free ∧ (q0.winQ .maker).drop = none ∧
    ({ q0 with wr := 512 } : Queue).free < 2 ∧ 1 + 1 ≤ min 1023 (q0.S / 4 - 1) ∧
    ({ q0 with wr := 2, resv := some ⟨.maker, 0, 1⟩ } : Queue).free ≠ 0 ∧
    ((qSt q0).seenBy .maker).que 40 = q0 ∧ hdrOk 0xA1000001 = true ∧ (0xA1000001 : Word).toNat % 2 ^ 16 = 1 ∧
    hdrOk 0 = false := by decide +kernel
theorem wit_qcfg : live.opens .maker (Reg.QM_QCFG 40) true = true ∧ (live.seenBy .maker).qcfgBad 40 1 3 true = false ∧
    (live.seenBy .maker).qcfgBad 40 9 3 true = true ∧ fieldOf ((0x00010003 : Word) &&& 0x7FFFFFFF#32).toNat 16 4 ≤ 8 := by
  decide +kernel
theorem wit_qcfgResize : let s := (qSt q0).setN (Reg.QM_QCFG 40) 0x80010000
    s.opens .maker (Reg.QM_QCFG 40) true = true ∧ s.bit (Reg.QM_QCFG 40) 31 = true := by decide +kernel
theorem wit_resizeApply : ({ q0 with pend := some (2, 4) } : Queue).pend = some (2, 4) := rfl
theorem wit_qflush : (qSt q0).opens .maker Reg.QM_QFLUSH true = true ∧ ((qSt q0).seenBy .maker).que (40 % 512) = q0 := by
  decide +kernel
theorem wit_qmRst : live.opens .maker 0x78030 true = true ∧ live.anyCtx = false ∧ live.allStopped = true ∧
    (ctxSt ctx0).anyCtx = true ∧ (ctxSt ctx0).opens .maker 0x78030 true = true := by decide +kernel
theorem wit_qpCommit : (live.core_ 0).port.txBusy = false := by decide
def commit0 (ws : List Word) : Commit := ⟨40, .core 1, 0xA4000001, ws⟩
def commitSt (x : Queue) (ws : List Word) : State :=
  { qSt x with qm := { (qSt x).qm with commits := [commit0 ws] } }
theorem wit_commitAccept : (commitSt q0 [5]).qm.commits.find? (fun c => c.q == 40) = some (commit0 [5]) ∧
    ((commitSt q0 [5]).que 40).resv = none ∧ q0.commitStatus (w32 0xA4000001) 1 = 0 ∧ q0.commitStatus (w32 0xA4000001) 2 = 3 ∧
    ({ q0 with wr := 512 } : Queue).commitStatus (w32 0xA4000001) 1 = 1 := by decide +kernel
/-- Queue `q` holds one item committed through the maker window. -/
def itemSt (q : Nat) (l : List Word) : State :=
  let x : Queue := { en := true, size := 2, wr := l.length, items := [(l.length, some .maker, 0)] }
  ((live.setQue q x).setQue 16 { en := true, size := 2, base := 64 }).putWords x 0 l
def itemHas (q : Nat) (l : List Word) : Bool :=
  ((itemSt q l).frontItem q).any (fun i => decide (i.1 = l.headD 0 ∧ i.2.1 = l.tail ∧ i.2.2 = some .maker))
theorem wit_qpPop : itemHas 40 [0xA4000001, 5] = true := by decide +kernel
theorem wit_commandTake : itemHas 0 [0xA1000002, 0x04000007, 3] = true ∧ itemHas 0 [0xA1000002, 0xF1000007, 3] = true ∧
    itemHas 0 [0xA1000002, 0x1F000007, 3] = true ∧
    (itemSt 0 [0xA1000002, 0x04000007, 3]).nextQueue = some 0 ∧ (itemSt 0 [0xA1000002, 0xF1000007, 3]).nextQueue = some 0 ∧
    (itemSt 0 [0xA1000002, 0x1F000007, 3]).nextQueue = some 0 ∧
    (itemSt 0 [0xA1000002, 0x04000007, 3]).commandRight .maker 4 = true ∧
    (itemSt 0 [0xA1000002, 0xF1000007, 3]).commandRight .maker 0xF1 = false ∧ (itemSt 0 [0xA1000002, 0x04000007, 3]).nextQueue ≠ some 1 ∧
    (let l : List Word := [0xA1000005, 0x0A000007, 3, 0, 0, 0]
     itemHas 0 l = true ∧ (itemSt 0 l).nextQueue = some 0 ∧ (itemSt 0 l).commandRight .maker 0x0A = true ∧ opMinLen 0x0A ≤ 4 + 1) := by
  decide +kernel
theorem wit_responseWrite : let o : Out := ⟨some (0, 7), 16, 4, [1], false⟩
    let e : Out := ⟨none, 16, 0x80, [1], false⟩
    [o].find? (fun o => o.q == 16) = some o ∧ [e].find? (fun o => o.q == 16) = some e := by decide +kernel
/-- Context 3 with a receive and a transmit key, a packet of each direction waiting in engine 0. -/
def key0 : SKey := ⟨1, 0, 0, 0, false⟩
def pktBytes : List Nat := [0x80, 0, 0, 5, 0, 0, 0, 0, 0, 0, 0, 9] ++ List.replicate 20 0
def tmplIn : Template := ⟨0, 1, 2, [], false, 1, 2, 46, 64, 0, 5004, 5004, none, none, none⟩
def srtpRec : SRec := ⟨1, 1, 0, 0, [0, 0, 0, 0], 0, 0, 0, 0, 0, 0, 0, 0⟩
def srtpSt : State :=
  let s := (((live.setCtx 3 ctx0).setSkey 3 0 (some key0)).setSkey 3 1 (some key0)).setSrec 3 0 srtpRec |>.setSrec 3 1 srtpRec
  (s.wrBytes (s.poolAddr 0) pktBytes).setEng 0 { rx := [⟨3, 0, 32, 0, 1, 5004, 0⟩], tx := [⟨3, tmplIn, 9, pktBytes⟩] }
theorem wit_srtp : (srtpSt.eng 0).rx = [⟨3, 0, 32, 0, 1, 5004, 0⟩] ∧ srtpSt.cipherDown 0 = false ∧ srtpSt.skey 3 0 = some key0 ∧
    (srtpSt.srec 3 0).state = 1 ∧ (srtpSt.setN (Reg.CIPH_ENGINE_STAT 0) 0x80000000).cipherDown 0 = true ∧
    (srtpSt.setSkey 3 0 none).skey 3 0 = none := by decide +kernel
theorem wit_srtpTx : let s := srtpSt.setEng 0 { srtpSt.eng 0 with rx := [] }
    (s.eng 0).rx = [] ∧ (s.eng 0).tx = [⟨3, tmplIn, 9, pktBytes⟩] ∧ s.cipherDown 0 = false ∧ (s.srec 3 1).state = 1 ∧
    s.skey 3 1 = some key0 := by decide +kernel
theorem wit_ciphJournalSlot : let x := { slot0 0 with plain := true }
    let s := { slotSt 0 with thyme := { (slotSt 0).thyme with slots := [x], keys := [(1, 5)] } }
    s.inlineWaits 0 = false ∧ s.thyme.slots.find? (fun x => x.plain && (s.ctx_ x.ctx).home == 0) = some x := by decide +kernel
def jobW (op : Nat) : List Word := [w32 (op * 2 ^ 28 + (if op < 3 then 0 else 32) * 2 ^ 16 + 40), 0, 32, 0x1000, 0, 0x2000, 0, 0, 0, 0, 0, 0, 0]
def jobSlot (op : Nat) : KeySlot := { state := 1, alg := if op < 3 then 1 else 3, usage := 9 }
def job1 (op st : Nat) : CiphJob := { id := 0, w := jobW op, st := st, key := if st = 0 then some (jobSlot op) else none }
def jobSt (op st : Nat) : State := live.setEng 0 { jobs := [job1 op st], slots := [(0, jobSlot op)] }
theorem wit_ciphJob : itemHas 40 [0xA600000D, 0, 0] = true ∧
    ((itemSt 40 [0xA600000D, 0, 0]).setN (Reg.CIPH_CIPH_CFG 0) 40).fld (Reg.CIPH_CIPH_CFG 0) 0 9 = 40 ∧
    ((jobSt 0 3).eng 0).running = some (job1 0 3) ∧ (job1 0 3).key = none ∧
    (∀ op ∈ [0, 3, 4], let s := jobSt op 0
      let j := jobF (jobW op)
      s.inlineWaits 0 = false ∧ s.slotWaits 0 = false ∧ s.keyWaits 0 = false ∧ (s.eng 0).running = some (job1 op 0) ∧
      (job1 op 0).key = some (jobSlot op) ∧ j.op = op ∧ s.bit (Reg.CIPH_ENGINE_STAT 0) 31 = false ∧
      s.farDown j.src j.srcLen = false ∧ s.farDown j.dst j.outLen = false ∧ s.poisoned j.src j.srcLen = false) ∧
    (jobSt 0 0).jobCheck 0 (jobF (jobW 0)) = 0 := by decide +kernel
def srtpKey0 : SrtpKey := ⟨1, 0, [], List.replicate 16 1, List.replicate 14 1, 0, none⟩
def openSrtp : State := live.setCtx 3 { ctx0 with srtp := some 1 }
theorem wit_keySrtp : srtpKeyBad srtpKey0 = false ∧ openSrtp.srtpOpen 3 = true ∧
    (taking openSrtp 0x50 [3]).cmdDue ref0 0x50 = true ∧ (taking openSrtp 0x51 [3]).cmdDue ref0 0x51 = true ∧
    (taking openSrtp 0x56 [3]).cmdDue ref0 0x56 = true ∧ openSrtp.inlineWaits (openSrtp.ctx_ 3).home = false ∧
    openSrtp.slotWaits (openSrtp.ctx_ 3).home = false := by decide +kernel
/-- PROVISIONED with a generation in force whose export seed is not zero; a blob header stands at 0x1000. -/
def kxSt : State :=
  let s := { live with rook := { live.rook with lc := 2, gen := some 0, otp := [(0x108, 1)] } }
  s.wrBytes 0x1000 [1, 1, 1, 3]
theorem wit_kx : ∃ x, kxSt.kx = some x := by
  have h : kxSt.exportSeed.all (· == 0) = false := by decide +kernel
  exact ⟨_, by simp only [State.kx, h]; rfl⟩
theorem wit_keySlot : kxSt.inlineWaits 0 = false ∧ kxSt.slotWaits 0 = false ∧ (taking kxSt 0x52 [0]).cmdDue ref0 0x52 = true ∧
    (taking kxSt 0x53 [0]).cmdDue ref0 0x53 = true ∧ (taking kxSt 0x54 [0]).cmdDue ref0 0x54 = true ∧
    (taking kxSt 0x55 [0]).cmdDue ref0 0x55 = true ∧ kxSt.trngHalted = false := by decide +kernel
theorem wit_ciphRst : live.opens .maker (0x50000 + 2 * 0x1000 + 0x30) true = true ∧ live.opens .maker (Reg.CIPH_LOCK 2) true = true ∧
    (live.setN (Reg.CIPH_ENGINE_STAT 2) 0x40000000).bit (Reg.CIPH_ENGINE_STAT 2) 30 = true ∧ (live.ctx_ 3).home = 0 := by
  decide +kernel
def macSt (x : Mac) : State := (((live.setMac 0 x).setN (Reg.MAC_MAC_STAT 0) 1).setN (Reg.MAC_MAX_LEN 0) 1518).setN (Reg.MAC_MAC_CFG 0) 0x380
def frameOf (l : List Nat) : WireFrame := { bytes := l ++ leBytes 4 (fcs l), at_ := 0, corr := 0, uncorr := 0 }
def voiceIn : List Nat := List.replicate 6 0xFF ++ List.replicate 54 0
def pauseIn : List Nat := List.replicate 12 0xFF ++ [0x88, 0x08, 0, 1, 0, 9] ++ List.replicate 42 0
theorem wit_macRxFrame : live.macUp 0 = false ∧ (macSt {}).macUp 0 = true ∧ (macSt {}).bit (Reg.MAC_MAC_CFG 0) 3 = false ∧
    (∀ l ∈ [voiceIn, pauseIn], fcs ((frameOf l).bytes.take 60) = leNat (slice (frameOf l).bytes 60 4) ∧
      (frameOf l).bytes.length = 64) ∧ 64 ≤ (macSt {}).rn (Reg.MAC_MAX_LEN 0) ∧
    beNat (slice (frameOf pauseIn).bytes 12 2) = 0x8808 ∧ beNat (slice (frameOf pauseIn).bytes 14 2) = 1 ∧
    beNat (slice (frameOf pauseIn).bytes 16 2) = 9 ∧ (macSt {}).bit (Reg.MAC_MAC_CFG 0) 7 = true ∧
    beNat (slice (frameOf voiceIn).bytes 12 2) ≠ 0x8808 ∧ bitOf ((frameOf voiceIn).bytes.headD 0) 0 = true ∧
    ((macSt {}).mac_ 0).inFill + 60 ≤ 262144 ∧ fcs (voiceIn ++ [1]) ≠ 0 := by decide +kernel
def rxf (n : Nat) : RxFrame := ⟨List.replicate n 0, 0, 0, 0⟩
theorem wit_pause : ({ pause := some 9, pauseAt := 0 } : Mac).pause = some 9 ∧ ({ xoff := true } : Mac).xoff = true := by decide
def ringSt (tail : Nat) : State := ((macSt { hostq := [⟨1, rxf 60, 0, 0⟩] }).setN (Reg.MAC_RXR_CFG 0 1) 0x80000000).setN
  (Reg.MAC_RXR_TAIL 0 1) tail
theorem wit_rxRing : ((ringSt 0).mac_ 0).hostq.find? (fun f => f.ring == 1) = some ⟨1, rxf 60, 0, 0⟩ ∧
    (ringSt 0).rxAvail 0 1 < (ringSt 0).rxNeed 0 1 60 ∧ (ringSt 3).rxNeed 0 1 60 ≤ (ringSt 3).rxAvail 0 1 ∧
    (ringSt 0).opens .maker (Reg.MAC_RXR_TAIL 0 1) true = true ∧ (5#32).toNat % 4096 < (ringSt 0).ringN (Reg.MAC_RXR_CFG 0 1) ∧
    (ringSt 0).opens .maker (Reg.MAC_TXR_TAIL 0 1) true = true ∧ (5#32).toNat % 4096 < (ringSt 0).ringN (Reg.MAC_TXR_CFG 0 1) ∧
    (ringSt 0).opens .maker (Reg.MAC_RXR_CFG 0 1) true = true := by decide +kernel
theorem wit_macTx : ((macSt { cur := some (.voice [1]), pauseNext := some 4 }).mac_ 0).cur = some (.voice [1]) := by decide
theorem wit_netLink : (live.setN 0x90008 1).macUp 0 = false ∧ (live.setN 0x90008 1).bit (0x90000 + 0 * 0x1000 + 8) 0 = true ∧
    (macSt {}).macUp 0 = true ∧ live.opens .maker (0x90000 + 0 * 0x1000 + 0x30) true = true := by decide +kernel
/-- A UDP datagram to port 5004 of address 1 in a frame from the wire. -/
def udpIn : List Nat := [0, 0, 0, 0, 0, 1, 0, 0, 0, 0, 0, 2, 0x08, 0] ++ ipv4Header 0 64 2 1 32 ++
  [0x13, 0x8C, 0x13, 0x8C, 0, 12, 0, 0, 1, 2, 3, 4]
def ptpIn : List Nat := List.replicate 12 0 ++ [0x88, 0xF7, 0, 2] ++ List.replicate 44 0
def entrySt (a : EntryAct) : State := { macSt { inp := [⟨udpIn, 0, 0, 0⟩] } with
  net := { (macSt { inp := [⟨udpIn, 0, 0, 0⟩] }).net with entries := [{ key := some (false, 1, 5004), act := a }] } }
theorem wit_preClassify : let p := parseFrame udpIn
    p.csumBad = false ∧ p.etype ≠ 0x88F7 ∧ p.reasons = [] ∧ bitOf (udpIn.headD 0) 0 = false ∧
    p.udp.any (fun d => udpPort d == 5004 && !p.udpBad d) = true ∧
    ((entrySt .drop).entryOf (p.family == 2) p.dst 5004).isSome = true ∧
    ((entrySt (.media 3)).classify 0 ⟨udpIn, 0, 0, 0⟩).isSome = true ∧
    (parseFrame (patch udpIn 24 [9])).csumBad = true ∧ (parseFrame ptpIn).etype = 0x88F7 ∧
    (parseFrame ptpIn).csumBad = false ∧ (live.setN Reg.PRE_PRE_CFG 0x1000).fld Reg.PRE_PRE_CFG 12 3 ≠ 4 := by decide +kernel
/-- Ring 1 is enabled and the host part is full, so a frame for it stays. -/
def fullRing : State := (macSt { inp := [⟨ptpIn, 0, 0, 0⟩], hostq := List.replicate 16 ⟨1, rxf 8192, 0, 0⟩ }).setN
  (Reg.MAC_RXR_CFG 0 1) 0x80000000 |>.setN Reg.PRE_PRE_CFG 0x1000
theorem wit_preStays : (fullRing.classify 0 ⟨ptpIn, 0, 0, 0⟩).isNone = true := by decide +kernel
theorem wit_netEntry : (taking live 0x70).cmdDue ref0 0x70 = true ∧ (taking live 0x71).cmdDue ref0 0x71 = true ∧
    (taking live 0x72).cmdDue ref0 0x72 = true ∧ live.opens .maker 0x88030 true = true := by decide +kernel
/-- Training has given all of near memory, the controller is enabled, and the row of line 0 is open. -/
def nmSt : State :=
  let s := (live.setN Reg.NMC_NM_STAT 15360).setN Reg.NMC_NMC_CFG 0x80000000
  let l := s.loc 0
  { s with nmc := { s.nmc with open_ := Tab.put (fun _ => none) s.nmc.open_ (s.slotAt l * 16 + l.bank) (some l.row) } }
def nmReq0 (write : Bool) : NmReq := { port := 1, write := write, line := 0, off := 0, n := 4, data := [1, 2, 3, 4], at_ := 5 }
def nmWait (write : Bool) : State := { nmSt with nmc := { nmSt.nmc with reqs := [nmReq0 write] } }
theorem wit_nmCommandSlot : (∀ w ∈ [true, false], let s := nmWait w
      s.bit Reg.NMC_NMC_CFG 31 = true ∧ s.chanAt 0 = 0 ∧ s.refreshDue 0 5 = none ∧ s.wq 0 = [] ∧
      s.urgency (nmReq0 w) 5 ≠ 3 ∧ s.rowOpen 0 = true ∧ s.poisoned 0 64 = false) ∧
    live.bit Reg.NMC_NMC_CFG 31 = false ∧ ((nmSt.setDebt 0 1).nmClock 5 |>.ageAll 0 5).refreshDue 0 5 = some 0 ∧
    nmSt.nmc.reqs = [] ∧ nmSt.refreshDue 0 5 = none := by decide +kernel
theorem wit_nmPortRequest : live.nmSize < 0x3C0000000 + 1 ∧ 64 + 4 ≤ nmSt.nmSize ∧ 0 < ceilDiv (64 % 64 + 4) 64 := by decide +kernel
theorem wit_selfRefresh : let s := (nmWait false).setN 0xA0008 5
    s.bit 0xA0008 2 = true ∧ Tab.get (fun _ => false) s.nmc.sleep 0 = false ∧
    s.nmc.reqs.any (fun r => s.chanAt r.line == 0) = true ∧ s.nmc.reqs.any (fun r => s.chanAt r.line == 1) = false := by
  decide +kernel
theorem wit_nmcRst : live.opens .maker 0xA0030 true = true ∧ live.anyCtx = false ∧ live.allStopped = true ∧
    live.nmc.mig = none ∧ live.nmc.train = [] := by decide +kernel
def scrubSt (k : Nat) : State :=
  let s := nmSt.setN Reg.NMC_SCRUB_CFG 0x80000000
  { s with nmc := { s.nmc with scrub := (9, k) } }
theorem wit_scrubRead : (scrubSt 0).bit Reg.NMC_SCRUB_CFG 31 = true ∧ (scrubSt 0).bit Reg.NMC_NMC_CFG 31 = true ∧
    (scrubSt 0).nextLive 9 = some 9 ∧ (scrubSt 2097151).nextLive 10 = none ∧ (scrubSt 0).chanUrgent (chanOf 9) = false := by
  decide +kernel
def spareSt (spare : Nat) : State :=
  let s := nmSt.setFld (Reg.NMC_RANK_STAT 8) 29 3 spare |>.setFld (Reg.NMC_RANK_STAT 9) 29 3 4
  { s with nmc := { s.nmc with migq := [(0, 0)] } }
theorem wit_migrationStart : (spareSt 1).nmc.mig = none ∧ [8, 9].find? (fun i => (spareSt 1).slotState i == 1) = some 8 ∧
    [8, 9].find? (fun i => (spareSt 4).slotState i == 1) = none ∧ (spareSt 4).nmc.noSpare.contains 0 = false ∧
    (nmSt.rankOf 0).isSome = true := by decide +kernel
def migSt (p : Nat) : State :=
  let s := nmSt.setN Reg.NMC_MIG_STAT (2 ^ 31 + 8 * 2 ^ 20 + p)
  { s with nmc := { s.nmc with mig := some ⟨0, 0, 8, 0, none⟩ } }
theorem wit_pageCopy : (migSt 5).nmc.mig = some ⟨0, 0, 8, 0, none⟩ ∧ (migSt 5).chanUrgent (chanOf 8) = false ∧ (migSt 5).chanUrgent (chanOf 0) = false ∧
    (migSt 5).wq (chanOf 0) = [] ∧ (migSt 5).fld Reg.NMC_MIG_STAT 0 20 = 5 ∧
    (migSt 524287).fld Reg.NMC_MIG_STAT 0 20 = 524287 := by decide +kernel
theorem wit_retrain : nmSt.slotLive 0 = true ∧ nmSt.bit Reg.NMC_NMC_CFG 20 = false ∧
    nmSt.nmc.train.any (fun e => e.1 == 0) = false ∧ [(0, 1)].find? (fun e => e.1 == 0) = some (0, 1) := by decide +kernel
theorem wit_maint : live.opens .maker Reg.NMC_MAINT_CMD true = true ∧ live.bit Reg.NMC_MAINT_STAT 31 = false ∧
    (live.rankOf 0).isSome = true ∧ (live.setFld (Reg.NMC_RANK_STAT 9) 24 4 15).rankOf 9 = none ∧ live.slotLive 0 = true ∧
    (live.setFld (Reg.NMC_RANK_STAT 0) 29 3 4).slotLive 0 = false ∧
    (live.setN Reg.NMC_MAINT_STAT 0x80000000).bit Reg.NMC_MAINT_STAT 31 = true := by decide +kernel
theorem wit_trn : live.opens .maker Reg.NMC_TRN_GO true = true ∧ live.opens .maker Reg.NMC_TRN_APPLY true = true ∧
    live.bit Reg.NMC_NMC_CFG 20 = false ∧ (live.setN Reg.NMC_NMC_CFG 0x100000).bit Reg.NMC_NMC_CFG 20 = true ∧
    (live.setN Reg.NMC_NMC_CFG 0x100000).opens .maker Reg.NMC_TRN_GO true = true := by decide +kernel
def lcSt (lc : Nat) : State := { live with rook := { live.rook with lc := lc } }
theorem wit_rookDue : ∀ op ∈ [0xF0, 0xF1, 0xF2, 0xF3, 0xF4, 0xF5, 0xF6, 0xF7, 0xF9],
    (taking (lcSt 2) op [0]).cmdDue ref0 op = true := by decide +kernel
theorem wit_lifecycle : (lcSt 5).bit Reg.ROOK_LC_STAT 31 = false ∧ (lcSt 5).lcStep .maker 4 = some 5 ∧
    (lcSt 0).hasRole .maker = true ∧ (lcSt 3).lcStep .operator 4 = none ∧
    (let s := (lcSt 5).setSess .maker { open_ := true }
     s.bit Reg.ROOK_LC_STAT 31 = false ∧ s.hasRole .maker = true ∧ s.lcStep .maker 4 = some 5) ∧
    (lcSt 0).rook.base = false := by decide +kernel
theorem wit_otpCommands : (let s := (lcSt 2).wrBytes 0x1000 ([1] ++ List.replicate 343 0)
     inNear 0x1000 344 = true ∧ genFormOk (s.rdBytes 0x1000 344) = true ∧
     [0, 1, 2, 3].find? (fun g => decide (s.otpOnes (0x100 + 0x160 * g) 0x160 = 0)) = some 0) ∧
    (lcSt 2).roleRight .installer 0xF3 = true ∧ (lcSt 2).rollback ≤ 128 ∧ (lcSt 0).trngHalted = false ∧
    (lcSt 0).otpOnes 0x20 128 = 0 ∧ (lcSt 1).otpOnes 0xA0 40 = 0 := by decide +kernel
theorem wit_auditMirror : 0x1000000000 % 64 = 0 ∧ inFar 0x1000000000 (64 + 64 * 2 ^ 10) = true ∧
    farSt.farReady 0x1000000000 (64 + 64 * 2 ^ 10) = true ∧ inNear 0x1000 5973 = true := by decide +kernel
def sessSt (x : Sess) : State := { live.setSess .maker x with time := { ftime := 80100 } }
theorem wit_sessions : live.opens .maker Reg.ROOK_SESS_CTL true = true ∧ (live.seenBy .maker).trngHalted = false ∧
    ((live.seenBy .maker).sess_ .maker).lockAt = none ∧ ((live.seenBy .maker).sess_ .maker).mbox.length < 4095 ∧
    live.opens .maker Reg.ROOK_MBOX_DATA true = true ∧
    (let s := sessSt { fresh := some 80000, mbox := List.replicate 1316 0 }
     s.opens .maker Reg.ROOK_SESS_CTL true = true ∧ ((s.seenBy .maker).sess_ .maker).fresh = some 80000 ∧
     ((s.seenBy .maker).sess_ .maker).mbox.length = 1316) ∧
    (let s := sessSt { open_ := true }
     s.opens .maker Reg.ROOK_SESS_CTL true = true ∧ ((s.seenBy .maker).sess_ .maker).open_ = true) ∧
    (sessSt { pend := some (0, 4, false) }).sess_ .maker = { pend := some (0, 4, false) } := by decide +kernel
theorem wit_sessIdle : let s := (sessSt { open_ := true }).setN Reg.ROOK_SESS_IDLE 10
    s.rn Reg.ROOK_SESS_IDLE = 10 ∧ (s.sess_ .maker).seen + 8000 * 10 ≤ s.now ∧ (s.sess_ .maker).open_ = true := by
  decide +kernel
theorem wit_protCommit : live.opens .maker Reg.PROT_PROT_CTL true = true := by decide +kernel
theorem wit_auditBase : let s : State := { live with time := { ftime := 480000 } }
    s.rook.base = false ∧ s.rook.bootAt + 480000 ≤ s.now ∧ s.epochBits < 1024 ∧
    1024 ≤ ({ s with rook := { s.rook with otp := (List.range 128).map (fun i => (0x680 + i, 255)) } } : State).epochBits := by
  decide +kernel
/-- `n` samples that alternate, the first one `b`: they pass every health test. -/
def altBits : Bool → Nat → List Bool
  | _, 0 => []
  | b, n + 1 => b :: altBits (!b) n
theorem altBits_length (n : Nat) : ∀ b, (altBits b n).length = n := by
  induction n with
  | zero => intro b; rfl
  | succ n ih => intro b; simp [altBits, ih]
theorem altBits_drop (k : Nat) : ∀ b n, k ≤ n → ∃ c, (altBits b n).drop k = altBits c (n - k) := by
  induction k with
  | zero => intro b n _; exact ⟨b, rfl⟩
  | succ k ih =>
    intro b n h
    cases n with
    | zero => omega
    | succ n => simpa [altBits] using ih (!b) n (by omega)
theorem altBits_take (k : Nat) : ∀ b n, k ≤ n → (altBits b n).take k = altBits b k := by
  induction k with
  | zero => intro b n _; rfl
  | succ k ih =>
    intro b n h
    cases n with
    | zero => omega
    | succ n => simp [altBits, ih (!b) n (by omega)]
theorem altBits_run (n : Nat) : ∀ b c m k, (k = 0 ∨ c = !b) →
    ((altBits b n).foldl (fun (m, q) b => let q := if b = q.1 then (b, q.2 + 1) else (b, 1); (max m q.2, q))
      (m, (c, k)) : Nat × (Bool × Nat)).1 ≤ max m 1 := by
  induction n with
  | zero => intro b c m k _; simp [altBits]
  | succ n ih =>
    intro b c m k h
    have h1 : (if b = c then (b, k + 1) else (b, 1)) = (b, 1) := by
      rcases h with rfl | rfl <;> cases b <;> simp
    simp only [altBits, List.foldl_cons, h1]
    exact Nat.le_trans (ih (!b) b (max m 1) 1 (by cases b <;> simp)) (by omega)
theorem altBits_filter (n : Nat) : ∀ b c, 2 * ((altBits b n).filter (· == c)).length ≤ n + (if b = c then 1 else 0) := by
  induction n with
  | zero => intro b c; simp [altBits]
  | succ n ih => intro b c; have := ih (!b) c; cases b <;> cases c <;> simp_all [altBits] <;> omega
theorem altBits_window (b : Bool) (p : Bool) : windowFails (altBits b 1024) (p, 0) = false := by
  have h1 : (runOf (altBits b 1024) (p, 0)).1 ≤ max 0 1 := altBits_run 1024 b p 0 0 (.inl rfl)
  have h2 := altBits_filter 1024 b ((altBits b 1024).headD false)
  have h3 : (if b = (altBits b 1024).headD false then 1 else 0) ≤ 1 := by split <;> omega
  simp only [windowFails, Bool.or_eq_false_iff, decide_eq_false_iff_not]
  constructor <;> omega
theorem wit_startTest : startTest (altBits false 4096) = true := by
  have h1 : (runOf (altBits false 4096) (false, 0)).1 ≤ max 0 1 := altBits_run 4096 false false 0 0 (.inl rfl)
  have h2 : (altBits false 4096).take 4096 = altBits false 4096 := altBits_take 4096 false 4096 (by omega)
  simp only [startTest, h2, Bool.and_eq_true, decide_eq_true_eq, altBits_length, List.all_eq_true]
  refine ⟨⟨by omega, ?_⟩, by omega⟩
  intro i hi
  rw [List.mem_range] at hi
  obtain ⟨c, hc⟩ := altBits_drop (1024 * i) false 4096 (by omega)
  rw [hc, altBits_take 1024 c _ (by omega), altBits_window]
  rfl
theorem wit_trng : live.trngHalted = false ∧ windowFails (altBits true 1024) (false, 0) = false ∧
    (live.setN Reg.ROOK_TRNG_STAT 0x80000000).trngHalted = true :=
  ⟨by decide +kernel, altBits_window true false, by decide +kernel⟩
/-- The live device whose protection table opens pages 0–4 to every role. -/
def tableSt : State := (live.setN (Reg.PROT_PROT_LIVE 0) 0x80040000).setN (Reg.PROT_PROT_LIVE 1) 0x3F
theorem wit_otpGen : State.reset.otpGen = none := by
  have h : ∀ g ∈ [3, 2, 1, 0], leNat (State.reset.otpBytes (0x100 + 0x160 * g + 344 + 4) 4) ≠ 0x5EA10000 + g := by
    decide +kernel
  rw [State.otpGen, List.find?_eq_none]
  intro g hg
  simp [State.genSealed, State.sealed, h g hg]
theorem wit_boot : live.opens .maker Reg.ROOK_BOOT_DATA true = true ∧ live.opens .maker Reg.ROOK_BOOT_CTL true = true ∧
    tableSt.opens .maker (1 * 0x1000 + 0x30) true = true ∧ State.reset.otpState = 0 ∧ State.reset.rook.otpRead = false := by decide +kernel
/-- Core 0 runs with PRAM words from address 0 up. -/
def coreWith (f : Core → Core) (l : List Nat) : State :=
  let s := live.setCore 0 (f { state := 1 })
  { s with core := { s.core with pram := (List.range l.length).zip (l.map w32) } }
def coreSt (l : List Nat) : State := coreWith id l
/-- Core 0 would issue the word of the key given, sole in its bundle. -/
def readyFor (w : Nat) : Bool := (coreSt [2 ^ 31 + w]).toIssue 0 == some (0, 2 ^ 31 + w, coreSt [2 ^ 31 + w])
theorem wit_macWords : readyFor 0 = true ∧ readyFor (2 ^ 23) = true ∧ readyFor (2 ^ 24) = true ∧ wKey (2 ^ 31) = 0 ∧
    wKey (2 ^ 31 + 2 ^ 23) = 1 ∧ wKey (2 ^ 31 + 2 ^ 24) = 2 := by decide +kernel
theorem wit_macModes : (List.range 6).all (fun m => readyFor (m * 2 ^ 25)) = true ∧ fieldOf (5 * 2 ^ 25) 25 3 = 5 := by
  decide +kernel
theorem wit_pairBundle : (coreWith (fun c => { c with inBundle := some 0 }) [0x6F000000, 2 ^ 31]).toIssue 0 =
    some (0, 2 ^ 31, coreWith (fun c => { c with inBundle := some 0 }) [0x6F000000, 2 ^ 31]) := by decide +kernel
/-- The keys of ALU words issue, with a register or an immediate as the second source. -/
def aluKeys : List Nat := (List.range 17).map (0x100 + ·)
def aluWord (k imm : Nat) : Nat := 2 ^ 28 + (k - 0x100) * 2 ^ 22 + imm
theorem wit_aluWords : aluKeys.all (fun k => readyFor (aluWord k 0) && wKey (2 ^ 31 + aluWord k 0) == k) = true := by decide +kernel
theorem wit_aluImm : aluKeys.all (fun k => readyFor (aluWord k 0x8FFF)) = true := by decide +kernel
def accKeys : List Nat := (List.range 8).map (0x120 + ·)
def shfWord (k : Nat) : Nat := 2 ^ 29 + (k - 0x200) * 2 ^ 22
def shfKeys : List Nat := [0x200, 0x201, 0x202, 0x203, 0x204, 0x208, 0x210, 0x211, 0x212, 0x213, 0x214, 0x215, 0x216, 0x218, 0x219, 0x21C]
theorem wit_accWords : accKeys.all (fun k => readyFor (aluWord k 0)) = true ∧ wKey (2 ^ 31 + aluWord 0x127 0) = 0x127 := by
  decide +kernel
theorem wit_shfWords : shfKeys.all (fun k => readyFor (shfWord k) && wKey (2 ^ 31 + shfWord k) == k) = true := by decide +kernel
theorem wit_modes : bitOf ({} : Core).mode 0 = true ∧ fieldOf ({} : Core).mode 2 2 = 0 ∧
    bitOf ((({} : Core).force 0x2F 4).mode) 0 = false ∧ fieldOf ((({} : Core).force 0x2F 4).mode) 2 2 = 1 ∧
    fieldOf ((({} : Core).force 0x2F 8).mode) 2 2 = 2 := by decide +kernel
def smovWord (k : Nat) : Nat := 2 ^ 30 + (k - 0x400) * 2 ^ 25
theorem wit_smovWords : [0x400, 0x401, 0x402, 0x403].all (fun k => readyFor (smovWord k) && wKey (2 ^ 31 + smovWord k) == k) = true ∧
    readyFor (smovWord 0x404) = true ∧ wKey (2 ^ 31 + smovWord 0x404) = 0x404 := by decide +kernel
theorem wit_pop : ((coreWith (fun c => c.force 0x17 0x100) [2 ^ 31 + smovWord 0x405]).toIssue 0).isSome = true ∧
    wKey (2 ^ 31 + smovWord 0x405) = 0x405 := by decide +kernel
theorem wit_regWords : [0x500, 0x501, 0x502].all (fun k => readyFor (5 * 2 ^ 28 + (k - 0x500) * 2 ^ 26) &&
    wKey (13 * 2 ^ 28 + (k - 0x500) * 2 ^ 26) == k) = true ∧ readyFor 0x6F000000 = true ∧ wKey 0xEF000000 = 0x60F ∧
    readyFor 0x30000000 = true ∧ wKey 0xB0000000 = 0x300 := by decide +kernel
theorem wit_smovAccess : wGroup 0x40000000 = 4 ∧ fieldOf 0x42000000 25 3 < 2 := by decide
theorem wit_postMod : (({} : Core).force 0x24 0x80).reg (0x24 + 0) ≠ 0 ∧ bitOf (({} : Core).force 0x2F 0x940).mode 6 = true ∧
    fieldOf (({} : Core).force 0x2F 0x940).mode 8 4 + 1 = 10 ∧ bitOf ({} : Core).mode 6 = false ∧
    ({} : Core).reg (0x24 + 3) = 0 := by decide +kernel
def ctlWord (k : Nat) : Nat := 6 * 2 ^ 28 + (k - 0x600) * 2 ^ 24
theorem wit_ctlWords : ((List.range 11).map (0x600 + ·)).all (fun k => readyFor (ctlWord k) && wKey (2 ^ 31 + ctlWord k) == k) = true := by
  decide +kernel
def aMove : Move := ⟨1, 0, 0, 0, false, false, 0, 0, 0, 0, 0, 0, 0, 0, 0, 0⟩
theorem wit_take : ((coreWith (fun c => { c with slot := some aMove }) [2 ^ 31 + ctlWord 0x607]).toIssue 0).isSome = true ∧
    ((coreWith (fun c => { c with slot := some aMove }) []).core_ 0).slot = some aMove ∧
    ((coreWith (fun c => { c with slot := some aMove }) []).core_ 0).insv = none ∧
    ((coreWith (fun c => { c with slot := some aMove }) []).core_ 0).doneAt = none := by decide +kernel
/-- Core 0 at the end of the body of loop level `v`, with count `n`. -/
def loopSt (v n : Nat) : Core :=
  { (((({} : Core).force (govLA v) 1).force (0x48 + v) n).force (0x4A + v) 0x20).force (0x4C + v) 0x40 with loopEnd := some (0x40, 0x40) }
theorem wit_loopEnd : (loopSt 0 2).atLoopEnd 0 0x40 0x40 = true ∧ (loopSt 0 2).atLoopEnd 1 0x40 0x40 = false ∧
    (loopSt 0 2).reg 0x48 = 2 ∧ (loopSt 1 1).atLoopEnd 1 0x40 0x40 = true ∧ (loopSt 1 1).atLoopEnd 0 0x40 0x40 = false ∧
    (loopSt 1 1).reg 0x49 = 1 ∧ ((loopSt 1 1).force 0x4E 1 |>.force 0x4C 0x40).atLoopEnd 0 0x40 0x40 = true ∧ (loopSt 1 2).reg 0x49 = 2 := by decide +kernel
theorem wit_interrupt : let s := (coreWith (fun c => { c.force 0x2F 0x11 with pc := 8 }) []).setSpr 0 0x18 1 |>.setSpr 0 0x14 7
    (s.core_ 0).atBoundary = true ∧ (s.core_ 0).inSlots = false ∧ bitOf ((s.core_ 0).reg 0x2F) 4 = true ∧
    s.intPending 0 = some 0 ∧ live.intPending 0 = none := by decide +kernel
theorem wit_faults : let bad := fun w => (let s := coreSt [w]; (s.setCore 0 (s.core_ 0).rtiDone).bundleFault 0)
    bad (2 ^ 31 + smovWord 0x400 + 1) = some (2, 1) ∧ bad (2 ^ 31 + aluWord 0x100 1) = some (1, 0) ∧
    wKey (2 ^ 31 + aluWord 0x100 1) = 0x100 ∧ bad 0xF0000000 = some (1, 0) ∧ keyKnown (wKey 0xF0000000) = false ∧
    bad 0xB0000001 = some (1, 0) ∧ wKey 0xB0000001 = 0x300 ∧ bad (2 ^ 31 + ctlWord 0x606 + 64) = some (1, 0) ∧
    wKey (2 ^ 31 + ctlWord 0x606 + 64) = 0x606 ∧ (coreSt []).core_ 0 = { state := 1 } ∧
    ({ state := 1 } : Core).atBoundary = true := by decide +kernel
theorem wit_exl : bitOf ((((coreWith (fun c => c.force 0x2F 0x21) []).setSpr 0 0x20 1).core_ 0).rawReg 0x2F) 5 = true ∧
    bitOf ((((coreSt []).setSpr 0 0x20 1).core_ 0).rawReg 0x2F) 5 = false := by decide +kernel
theorem wit_wdog : let s := (coreWith (fun c => { c with insv := some aMove }) []).setSpr 0 0x128 9
    s.spr 0 0x128 ≠ 0 ∧ (s.core_ 0).insv.isSome = true ∧ (s.core_ 0).wdog = false ∧ (s.core_ 0).atBoundary = true ∧
    (s.core_ 0).waiting = false ∧ (s.setSpr 0 0x10 4).spr 0 0x10 ≠ 0 := by decide +kernel
def movingSt (k : Nat) : State := coreWith (fun c => { c with state := k, insv := some aMove }) []
theorem wit_done : ((movingSt 1).core_ 0).insv = some aMove ∧ ((movingSt 1).core_ 0).state = 1 ∧ (live.core_ 0).insv = none ∧
    (7 : Word).toNat % 256 ≠ 0 := by decide +kernel
def aDma (len : Nat) : CDma := ⟨sramBase 0, sramBase 0 + 0x100, len, 1, false⟩
theorem wit_dma : (live.core_ 0).dma.length < 4 ∧ live.dmaStatus 0 (aDma 8) = some 0 ∧ live.dmaStatus 0 (aDma 6) = some 3 ∧
    ((coreWith (fun c => { c with dma := [aDma 8] }) []).core_ 0).dma = [aDma 8] ∧
    4 ≤ ((coreWith (fun c => { c with dma := List.replicate 4 (aDma 8) }) []).core_ 0).dma.length := by decide +kernel
theorem wit_coreCtl : let a := Reg.CLUS_CORE_CTL 0 0
    live.opens .maker a true = true ∧ ((live.seenBy .maker).core_ 0).state = 0 ∧
    (movingSt 1).opens .maker a true = true ∧ (((movingSt 1).seenBy .maker).core_ 0).state = 1 := by decide +kernel
theorem wit_codeLoad : live.commandRight .maker 0xF8 = true ∧ (taking live 0xF8 [0]).cmdDue ref0 0xF8 = true := by
  decide +kernel
theorem wit_clusRst : live.opens .maker (clusPage 3 + 0x30) true = true := by decide +kernel
/-- Channel 0 enabled, its ring at 0x1000 of host memory with one descriptor, and the link up. -/
def dmaSt (desc : List Nat) : State :=
  let s := (((live.setN (Reg.HOST_RING_CFG 0) 0x80000000).setN (Reg.HOST_RING_LO 0) 0x1000).setN (Reg.HOST_TAIL 0) 1).setN
    Reg.HOST_HOST_STAT 0x84020000
  { s with hostMem := wrList [] 0x1000 desc }
theorem wit_hostDma : (dmaSt []).dmaActive 0 = true ∧ (dmaSt []).linkUp = true ∧
    (let d := HostDesc.ofBytes ((dmaSt []).ringRead 0 ((dmaSt []).descAddr 0) 32); (dmaSt []).descBad d = true) ∧
    (let s := dmaSt [0, 0, 1, 0, 0, 0, 0, 0, 0, 4, 0, 0, 0, 0, 0, 0, 8]
     let d := HostDesc.ofBytes (s.ringRead 0 (s.descAddr 0) 32)
     s.descBad d = false ∧ inFar d.dev d.len = false ∧ bitOf d.ctl 0 = false ∧ d.len = 8) ∧
    (let s := dmaSt [0, 0, 1, 0, 0, 0, 0, 0, 0, 4, 0, 0, 0, 3, 0, 0, 8]
     let d := HostDesc.ofBytes (s.ringRead 0 (s.descAddr 0) 32)
     s.descBad d = false ∧ bitOf d.ctl 0 = true ∧ bitOf d.ctl 1 = true) := by decide +kernel
theorem wit_hostRegs : live.opens .maker (Reg.HOST_TAIL 0) true = true ∧ (live.seenBy .maker).hostRingN 0 = 16 ∧
    live.opens .maker (Reg.HOST_RING_CFG 7) true = true ∧ (live.seenBy .maker).bit (Reg.HOST_RING_CFG 7) 31 = false ∧
    live.opens .maker (Reg.HOST_STAT 3) false = true ∧ live.opens .maker Reg.HOST_VEC_REARM true = true ∧
    live.opens .maker 0xC1400 true = true ∧ live.opens .maker 0xC17FC true = true ∧
    (dmaSt []).opens .maker (Reg.HOST_RING_CFG 0) true = true ∧ ((dmaSt []).seenBy .maker).bit (Reg.HOST_RING_CFG 0) 31 = true := by
  decide +kernel
/-- COMPLETION of channel 0 drives vector 5, with MSI-X on or off. -/
def vecSt (on : Bool) : State :=
  let s := (((live.setN Reg.HOST_SRC_EN_LO 0x10000).setN (Reg.HOST_SRC_MAP 16) 5).setN (Reg.HOST_STAT 0) 0x100).setN
    (Reg.HOST_MSIX_TABLE 23) 0
  { s with host := { s.host with msixEn := on } }
theorem wit_vector : bitOf (vecSt true).host.fired 5 = false ∧ (vecSt true).vecOn 5 = true ∧ (vecSt true).holdoffOk 5 = true ∧
    (vecSt true).vecHeld 5 = false ∧ (vecSt false).vecHeld 5 = true ∧ (vecSt true).vecOn 6 = false := by decide +kernel
theorem wit_resets : live.opens .maker Reg.TOP_SW_WARM true = true ∧ live.opens .maker 0x30 true = true ∧
    live.opens .maker 0x80030 true = true ∧ (live.seenBy .maker).anyCtx = false ∧ live.opens .maker 0xC0030 true = true ∧
    live.opens .maker 0xD0030 true = true ∧ live.opens .maker 0xE0030 true = true ∧
    (let s := live.setCtx 3 { state := 1 }; s.opens .maker 0x80030 true = true ∧ (s.seenBy .maker).anyCtx = true) ∧
    (0 : Word) ≠ 0x5A5A0002#32 := by decide +kernel
theorem wit_sleep : pageInfo 0x50 = some ⟨0x50000, 7, 0, 0, 1, 16⟩ ∧ live.bit 0x50008 1 = true ∧ live.power 0x50000 < 1 ∧
    live.maySleep ⟨0x50000, 7, 0, 0, 1, 16⟩ 1 = true ∧ live.power 0x50000 ≠ 3 ∧ live.bit 0x50008 3 = false := by decide +kernel
theorem wit_temp : let s := { live with host := { live.host with alarm := true } }
    (live.fld Reg.PWR_PWR_CFG 16 8 : Int) ≤ ((live.setN (Reg.PWR_TEMP 0) 0xFF).temp 0) ∧
    (s.temp 0) < (s.fld Reg.PWR_PWR_CFG 16 8 : Int) - s.fld Reg.PWR_PWR_CFG 24 4 := by decide +kernel
/-- The boot is done; an SPI transfer of OP `op` may run. -/
def spiSt (op : Option Nat) : State :=
  let s := (live.setN Reg.ROOK_BOOT_STAT 0x80000000).setN Reg.MISC_SPI_LEN 4
  { s with host := { s.host with spi := op.map (·, 3) } }
theorem wit_spi : (spiSt none).opens .maker Reg.MISC_SPI_CMD true = true ∧ ((spiSt none).seenBy .maker).bit Reg.ROOK_BOOT_STAT 31 = true ∧
    live.opens .maker Reg.MISC_SPI_CMD true = true ∧ (live.seenBy .maker).bit Reg.ROOK_BOOT_STAT 31 = false ∧
    (spiSt (some 0)).host.spi = some (0, 3) ∧ (spiSt none).bit Reg.ROOK_BOOT_STAT 31 = true := by decide +kernel
def uartSt (n : Nat) : State :=
  let s := live.setN Reg.MISC_UART_CFG 0x80000000
  { s with host := { s.host with uartRx := List.replicate n 7, uartTx := List.replicate n 7 } }
theorem wit_uart : live.opens .maker Reg.MISC_UART_TX true = true ∧ (live.seenBy .maker).host.uartTx.length < 16 ∧
    16 ≤ ((uartSt 16).seenBy .maker).host.uartTx.length ∧ (uartSt 16).opens .maker Reg.MISC_UART_TX true = true ∧
    live.opens .maker Reg.MISC_UART_RX false = true ∧ (uartSt 1).host.uartRx = [7] ∧ (uartSt 1).bit Reg.MISC_UART_CFG 31 = true ∧
    16 ≤ (uartSt 16).host.uartRx.length ∧ ((uartSt 1).seenBy .maker).host.uartRx = [7] := by decide +kernel
def i2cSt : State := live.setN (Reg.MISC_I2C_CFG 1) 0x80000000
theorem wit_i2c : i2cSt.opens .maker (Reg.MISC_I2C_CMD 1) true = true ∧ (i2cSt.seenBy .maker).bit (Reg.MISC_I2C_CFG 1) 31 = true ∧
    (i2cSt.seenBy .maker).i2c_ 1 = none ∧ (32 : Word).toNat % 64 = 32 ∧ (33 : Word).toNat % 64 = 33 ∧
    ((i2cSt.setI2c 1 (some (true, 0x20, 4))).i2c_ 1) = some (true, 0x20, 4) ∧
    (((i2cSt.setI2c 1 (some (true, 0x20, 4))).seenBy .maker).i2c_ 1).isSome = true := by decide +kernel
theorem wit_queue : State.reset.pending = [] ∧ ({ State.reset with pending := [.thermtrip] } : State).pending = [.thermtrip] := by decide
theorem wit_wrongWidth : live.rook.otpRead = true ∧ live.host.d3 = false ∧ live.bit Reg.TOP_TOP_ERR 31 = false ∧
    (live.setN Reg.TOP_TOP_ERR 0x80000000).bit Reg.TOP_TOP_ERR 31 = true := by decide +kernel
theorem wit_regWrite : live.opens .maker Reg.PWR_PWR_CFG true = true ∧ (rowAt Reg.PWR_PWR_CFG).isSome = true ∧
    (rowAt Reg.PWR_PWR_CFG).any (fun r => r.refuses 0) = true ∧ (rowAt Reg.PWR_EVQ).any (fun r => !r.refuses 3) = true ∧
    live.opens .maker 0x30010 true = true ∧ pageInfo 0x30 = some ⟨0x30000, 5, 0, 0, 1, 16⟩ ∧
    live.opens .maker 0x30014 true = true ∧ live.opens .maker 0x30012 true = true := by decide +kernel
theorem wit_noPage : let s := (live.setN (Reg.PROT_PROT_LIVE 0) 0x80050000).setN (Reg.PROT_PROT_LIVE 1) 0x3F
    s.opens .maker 0x5000 true = true ∧ pageInfo 5 = none ∧ live.opens .maker (0x30 * 0x1000 + 0x1C) true = true := by decide +kernel
theorem wit_clearOnRead : live.opens .maker 0x30028 false = true ∧ readClears 0x30028 = true ∧ snapOf 0x30028 = [] ∧
    (snapOf 0x30024).contains 0x30028 = false ∧ Tab.get (fun _ => none) (live.seenBy .maker).host.snap 0x30028 = none := by decide +kernel
theorem wit_lowRead : live.opens .maker Reg.THYME_SEQ_LO false = true ∧ snapOf Reg.THYME_SEQ_LO = [Reg.THYME_SEQ_HI] ∧
    readClears Reg.THYME_SEQ_LO = false ∧ live.opens .maker 0x90400 false = true ∧ snapOf 0x90400 = [0x90404] ∧
    readClears 0x90400 = true ∧ snapOf Reg.THYME_SEQ_HI = [] ∧ live.opens .maker Reg.THYME_SEQ_HI false = true ∧
    Reg.THYME_SEQ_HI < 0xC0000 := by decide +kernel
theorem wit_snapped : let s := { live with host := { live.host with snap := [(Reg.THYME_SEQ_HI, some 7)] } }
    Tab.get (fun _ => none) (s.seenBy .maker).host.snap Reg.THYME_SEQ_HI = some 7 := by decide +kernel
theorem wit_denied : live.rook.otpRead = true ∧ live.host.d3 = false ∧ (live.seenBy .operator).allowed .operator 0x8000 false = false ∧
    Tab.get (fun _ => none) (live.seenBy .operator).rook.viol 0 = none := by decide +kernel
theorem wit_rollback : (lcSt 2).rook.lc = 2 ∧ (lcSt 2).rollback = 0 ∧ (taking (lcSt 2) 0xF3 [0]).cmdDue ref0 0xF3 = true ∧ Memory.wf (lcSt 2).rook.otp = true ∧
    (lcSt 2).otpBytes 0x10 16 = leBytes 16 (2 ^ (lcSt 2).rollback - 1) ∧
    ((lcSt 2).burn 0x10 (leBytes 16 (2 ^ 12 - 1))).rollback = 12 := by decide +kernel
theorem wit_err : live.canonical = true ∧ live.rn (0x8000 + 0x20) = 0 ∧ (taking live 0x05 [3]).qm.taken.length = 1 ∧ (live.setN 0x8020 3).rn (0x8000 + 0x20) ≠ 0 ∧
    (live.setN 0x8028 0xFFFFFFFF).rn (0x8000 + 0x28) = 0xFFFFFFFF ∧ (live.setN 0x8020 3).canonical = true := by decide +kernel
theorem wit_canonical : (live.wrBytes 0x1000 [1, 2, 0, 4]).canonical = true ∧
    (live.wrBytes 0x1000 [1, 2, 0, 4]).rdBytes 0x1000 4 = [1, 2, 0, 4] := by decide +kernel
theorem wit_frame : ((coreSt []).core_ 0).trap = none ∧ ((coreSt []).core_ 0).halting = false ∧
    Tab.wf (fun _ => {}) (coreSt []).core.cores = true := by decide +kernel
theorem wit_order : ({ live with pending := [.thermtrip, .coldReset] } : State).pending = [.thermtrip, .coldReset] ++ [] := by decide
theorem wit_keeps : (live.wrBytes 0x1000 [1, 2, 0, 4]).canonical = true ∧
    step (live.wrBytes 0x1000 [1, 2, 0, 4]) = .next (live.wrBytes 0x1000 [1, 2, 0, 4]) :=
  ⟨by decide +kernel, rfl⟩
theorem wit_otp : (live.burn 0x10 [5]).canonical = true ∧ (live.burn 0x10 [5]).otpBit 0x10 0 = true ∧
    (live.burn 0x10 [5]).otpBit 0x10 1 = false ∧ (live.burn 0x10 [5]).otpBit 0x10 2 = true := by decide +kernel
theorem wit_trip : ({ live with host := { live.host with trip := true } } : State).host.trip = true ∧
    ({ live with host := { live.host with trip := true } } : State).pending.head? ≠ some .coldReset ∧
    Instr.warmReset ≠ .coldReset := by decide
theorem wit_pins : (live.setN Reg.CXL_CXL_CFG 1).bit Reg.CXL_CXL_CFG 0 = true ∧ live.bit Reg.CXL_CXL_CFG 0 = false ∧
    (live.setN Reg.MISC_GPIO_DIR 1).bit Reg.MISC_GPIO_DIR 0 = true ∧ (live.setN Reg.MISC_GPIO_DIR 1).bit Reg.MISC_GPIO_DIR 1 = false := by
  decide

/-! ### Ill-formed commands, one for each check of WellFormed -/

/-- An origin on a queue that is no command queue, one with a TAG of 17 bits, and a good one. -/
def badQueue : CmdRef := ⟨16, 0, .operator⟩
def badTag : CmdRef := ⟨0, 0x10000, .operator⟩
def goodRef : CmdRef := ⟨15, 0xFFFF, .operator⟩

theorem test_illformed_ref : wellFormed (.linkRetrain badQueue 0 false) = false ∧
    wellFormed (.linkRetrain badTag 0 false) = false ∧ wellFormed (.linkRetrain goodRef 0 false) = true := by decide
theorem test_illformed_phase : wellFormed (.lsyncEdge 6145) = false ∧ wellFormed (.dsynciPulse 6145 false 0) = false ∧
    wellFormed (.hourglassFire 6144) = true := by decide
theorem test_illformed_source : wellFormed (.sourceQualify 5) = false ∧ wellFormed (.sourceQualify 4) = true := by decide
theorem test_illformed_ldiFrame : wellFormed (.ldiFrame 128 0 (List.replicate 768 0)) = false ∧
    wellFormed (.ldiFrame 127 6145 (List.replicate 768 0)) = false ∧ wellFormed (.ldiFrame 127 0 (List.replicate 767 0)) = false ∧
    wellFormed (.ldiFrame 127 0 (List.replicate 768 256)) = false := by decide +kernel
theorem test_illformed_link : wellFormed (.tapScanStep 128) = false ∧ wellFormed (.clkLoss 16) = false ∧
    wellFormed (.statusDebounce 2048 0) = false ∧ wellFormed (.statusDebounce 0 16) = false := by decide
theorem test_illformed_lineSet : wellFormed (.lineSet goodRef (2 ^ 32) 0 0 0 0 0 0) = false := by decide
theorem test_illformed_mgmt : wellFormed (.linkMgmtSend goodRef 0 1 [256]) = false ∧
    wellFormed (.linkMgmtSend goodRef (2 ^ 32) 1 [1]) = false := by decide
theorem test_illformed_set : wellFormed (.lineSetChange .maker 0 8) = false ∧ wellFormed (.fadeEnd 0 8) = false := by decide
theorem test_illformed_dest : wellFormed (.lineMeas goodRef 0 0 0 0 (2 ^ 40)) = false ∧
    wellFormed (.eceLoad goodRef 0 (2 ^ 40)) = false ∧ wellFormed (.eceLoad goodRef (2 ^ 32) 0) = false := by decide
theorem test_illformed_core : wellFormed (.mpy 128) = false ∧ wellFormed (.mpy 127) = true ∧
    wellFormed (.eceRst .maker 16) = false ∧ wellFormed (.focusPlace 0 256) = false ∧ wellFormed (.sageBlockRead 0 1024) = false := by
  decide
theorem test_illformed_ctx : wellFormed (.ctxClose goodRef (2 ^ 32)) = false ∧ wellFormed (.rxPacketJudge 8192) = false ∧
    wellFormed (.ctxBindLine goodRef 0 (2 ^ 32)) = false ∧ wellFormed (.ctxJoin goodRef 0 0 (2 ^ 32)) = false ∧
    wellFormed (.ctxSendEvent goodRef 0 0 0 (2 ^ 32)) = false ∧ wellFormed (.eceReconverge goodRef 0 (2 ^ 32)) = false := by decide
theorem test_illformed_journal : wellFormed (.thymeRead goodRef 0 0 0 (2 ^ 32) false 0) = false ∧
    wellFormed (.thymeRead goodRef 0 0 0 0 false (2 ^ 40)) = false ∧ wellFormed (.thymeCopy goodRef 0 0 0 none 0 (2 ^ 32)) = false ∧
    wellFormed (.thymeKey goodRef (2 ^ 32)) = false := by decide
theorem test_illformed_turn : wellFormed (.codeLoad goodRef (2 ^ 40) 0 0) = false ∧ wellFormed (.clusRst .maker 16) = false ∧
    wellFormed (.sysPost .maker 64) = false ∧ wellFormed (.sysflowDisable .maker 64) = false ∧
    wellFormed (.commitAccept 512) = false := by decide
theorem test_illformed_cipher : wellFormed (.keySrtpClear goodRef (2 ^ 32) 0) = false ∧
    wellFormed (.keySlotLoad goodRef 0 0 (2 ^ 40)) = false ∧ wellFormed (.keySlotClear goodRef 0 (2 ^ 32)) = false ∧
    wellFormed (.keySlotGen goodRef 0 0 0 0 (2 ^ 32) 0) = false := by decide
theorem test_illformed_net : wellFormed (.pauseExpire 4) = false ∧ wellFormed (.rxRingDma 0 4) = false ∧
    wellFormed (.txrTailWrite .maker 0 2 0) = false ∧ wellFormed (.netEntryDel goodRef true (2 ^ 128) 0) = false := by decide
theorem test_illformed_memory : wellFormed (.nmPortRequest 22 false 0 64 [] 0) = false ∧
    wellFormed (.nmPortRequest 0 true 0 64 [256] 0) = false ∧ wellFormed (.selfRefreshEntry 5) = false ∧
    wellFormed (.refreshDue 10) = false ∧ wellFormed (.trnApply .maker 16) = false ∧ wellFormed (.cxlRecovery 2) = false ∧
    wellFormed (.decCommit .maker 4 0) = false := by decide
theorem test_illformed_rook : wellFormed (.rookLifecycle goodRef (2 ^ 32) true) = false ∧
    wellFormed (.attest goodRef [256] 0) = false ∧ wellFormed (.auditMirror goodRef (2 ^ 40) 0) = false ∧
    wellFormed (.otpIdentity goodRef [] [256] [] true) = false ∧ wellFormed (.otpRootWrite goodRef [256] true) = false ∧
    wellFormed (.sessionOpen .maker 4) = false ∧ wellFormed (.rollbackSet goodRef (2 ^ 32) true) = false := by decide
theorem test_illformed_host : wellFormed (.blockWake 4096) = false ∧ wellFormed (.dmaStatRead .maker 8) = false ∧
    wellFormed (.vectorFire 64 0) = false ∧ wellFormed (.registerWrite .maker (2 ^ 24) 0) = false ∧
    wellFormed (.blockSleep 0 4) = false ∧ wellFormed (.wrongWidthAccess .maker true 16 0) = false ∧
    wellFormed (.wrongWidthAccess .maker true 0 (2 ^ 24)) = false := by decide
theorem test_illformed_misc : wellFormed (.spiDone 0 [256]) = false ∧ wellFormed (.uartRxByte 256 false) = false ∧
    wellFormed (.i2cRead .maker 2 0) = false ∧ wellFormed (.i2cDone 0 0 0 [256]) = false ∧
    wellFormed (.gpioEdge 0x10000) = false ∧ wellFormed (.resetRelease 4 [] [] []) = false ∧
    wellFormed (.resetRelease 0 [256] [] []) = false := by decide

/-! ### Values that the spec's own examples and tables give -/

/-- 18: a host reads ID at 0x03_7000 and receives 0x0507_0100; the same read at 0x07_9000 returns 0x0A81_0100. -/
theorem test_id : (live.readReg .maker 0x37000).rdata = 0x05070100 ∧ (live.readReg .maker 0x79000).rdata = 0x0A810100 := by
  decide +kernel
/-- 14: context 1,000's state starts at 0x00_03E8_0000: rank 4, k 8,533, bank 5, half 1, row 266, row bytes from 1,664. -/
theorem test_nm_map : nmLoc false 0 (0x03E80000 / 64) = ⟨4, 8533⟩ ∧ (nmLoc false 0 1024000).bank = 5 ∧
    (nmLoc false 0 1024000).half = 1 ∧ (nmLoc false 0 1024000).row = 266 ∧ (nmLoc false 0 1024000).byte 10 = 1664 := by decide
/-- 05: line 1,000 in NBF (group delay 1,022) with PHASE 20: ALIGN is 12. -/
theorem test_align : ((((live.setN (Reg.LDC_SET_GD 7 0) 1022).setDec 1000 { cfg := 20 * 256 }).setCtx 1000 { line := some 1000 }).eceAlign
    { ctx := 1000, packet := false, wide := false, tlen := 2, bulk := 0, prof := 0 }) = 12 := by decide +kernel
/-- 03: the status word of slot 8 occupies LDI bits 4,256–4,271, which are frame bytes 532 and 533. -/
theorem test_ldi_status : ldiStatus (List.replicate 532 0 ++ [0x12, 0x34] ++ List.replicate 234 0) 8 = 0x1234 := by decide +kernel
/-- 09: with BRN 9 and M0 512, successive post-modifies of P0 give 512, 256, 768, 128 and 640. -/
theorem test_bit_reversed :
    [0, 512, 256, 768, 128].map (fun p => ((({} : Core).force 0x2F 0x940).force 0x10 p).postMod 0 512 true) =
      [512, 256, 768, 128, 640] := by decide +kernel
/-- Command queue 3 of 11's example: SIZE 2, BASE 0x010, RD 2,032, WR 10, items A and B and a reservation of the BAR0 window. -/
def queue3 : State := live.setQue 3 { (live.que 3) with
  en := true, size := 2, base := 0x10, rd := 2032, wr := 10, resv := some ⟨.operator, 4, 5⟩
  items := [(8, some .operator, 0), (12, some .operator, 0)], pend := some (3, 0x10) }
/-- 11: a flush discards A and B, FLUSH_ITEMS + 2, ends the reservation, ABORTS + 1, and leaves WR = RD. -/
theorem test_flush : ((queue3.flush 3).que 3).items = [] ∧ ((queue3.flush 3).que 3).wr = 2032 ∧
    ((queue3.flush 3).que 3).resv = none ∧ (queue3.flush 3).rn Reg.QM_FLUSH_ITEMS = 2 ∧ (queue3.flush 3).rn Reg.QM_ABORTS = 1 := by
  decide +kernel

end Sys2Proof.Tests
end

section
/-! PROOFS of the family 00_scope.md: the canonical form as an invariant of every step (O52), what registers and memory read
after a write (O48), accesses of a wrong width (O44), and the register rows of a host access (O45). -/

namespace Sys2Proof.Machine
open Sys2Proof

variable {s t : State} {c : Instr} {w : Win} {a h n : Nat} {v : Word} {i : PageInfo} {r : RegRow}

/-! ### What every command keeps, a cold reset among them -/

/-- What a state keeps of itself through any command: all but the level of THERMTRIP_L, which a cold reset releases. -/
def Keep.untripped (s : State) : Keep := { Keep.of s with tr := false }

theorem Good.untripped : Good (Keep.untripped s) s := ⟨rfl, id, fun _ _ _ hb => hb, nofun⟩

/-- The next state of a command keeps the queue, the canonical form and the programmed OTP bits. -/
theorem exec_keeps (h : exec c s = .next t) : Good (Keep.untripped s) t := by
  obtain ⟨u, hu, hgood⟩ := exec_good (c := c) (k := Keep.untripped s) nofun Good.untripped
  cases hu.symm.trans h
  exact hgood

theorem exec_canonical (hs : s.canonical = true) (h : exec c s = .next t) : t.canonical = true := (exec_keeps h).can hs

/-- What a step can do: with no command waiting nothing, else carry out the first command with the others waiting. -/
theorem step_cases (h : step s = .next t) :
    (s.pending = [] ∧ t = s) ∨ ∃ c rest, s.pending = c :: rest ∧ exec c { s with pending := rest } = .next t := by
  unfold step at h
  split at h
  case h_1 hp => cases h; exact .inl ⟨hp, rfl⟩
  case h_2 c rest hp => exact .inr ⟨c, rest, hp, h⟩

/-- The canonical form does not speak of the queue that a step takes its command from. -/
theorem step_canonical (hs : s.canonical = true) (h : step s = .next t) : t.canonical = true := by
  obtain ⟨-, rfl⟩ | ⟨c, rest, -, hexec⟩ := step_cases h
  · exact hs
  · have hrest : ({ s with pending := rest } : State).canonical = true := hs
    exact exec_canonical hrest hexec

/-- Settles O52: `Good` is kept by every command, and a step is a command on the state with the rest of the queue. -/
theorem everyStepKeepsTheCanonicalForm : Obligations.EveryStepKeepsTheCanonicalForm :=
  ⟨fun _ _ => step_canonical, fun _ _ _ => exec_canonical⟩

/-! ### Reads after writes -/

theorem State.canonical_poison (h : s.canonical = true) : Tab.wf (fun _ => false) s.poison = true :=
  (State.canonical_iff.mp h).2.2.2.1

/-- Marking or clearing a line changes the mark of that line and of no other. -/
theorem State.poison_setPoison {b : Bool} (h : s.canonical = true) (k : Nat) :
    Tab.get (fun _ => false) (s.setPoison a b).poison k =
      if k = a / 64 then b else Tab.get (fun _ => false) s.poison k := by
  split
  case isTrue hk => subst hk; exact Tab.get_put_self (State.canonical_poison h)
  case isFalse hk => exact Tab.get_put_ne hk

/-- Settles O48: each table reads back the key written and every other key as before. -/
theorem registersAndMemoryReadBackWhatIsWritten : Obligations.RegistersAndMemoryReadBackWhatIsWritten :=
  ⟨fun _ _ _ hs => ⟨State.rn_setN_self hs, fun _ => State.reg_setReg_ne, State.setN_canonical hs, rfl⟩,
   fun _ _ _ hs => ⟨State.rd8_wr8_self hs, fun _ => State.rd8_wr8_ne, State.wr8_canonical hs, rfl⟩,
   fun _ _ _ hs => ⟨State.rdBytes_wrBytes hs, fun _ => State.rd8_wrBytes_out, State.wrBytes_canonical hs⟩,
   fun _ _ _ hs => ⟨State.setPoison_canonical hs, State.poison_setPoison hs⟩⟩

/-! ### Accesses of another width (R5) -/

/-- A wrong access of a live device: a read shows all ones, and the access is recorded unless an earlier one is. -/
theorem State.wrongWidth_live {wr : Bool} {be : Nat} (ho : s.rook.otpRead = true) (hd : s.host.d3 = false)
    (hbe : be < 16) (ha : a < 2 ^ 24) :
    let u : State := { s with rdata := if wr then s.rdata else 0xFFFFFFFF }
    s.wrongWidth w wr be a = if s.bit Reg.TOP_TOP_ERR 31 then u else u.setN Reg.TOP_TOP_ERR
      (2 ^ 31 + (if wr then 2 ^ 30 else 0) + winNum w * 2 ^ 28 + be * 2 ^ 24 + a) := by
  simp only [State.wrongWidth, ho, hd, Nat.mod_eq_of_lt hbe, Nat.mod_eq_of_lt ha, Bool.not_true, Bool.or_self,
    Bool.false_eq_true, if_false]
  cases wr with
  | true => rfl
  | false => rfl

/-- Little-endian bytes spell the number modulo their range. -/
theorem leNat_leBytes : leNat (leBytes n a) = a % 256 ^ n := by
  induction n generalizing a with
  | zero => simp [leBytes, leNat, Nat.mod_one]
  | succ n ih => rw [leBytes, leNat, ih, Nat.pow_succ', Nat.mod_mul]

/-- Settles O44: the record of a wrong access by `State.wrongWidth_live`, the byte order by `leNat_leBytes`. -/
theorem wrongWidthAccessIsIgnoredAndRecorded : Obligations.WrongWidthAccessIsIgnoredAndRecorded := by
  have hbytes (m : Nat) : leNat (leBytes 4 m) = m % 2 ^ 32 := leNat_leBytes
  refine ⟨fun s w wr be a ho hd hbe ha => ⟨fun hb => ?_, fun hb => ?_⟩, fun s m => ⟨hbytes m, fun a => ?_⟩⟩
  · exact congrArg Host.Outcome.next ((State.wrongWidth_live ho hd hbe ha).trans (by rw [hb]; rfl))
  · exact congrArg Host.Outcome.next ((State.wrongWidth_live ho hd hbe ha).trans (by rw [hb]; rfl))
  · rw [hbytes, Nat.mod_eq_of_lt State.rn_lt]

/-! ### Writes of registers -/

theorem State.regWrite_unaligned (h4 : a % 4 ≠ 0) : s.regWrite w a v = s := if_pos h4

/-- A write of an offset in no page and no queue span does nothing. -/
theorem State.regWrite_noPage (hq : ¬(0x400000 ≤ a ∧ a < 0x500000)) (hp : pageInfo (a / 0x1000) = none) :
    s.regWrite w a v = s := by
  simp [State.regWrite, hq, hp]

/-- A write of the common header of a page. -/
theorem State.regWrite_header (h4 : a % 4 = 0) (hq : ¬(0x400000 ≤ a ∧ a < 0x500000))
    (hp : pageInfo (a / 0x1000) = some i) (ho : a % 0x1000 < 0x100) : s.regWrite w a v = s.headerWrite i (a % 0x1000) v := by
  simp [State.regWrite, h4, hq, hp, ho]

/-- A write of a PWR register has no further effect. -/
theorem State.regWrite_pwr (h4 : a % 4 = 0) (hlo : 0xD0100 ≤ a) (hhi : a < 0xD1000) :
    s.regWrite w a v = s.plain ⟨0xD0000, 18, 0, 0, 1, 1⟩ a v := by
  have hpage : a / 0x1000 = 0xD0 := by omega
  have hq : ¬(0x400000 ≤ a ∧ a < 0x500000) := by omega
  have ho : ¬a % 0x1000 < 0x100 := by omega
  simp [State.regWrite, h4, hq, hpage, ho, pageInfo]

/-- A value in range is stored under the register's access codes (R7). -/
theorem State.plain_inRange (hr : rowAt a = some r) (hv : r.refuses v = false) :
    s.plain i a v = s.setReg a (r.stored (s.reg a) v) := by
  simp [State.plain, State.checked, hr, hv]

/-- A value out of range is refused. -/
theorem State.plain_outOfRange (hr : rowAt a = some r) (hv : r.refuses v = true) : s.plain i a v = s.refuse_ i 3 a := by
  simp [State.plain, State.checked, hr, hv]

/-- IRQ_RAW clears the bits written (R376). -/
theorem State.headerWrite_irqRaw (hn : i.pageNo = 0) :
    s.headerWrite i 0x10 v = s.setReg (i.first + 0x10) (s.reg (i.first + 0x10) &&& ~~~v) := by
  simp [State.headerWrite, hn]

/-- IRQ_EN holds the bits the block has (R376). -/
theorem State.headerWrite_irqEn (hn : i.pageNo = 0) :
    s.headerWrite i 0x14 v = s.setReg (i.first + 0x14) (v &&& w32 (irqMask i)) := by
  simp [State.headerWrite, hn]

theorem exec_registerWrite (h : s.opens w a true = true) : exec (.registerWrite w a v) s = .next ((s.seenBy w).regWrite w a v) :=
  congrArg Host.Outcome.next (hostGuard_open h)

theorem exec_irqForce {p : Nat} (h : s.opens w (p * 0x1000 + 0x1C) true = true) (hp : pageInfo p = some i) :
    exec (.irqForce w p v) s = .next ((s.seenBy w).irqForce i v) := by
  refine congrArg Host.Outcome.next ((hostGuard_open h).trans ?_)
  simp only [hp]

/-! ### Reads of registers -/

theorem exec_clearOnRead (h : s.opens w a false = true) : exec (.clearOnRead w a) s = .next ((s.seenBy w).readReg w a) :=
  congrArg Host.Outcome.next (hostGuard_open h)

theorem exec_deniedRead (h : s.opens w a false = true) : exec (.deniedRead w a) s = .next ((s.seenBy w).readReg w a) :=
  congrArg Host.Outcome.next (hostGuard_open h)

theorem exec_counterLowRead (h : s.opens w a false = true) (hn : snapOf a ≠ []) :
    exec (.counterLowRead w a) s = .next ((s.seenBy w).readLow w a) :=
  congrArg Host.Outcome.next ((hostGuard_open h).trans (if_neg hn))

theorem exec_deniedRead_denied (ho : s.rook.otpRead = true) (hd : s.host.d3 = false)
    (hn : (s.seenBy w).allowed w a false = false) : exec (.deniedRead w a) s = .next ((s.seenBy w).denied w a false) :=
  congrArg Host.Outcome.next (hostGuard_denied ho hd hn)

/-- A register that is neither a queue span, COEF_DATA, HOST_STAT nor UART_RX, nor the low word of a pair, reads by its view. -/
theorem State.readReg_other (h4 : a % 4 = 0) (hq : a < 0x400000) (hcoef : a / 0x10000 ≠ 2)
    (hstat : a < 0xC2100 ∨ 0xC2300 ≤ a) (huart : a ≠ Reg.MISC_UART_RX) (hsnap : snapOf a = []) :
    s.readReg w a = s.readOther w a := by
  have hspan : ¬(0x400000 ≤ a ∧ a < 0x500000 ∧ a % 0x800 < 0x400) := by omega
  have hldc : ¬(0x20000 ≤ a ∧ a < 0x30000 ∧ a % 0x1000 = 0x304) := by omega
  have hring : ¬(0xC2100 ≤ a ∧ a < 0xC2300 ∧ a % 0x40 = 0x14) := by omega
  simp [State.readReg, h4, hspan, hldc, hring, huart, hsnap]

/-- A held high word reads as it was snapshotted (R8). -/
theorem State.readOther_held (hv : Tab.get (fun _ => none) s.host.snap a = some n) :
    s.readOther w a = { s with rdata := w32 n } := by
  simp [State.readOther, hv]

/-- A register that a read clears shows its value and is 0 afterwards (R7). -/
theorem State.readOther_clears (hv : Tab.get (fun _ => none) s.host.snap a = none) (hpair : (snapOf (a - 4)).contains a = false)
    (hc : readClears a = true) (hpeak : a ≠ Reg.PWR_TEMP_PEAK) :
    s.readOther w a = ({ s with rdata := s.regView w a, draws := s.draws + 1 } : State).setN a 0 := by
  simp only [State.readOther, hv, hpair, State.clearRc, hc, hpeak, Bool.false_eq_true, Bool.not_true, if_false]

/-- A read of the low word of a pair holds the high word, and a statistic clears in both (R8). -/
theorem State.readLow_pair (hsnap : snapOf a = [h]) :
    let t : State := { s with rdata := s.regView w a, draws := s.draws + 1, host := { s.host with
      snap := Tab.put (fun _ => none) s.host.snap h (some (s.regView w h).toNat) } }
    s.readLow w a = if readClears a then (t.setN a 0).setN h 0 else t := by
  simp only [State.readLow, hsnap, State.each, List.foldl]

/-- The first denied read of a window is audited (R342). -/
theorem State.denied_firstRead (hviol : Tab.get (fun _ => none) s.rook.viol (winNum w) = none) :
    let t := ((s.bump Reg.PROT_PROT_VIOL).irq 0x3000 0).setN Reg.PROT_VIOL_INFO (winNum w * 2 ^ 30 + a / 0x1000)
    let x := ({ t with rdata := 0xFFFFFFFF } : State).audit (winNum w + 1) 4 0x0E (leBytes 2 (a / 0x1000) ++ leBytes 4 1)
    s.denied w a false = { x with rook := { x.rook with
      viol := Tab.put (fun _ => none) x.rook.viol (winNum w) (some (s.now, 0)) } } := by
  simp only [State.denied, State.setN_rook, State.irq_rook, State.bump_rook, hviol, b2n, roleOf, Bool.false_eq_true,
    if_false, Nat.zero_mul, Nat.add_zero]
  rfl

/-- Settles O45, row by row from the lemmas above. -/
theorem registerAccessesAct : Obligations.RegisterAccessesAct := by
  refine ⟨fun s w a v hopen => ⟨exec_registerWrite hopen, State.regWrite_unaligned, ?_, ?_, ?_⟩, ?_, ?_, ?_, ?_, ?_⟩
  · exact fun hq hp => State.regWrite_noPage (by omega) hp
  · intro r hlo hhi h4 hr
    exact ⟨fun hv => (State.regWrite_pwr h4 hlo hhi).trans (State.plain_inRange hr hv),
      fun hv => (State.regWrite_pwr h4 hlo hhi).trans (State.plain_outOfRange hr hv)⟩
  · intro i h4 hq hp hn
    have hheader (ho : a % 0x1000 < 0x100) := State.regWrite_header (s := s.seenBy w) (w := w) (v := v) h4 (by omega) hp ho
    refine ⟨fun ho => ?_, fun ho => ?_⟩
    · rw [hheader (by omega), ho, State.headerWrite_irqRaw hn]
    · rw [hheader (by omega), ho, State.headerWrite_irqEn hn]
  · intro s w p v i hopen hp
    exact ⟨fun hn => (exec_irqForce hopen hp).trans (by simp [State.irqForce, hn]),
      fun hn => (exec_irqForce hopen hp).trans (by simp [State.irqForce, hn])⟩
  · intro s w a hopen h4 hq u hc hsnap hpair hpeak hcoef hstat huart hv
    rw [exec_clearOnRead hopen, State.readReg_other h4 (by omega) hcoef hstat huart hsnap,
      State.readOther_clears hv hpair hc hpeak]
  · intro s w a h hopen hsnap
    have hread := exec_counterLowRead hopen (by simp [hsnap])
    exact ⟨fun hc => hread.trans (by simp [State.readLow_pair hsnap, hc]),
      fun hc => hread.trans (by simp [State.readLow_pair hsnap, hc])⟩
  · intro s w h v hopen h4 hq hcoef u hsnap hv
    have huart : h ≠ Reg.MISC_UART_RX := by simp only [Reg.MISC_UART_RX]; omega
    rw [exec_deniedRead hopen, State.readReg_other h4 (by omega) hcoef (by omega) huart hsnap, State.readOther_held hv]
  · exact fun s w a ho hd hn => ⟨exec_deniedRead_denied ho hd hn, State.denied_firstRead⟩

end Sys2Proof.Machine
end

section
/-! PROOFS of the family 01_architecture.md: what an error, a cause, an event and a response leave behind (O47). -/

namespace Sys2Proof.Machine
open Sys2Proof

variable {s : State} {a i j k n p st d b q op code : Nat} {l : List Nat} {r : CmdRef} {t : Taken}

/-! ### Bits of numbers and of registers -/

theorem bitOf_eq_testBit : bitOf n i = n.testBit i := by
  rw [Nat.testBit_eq_decide_div_mod_eq]; rfl

theorem bitOf_bitSet_self : bitOf (bitSet n i) i = true := by
  unfold bitSet
  split
  case isTrue hset => exact hset
  case isFalse hclear =>
    rw [bitOf_eq_testBit, Nat.add_comm, Nat.testBit_two_pow_add_eq, ← bitOf_eq_testBit, eq_false_of_ne_true hclear,
      Bool.not_false]

/-- Adding `2 ^ i` where bit `i` is clear carries into no other bit. -/
theorem bitOf_bitSet_ne (h : j ≠ i) : bitOf (bitSet n i) j = bitOf n j := by
  unfold bitSet
  split
  case isTrue => rfl
  case isFalse hclear =>
    have heven : n / 2 ^ i % 2 = 0 := by simpa [bitOf] using hclear
    rw [bitOf_eq_testBit, bitOf_eq_testBit]
    obtain hlow | hhigh := Nat.lt_or_gt_of_ne h
    · rw [Nat.add_comm, Nat.testBit_two_pow_add_gt hlow]
    · obtain ⟨m, rfl⟩ : ∃ m, j = m + 1 + i := ⟨j - i - 1, by omega⟩
      have hhalf : (n / 2 ^ i + 1) / 2 = n / 2 ^ i / 2 := by omega
      rw [Nat.testBit_add, Nat.testBit_add (x := n), Nat.add_div_right _ (Nat.two_pow_pos i), Nat.testBit_add_one, hhalf,
        Nat.testBit_add_one]

/-- A bit of a register reads as that bit of the number written to it. -/
theorem State.bit_setN_self (hs : s.canonical = true) (hi : i < 32) : (s.setN a n).bit a i = bitOf n i := by
  rw [State.bit, State.rn_setN_self hs, bitOf_eq_testBit, bitOf_eq_testBit, Nat.testBit_mod_two_pow, decide_eq_true hi,
    Bool.true_and]

/-! ### Interrupt causes (R376) -/

theorem State.bit_irq_self (hs : s.canonical = true) (hb : b < 32) : (s.irq p b).bit (p + 0x10) b = true :=
  (State.bit_setN_self hs hb).trans bitOf_bitSet_self

theorem State.bit_irq_ne (hs : s.canonical = true) (h : j ≠ b) (hj : j < 32) :
    (s.irq p b).bit (p + 0x10) j = s.bit (p + 0x10) j :=
  (State.bit_setN_self hs hj).trans (bitOf_bitSet_ne h)

theorem State.rn_irq_ne (h : k ≠ p + 0x10) : (s.irq p b).rn k = s.rn k := State.rn_setN_ne h

/-! ### Error records (R377) -/

/-- The first error of a page in ERR_INFO and ERR_ADDR. -/
def State.errFirst (s : State) (p st d a : Nat) : State := (s.setN (p + 0x20) (st + d * 256)).setN (p + 0x24) a

/-- One more error in ERR_COUNT, which saturates. -/
def State.errCount (s : State) (p : Nat) : State := if s.rn (p + 0x28) = 0xFFFFFFFF then s else s.bump (p + 0x28)

theorem State.err_empty (h : s.rn (p + 0x20) = 0) : s.err p st d a = (s.errFirst p st d a).errCount p := by
  simp only [State.err, h, if_true]; rfl

theorem State.err_held (h : s.rn (p + 0x20) ≠ 0) : s.err p st d a = s.errCount p := by
  simp only [State.err, h, if_false]; rfl

theorem State.errFirst_canonical (hs : s.canonical = true) : (s.errFirst p st d a).canonical = true :=
  State.setN_canonical (State.setN_canonical hs)

theorem State.rn_errFirst_info (hs : s.canonical = true) (hst : st < 256) (hd : d < 2 ^ 24) :
    (s.errFirst p st d a).rn (p + 0x20) = st + d * 256 := by
  rw [State.errFirst, State.rn_setN_ne (by omega), State.rn_setN_self hs, Nat.mod_eq_of_lt (by omega)]

theorem State.rn_errFirst_addr (hs : s.canonical = true) (ha : a < 2 ^ 32) : (s.errFirst p st d a).rn (p + 0x24) = a := by
  rw [State.errFirst, State.rn_setN_self (State.setN_canonical hs), Nat.mod_eq_of_lt ha]

theorem State.rn_errFirst_ne (hinfo : k ≠ p + 0x20) (haddr : k ≠ p + 0x24) : (s.errFirst p st d a).rn k = s.rn k := by
  rw [State.errFirst, State.rn_setN_ne haddr, State.rn_setN_ne hinfo]

theorem State.rn_errCount_self (hs : s.canonical = true) : (s.errCount p).rn (p + 0x28) =
    if s.rn (p + 0x28) = 0xFFFFFFFF then 0xFFFFFFFF else s.rn (p + 0x28) + 1 := by
  unfold State.errCount
  split
  case isTrue hfull => exact hfull
  case isFalse hroom =>
    have hlt : s.rn (p + 0x28) < 2 ^ 32 := State.rn_lt
    rw [State.bump, State.addN, State.rn_setN_self hs, Nat.mod_eq_of_lt (by omega)]

theorem State.rn_errCount_ne (h : k ≠ p + 0x28) : (s.errCount p).rn k = s.rn k := by
  unfold State.errCount
  split
  case isTrue => rfl
  case isFalse => exact State.rn_setN_ne h

/-- ERR_COUNT counts every error, the first one of the page and a later one alike. -/
theorem State.rn_err_count (hs : s.canonical = true) : (s.err p st d a).rn (p + 0x28) =
    if s.rn (p + 0x28) = 0xFFFFFFFF then 0xFFFFFFFF else s.rn (p + 0x28) + 1 := by
  by_cases h : s.rn (p + 0x20) = 0
  · rw [State.err_empty h, State.rn_errCount_self (State.errFirst_canonical hs), State.rn_errFirst_ne (by omega) (by omega)]
  · rw [State.err_held h, State.rn_errCount_self hs]

/-- An error leaves every register but the three of the record. -/
theorem State.rn_err_ne (hinfo : k ≠ p + 0x20) (haddr : k ≠ p + 0x24) (hcount : k ≠ p + 0x28) :
    (s.err p st d a).rn k = s.rn k := by
  by_cases h : s.rn (p + 0x20) = 0
  · rw [State.err_empty h, State.rn_errCount_ne hcount, State.rn_errFirst_ne hinfo haddr]
  · rw [State.err_held h, State.rn_errCount_ne hcount]

/-! ### Events and responses (R19, R21) -/

theorem State.event_outbox (hq : q < 16) : s.event q code l =
    { s with qm := { s.qm with outbox := s.qm.outbox ++ [⟨none, 16 + q, code, l.map w32, false⟩] } } := by
  rw [State.event, Nat.mod_eq_of_lt hq]

/-- The response to a command in progress ends it. -/
theorem State.respond_inProgress (hq : r.q < 16) (ht : s.qm.taken.find? (·.is r op) = some t) :
    s.respond r op st l = { s with qm := { s.qm with
      taken := s.qm.taken.eraseP (·.is r op)
      outbox := s.qm.outbox ++ [⟨some (st, r.tag), 16 + r.q, op, l.map w32, t.orphan⟩] } } := by
  simp only [State.respond, ht, State.answer, Nat.mod_eq_of_lt hq]

/-- A command no longer in progress receives no response (R235). -/
theorem State.respond_ended (ht : s.qm.taken.find? (·.is r op) = none) : s.respond r op st l = s := by
  simp only [State.respond, ht]

/-- Settles O47: an error is the first of its page or a later one, and is counted either way; a cause is one bit set;
an event and a response each join the outbox. -/
theorem errorsInterruptsEventsAndResponsesAreRecorded : Obligations.ErrorsInterruptsEventsAndResponsesAreRecorded := by
  refine ⟨fun s p st d a hs _ hst hd ha => ⟨fun hempty => ?_, fun hheld => ?_, State.rn_err_count hs, fun _ => State.rn_err_ne⟩,
    fun s p b hs hb => ⟨State.bit_irq_self hs hb, fun _ => State.bit_irq_ne hs, fun _ => State.rn_irq_ne⟩,
    fun s q code num l hq => ⟨State.event_outbox hq, rfl⟩,
    fun s r op st l hq => ⟨fun t => State.respond_inProgress hq, State.respond_ended⟩⟩
  · rw [State.err_empty hempty, State.rn_errCount_ne (by omega), State.rn_errCount_ne (by omega)]
    exact ⟨State.rn_errFirst_info hs hst hd, State.rn_errFirst_addr hs ha⟩
  · rw [State.err_held hheld]
    exact ⟨State.rn_errCount_ne (by omega), State.rn_errCount_ne (by omega)⟩

end Sys2Proof.Machine
end

section
/-! PROOFS of the family 02_timebase.md, the frame: opening a frame runs every block, and no block moves FTIME or FPHASE.
One lemma for each operation that a frame boundary reaches says that it leaves TIME alone; the two that do write TIME, `timeOpen`
and `takeSync`, leave FTIME and FPHASE. -/

namespace Sys2Proof.Machine.State
open Sys2Proof

variable {s : State}

/-! ### Choices and loops -/

theorem time_ite {c : Prop} [Decidable c] {t u : State} : (if c then t else u).time = if c then t.time else u.time :=
  apply_ite _ _ _ _

theorem fst_time_ite {α : Type} {c : Prop} [Decidable c] {p q : State × α} :
    (if c then p else q).1.time = if c then p.1.time else q.1.time :=
  apply_ite (fun x : State × α => x.1.time) _ _ _

/-- A loop whose body leaves TIME alone leaves it alone. -/
theorem foldl_time {α : Type} {l : List α} {f : State → α → State} (hf : ∀ s x, (f s x).time = s.time) :
    (l.foldl f s).time = s.time := by
  induction l generalizing s with
  | nil => rfl
  | cons x l ih => exact (ih (s := f s x)).trans (hf s x)

theorem foldl_fst_time {α β : Type} {l : List β} {p : State × α} {f : State × α → β → State × α}
    (hf : ∀ p x, (f p x).1.time = p.1.time) : (l.foldl f p).1.time = p.1.time := by
  induction l generalizing p with
  | nil => rfl
  | cons x l ih => exact (ih (p := f p x)).trans (hf p x)

theorem each_time {α : Type} {l : List α} {f : State → α → State} (hf : ∀ s x, (f s x).time = s.time) :
    (s.each l f).time = s.time := foldl_time hf

/-! ### Registers, memory, errors and events -/

@[simp] theorem maxN_time {a v : Nat} : (s.maxN a v).time = s.time := by
  simp only [maxN, time_ite, ite_self, setN_time]

@[simp] theorem err_time {page st detail addr : Nat} : (s.err page st detail addr).time = s.time := by
  simp only [err, time_ite, ite_self, setN_time, bump_time]

@[simp] theorem headerReset_time {page : Nat} : (s.headerReset page).time = s.time := rfl
@[simp] theorem pageReset_time {lo hi : Nat} : (s.pageReset lo hi).time = s.time := rfl

@[simp] theorem wrLE_time {a n v : Nat} : (s.wrLE a n v).time = s.time := by
  simp only [wrLE, wrBytes_time]

@[simp] theorem sysEvent_time {evq num : Nat} {payload : List Nat} : (s.sysEvent evq num payload).time = s.time := rfl

@[simp] theorem writeRecord_time {kind a n : Nat} {b : List Nat} : (s.writeRecord kind a n b).time = s.time := by
  simp only [writeRecord, wrBytes_time]

/-! ### Writes to far memory -/

@[simp] theorem farWrote_time {a n : Nat} : (s.farWrote a n).time = s.time := by
  unfold farWrote
  repeat' split
  all_goals simp only [add64_time]

@[simp] theorem wrDev_time {a : Nat} {l : List Nat} : (s.wrDev a l).time = s.time := by
  simp only [wrDev, farWrote_time, wrBytes_time]

/-! ### Audit records and the mirror -/

@[simp] theorem auditEvent_time {on : Bool} : (s.auditEvent on).time = s.time := by
  simp only [auditEvent, sysEvent_time, irq_time]

@[simp] theorem mirrorCheck_time : s.mirrorCheck.time = s.time := by
  unfold mirrorCheck
  split <;> simp only [time_ite, ite_self, auditEvent_time]

@[simp] theorem toMirror_time {r : AuditRec} : (s.toMirror r).time = s.time := by
  simp only [toMirror, mirrorCheck_time, wrDev_time]
  split <;> rfl

@[simp] theorem auditLost_time : s.auditLost.time = s.time := rfl

@[simp] theorem trimLog_time : s.trimLog.time = s.time := by
  simp only [trimLog, time_ite, ite_self, auditLost_time]

@[simp] theorem numbered_time {r : AuditRec} : (s.numbered r).1.time = s.time := rfl

@[simp] theorem audit_time {role st action : Nat} {detail : List Nat} :
    (s.audit role st action detail).time = s.time := by
  unfold audit
  split <;> simp only [time_ite, ite_self, numbered_time, trimLog_time, toMirror_time]

@[simp] theorem noRights_time {w : Win} {op : Nat} : (s.noRights w op).time = s.time := by
  simp only [noRights, audit_time]

/-! ### Queues -/

@[simp] theorem handOver_time {c : Commit} : (s.handOver c).time = s.time := rfl

@[simp] theorem popItem_time {q : Nat} : (s.popItem q).time = s.time := by
  simp only [popItem]
  split <;> simp only [setQue_time]

/-! ### Links and lines -/

@[simp] theorem lineEvent_time {b irqBit code : Nat} {payload : List Nat} :
    (s.lineEvent b irqBit code payload).time = s.time := rfl

@[simp] theorem linkStateEvent_time {l : Nat} : (s.linkStateEvent l).time = s.time := by
  simp only [linkStateEvent, lineEvent_time]

@[simp] theorem setLinkState_time {l st cause : Nat} : (s.setLinkState l st cause).time = s.time := by
  simp only [setLinkState, time_ite, ite_self, setFld_time, each_time, setLine_time, linkStateEvent_time,
    implies_true]

@[simp] theorem beginTraining_time {l : Nat} {fast : Bool} : (s.beginTraining l fast).time = s.time := by
  simp only [beginTraining, time_ite, ite_self, setFld_time, setLink_time, setLinkState_time]

@[simp] theorem slip_time {b : Nat} {tx : Bool} {kind : Nat} : (s.slip b tx kind).time = s.time := by
  simp only [slip, time_ite, ite_self, bump_time, lineEvent_time, setBank_time]

@[simp] theorem takeStatus_time {n i raw : Nat} : (s.takeStatus n i raw).time = s.time := by
  simp only [takeStatus, setFld_time, setLine_time]

@[simp] theorem processRx_time {n l : Nat} : (s.processRx n l).time = s.time := by
  unfold processRx
  extract_lets x
  split
  · exact setLink_time
  split
  · exact slip_time
  split
  · rfl
  extract_lets t alarm _ u v
  have hu : u.time = s.time := setLink_time.trans (each_time fun _ _ => takeStatus_time)
  have hv : v.time = s.time := by simp only [v, time_ite, linkStateEvent_time, hu, ite_self]
  repeat' split
  · rw [lineEvent_time, hv]
  · exact hv
  · exact hv

@[simp] theorem closeLine_time {n i : Nat} : (s.closeLine n i).1.time = s.time := by
  unfold closeLine
  extract_lets b voice due x counts t samples y pcm z u v
  have ht : t.time = s.time := by simp only [t, time_ite, bump_time, ite_self]
  have hu : u.time = t.time := each_time fun _ _ => lineEvent_time
  have hv : v.time = u.time := by
    simp only [v]
    split <;> rfl
  exact hv.trans (hu.trans ht)

@[simp] theorem zeroRef_time {l : Nat} : (s.zeroRef l).time = s.time :=
  each_time fun _ _ => rfl

@[simp] theorem closeLdo_time {n l : Nat} : (s.closeLdo n l).time = s.time := by
  simp only [closeLdo, time_ite, ite_self, slip_time, zeroRef_time, closeLine_time, setLink_time, foldl_fst_time,
    implies_true]

@[simp] theorem disableLink_time {l : Nat} : (s.disableLink l).time = s.time := by
  simp only [disableLink, time_ite, ite_self, setLinkState_time, setLink_time, beginTraining_time]

@[simp] theorem linkOpen_time {n : Nat} : (s.linkOpen n).time = s.time := by
  unfold linkOpen
  rw [each_time fun _ _ => closeLdo_time, each_time fun _ _ => processRx_time,
    each_time fun _ _ => disableLink_time, each_time fun _ _ => setBank_time]

@[simp] theorem linkDone_time : s.linkDone.time = s.time :=
  each_time fun _ _ => rfl

/-! ### Journals -/

@[simp] theorem setJctx_time {c : Nat} {j : Option JCtx} : (s.setJctx c j).time = s.time := rfl

@[simp] theorem setEpoch_time {c : Nat} {e : Option Epoch} : (s.setEpoch c e).time = s.time := by
  unfold setEpoch
  split <;> simp only [setJctx_time]

@[simp] theorem writeDir_time {c : Nat} {r : JRec} : (s.writeDir c r).time = s.time := by
  simp only [writeDir, wrDev_time]

@[simp] theorem newKey_time : s.newKey.time = s.time := rfl

@[simp] theorem takeSeq_time : s.takeSeq.1.time = s.time := by
  simp only [takeSeq, time_ite, ite_self, irq_time, newKey_time, event_time]

@[simp] theorem showStream_time {c k blk : Nat} {e : Epoch} : (s.showStream c k blk e).time = s.time := by
  simp only [showStream, wrBytes_time]

@[simp] theorem holdSub_time {c k n : Nat} {xs : List Int} : (s.holdSub c k n xs).time = s.time := by
  unfold holdSub
  split <;> simp only [time_ite, ite_self, showStream_time, wrBytes_time, setEpoch_time]

@[simp] theorem jnlFrame_time {c n : Nat} {x0 x1 : List Int} : (s.jnlFrame c n x0 x1).time = s.time := by
  unfold jnlFrame
  split <;> simp only [time_ite, ite_self, setEpoch_time, holdSub_time]

@[simp] theorem stage_time {x : JSlot} : (s.stage x).time = s.time := rfl

@[simp] theorem gapSlot_time {c k blk : Nat} {e : Epoch} {seq : Nat} {end_ fill : Bool} :
    (s.gapSlot c k blk e seq end_ fill).time = s.time := by
  simp only [gapSlot, time_ite, ite_self, irq_time, bump_time, event_time, stage_time]

@[simp] theorem codeStream_time {c k blk : Nat} {e : Epoch} {end_ : Bool} :
    (s.codeStream c k blk e end_).1.time = s.time := by
  simp only [codeStream, time_ite, fst_time_ite, ite_self, bump_time, takeSeq_time, gapSlot_time, stage_time]

@[simp] theorem codeBlock_time {c : Nat} {end_ : Bool} : (s.codeBlock c end_).time = s.time := by
  unfold codeBlock
  split <;> simp only [codeStream_time, showStream_time, setEpoch_time]

@[simp] theorem endCopy_time {x : JCopy} {reason : Nat} : (s.endCopy x reason).time = s.time := rfl

@[simp] theorem copyBlock_time {x : JCopy} : (s.copyBlock x).1.time = s.time := by
  simp only [copyBlock, wrDev_time]

@[simp] theorem copyRun_time {n : Nat} {x : JCopy} : (s.copyRun n x).time = s.time := by
  induction n generalizing s x with
  | zero => rfl
  | succ n ih =>
    simp only [copyRun, ih, time_ite, endCopy_time, copyBlock_time, ite_self]

@[simp] theorem copyOn_time {c : Nat} : (s.copyOn c).time = s.time := by
  unfold copyOn
  split <;> simp only [copyRun_time]

@[simp] theorem putSlot_time {x : JSlot} : (s.putSlot x).time = s.time := by
  simp only [putSlot]
  split <;> simp only [time_ite, ite_self, bump_time, wrDev_time, maxN_time, setEpoch_time, writeDir_time,
    copyOn_time]

@[simp] theorem slotRefused_time {x : JSlot} : (s.slotRefused x).1.time = s.time := by
  simp only [slotRefused]
  split <;> simp only [time_ite, ite_self, irq_time, bump_time, setEpoch_time, event_time]

@[simp] theorem slotCipher_time {x : JSlot} : (s.slotCipher x).1.time = s.time := by
  simp only [slotCipher]
  split <;> simp only [bump_time, slotRefused_time]

@[simp] theorem flushSlots_time {c : Nat} : (s.flushSlots c).time = s.time := by
  refine each_time fun t x => ?_
  split <;> simp only [putSlot_time, slotCipher_time]

@[simp] theorem markEnd_time {c blk : Nat} : (s.markEnd c blk).time = s.time := by
  simp only [markEnd]
  split <;> simp only [time_ite, ite_self, wr8_time, foldl_time, implies_true]

@[simp] theorem codeTo_time {c last n : Nat} : (s.codeTo c last n).time = s.time := by
  induction n generalizing s with
  | zero => rfl
  | succ n ih =>
    unfold codeTo
    split
    · simp only [ih, time_ite, codeBlock_time, ite_self]
    · rfl

@[simp] theorem endEpoch_time {c last st t : Nat} : (s.endEpoch c last st t).time = s.time := by
  simp only [endEpoch]
  repeat' split
  all_goals simp only [flushSlots_time, markEnd_time, codeTo_time, copyOn_time, setEpoch_time, writeDir_time,
    endCopy_time]

@[simp] theorem beginEpoch_time {c n : Nat} {f : JCfg} : (s.beginEpoch c n f).time = s.time := by
  simp only [beginEpoch, time_ite]
  rw [foldl_time fun _ _ => wrBytes_time, writeDir_time, setEpoch_time, ite_self]

@[simp] theorem jctxOpen_time {n c : Nat} : (s.jctxOpen n c).time = s.time := by
  unfold jctxOpen
  split
  · rfl
  split
  · rfl
  extract_lets done t u
  have ht : t.time = s.time := by
    simp only [t]
    split
    · rw [time_ite, endEpoch_time, setEpoch_time, ite_self]
    · rfl
  rw [time_ite, beginEpoch_time, setJctx_time, ht, ite_self]

@[simp] theorem submitOvr_time : s.submitOvr.time = s.time := rfl

@[simp] theorem jsRead_time {a : Nat} : (s.jsRead a).time = s.time := by
  simp only [jsRead]
  split <;> simp only [time_ite, ite_self, submitOvr_time, holdSub_time]

@[simp] theorem thymeOpen_time {n : Nat} : (s.thymeOpen n).time = s.time := by
  simp only [thymeOpen, each_time, jctxOpen_time, jsRead_time, implies_true]

/-! ### Packets and buffers -/

@[simp] theorem voicePut_time {t : Template} {slot : Nat} {packet : List Nat} :
    (s.voicePut t slot packet).time = s.time := rfl

@[simp] theorem poolFree_time {b : Nat} : (s.poolFree b).time = s.time := rfl

/-! ### Cipher engines -/

@[simp] theorem setEng_time {c : Nat} {x : Ciph} : (s.setEng c x).time = s.time := rfl

@[simp] theorem setJob_time {c : Nat} {j : CiphJob} : (s.setJob c j).time = s.time := by
  simp only [setJob, setEng_time]

@[simp] theorem offer_time {c : Nat} {x : CiphJob} {r : Nat × Nat × Nat} : (s.offer c x r).time = s.time := by
  simp only [offer, handOver_time]

@[simp] theorem jobResults_time {c : Nat} : (s.jobResults c).time = s.time := by
  refine each_time fun t j => ?_
  split
  · rw [setJob_time, offer_time]
  · rfl

@[simp] theorem streamOn_time {c : Nat} : (s.streamOn c).time = s.time := by
  unfold streamOn
  repeat' split
  all_goals simp only [time_ite, ite_self, drawn_time, setJob_time, wrLE_time, wrDev_time]

@[simp] theorem ciphOpen_time {c : Nat} : (s.ciphOpen c).time = s.time := by
  simp only [ciphOpen, streamOn_time, jobResults_time]

/-! ### The network side -/

@[simp] theorem showTx_time {c : Nat} : (s.showTx c).time = s.time := by
  simp only [showTx, writeRecord_time]

@[simp] theorem release1_time {n : Nat} {it : TxItem} : (s.release1 n it).time = s.time := by
  unfold release1
  extract_lets t _ u x
  have hu : u.time = s.time := poolFree_time (s := s) (b := it.buf)
  split
  · exact bump_time.trans hu
  split
  · exact bump_time.trans hu
  extract_lets t v w ts rtp a b c
  have hw : w.time = s.time := by simp only [w, v, bump_time, time_ite, hu, ite_self]
  have hc : c.time = s.time := by
    simp only [c, b, a, showTx_time, setCtx_time, time_ite, event_time, hw, ite_self]
  simp only [time_ite, voicePut_time, setEng_time, hw, hc, ite_self]

@[simp] theorem txSlots_time {n : Nat} : (s.txSlots n).time = s.time := by
  unfold txSlots
  rw [each_time fun _ _ => by rw [showTx_time, setCtx_time]]
  refine foldl_fst_time fun p it => ?_
  simp only [fst_time_ite, release1_time, ite_self]

/-! ### Decimators -/

@[simp] theorem completeBlock_time {n i : Nat} {x : LdcLine} {b : Blk} : (s.completeBlock n i x b).time = s.time := by
  simp only [completeBlock]
  split <;> simp only [wrBytes_time, post_time]

@[simp] theorem beginBlock_time {n i cfg wide : Nat} : (s.beginBlock n i cfg wide).1.time = s.time := by
  simp only [beginBlock, fst_time_ite, ite_self, wrBytes_time]

@[simp] theorem endMeas_time {i st : Nat} : (s.endMeas i st).time = s.time := by
  simp only [endMeas]
  split <;> rfl

@[simp] theorem feedMeas_time {n i : Nat} {outs : List LdcOut} {fault : Bool} :
    (s.feedMeas n i outs fault).time = s.time := by
  refine each_time fun t o => ?_
  dsimp only
  split
  · rfl
  · simp only [time_ite, setDec_time, wrLE_time, ite_self]

@[simp] theorem lineOpen_time {n i : Nat} {masks : List Nat} : (s.lineOpen n i masks).time = s.time := by
  simp only [lineOpen, time_ite, ite_self, setDec_time, endMeas_time, beginBlock_time]
  repeat' split
  all_goals simp only [endMeas_time, beginBlock_time, completeBlock_time]

@[simp] theorem decimate_time {n i : Nat} : (s.decimate n i).1.time = s.time := by
  simp only [decimate, time_ite, fst_time_ite, ite_self, setDec_time, irq_time, addN_time, feedMeas_time]

@[simp] theorem storeSamples_time {n : Nat} {o : LineOut} : (s.storeSamples n o).time = s.time := by
  simp only [storeSamples]
  split <;> rfl

@[simp] theorem setsOpen_time : s.setsOpen.time = s.time := by
  simp only [setsOpen, time_ite, ite_self, each_time, setFld_time, setSet_time, implies_true]

@[simp] theorem setsDone_time : s.setsDone.time = s.time := by
  refine each_time fun t k => ?_
  split <;> rfl

/-! ### Echo cancellers -/

@[simp] theorem setEce_time {k : Nat} {x : Option Ece} : (s.setEce k x).time = s.time := rfl

@[simp] theorem onEce_time {k : Nat} {f : Ece → Ece} : (s.onEce k f).time = s.time := by
  unfold onEce
  split <;> simp only [setEce_time]

@[simp] theorem histWrite_time {k : Nat} {wide : Bool} {t : Nat} {xi yi e : Int} {flags : Nat} :
    (s.histWrite k wide t xi yi e flags).time = s.time := by
  simp only [histWrite, wrBytes_time]

@[simp] theorem eceEvent_time {x : Ece} {code : Nat} {payload : List Nat} :
    (s.eceEvent x code payload).time = s.time := rfl

@[simp] theorem toneEvent_time {k : Nat} {x : Ece} {kind : Nat} : (s.toneEvent k x kind).time = s.time := by
  simp only [toneEvent, eceEvent_time, irq_time]

@[simp] theorem reconvDone_time {k : Nat} {x : Ece} {result reason : Nat} :
    (s.reconvDone k x result reason).time = s.time := by
  unfold reconvDone
  split <;> simp only [eceEvent_time, irq_time]

@[simp] theorem fadeDone_time {k : Nat} : (s.fadeDone k).time = s.time := by
  unfold fadeDone
  repeat' split
  all_goals simp only [bump_time, reconvDone_time, eceEvent_time, setEce_time]

@[simp] theorem abandon_time {k : Nat} {reason : Option Nat} : (s.abandon k reason).time = s.time := by
  simp only [abandon]
  repeat' split
  all_goals simp only [fadeDone_time, reconvDone_time, setEce_time]

@[simp] theorem acceptTrig_time {k cause r10 : Nat} {x : Ece} : (s.acceptTrig k cause r10 x).time = s.time := by
  simp only [acceptTrig, setEce_time, eceEvent_time, irq_time]

@[simp] theorem autoTrig_time {k cause : Nat} : (s.autoTrig k cause).time = s.time := by
  unfold autoTrig
  split <;> simp only [time_ite, ite_self, acceptTrig_time, setEce_time, irq_time, bump_time]

@[simp] theorem bgFrame_time {n k : Nat} : (s.bgFrame n k).time = s.time := by
  unfold bgFrame
  repeat' split
  all_goals simp only [time_ite, ite_self, setEce_time, abandon_time]

@[simp] theorem bypassSet_time {k : Nat} {was : Bool} {x : Ece} : (s.bypassSet k was x).time = s.time := by
  simp only [bypassSet, time_ite, ite_self, abandon_time, toneEvent_time]

@[simp] theorem toneAct_time {k : Nat} {x : Ece} : (s.toneAct k x).time = s.time := by
  unfold toneAct
  split <;> simp only [time_ite, ite_self, onEce_time, abandon_time, toneEvent_time]

@[simp] theorem fadeStart_time {k : Nat} : (s.fadeStart k).time = s.time := by
  simp only [fadeStart, onEce_time]

@[simp] theorem eceBoundary_time {k : Nat} {rst : Bool} : (s.eceBoundary k rst).time = s.time := by
  simp only [eceBoundary]
  split <;> simp only [fadeDone_time, fadeStart_time, toneAct_time, bypassSet_time, setEce_time]

@[simp] theorem eceClear_time {cl : Nat} : (s.eceClear cl).time = s.time := by
  simp only [eceClear, time_ite, ite_self, pageReset_time, headerReset_time, each_time, onEce_time, implies_true]

@[simp] theorem eceOpen_time : s.eceOpen.time = s.time := by
  simp only [eceOpen, each_time, eceClear_time, eceBoundary_time, implies_true]

@[simp] theorem eceLine_time {n : Nat} {o : LineOut} : (s.eceLine n o).1.time = s.time := by
  simp only [eceLine]
  repeat' split
  all_goals simp only [histWrite_time, setEce_time, autoTrig_time, foldl_fst_time, implies_true]

@[simp] theorem eceRelease_time {c : Nat} : (s.eceRelease c).time = s.time := by
  unfold eceRelease
  split <;> simp only [setEce_time]

/-! ### Turn -/

@[simp] theorem readyMove_time {type flow stamp : Nat} {solo miss : Bool} {a b : Nat × Nat} {res shr : Nat} :
    (s.readyMove type flow stamp solo miss a b res shr).time = s.time := rfl

@[simp] theorem flowTook_time {f : Nat} {left : List Held} {stamp : Nat} :
    (s.flowTook f left stamp).time = s.time := rfl

@[simp] theorem solo_time {h : Held} : (s.solo h).time = s.time := by
  simp only [solo, bump_time, readyMove_time]

@[simp] theorem matchLine_time {h : Held} : (s.matchLine h).time = s.time := by
  simp only [matchLine]
  split <;> simp only [time_ite, ite_self, bump_time, setFlow_time, flowTook_time, readyMove_time, solo_time]

@[simp] theorem accept_time {o : Operand} : (s.accept o).time = s.time := by
  simp only [accept, time_ite, ite_self, bump_time, matchLine_time, readyMove_time, setFlow_time]

@[simp] theorem flowModeChange_time {f : Nat} : (s.flowModeChange f).time = s.time := by
  simp only [flowModeChange, setFlow_time, each_time, solo_time, implies_true]

@[simp] theorem retryPosts_time : s.retryPosts.time = s.time := by
  simp only [retryPosts, time_ite, ite_self, irq_time, addN_time]

@[simp] theorem setTimer_time {id : Nat} {t : Option Timer} : (s.setTimer id t).time = s.time := rfl

@[simp] theorem arm_time {id flow due period user : Nat} : (s.arm id flow due period user).time = s.time := by
  simp only [arm, time_ite, ite_self, setTimer_time, bump_time]

@[simp] theorem treqErr_time {w1 : Nat} : (s.treqErr w1).time = s.time := by
  simp only [treqErr, err_time, irq_time, bump_time]

@[simp] theorem takeTreq_time {mine : Treq → Bool} : (s.takeTreq mine).time = s.time := by
  simp only [takeTreq]
  repeat' split
  all_goals simp only [treqErr_time, popItem_time, arm_time, setTimer_time, irq_time, bump_time, accept_time]

@[simp] theorem commandTake_time {q : Nat} : (s.commandTake q).time = s.time := by
  simp only [commandTake, setQue_time, popItem_time]
  repeat' split
  all_goals simp only [irq_time, bump_time, answer_time, noRights_time, audit_time, accept_time, drawn_time]

@[simp] theorem turnOpen_time : s.turnOpen.time = s.time := by
  simp only [turnOpen, time_ite, ite_self, retryPosts_time, takeTreq_time, each_time, commandTake_time, implies_true]

/-! ### Sage -/

@[simp] theorem setSlot_time {k : Nat} {x : Option SageSlot} : (s.setSlot k x).time = s.time := rfl

@[simp] theorem onSlot_time {k : Nat} {f : SageSlot → SageSlot} : (s.onSlot k f).time = s.time := by
  unfold onSlot
  split <;> simp only [setSlot_time]

@[simp] theorem sageFlow_time {k d : Nat} {x : SageSlot} {r : SageRec} : (s.sageFlow k d x r).time = s.time := by
  simp only [sageFlow, wrBytes_time]
  split <;> simp only [onSlot_time, irq_time, bump_time, post_time]

@[simp] theorem sagePost_time {k d : Nat} {r : SageRec} : (s.sagePost k d r).time = s.time := by
  unfold sagePost
  split
  · rfl
  extract_lets cl st route a b bytes c e f data
  have hb : b.time = s.time := by simp only [a, b, time_ite, bump_time, onSlot_time, ite_self]
  have he : e.time = s.time := by simp only [e, c, time_ite, event_time, sageFlow_time, hb, ite_self]
  have hf : f.time = s.time := by
    simp only [f, time_ite]
    split
    · split
      · rw [onEce_time, he]
      · exact he
    · exact he
  simp only [time_ite, hf, ite_self]

@[simp] theorem sageFeed_time {k d t : Nat} {wide : Bool} {l : List (Option Int)} :
    (s.sageFeed k d t wide l).time = s.time := by
  unfold sageFeed
  split <;> simp only [setSlot_time, each_time, sagePost_time, implies_true]

@[simp] theorem onStream_time {k d : Nat} {f : Stream → Stream} : (s.onStream k d f).time = s.time := by
  simp only [onStream, onSlot_time]

@[simp] theorem streamChange_time {n k d : Nat} {prof mask : Option Nat} :
    (s.streamChange n k d prof mask).time = s.time := by
  unfold streamChange
  split <;> simp only [each_time, sagePost_time, onStream_time, implies_true]

@[simp] theorem streamFeed_time {n k d : Nat} {x : SageSlot} : (s.streamFeed n k d x).time = s.time := by
  simp only [streamFeed, time_ite, ite_self, sageFeed_time, onStream_time]

@[simp] theorem slotOpen_time {n k : Nat} : (s.slotOpen n k).time = s.time := by
  unfold slotOpen
  split <;> simp only [time_ite, ite_self, setSlot_time, onSlot_time, streamFeed_time, streamChange_time]

@[simp] theorem sageClear_time {cl : Nat} : (s.sageClear cl).time = s.time := by
  simp only [sageClear, time_ite, ite_self, pageReset_time, headerReset_time, each_time, onSlot_time, implies_true]

@[simp] theorem sageOpen_time {n : Nat} : (s.sageOpen n).time = s.time := by
  simp only [sageOpen, each_time, sageClear_time, slotOpen_time, implies_true]

@[simp] theorem sageLine_time {f : LineFrame} : (s.sageLine f).time = s.time := by
  unfold sageLine
  split <;> simp only [time_ite, ite_self, setSlot_time]

/-! ### Contexts and playout -/

@[simp] theorem slotClear_time {c slot : Nat} : (s.slotClear c slot).time = s.time := by
  simp only [slotClear, time_ite, ite_self, wr8_time]

@[simp] theorem ringClear_time {c : Nat} : (s.ringClear c).time = s.time := by
  simp only [ringClear, each_time, slotClear_time, implies_true]

@[simp] theorem showPlayout_time {c : Nat} : (s.showPlayout c).time = s.time := by
  simp only [showPlayout, writeRecord_time]

@[simp] theorem showEvent_time {c : Nat} : (s.showEvent c).time = s.time := by
  unfold showEvent
  split <;> simp only [writeRecord_time]

@[simp] theorem showLatch_time {c : Nat} : (s.showLatch c).time = s.time := by
  simp only [showLatch, writeRecord_time]

@[simp] theorem jbeCount_time {a k : Nat} : (s.jbeCount a k).time = s.time := rfl

@[simp] theorem discard_time {c k : Nat} : (s.discard c k).time = s.time := by
  simp only [discard, time_ite, ite_self, irq_time, jbeCount_time, setCtx_time]

@[simp] theorem latchTo_time {c : Nat} {p : Peer} : (s.latchTo c p).time = s.time := by
  simp only [latchTo, event_time, irq_time, showLatch_time, setCtx_time]

@[simp] theorem follow_time {c : Nat} {p : RtpPacket} : (s.follow c p).1.time = s.time := by
  simp only [follow]
  split <;> simp only [fst_time_ite, ite_self, showLatch_time, setCtx_time, latchTo_time]

@[simp] theorem sourceSeen_time {c : Nat} {p : RtpPacket} : (s.sourceSeen c p).time = s.time := by
  simp only [sourceSeen, time_ite, ite_self, showLatch_time, setCtx_time]

@[simp] theorem storePacket_time {c : Nat} {p : RtpPacket} {n : Nat} {cn : Bool} {lead : Int} :
    (s.storePacket c p n cn lead).time = s.time := by
  simp only [storePacket, time_ite, ite_self, wrBytes_time, setCtx_time, jbeCount_time, latchTo_time]

@[simp] theorem anchor_time {c : Nat} {p : RtpPacket} {cn : Bool} {cause : Option Nat} :
    (s.anchor c p cn cause).time = s.time := by
  unfold anchor
  split <;> simp only [ringClear_time, setCtx_time, event_time, irq_time, jbeCount_time, storePacket_time,
    follow_time]

@[simp] theorem judgePlaced_time {c : Nat} {p : RtpPacket} {cn : Bool} : (s.judgePlaced c p cn).time = s.time := by
  simp only [judgePlaced, time_ite, ite_self, anchor_time, jbeCount_time, setCtx_time, follow_time, storePacket_time]

@[simp] theorem judgeVoice_time {c : Nat} {p : RtpPacket} : (s.judgeVoice c p).time = s.time := by
  simp only [judgeVoice, time_ite, ite_self, discard_time, setCtx_time, event_time, judgePlaced_time, anchor_time]

@[simp] theorem rxEventPost_time {c : Nat} {e : RxEvent} {end_ : Bool} : (s.rxEventPost c e end_).time = s.time := by
  simp only [rxEventPost, time_ite, ite_self, event_time]

@[simp] theorem rxEventEnd_time {c : Nat} : (s.rxEventEnd c).time = s.time := by
  simp only [rxEventEnd]
  split <;> simp only [time_ite, ite_self, rxEventPost_time, showEvent_time, setCtx_time]

@[simp] theorem judgeEvent_time {c : Nat} {p : RtpPacket} : (s.judgeEvent c p).time = s.time := by
  simp only [judgeEvent, time_ite, ite_self, rxEventEnd_time, rxEventPost_time, setCtx_time, showEvent_time]

@[simp] theorem judge_time {p : RtpPacket} : (s.judge p).time = s.time := by
  simp only [judge, time_ite, ite_self, poolFree_time, post_time, sourceSeen_time, setCtx_time, judgeEvent_time,
    judgeVoice_time]

@[simp] theorem judgeAll_time {c : Nat} {p : RtpPacket → Bool} : (s.judgeAll c p).time = s.time := by
  simp only [judgeAll, each_time, judge_time, implies_true]

@[simp] theorem dataEnter_time {c src : Nat} : (s.dataEnter c src).time = s.time := by
  simp only [dataEnter, time_ite, ite_self, event_time, setCtx_time]

@[simp] theorem takeMods_time {c : Nat} : (s.takeMods c).time = s.time := by
  simp only [takeMods, time_ite, ite_self, setCtx_time, dataEnter_time]
  repeat' split
  all_goals simp only [event_time, setCtx_time, setJctx_time]

@[simp] theorem claimSlots_time {c lo hi : Nat} {cn : Bool} : (s.claimSlots c lo hi cn).1.time = s.time := by
  simp only [claimSlots, fst_time_ite, ite_self, jbeCount_time, setCtx_time, foldl_fst_time, implies_true]

@[simp] theorem claim_time {c n : Nat} : (s.claim c n).1.time = s.time := by
  simp only [claim, fst_time_ite, ite_self, setCtx_time, claimSlots_time, each_time, slotClear_time, implies_true]

@[simp] theorem playout_time {c n : Nat} : (s.playout c n).time = s.time := by
  simp only [playout, judgeAll_time, drawn_time, maxN_time, takeMods_time, claim_time, showPlayout_time, setCtx_time,
    post_time]

@[simp] theorem bindApply_time {c : Nat} : (s.bindApply c).time = s.time := by
  simp only [bindApply]
  repeat' split
  all_goals simp only [setCtx_time, flowModeChange_time, setFld_time, setLine_time, eceRelease_time, abandon_time]

@[simp] theorem jbeBound_time {n : Nat} : (s.jbeBound n).time = s.time := by
  unfold jbeBound
  refine (each_time fun t e => ?_).trans (each_time fun _ _ => bindApply_time)
  dsimp only
  split <;> rfl

@[simp] theorem jbeData_time : s.jbeData.time = s.time := by
  simp only [jbeData, each_time, dataEnter_time, implies_true]

@[simp] theorem jbeOpen_time {n : Nat} : (s.jbeOpen n).time = s.time := by
  simp only [jbeOpen, each_time, playout_time, implies_true]

/-! ### The row-hammer window -/

@[simp] theorem rhWindow_time {n : Nat} : (s.rhWindow n).time = s.time := by
  simp only [rhWindow, time_ite, ite_self]

/-! ### One line through the blocks -/

@[simp] theorem linePass_time {n : Nat} {o : LineOut} : (s.linePass n o).time = s.time := by
  simp only [linePass]
  split <;> simp only [time_ite, ite_self, eceLine_time, sageLine_time, storeSamples_time, jnlFrame_time]

/-! ### FTIME and FPHASE over a whole frame (R26) -/

/-- FTIME and FPHASE: where the local clock stands. -/
def clock (s : State) : Nat × Nat := (s.time.ftime, s.time.fphase)

theorem clock_of_time {t : State} (h : t.time = s.time) : t.clock = s.clock := by
  rw [clock, clock, h]

/-- A second boundary moves PPSOUT and DSYNCO alone of TIME. -/
theorem timeOpen_clock : s.timeOpen.clock = s.clock := by
  simp only [timeOpen, clock, time_ite, setFld_time, setN_time, apply_ite TimeSt.ftime, apply_ite TimeSt.fphase, ite_self]

/-- A sync taken discards its triggers and moves nothing else of TIME. -/
theorem takeSync_clock {n : Nat} : (s.takeSync n).1.clock = s.clock := by
  unfold takeSync
  extract_lets masks isTime armedDue t _ u left _ _ v w
  have ht : t.time = s.time := by simp only [t, time_ite, irq_time, setN_time, ite_self]
  have hu : u.clock = t.clock := by
    simp only [u]
    split <;> rfl
  have hw : w.time = v.time := by simp only [w, time_ite, setFld_time, ite_self]
  calc _ = w.clock := clock_of_time (each_time fun t p => by simp only [time_ite, irq_time, setN_time, ite_self])
    _ = v.clock := clock_of_time hw
    _ = u.clock := rfl
    _ = t.clock := hu
    _ = s.clock := clock_of_time ht

theorem ldcOpen_clock {n : Nat} : (s.ldcOpen n).1.clock = s.clock := by
  unfold ldcOpen
  extract_lets p t lines u v _ w r
  have ht : t.time = p.1.time := setsOpen_time
  have hu : u.time = t.time := each_time fun _ _ => lineOpen_time
  have hv : v.time = u.time := each_time fun _ _ => setN_time
  have hw : w.time = v.time := by simp only [w]
  have hr : r.1.time = w.time := by simp only [r, foldl_fst_time, decimate_time, implies_true]
  have hp : p.1.clock = s.clock := takeSync_clock
  have hset : r.1.setsDone.time = p.1.time := by rw [setsDone_time, hr, hw, hv, hu, ht]
  dsimp only
  rw [clock_of_time hset, hp]

/-- Once FTIME and FPHASE are set, nothing in the opening of a frame moves them. -/
theorem openFrame_clock {n : Nat} : (s.openFrame n).clock = (n, 0) := by
  unfold openFrame
  extract_lets _ t u v r w x y
  have hu : u.clock = (n, 0) := by
    rw [clock_of_time (jbeData_time.trans linkOpen_time), timeOpen_clock]
    rfl
  have hv : v.time = u.time := by simp only [v, jbeBound_time, thymeOpen_time, sageOpen_time, eceOpen_time]
  have hw : w.time = r.1.time := each_time fun _ _ => linePass_time
  have hx : x.time = w.time := each_time fun _ _ => bgFrame_time
  have hy : y.time = x.time := by simp only [y, txSlots_time, turnOpen_time, linkDone_time, jbeOpen_time]
  calc _ = y.clock := clock_of_time (rhWindow_time.trans (each_time fun _ _ => ciphOpen_time))
    _ = r.1.clock := clock_of_time (hy.trans (hx.trans hw))
    _ = v.clock := ldcOpen_clock
    _ = u.clock := clock_of_time hv
    _ = (n, 0) := hu

theorem openFrame_ftime {n : Nat} : (s.openFrame n).time.ftime = n := (Prod.mk.inj openFrame_clock).1

theorem openFrame_fphase {n : Nat} : (s.openFrame n).time.fphase = 0 := (Prod.mk.inj openFrame_clock).2

/-! ### The DPLL's step (R31) -/

theorem showPhase_dpllSrc : s.showPhase.dpllSrc = s.dpllSrc := fld_setN_ne (by decide)

/-- Clearing STEP_EN leaves the source that DPLL_STAT names. -/
theorem dpllSrc_setFld_dpllCfg {lo w v : Nat} : (s.setFld Reg.TIME_DPLL_CFG lo w v).dpllSrc = s.dpllSrc :=
  fld_setN_ne (by decide)

/-- The state in which a step opens its frame: STEP_EN is 0 and the followed source's phase error is gone. -/
def stepped (s : State) : State :=
  let t := s.setFld Reg.TIME_DPLL_CFG 4 1 0
  State.showPhase { t with time := { t.time with phErr := Tab.put (fun _ => 0) t.time.phErr t.dpllSrc 0 } }

theorem stepped_dpllSrc : s.stepped.dpllSrc = s.dpllSrc := showPhase_dpllSrc.trans dpllSrc_setFld_dpllCfg

/-- FTIME of the frame that a step opens: the frame of DSYNC_EPOCH, if it is later than the next one, where DSYNC is followed,
and the next multiple of 8,000 for another source. -/
theorem dpllStep_clock : s.dpllStep.clock =
    (if s.dpllSrc = 4 then max (s.rn Reg.TIME_DSYNC_EPOCH_LO + 2 ^ 32 * s.fld Reg.TIME_DSYNC_EPOCH_HI 0 16) (s.now + 1)
      else ((s.now + 1) / 8000 + 1) * 8000, 0) := by
  have h : s.dpllStep.clock = (if s.stepped.dpllSrc = 4 then _ else _) := apply_ite clock _ _ _
  rw [h, stepped_dpllSrc]
  split
  · rw [apply_ite clock, openFrame_clock, openFrame_clock]
    split
    · rw [Nat.max_eq_left (by omega)]
    · rw [Nat.max_eq_right (by omega)]
  · exact openFrame_clock

end Sys2Proof.Machine.State

namespace Sys2Proof.Machine
open Sys2Proof

variable {s : State} {err : Int}

theorem exec_frameTick : exec .frameTick s = .next (s.openFrame (s.now + 1)) := rfl

theorem exec_dpllStep (hstep : s.mayStep = true) (herr : err = signed 32 (s.rn Reg.TIME_PHASE_ERR)) :
    exec (.dpllStep err) s = .next s.dpllStep := congrArg Host.Outcome.next (if_pos ⟨hstep, herr⟩)

/-- Settles O15: FRAME_TICK opens the next frame and a step the frame of its source, and no block that acts in the frame moves
FTIME or FPHASE. -/
theorem framesOpenInOrderAndTheDpllSteps : Obligations.FramesOpenInOrderAndTheDpllSteps := by
  refine ⟨fun s => ⟨_, exec_frameTick, State.openFrame_ftime, State.openFrame_fphase⟩,
    fun s err hstep herr hsrc => ⟨_, exec_dpllStep hstep herr, ?_⟩,
    fun s err hstep herr hsrc => ⟨_, exec_dpllStep hstep herr, ?_⟩⟩
  · have h := State.dpllStep_clock (s := s)
    rw [if_neg (by omega)] at h
    exact Prod.mk.inj h
  · have h := State.dpllStep_clock (s := s)
    rw [if_pos hsrc] at h
    exact (Prod.mk.inj h).symm

end Sys2Proof.Machine
end

section
/-! PROOFS of the family 02_timebase.md, the pins and the DPLL (R28 to R36): PPSOUT, PPSIN, LSYNC and DSYNCI at their edges (O1),
and the sources as they qualify, fail, are chosen and lock (O14). -/

namespace Sys2Proof.Machine
open Sys2Proof

variable {s : State} {w : Win} {v : Word} {f u ph src : Nat} {err : Int}

/-! ### The pins (R33, R34, R36) -/

theorem exec_ppsoutFall (hout : s.time.ppsOut = some f) (hdue : f + 8 * s.fld Reg.TIME_PPSOUT_CFG 0 9 ≤ s.now) :
    exec .ppsoutFall s = .next { s with time := { s.time with ppsOut := none } } := by
  show execPpsoutFall s = _
  rw [execPpsoutFall, hout]
  exact congrArg _ (if_pos hdue)

/-- The PPSIN edge `ph` SCLK into the frame comes 1 s ± 49 SCLK after the one before (R29). -/
def State.ppsSpaced (s : State) (ph : Nat) : Bool :=
  match s.time.ppsLast with
  | some u => decide (s.now * 6144 + ph - u + 49 ≥ 49152000 ∧ s.now * 6144 + ph - u ≤ 49152000 + 49)
  | none => false

theorem State.ppsSpaced_some (hlast : s.time.ppsLast = some u) : s.ppsSpaced ph =
    decide (s.now * 6144 + ph - u + 49 ≥ 49152000 ∧ s.now * 6144 + ph - u ≤ 49152000 + 49) := by
  rw [State.ppsSpaced, hlast]

theorem State.ppsSpaced_good (hlast : s.time.ppsLast = some u) (hlo : u + 49151951 ≤ s.now * 6144 + ph)
    (hhi : s.now * 6144 + ph ≤ u + 49152049) : s.ppsSpaced ph = true := by
  rw [State.ppsSpaced_some hlast, decide_eq_true_eq]
  omega

theorem State.ppsSpaced_bad (h : ∀ u, s.time.ppsLast = some u → u ≤ s.now * 6144 + ph →
    s.now * 6144 + ph < u + 49151951 ∨ u + 49152049 < s.now * 6144 + ph) : s.ppsSpaced ph = false := by
  cases hlast : s.time.ppsLast with
  | none => rw [State.ppsSpaced, hlast]
  | some u =>
    have := h u hlast
    rw [State.ppsSpaced_some hlast, decide_eq_false_iff_not]
    omega

/-- A PPSIN edge is stamped; only one at the spacing of a second is counted on. -/
theorem exec_ppsinEdge : exec (.ppsinEdge ph) s = .next (State.phaseSample
    { s.setN Reg.TIME_PPSIN_STAMP (s.now % 8000 * 2 ^ 16 + min ph 6143) with
      time := { s.time with fphase := min ph 6143, ppsLast := some (s.now * 6144 + ph), ppsMiss := false,
                            ppsGood := if s.ppsSpaced ph = true then s.time.ppsGood + 1 else 0 } } 2 (phaseNs ph)) := rfl

theorem exec_ppsinMiss (hmiss : s.time.ppsMiss = false) (hlast : s.time.ppsLast = some u)
    (hdue : u + 73728000 ≤ s.now * 6144 + 6143) : exec .ppsinMiss s =
      .next ((State.irq { s with time := { s.time with ppsMiss := true } } 0x8000 2).timeEvent 0x12 []) := by
  refine congrArg Host.Outcome.next (if_pos ?_)
  rw [hmiss, hlast, Option.any_some, decide_eq_true hdue]
  rfl

theorem exec_lsyncEdge (hen : s.bit Reg.TIME_SYNC_CTRL 16 = true) : exec (.lsyncEdge ph) s =
    .next (State.takeTrigger { s with time := { s.time with fphase := min ph 6143 } }) :=
  congrArg Host.Outcome.next (if_pos hen)

theorem exec_dsynciPulse {wide : Bool} : exec (.dsynciPulse ph wide (s.alignErr ph)) s = .next (s.dsyncPulse ph wide) :=
  congrArg Host.Outcome.next (if_pos rfl)

theorem exec_dsynciPulse_other {wide : Bool} (h : err ≠ s.alignErr ph) : exec (.dsynciPulse ph wide err) s = .next s :=
  congrArg Host.Outcome.next (if_neg h)

theorem exec_dsyncErr (hbad : 8 ≤ s.time.dsyncBad) (haligned : s.bit Reg.TIME_DSYNC_STAT 0 = true) :
    exec .dsyncErr s = .next (((s.setFld Reg.TIME_DSYNC_STAT 0 1 0).irq 0x8000 3).timeEvent 0x13 []) :=
  congrArg Host.Outcome.next (if_pos ⟨hbad, haligned⟩)

/-- A phase sample of a source that is not followed is kept and nothing else. -/
theorem State.phaseSample_other (h : s.dpllSrc ≠ src) : s.phaseSample src err =
    { s with time := { s.time with phErr := Tab.put (fun _ => 0) s.time.phErr src err } } := if_pos h

/-- Settles O1: a PPSIN edge counts on only at the spacing of a second, a DSYNCI row acts only with the error its phase shows,
and the other pins act where their condition holds. -/
theorem timePinsAreStampedAndCounted : Obligations.TimePinsAreStampedAndCounted := by
  refine ⟨fun s f => exec_ppsoutFall, fun s ph u hlast hlo hhi => ?_, fun s ph hbad => ?_, fun s u => exec_ppsinMiss,
    fun s ph => exec_lsyncEdge, fun s ph wide => ⟨exec_dsynciPulse, fun x => exec_dsynciPulse_other⟩,
    fun s => exec_dsyncErr, fun s src err => State.phaseSample_other⟩
  · rw [exec_ppsinEdge, if_pos (State.ppsSpaced_good hlast hlo hhi)]
  · rw [exec_ppsinEdge, if_neg (by rw [State.ppsSpaced_bad hbad]; decide)]

/-! ### The DPLL's sources (R28 to R30) -/

theorem exec_ptpOffsetWrite (h : s.opens w Reg.TIME_PTP_OFFSET true = true) :
    exec (.ptpOffsetWrite w v) s = .next ((s.seenBy w).ptpSample v) := congrArg Host.Outcome.next (hostGuard_open h)

/-- A sample's offset within LOCK_THRESH × 100 is a `decide` in the model and a condition in the statement. -/
theorem State.ptpSample_seenBy : (s.seenBy w).ptpSample v = State.phaseSample { s.seenBy w with time := { s.time with
    ptpAt := some s.now
    ptpGood := if (signed 32 v.toNat).natAbs ≤ s.fld Reg.TIME_DPLL_CFG 16 12 * 100 then s.time.ptpGood + 1 else 0 } } 3
      (signed 32 v.toNat) := by
  simp only [State.ptpSample, decide_eq_true_eq]
  rfl

/-- PHASE_ERR shows the sample just kept of the source that is followed. -/
theorem State.showPhase_followed (hsrc : s.dpllSrc = src) (htwo : 2 ≤ src)
    (hget : Tab.get (fun _ => 0) s.time.phErr src = err) : s.showPhase = s.setN Reg.TIME_PHASE_ERR (unsigned 32 err) := by
  rw [State.showPhase, hsrc, if_pos htwo, hget]

/-- The sample of source `src` is kept. -/
def State.keptSample (s : State) (src : Nat) (err : Int) : State :=
  { s with time := { s.time with phErr := Tab.put (fun _ => 0) s.time.phErr src err } }

/-- The sample is kept, and one beyond LOCK_THRESH starts the lock time anew (R30). -/
def State.critRestarted (s : State) (src : Nat) (err : Int) : State :=
  let t := s.keptSample src err
  if s.fld Reg.TIME_DPLL_CFG 16 12 < err.natAbs then { t with time := { t.time with critAt := s.now } } else t

theorem State.phaseSample_followed (hsrc : s.dpllSrc = src) (htwo : 2 ≤ src)
    (hwf : Tab.wf (fun _ => 0) s.time.phErr = true) :
    let t : State := { s with time := { s.time with
        phErr := Tab.put (fun _ => 0) s.time.phErr src err
        critAt := if s.fld Reg.TIME_DPLL_CFG 16 12 < err.natAbs then s.now else s.time.critAt } }
    s.phaseSample src err = ((t.setN Reg.TIME_PHASE_ERR (unsigned 32 err)).setN Reg.TIME_FREQ_OFFSET s.free).drawn := by
  intro t
  have hshow : t.showPhase = t.setN Reg.TIME_PHASE_ERR (unsigned 32 err) :=
    State.showPhase_followed (src := src) hsrc htwo (Tab.get_put_self hwf)
  have hcrit : s.critRestarted src err = t := by
    by_cases hfar : s.fld Reg.TIME_DPLL_CFG 16 12 < err.natAbs
    · simp only [State.critRestarted, t, if_pos hfar, State.keptSample]
    · simp only [State.critRestarted, t, if_neg hfar, State.keptSample]
  have hfree : (s.critRestarted src err).free = s.free := by
    unfold State.critRestarted
    dsimp only
    split <;> rfl
  rw [← hshow, ← hcrit, ← hfree]
  exact if_neg (not_not_intro hsrc)

/-! #### Qualification, loss and choice -/

/-- A source that meets its criterion is qualified from this frame on; DSYNC's qualification also sets ALIGNED (R29, R36). -/
def State.qualifiedNow (s : State) (src : Nat) : State :=
  let u := { s.setN Reg.TIME_DPLL_STAT (bitSet (s.rn Reg.TIME_DPLL_STAT) (16 + src)) with
    time := { s.time with qualAt := Tab.put (fun _ => 0) s.time.qualAt src s.now } }
  if src = 4 then u.setFld Reg.TIME_DSYNC_STAT 0 1 1 else u

/-- A source that has just qualified is chosen from XTAL: the best one in automatic mode, the named one in manual mode. -/
def State.chosenAfter (s : State) (src : Nat) : State :=
  if s.dpllMode = 0 then
    (if s.onXtal = true then (match s.bestSource with | some b => s.setDpll 1 b | none => s) else s)
  else if s.dpllMode = 1 ∧ s.manualSrc = src ∧ s.onXtal = true then s.setDpll 1 src else s

theorem State.meetsQual_of_count (h : src = 1 ∨ src = 2 ∧ 10 ≤ s.time.ppsGood ∨ src = 3 ∧ 8 ≤ s.time.ptpGood ∨
    src = 4 ∧ 16 ≤ s.time.dsyncGood) : s.meetsQual src = true := by
  obtain rfl | ⟨rfl, hgood⟩ | ⟨rfl, hgood⟩ | ⟨rfl, hgood⟩ := h
  · rfl
  all_goals exact decide_eq_true hgood

theorem State.chosenAfter_mode : s.chosenAfter src = (match s.dpllMode with
    | 0 => s.selectBest
    | 1 => if s.manualSrc = src && s.onXtal then s.setDpll 1 src else s
    | _ => s) := by
  rw [State.chosenAfter]
  rcases s.dpllMode with _ | _ | m
  · exact if_pos rfl
  · simp only [Bool.and_eq_true, decide_eq_true_eq, true_and, if_neg (Nat.succ_ne_zero 0), Nat.zero_add]
  · exact (if_neg (Nat.succ_ne_zero _)).trans (if_neg (by omega))

theorem State.sourceQualify_met (hnew : s.qualified src = false) (hmet : s.meetsQual src = true) :
    s.sourceQualify src = (s.qualifiedNow src).chosenAfter src := by
  rw [State.chosenAfter_mode]
  refine (if_neg ?_).trans ?_
  · rw [hnew, hmet]
    decide
  · rfl

/-- What a loss does before the DPLL looks for another source: bit and count cleared, cause and event recorded (R30). -/
def State.lostNow (s : State) (src : Nat) : State :=
  (State.irq { s.setN Reg.TIME_DPLL_STAT (bitClear (s.rn Reg.TIME_DPLL_STAT) (16 + src)) with
      time := { s.time with ppsGood := if src = 2 then 0 else s.time.ppsGood
                            ptpGood := if src = 3 then 0 else s.time.ptpGood
                            dsyncGood := if src = 4 then 0 else s.time.dsyncGood } } 0x8000 1).timeEvent 0x11 [src]

theorem State.sourceLost_met (hq : s.qualified src = true) (hloss : s.meetsLoss src = true) : s.sourceLost src =
    if s.dpllSrc = src ∧ s.onXtal = false then (s.lostNow src).afterLoss else s.lostNow src := by
  refine (if_neg (by rw [hq, hloss]; decide)).trans ?_
  simp only [Bool.and_eq_true, decide_eq_true_eq, Bool.not_eq_true']
  rfl

theorem exec_revertiveSelect (hauto : s.dpllMode = 0) (hx : s.onXtal = false) (hsrc : src ≤ 4) (hq : s.qualified src = true)
    (habove : s.ranksAbove src s.dpllSrc = true) (hold : Tab.get (fun _ => 0) s.time.qualAt src + 480000 ≤ s.now) :
    exec (.revertiveSelect src) s = .next (s.setDpll 1 src) :=
  congrArg Host.Outcome.next (if_pos ⟨hauto, ne_true_of_eq_false hx, hsrc, hq, habove, hold⟩)

theorem exec_dpllLock (hacq : s.dpllState = 1) (hold : s.time.critAt + 480000 ≤ s.now)
    (hin : (signed 32 (s.rn Reg.TIME_PHASE_ERR)).natAbs ≤ s.fld Reg.TIME_DPLL_CFG 16 12) :
    exec .dpllLock s = .next (State.setDpll { s with time := { s.time with lockAt := s.now } } 2 s.dpllSrc) :=
  congrArg Host.Outcome.next (if_pos ⟨hacq, hold, hin⟩)

theorem exec_hoQualSet (hlock : s.dpllState = 2) (hold : s.time.lockAt + 691200000 ≤ s.now) :
    exec .hoQualSet s = .next (s.setFld Reg.TIME_DPLL_STAT 8 1 1) := congrArg Host.Outcome.next (if_pos ⟨hlock, hold⟩)

/-- Settles O14: each command of the DPLL acts where the criterion that R29 or R30 names holds. -/
theorem dpllCommandsActOnTheirSource : Obligations.DpllCommandsActOnTheirSource := by
  refine ⟨fun s w v hopen => ?_, fun s src err => State.phaseSample_followed, fun s src hnew hmet => ?_,
    fun s src hq hloss => ?_, fun s src => exec_revertiveSelect, fun s => exec_dpllLock, fun s => exec_hoQualSet⟩
  · rw [exec_ptpOffsetWrite hopen, State.ptpSample_seenBy]
  · exact congrArg Host.Outcome.next (State.sourceQualify_met hnew (State.meetsQual_of_count hmet))
  · exact congrArg Host.Outcome.next (State.sourceLost_met hq hloss)

end Sys2Proof.Machine
end

section
/-! PROOFS of the family 02_timebase.md, the near memory controller (R299 to R306): errors and their hour windows, scrub,
retirement and migration, training, and the commands of MAINT_CMD and of page 3 (O30). -/

namespace Sys2Proof.Machine
open Sys2Proof

variable {s : State} {i trigger : Nat} {temp : Int} {sweeps : Option (List Sweep)}

/-! ### Retraining (R306) -/

/-- The state in which the retraining of slot `i` waits its turn. -/
def State.retrainQueued (s : State) (i trigger : Nat) : State :=
  { s with nmc := { s.nmc with train := s.nmc.train ++ [(i, trigger)] } }

/-- A periodic trigger queues a retraining of a live slot that the host does not train and that has none waiting. -/
theorem State.retrainDue_periodic (h3 : trigger ≠ 3) : s.retrainDue i trigger =
    if i ≤ 9 ∧ s.slotLive i = true ∧ s.mayRetrain i trigger = true ∧ s.bit Reg.NMC_NMC_CFG 20 = false ∧
      s.nmc.train.any (fun e => e.1 == i) = false then s.retrainQueued i trigger else s := by
  have hrefused : (9 < i ∨ (!s.slotLive i) = true ∨ (!s.mayRetrain i trigger) = true ∨
      (trigger ≠ 3 ∧ (s.bit Reg.NMC_NMC_CFG 20 = true ∨ s.nmc.train.any (fun e => e.1 == i) = true))) ↔
      ¬(i ≤ 9 ∧ s.slotLive i = true ∧ s.mayRetrain i trigger = true ∧ s.bit Reg.NMC_NMC_CFG 20 = false ∧
        s.nmc.train.any (fun e => e.1 == i) = false) := by
    simp only [not_and_or, Nat.not_le, Bool.not_eq_true', Bool.not_eq_true, Bool.not_eq_false, ne_eq, h3, not_false_eq_true,
      true_and]
  rw [State.retrainDue, if_congr hrefused rfl rfl, ite_not]
  rfl

theorem State.retrainStep_idle (h : s.nmc.train.find? (fun e => e.1 == i) = none) : s.retrainStep i sweeps temp = s := by
  rw [State.retrainStep, h]

/-- A slot waits for retraining exactly when the queue has an entry of it. -/
theorem State.train_find?_none :
    s.nmc.train.find? (fun e => e.1 == i) = none ↔ s.nmc.train.any (fun e => e.1 == i) = false := by
  simp

/-- A step that does not bring the sweeps pauses, or wakes the channel of a slot that waits. -/
theorem State.retrainStep_unfinished : s.retrainStep i none temp =
    if s.nmc.train.any (fun e => e.1 == i) = false ∨ s.bit Reg.NMC_NMC_CFG 20 = true ∨
      4 < Tab.get (fun _ => 0) s.nmc.debt i ∨ s.chanUrgent (chanOf i) = true then s else s.wakeChan (chanOf i) := by
  cases hfind : s.nmc.train.find? (fun e => e.1 == i) with
  | none => rw [State.retrainStep_idle hfind, if_pos (.inl (State.train_find?_none.mp hfind))]
  | some e =>
    have hwaits : s.nmc.train.any (fun e => e.1 == i) = true := by
      rw [← Bool.not_eq_false]
      exact fun h => nomatch hfind.symm.trans (State.train_find?_none.mpr h)
    rw [State.retrainStep, hfind, hwaits]
    simp only [Bool.true_eq_false, false_or]

theorem State.mayRetrain_periodic (hp : trigger = 1 ∨ trigger = 2) : s.mayRetrain i trigger = true ↔
    (trigger = 1 → s.fld Reg.NMC_TRN_CFG 0 8 * 480000 ≤ s.now - Tab.get (fun _ => 0) s.nmc.trained i) ∧
    (trigger = 2 → s.fld Reg.NMC_TRN_CFG 8 8 <
      (signed 9 (s.rn Reg.PWR_TEMP_MAX) - signed 8 (s.fld (Reg.NMC_RANK_STAT i) 16 8)).natAbs) := by
  unfold State.mayRetrain
  split
  · simp only [decide_eq_true_eq, true_imp_iff, Nat.reduceEqDiff, false_imp_iff, and_true]
  · simp only [decide_eq_true_eq, true_imp_iff, Nat.reduceEqDiff, false_imp_iff, true_and]
  · next h1 h2 => exact absurd hp (not_or_intro h1 h2)

/-- RETRAIN_DUE acts for TRN_PERIOD (1) and for the temperature (2). -/
theorem exec_retrainDue : exec (.retrainDue i trigger) s = .next (
    if (trigger = 1 ∨ trigger = 2) ∧ i ≤ 9 ∧ s.slotLive i = true ∧ s.bit Reg.NMC_NMC_CFG 20 = false ∧
      s.nmc.train.any (fun e => e.1 == i) = false ∧ s.mayRetrain i trigger = true then s.retrainQueued i trigger else s) := by
  refine congrArg Host.Outcome.next ?_
  by_cases hp : trigger = 1 ∨ trigger = 2
  · rw [if_pos hp, State.retrainDue_periodic (by omega)]
    exact if_congr (by tauto) rfl rfl
  · rw [if_neg hp, if_neg (fun h => hp h.1)]

/-- Settles O30: the rows of the near memory controller answer the states given. What they share with the model by definition is
seen by unfolding; what needs an argument is which of their conditions hold, and when a slot waits for retraining. -/
theorem nearMemoryScrubsMigratesAndTrains : Obligations.NearMemoryScrubsMigratesAndTrains := by
  refine ⟨fun s slot n => rfl, fun s slot l port src => rfl, fun s line port src e => ?_, fun s slot cause => rfl,
    fun s i => ⟨rfl, rfl⟩, fun s ce ue hoff => ?_, fun s ce ue i hscrub hnmc hlive => ?_, fun s r cause q hmig hq => ?_,
    fun s r st => rfl, fun s m ce ue hmig => ?_, fun s m => rfl, fun s i trigger => ?_, fun s i temp => ?_,
    fun s i k trigger l temp hfind => ?_, fun s w i hopen => ⟨?_, ?_⟩, fun s w l hopen => ?_, fun s w i hopen => ?_⟩
  · simp only [State.lineErr, Bool.not_eq_true']
  · exact congrArg _ (if_pos (hoff.imp (fun h => by rw [h]; rfl) (fun h => by rw [h]; rfl)))
  · intro u k line queued v y
    refine congrArg Host.Outcome.next ((if_neg (by rw [hscrub, hnmc]; decide)).trans ?_)
    rw [hlive]
    rfl
  · intro u src v none_ told
    refine congrArg Host.Outcome.next ?_
    simp only [State.migStart, hmig, hq, State.nmEvent, State.sysEvent, nmPage, told, none_, v, src, u, State.event_nmc] <;>
      rfl
  · intro debt ch u p page v y
    refine congrArg Host.Outcome.next ?_
    rw [State.pageCopy, hmig]
    rfl
  · rw [exec_retrainDue]
    refine congrArg _ (if_congr (and_congr_right fun hp => ?_) rfl rfl)
    rw [State.mayRetrain_periodic hp]
  · exact congrArg Host.Outcome.next State.retrainStep_unfinished
  · intro u good v x y z
    refine congrArg Host.Outcome.next ?_
    rw [State.retrainStep, hfind]
    rfl
  · exact congrArg Host.Outcome.next (hostGuard_open hopen)
  · refine congrArg Host.Outcome.next ((hostGuard_open hopen).trans ?_)
    simp only [State.maintRetrain, Bool.not_eq_true']
    rfl
  · refine congrArg Host.Outcome.next ((hostGuard_open hopen).trans ?_)
    simp only [State.trnGo, Bool.not_eq_true']
    rfl
  · refine congrArg Host.Outcome.next ((hostGuard_open hopen).trans ?_)
    simp only [State.trnApply, Bool.not_eq_true']
    rfl

end Sys2Proof.Machine
end

section
/-! PROOFS of the family 03_line_links.md: training, confirmation and the ways into them (O3), and the causes that take links
DOWN (O4). -/

namespace Sys2Proof.Machine
open Sys2Proof

variable {s : State} {w : Win} {r : CmdRef} {v : Word} {a b k l lo hi tap n g map cause : Nat} {fast : Bool}

/-! ### The steps of a training (R46) -/

theorem exec_tapScanStep (hscan : (s.link_ l).training = some (.scan fast lo hi tap n g map)) (hst : s.linkState l = 1)
    (hn : s.trainFrames l ≤ n) : exec (.tapScanStep l) s = .next (
      if tap < hi then s.setLink l { s.link_ l with
        training := some (.scan fast lo hi (tap + 1) 0 0 (if g = n then bitSet map tap else map)) }
      else s.scanEnd l (if g = n then bitSet map tap else map) fast) := by
  show execTapScanStep l s = _
  rw [execTapScanStep, hscan]
  exact congrArg _ (if_neg (by omega))

theorem exec_linkUp (hconf : (s.link_ l).training = some (.confirm fast n g)) (hst : s.linkState l = 1) (hg : 8 ≤ g) :
    exec (.linkUp l) s = .next
      ((s.setLink l { s.link_ l with training := none, noSync := 0, crcAt := [] }).setLinkState l 2 0) := by
  show execLinkUp l s = _
  rw [execLinkUp, hconf]
  exact congrArg _ (if_pos ⟨hst, hg⟩)

theorem exec_confirmTimeout (hconf : (s.link_ l).training = some (.confirm fast n g)) (hst : s.linkState l = 1)
    (hn : 64 ≤ n) (hg : g < 8) :
    exec (.confirmTimeout l) s = .next (if fast = true then s.beginTraining l false else s.linkDown l 6) := by
  show execConfirmTimeout l s = _
  rw [execConfirmTimeout, hconf]
  exact congrArg _ (if_pos ⟨hst, hn, hg⟩)

/-! ### Retraining (R46, R47, R56) -/

/-- LINK_RETRAIN is carried out for a link that exists, is enabled and is not in training. -/
theorem State.cmdRetrain_ok (hl : l ≤ 127) (hst : s.linkState l = 2 ∨ s.linkState l = 3) :
    s.cmdRetrain r l fast = (s.beginTraining l fast).respond r 0x63 stOk [l] := by
  unfold State.cmdRetrain
  rw [if_neg (by omega), if_neg (by omega), if_neg (by omega)]
  rfl

theorem exec_linkRetrain (hdue : s.cmdDue r 0x63 = true) (hl : l ≤ 127) (hst : s.linkState l = 2 ∨ s.linkState l = 3) :
    exec (.linkRetrain r l fast) s = .next (((s.begun r 0x63).beginTraining l fast).respond r 0x63 stOk [l]) :=
  congrArg Host.Outcome.next ((carryOut_due hdue).trans (State.cmdRetrain_ok (s := s.begun r 0x63) hl hst))

theorem exec_noEyeRetry (hst : s.linkState l = 3) (hcause : s.fld (lnkStat l) 27 3 = 6) (hauto : s.autoRetrain l = true)
    (hdue : (s.link_ l).downAt + 8000 ≤ s.now) : exec (.noEyeRetry l) s = .next (s.beginTraining l false) :=
  congrArg Host.Outcome.next (if_pos ⟨hst, hcause, hauto, hdue⟩)

/-! ### Host writes of LNK_CTRL and BANK_CFG (R46) -/

theorem exec_lnkCtrlRetrain (h : s.opens w (Reg.LINK_LNK_CTRL (l / 8) (l % 8)) true = true) :
    exec (.lnkCtrlRetrain w l v) s = .next ((s.seenBy w).writeLnkCtrl l (v ||| 0x10000#32)) :=
  congrArg Host.Outcome.next (hostGuard_open h)

theorem exec_tapManWrite (h : s.opens w (Reg.LINK_LNK_CTRL (l / 8) (l % 8)) true = true) :
    exec (.tapManWrite w l v) s = .next ((s.seenBy w).writeLnkCtrl l (v ||| 0x1000#32)) :=
  congrArg Host.Outcome.next (hostGuard_open h)

theorem exec_linkEnSet (h : s.opens w (Reg.LINK_BANK_CFG (l / 8)) true = true) : exec (.linkEnSet w l) s =
    .next ((s.seenBy w).writeBankCfg (l / 8) (w32 (bitSet (s.rn (Reg.LINK_BANK_CFG (l / 8))) (l % 8)))) :=
  congrArg Host.Outcome.next (hostGuard_open h)

theorem exec_linkEnClear (h : s.opens w (Reg.LINK_BANK_CFG (l / 8)) true = true) : exec (.linkEnClear w l) s =
    .next ((s.seenBy w).writeBankCfg (l / 8) (w32 (bitClear (s.rn (Reg.LINK_BANK_CFG (l / 8))) (l % 8)))) :=
  congrArg Host.Outcome.next (hostGuard_open h)

/-- What a write of BANK_CFG does to link `l`, whose LINK_EN bit was `was` and is written `on`. -/
def State.linkEnEdge (s : State) (l : Nat) (was on : Bool) : State :=
  match was, on with
  | false, true => if (s.link_ l).disabling = true then s else s.beginTraining l false
  | true, false => if s.linkState l = 0 then s else s.setLink l { s.link_ l with disabling := true }
  | _, _ => s

theorem State.writeBankCfg_eq : s.writeBankCfg b v =
    (s.setReg (Reg.LINK_BANK_CFG b) (v &&& 0xFFF00EFF#32)).each (List.range 8)
      (fun t k => t.linkEnEdge (8 * b + k) (bitOf (s.rn (Reg.LINK_BANK_CFG b)) k) (bitOf v.toNat k)) := rfl

theorem State.linkEnEdge_same {on : Bool} : s.linkEnEdge l on on = s := by
  cases on <;> rfl

theorem State.linkEnEdge_rise (h : (s.link_ l).disabling = false) : s.linkEnEdge l false true = s.beginTraining l false :=
  if_neg (ne_true_of_eq_false h)

theorem State.linkEnEdge_fall (h : s.linkState l ≠ 0) :
    s.linkEnEdge l true false = s.setLink l { s.link_ l with disabling := true } := if_neg h

/-- A loop acts on nothing where no element of its list acts. -/
theorem State.each_idle {α : Type} {f : State → α → State} {c : List α} (hf : ∀ t, ∀ y ∈ c, f t y = t) : s.each c f = s :=
  (List.foldl_ext f (fun t _ => t) s hf).trans (List.foldl_fixed c)

/-- A loop over distinct elements of which only `x` acts is the one step of `x`. -/
theorem State.each_single {α : Type} {x : α} {f : State → α → State} {c : List α} (hc : c.Nodup) (hx : x ∈ c)
    (hf : ∀ t y, y ≠ x → f t y = t) : s.each c f = f s x := by
  obtain ⟨p, q, rfl⟩ := List.append_of_mem hx
  obtain ⟨hxpq, -⟩ := List.nodup_cons.mp (List.nodup_middle.mp hc)
  obtain ⟨hp, hq⟩ := not_or.mp (fun h => hxpq (List.mem_append.mpr h))
  calc s.each (p ++ x :: q) f = (s.each p f).each (x :: q) f := List.foldl_append
    _ = (f s x).each q f := by
      rw [State.each_idle fun t y hy => hf t y (ne_of_mem_of_not_mem hy hp)]
      rfl
    _ = f s x := State.each_idle fun t y hy => hf t y (ne_of_mem_of_not_mem hy hq)

/-- A write of BANK_CFG that changes no LINK_EN bit but that of link `k` of the bank acts on that link alone. -/
theorem State.writeBankCfg_single (hk : k < 8)
    (hsame : ∀ j, j ≠ k → bitOf (s.rn (Reg.LINK_BANK_CFG b)) j = bitOf v.toNat j) :
    s.writeBankCfg b v = (s.setReg (Reg.LINK_BANK_CFG b) (v &&& 0xFFF00EFF#32)).linkEnEdge (8 * b + k)
      (bitOf (s.rn (Reg.LINK_BANK_CFG b)) k) (bitOf v.toNat k) := by
  rw [State.writeBankCfg_eq, State.each_single List.nodup_range (List.mem_range.mpr hk)]
  intro t j hj
  rw [hsame j hj, State.linkEnEdge_same]

theorem bitOf_zero : bitOf 0 k = false := by
  rw [bitOf_eq_testBit, Nat.zero_testBit]

theorem bitOf_two_pow_self : bitOf (2 ^ k) k = true := by
  rw [bitOf_eq_testBit, Nat.testBit_two_pow_self]

theorem bitOf_two_pow_ne {j : Nat} (h : j ≠ k) : bitOf (2 ^ k) j = false := by
  rw [bitOf_eq_testBit, Nat.testBit_two_pow_of_ne h.symm]

theorem w32_two_pow_toNat (hk : k < 8) : (w32 (2 ^ k)).toNat = 2 ^ k :=
  Nat.mod_eq_of_lt (Nat.pow_lt_pow_right (by omega) (by omega))

/-- The LINK_EN bits of BANK_CFG are all writable. -/
theorem w32_two_pow_writable : ∀ k < 8, w32 (2 ^ k) &&& 0xFFF00EFF#32 = w32 (2 ^ k) := by decide

theorem linkState_setN_bankCfg : (s.setN (Reg.LINK_BANK_CFG b) n).linkState (8 * b + k) = s.linkState (8 * b + k) := by
  refine State.fld_setN_ne ?_
  rw [lnkStat, Reg.LINK_LNK_STAT, Reg.LINK_BANK_CFG]
  omega

/-- The first enable of a bank begins a full scan, or a confirmation at TAP, of its link. -/
theorem State.writeBankCfg_rise (hk : k < 8) (hold : s.rn (Reg.LINK_BANK_CFG b) = 0)
    (hdis : (s.link_ (8 * b + k)).disabling = false) :
    s.writeBankCfg b (w32 (2 ^ k)) = (s.setN (Reg.LINK_BANK_CFG b) (2 ^ k)).beginTraining (8 * b + k) false := by
  rw [State.writeBankCfg_single hk, hold, w32_two_pow_toNat hk, bitOf_zero, bitOf_two_pow_self, w32_two_pow_writable k hk]
  · exact State.linkEnEdge_rise hdis
  · intro j hj
    rw [hold, w32_two_pow_toNat hk, bitOf_zero, bitOf_two_pow_ne hj]

/-- The last enable of a bank that falls marks its link. -/
theorem State.writeBankCfg_fall (hk : k < 8) (hold : s.rn (Reg.LINK_BANK_CFG b) = 2 ^ k)
    (hst : s.linkState (8 * b + k) ≠ 0) : s.writeBankCfg b 0 =
      (s.setN (Reg.LINK_BANK_CFG b) 0).setLink (8 * b + k) { s.link_ (8 * b + k) with disabling := true } := by
  have hzero : (0 : Word).toNat = 0 := rfl
  rw [State.writeBankCfg_single hk, hold, hzero, bitOf_zero, bitOf_two_pow_self]
  · exact State.linkEnEdge_fall (s := s.setN (Reg.LINK_BANK_CFG b) 0) (ne_of_eq_of_ne linkState_setN_bankCfg hst)
  · intro j hj
    rw [hold, hzero, bitOf_zero, bitOf_two_pow_ne hj]

/-- Settles O3: each step of a training acts where R46 has its frames, and a write of BANK_CFG acts on the one link whose enable
it changes. -/
theorem linksTrainAndComeUp : Obligations.LinksTrainAndComeUp :=
  ⟨fun _ _ _ _ _ _ _ _ _ => exec_tapScanStep, fun _ _ _ _ _ => exec_linkUp, fun _ _ _ _ _ => exec_confirmTimeout,
    fun _ _ _ _ => exec_linkRetrain, fun _ _ => exec_noEyeRetry, fun _ _ => rfl, fun _ _ _ _ => exec_lnkCtrlRetrain,
    fun _ _ _ _ => exec_tapManWrite, fun _ _ _ => exec_linkEnSet, fun _ _ _ => exec_linkEnClear,
    fun _ _ _ => State.writeBankCfg_rise, fun _ _ _ => State.writeBankCfg_fall⟩

/-! ### The causes that take links DOWN (R47) -/

theorem exec_syncLoss (hst : s.linkState l = 2) (hsync : 4 ≤ (s.link_ l).noSync) :
    exec (.syncLoss l) s = .next (s.linkFail l 4) := congrArg Host.Outcome.next (if_pos ⟨hst, hsync⟩)

theorem exec_crcLimit (hst : s.linkState l = 2)
    (hcrc : s.fld (Reg.LINK_CRC_LIMIT (l / 8)) 0 8 ≤ (s.link_ l).crcAt.length) :
    exec (.crcLimit l) s = .next (s.linkFail l 5) := congrArg Host.Outcome.next (if_pos ⟨hst, hcrc⟩)

/-- CLK_LOSS and FS_ERR clear a bit of BANK_STAT; the count of regular frames that they end does not depend on it. -/
theorem State.bankDown_setFld {v : Nat} : (s.setFld a lo n v).bankDown b cause =
    State.each ((s.setFld a lo n v).setBank b { s.bank_ b with regular := 0 })
      ([0, 1, 2, 3, 4, 5, 6, 7].map (8 * b + ·)) (fun s l => if s.linkState l = 2 then s.linkDown l cause else s) := rfl

/-- Settles O4: the bank's losses take its UP links DOWN, and a link's own failures are those of `linkFail`. -/
theorem linksGoDownForTheirCauses : Obligations.LinksGoDownForTheirCauses :=
  ⟨fun _ _ => congrArg Host.Outcome.next State.bankDown_setFld, fun _ _ => congrArg Host.Outcome.next State.bankDown_setFld,
    fun _ _ => exec_syncLoss, fun _ _ => exec_crcLimit⟩

end Sys2Proof.Machine
end

section
/-! PROOFS of the family 04_decimation.md: writes of LINE_CFG (O7), and the filter sets, their coefficients, the
measurements and the reset of the LDC (O8). -/

namespace Sys2Proof.Machine
open Sys2Proof

variable {s : State} {w : Win} {r : CmdRef} {v : Word} {b i k n st start len freq dest : Nat}

/-! ### Writes of LINE_CFG (R68) -/

theorem State.lineCfgStatus_unbound (h : s.bound i = false) :
    s.lineCfgStatus i n = if fieldOf n 16 6 < 40 then 0 else 3 := by
  by_cases hbph : fieldOf n 16 6 < 40
  · simp [State.lineCfgStatus, h, hbph, stOk]
  · simp [State.lineCfgStatus, h, hbph, Nat.not_lt.mp hbph, stBad]

/-- A value with EN set that changes neither BPH nor the set is accepted, on a bound line as on any other. -/
theorem State.lineCfgStatus_same (hbph : fieldOf n 16 6 < 40) (hen : bitOf n 31 = true)
    (hsame : fieldOf n 16 6 = s.fld (lineCfg i) 16 6) (hset : fieldOf n 24 3 = s.fld (lineCfg i) 24 3) :
    s.lineCfgStatus i n = 0 := by
  rw [State.fld] at hsame hset
  simp [State.lineCfgStatus, hen, ← hsame, ← hset, hbph, stOk]

/-- A bound line that is enabled refuses a value that clears EN. -/
theorem State.lineCfgStatus_bound_disable (h : s.bound i = true) (hold : s.bit (lineCfg i) 31 = true)
    (hnew : bitOf n 31 = false) : s.lineCfgStatus i n = 2 := by
  rw [State.bit] at hold
  simp [State.lineCfgStatus, h, hold, hnew, stBusy]

/-- A value with bit 31 cleared is stored with EN = 0. -/
theorem bitOf_en_cleared : bitOf ((v &&& 0x7FFFFFFF#32) &&& 0x873F7F00#32).toNat 31 = false := by
  rw [bitOf_eq_testBit, BitVec.testBit_toNat, BitVec.and_assoc, BitVec.getLsbD_and]
  exact Bool.and_false _

/-- A row that writes the value `v` to LINE_CFG, which `f` reads off the state, takes it where it is accepted. -/
theorem lineCfgWrite_taken {f : State → Word} (hv : f (s.seenBy w) = v) (hopen : s.opens w (lineCfg i) true = true)
    (hst : (s.seenBy w).lineCfgStatus i (v &&& 0x873F7F00#32).toNat = 0) :
    (Host.Outcome.next (s.hostGuard w (lineCfg i) true (fun t => t.writeLineCfg i (f t))) : Res) =
      .next ((s.seenBy w).lineCfgTaken i (v &&& 0x873F7F00#32).toNat) := by
  subst hv
  exact congrArg Host.Outcome.next ((hostGuard_open hopen).trans (writeLineCfg_taken hst))

/-- LINE_DISABLE of a bound line is refused with BUSY. -/
theorem exec_lineDisable_bound (hopen : s.opens w (lineCfg i) true = true) (hbound : s.bound i = true)
    (hen : s.bit (lineCfg i) 31 = true) :
    exec (.lineDisable w i) s = .next ((s.seenBy w).cfgErr (ldcPage (i / 128)) (some 4) 2 (lineCfg i)) := by
  have hbusy : (s.seenBy w).lineCfgStatus i ((s.reg (lineCfg i) &&& 0x7FFFFFFF#32) &&& 0x873F7F00#32).toNat = 2 :=
    State.lineCfgStatus_bound_disable hbound hen bitOf_en_cleared
  have hrefused := writeLineCfg_refused (ne_of_eq_of_ne hbusy (by decide))
  rw [hbusy] at hrefused
  exact congrArg Host.Outcome.next ((hostGuard_open hopen).trans hrefused)

/-- Settles O7: the five rows write LINE_CFG with the value each names, and `lineCfgStatus` says which values are accepted. -/
theorem lineConfigurationWritesWaitForTheNextFrame : Obligations.LineConfigurationWritesWaitForTheNextFrame :=
  ⟨fun _ _ _ _ => lineCfgWrite_taken rfl, fun _ _ _ => lineCfgWrite_taken rfl, fun _ _ _ _ => lineCfgWrite_taken rfl,
    fun _ _ _ _ => lineCfgWrite_taken rfl, fun _ _ _ _ => lineCfgWrite_taken rfl, fun _ _ _ => State.lineCfgStatus_unbound,
    fun _ _ _ _ => State.lineCfgStatus_same, fun _ _ _ => exec_lineDisable_bound⟩

/-! ### Filter sets (R73, R74) -/

theorem State.rn_setReg_ne {a c : Nat} (h : c ≠ a) : (s.setReg a v).rn c = s.rn c :=
  congrArg BitVec.toNat (State.reg_setReg_ne h)

theorem State.bit_setReg_ne {a c : Nat} (h : c ≠ a) : (s.setReg a v).bit c i = s.bit c i :=
  congrArg (bitOf · i) (State.rn_setReg_ne h)

/-- A request of an FIR set with no swap pending starts a fade, or waits behind the one that runs or is to start. -/
theorem State.swapRequest_free (hfir : s3mode (s.rn (Reg.LDC_SET_CFG b st)) = 0)
    (hpend : s.bit (Reg.LDC_SET_STAT b st) 2 = false) :
    s.swapRequest b st =
      if (s.set_ (8 * b + st)).fade = none ∧ (s.set_ (8 * b + st)).starting = false then
        s.setSet (8 * b + st) { s.set_ (8 * b + st) with starting := true }
      else s.setFld (Reg.LDC_SET_STAT b st) 2 1 1 := by
  have hfading : ((s.set_ (8 * b + st)).fade.isSome || (s.set_ (8 * b + st)).starting) = true ↔
      ¬((s.set_ (8 * b + st)).fade = none ∧ (s.set_ (8 * b + st)).starting = false) := by
    rw [Bool.or_eq_true, not_and_or, Option.isSome_iff_ne_none, Bool.not_eq_false]
  unfold State.swapRequest
  extract_lets x stat
  rw [if_neg (not_not_intro hfir), if_neg (ne_true_of_eq_false hpend), if_congr hfading rfl rfl, ite_not]

/-- A value of SET_CTRL is stored before its SWAP bit requests a swap, and no register that the request tests is written. -/
theorem State.writeSetCtrl_free (hswap : bitOf v.toNat 16 = true) (hfir : s3mode (s.rn (Reg.LDC_SET_CFG b st)) = 0)
    (hpend : s.bit (Reg.LDC_SET_STAT b st) 2 = false) :
    let u := s.setReg (Reg.LDC_SET_CTRL b st) (v &&& 0xF07#32)
    s.writeSetCtrl b st v =
      if (s.set_ (8 * b + st)).fade = none ∧ (s.set_ (8 * b + st)).starting = false then
        u.setSet (8 * b + st) { s.set_ (8 * b + st) with starting := true }
      else u.setFld (Reg.LDC_SET_STAT b st) 2 1 1 := by
  have hcfg : Reg.LDC_SET_CFG b st ≠ Reg.LDC_SET_CTRL b st := by unfold Reg.LDC_SET_CFG Reg.LDC_SET_CTRL; omega
  have hstat : Reg.LDC_SET_STAT b st ≠ Reg.LDC_SET_CTRL b st := by unfold Reg.LDC_SET_STAT Reg.LDC_SET_CTRL; omega
  refine (if_pos hswap).trans (State.swapRequest_free ?_ ?_)
  · rw [State.rn_setReg_ne hcfg, hfir]
  · rw [State.bit_setReg_ne hstat, hpend]

/-- A fade that has run its length ends. -/
theorem exec_fadeEnd {m : Nat} (hfade : (s.set_ (8 * b + st)).fade = some (m, k)) (hfull : 2 ^ k ≤ m) :
    let u := s.setFld (Reg.LDC_SET_STAT b st) 0 2 (1 - s.fld (Reg.LDC_SET_STAT b st) 0 1)
    exec (.fadeEnd b st) s = .next ((u.setSet (8 * b + st)
      { fade := none, starting := false, owed := u.bit (Reg.LDC_SET_STAT b st) 2 }).irq (ldcPage b) 1) := by
  show execFadeEnd b st s = _
  rw [execFadeEnd, hfade]
  exact congrArg Host.Outcome.next (if_neg (Nat.not_lt.mpr hfull))

/-! ### Coefficients (R72) -/

/-- A set that no line uses, that neither fades nor has a swap waiting, takes a coefficient within its length. -/
theorem State.writeCoef_free (hused : s.setUsed b (s.fld (Reg.LDC_COEF_SEL b) 8 3) = false)
    (hfade : (s.set_ (8 * b + s.fld (Reg.LDC_COEF_SEL b) 8 3)).fade = none)
    (hstart : (s.set_ (8 * b + s.fld (Reg.LDC_COEF_SEL b) 8 3)).starting = false)
    (hpend : s.bit (Reg.LDC_SET_STAT b (s.fld (Reg.LDC_COEF_SEL b) 8 3)) 2 = false)
    (hidx : s.fld (Reg.LDC_COEF_SEL b) 0 8 ≤ s.fld (Reg.LDC_SET_CFG b (s.fld (Reg.LDC_COEF_SEL b) 8 3)) 0 8) :
    s.writeCoef b v = State.coefNext { s with ldc := { s.ldc with
      coefs := Tab.put coefReset s.ldc.coefs
        (coefKey b (s.fld (Reg.LDC_COEF_SEL b) 8 3) (s.fld (Reg.LDC_COEF_SEL b) 11 1) (s.fld (Reg.LDC_COEF_SEL b) 0 8))
        (v.toNat % 2 ^ 20) } } b := by
  unfold State.writeCoef
  extract_lets a set bank idx x stat
  refine if_neg ?_
  rw [hused, hfade, hstart, hpend, decide_eq_false (Nat.not_lt.mpr hidx)]
  exact Bool.false_ne_true

/-! ### Measurements (R75, R76) -/

/-- LINE_MEAS of an enabled line that has none is accepted where the bank has room and the operands are in range. -/
theorem State.lineMeasStatus_ok (hi : i ≤ 2047) (hen : s.bit (lineCfg i) 31 = true) (hfree : (s.dec_ i).meas = none)
    (hroom : s.measCount (i / 128) < 16) (hlo : 1 ≤ len) (hhi : len ≤ 65536) (hfreq : freq < setRate (s.lineSetCfg i) * 5)
    (hdest : dest = 0 ∨ dest % 8 = 0 ∧ inNear dest (4 * len) = true) : s.lineMeasStatus i len freq dest = stOk := by
  have hnear : ¬(dest ≠ 0 ∧ (dest % 8 ≠ 0 ∨ (!inNear dest (4 * len)) = true)) := by
    rintro ⟨hne, hbad⟩
    obtain ⟨halign, hin⟩ := hdest.resolve_left hne
    rw [hin] at hbad
    exact hbad.elim (· halign) nofun
  have hoperands : ¬(len = 0 ∨ 65536 < len ∨ setRate (s.lineSetCfg i) * 5 ≤ freq ∨
      (dest ≠ 0 ∧ (dest % 8 ≠ 0 ∨ (!inNear dest (4 * len)) = true))) := by
    rintro (h | h | h | h)
    · omega
    · omega
    · omega
    · exact hnear h
  rw [State.lineMeasStatus, if_neg (by omega), if_neg (by rw [hen]; decide), if_neg (by rw [hfree]; exact nofun),
    if_neg (by omega), if_neg hoperands]

/-- The measurement that an accepted LINE_MEAS begins: at START, or at the next frame where START is 0 or has passed. -/
def State.measBegun (s : State) (i start len freq dest : Nat) : Meas :=
  let ahead := (start + 2 ^ 32 - (s.now + 1) % 2 ^ 32) % 2 ^ 32
  { start := if start = 0 ∨ 2 ^ 31 ≤ ahead then s.now + 1 else s.now + 1 + ahead
    len := len, freq := freq, dest := dest, rate := setRate (s.lineSetCfg i) }

theorem State.cmdLineMeas_ok (hst : s.lineMeasStatus i len freq dest = stOk) : s.cmdLineMeas r i start len freq dest =
    ((s.setDec i { s.dec_ i with meas := some (s.measBegun i start len freq dest) }).showMeas (i / 128)).respond r
      0x64 stOk [i] := by
  rw [State.cmdLineMeas, hst]
  exact congrArg (State.respond · r 0x64 stOk [i]) (if_neg (not_not_intro rfl))

/-- A measurement whose window is full ends. -/
theorem exec_lineMeasDone {m : Meas} (hmeas : (s.dec_ i).meas = some m) (hfull : m.len ≤ m.count) :
    exec (.lineMeasDone i) s = .next (s.endMeas i stOk) := by
  show execLineMeasDone i s = _
  rw [execLineMeasDone, hmeas]
  exact congrArg Host.Outcome.next (if_pos hfull)

/-! ### The reset (R78) -/

theorem State.ldcRst_set (hk : k / 8 = b) : (s.ldcRst b).set_ k = {} := by
  unfold State.ldcRst State.set_
  dsimp only
  rw [Tab.get_drop, if_pos (beq_iff_eq.mpr hk)]

theorem State.ldcRst_rst : b ∈ (s.ldcRst b).ldc.rst := by
  unfold State.ldcRst
  exact List.mem_append_right _ (List.mem_singleton_self b)

theorem exec_ldcRst (hopen : s.opens w (ldcPage b + 0x30) true = true) :
    exec (.ldcRst w b) s = .next ((s.seenBy w).ldcRst b) := congrArg Host.Outcome.next (hostGuard_open hopen)

/-- Settles O8, row by row: an access let through acts on the state seen, a due command on the state begun, and each operation
passes the tests of its rule. -/
theorem decimatorSyncsSwapsCoefficientsAndMeasurements : Obligations.DecimatorSyncsSwapsCoefficientsAndMeasurements := by
  refine ⟨fun s w b mask hopen => ?_, fun s w b hopen => ?_, fun s w b st v hopen hswap hfir hpend _ => ?_,
    fun s b st m k => exec_fadeEnd, fun s w b v hopen hused hfade hstart hpend hidx => ?_, fun s w b hopen => ?_,
    fun s r i start len freq dest hdue hi hen hfree hroom hlo hhi hfreq hdest => ?_, fun s i m => exec_lineMeasDone,
    fun s w b hopen => ⟨_, exec_ldcRst hopen, fun _ => State.ldcRst_set, State.ldcRst_rst⟩⟩
  · exact congrArg Host.Outcome.next (hostGuard_open hopen)
  · exact congrArg Host.Outcome.next (hostGuard_open hopen)
  · exact congrArg Host.Outcome.next
      ((hostGuard_open hopen).trans (State.writeSetCtrl_free (s := s.seenBy w) hswap hfir hpend))
  · exact congrArg Host.Outcome.next
      ((hostGuard_open hopen).trans (State.writeCoef_free (s := s.seenBy w) hused hfade hstart hpend hidx))
  · exact congrArg Host.Outcome.next (hostGuard_open hopen)
  · have hok : (s.begun r 0x64).lineMeasStatus i len freq dest = stOk :=
      State.lineMeasStatus_ok hi hen hfree hroom hlo hhi hfreq hdest
    exact congrArg Host.Outcome.next ((carryOut_due hdue).trans (State.cmdLineMeas_ok hok))

end Sys2Proof.Machine
end

section
/-! PROOFS of the family 05_echo_canceller.md: the events of an instance, from a submitted block to the end of a fade (O9), and
the commands and the reset of an ECE (O10). -/

namespace Sys2Proof.Machine
open Sys2Proof

variable {s : State} {w : Win} {r : CmdRef} {x : Ece} {b : EceBg} {a c cl f g k op un : Nat}

/-! ### Units and instances (R79) -/

theorem unit_div (hun : un < 256) : (256 * cl + un) / 256 = cl := by omega

theorem unit_mod (hun : un < 256) : (256 * cl + un) % 256 = un := by omega

theorem State.onEce_some {h : Ece → Ece} (hx : s.ece_ k = some x) : s.onEce k h = s.setEce k (some (h x)) := by
  rw [State.onEce, hx]

/-! ### PACKET blocks (R81) -/

/-- A block of a PACKET unit that has none waiting is queued. -/
theorem State.eceSubmit_free {v jt : Nat} (hx : s.ece_ (256 * (g / 8) + v % 256) = some x) (hpacket : x.packet = true)
    (hfree : ∀ b ∈ s.ece.blocks, b.inst ≠ 256 * (g / 8) + v % 256) :
    s.eceSubmit g v jt = { s with ece := { s.ece with blocks := s.ece.blocks ++
      [⟨256 * (g / 8) + v % 256, v / 2 ^ 16, s.now, jt⟩] } } := by
  have hnone : s.ece.blocks.any (fun b => b.inst == 256 * (g / 8) + v % 256) = false :=
    List.any_eq_false.mpr fun b hb => by rw [beq_iff_eq]; exact hfree b hb
  unfold State.eceSubmit
  extract_lets cl k tag
  rw [hx]
  exact (if_neg (by rw [hpacket]; decide)).trans (if_neg (ne_true_of_eq_false hnone))

theorem State.packetDone_oldest {b : EceBlock} (hb : s.ece.blocks.find? (fun b => b.inst / 256 == cl) = some b)
    (hx : s.ece_ b.inst = some x) :
    let t := State.packetBlock { s with ece := { s.ece with blocks := s.ece.blocks.erase b } } b (if x.fresh then x.init else x)
    s.packetDone cl = if b.frame + 1 < t.now then t.bump (Reg.ECE_PKT_LATE cl) else t := by
  have hkept : State.ece_ { s with ece := { s.ece with blocks := s.ece.blocks.erase b } } b.inst = some x := hx
  rw [State.packetDone, hb]
  dsimp only
  rw [hkept]

/-! ### Focus, double talk and tones (R88, R91, R94) -/

theorem exec_focusPlace (hx : s.ece_ (256 * cl + un) = some x) (hdue : x.focusDue = true) :
    exec (.focusPlace cl un) s = .next (s.setEce (256 * cl + un) (some { x with
      focusDue := false, focus := focusBest x.h (min (((s.eceP cl x.prof).flen + 1) * 64) x.taps) })) :=
  congrArg Host.Outcome.next
    ((State.onEce_some hx).trans (congrArg (fun y => s.setEce (256 * cl + un) (some y)) (if_pos hdue)))

theorem exec_dtHangEnd (hx : s.ece_ (256 * cl + un) = some x) (hdt : x.dt = true)
    (hhang : x.dtAt + fieldOf (s.ecePrf cl x.prof 2) 16 8 * x.per ≤ (if x.packet then x.cnt else s.now * x.per)) :
    exec (.dtHangEnd cl un) s = .next (s.setEce (256 * cl + un) (some { x with dt := false, dtSince := none })) :=
  congrArg Host.Outcome.next
    ((State.onEce_some hx).trans (congrArg (fun y => s.setEce (256 * cl + un) (some y)) (if_pos ⟨hdt, hhang⟩)))

/-- A start that is known has passed its time where the time from it has. -/
theorem any_start_due {o : Option Nat} {p : Nat → Prop} [DecidablePred p] (ho : o = some f) (hp : p f) :
    o.any (fun f => decide (p f)) = true := by
  rw [ho, Option.any_some, decide_eq_true hp]

theorem exec_toneReenable (hx : s.ece_ (256 * cl + un) = some x) (htone : x.tone ≠ 0) (hlow : x.lowSince = some f)
    (hdue : f + 16 * fieldOf (s.ecePrf cl x.prof 5) 16 8 ≤ x.frame s.now) :
    exec (.toneReenable cl un) s = .next ((s.setEce (256 * cl + un) (some { x with tone := 0, lowSince := none })).toneEvent
      (256 * cl + un) x 2) := by
  show execToneReenable cl un s = _
  rw [execToneReenable, hx]
  exact congrArg _ (if_pos ⟨htone, any_start_due hlow hdue⟩)

/-! ### Triggers (R96) -/

theorem State.autoTrig_ok {cause : Nat} (hx : s.ece_ k = some x) (hst : s.trigStatus k x = stOk) :
    s.autoTrig k cause = s.acceptTrig k cause (fieldOf (s.ecePrf (k / 256) x.prof 5) 8 8) x := by
  rw [State.autoTrig, hx]
  exact if_pos hst

/-- The trigger of a unit takes the replay length of its cluster's profile. -/
theorem State.autoTrig_unit {cause : Nat} (hun : un < 256) (hx : s.ece_ (256 * cl + un) = some x)
    (hst : s.trigStatus (256 * cl + un) x = stOk) : s.autoTrig (256 * cl + un) cause =
      s.acceptTrig (256 * cl + un) cause (fieldOf (s.ecePrf cl x.prof 5) 8 8) x := by
  rw [State.autoTrig_ok hx hst, unit_div hun]

theorem exec_erleDrop (hun : un < 256) (hx : s.ece_ (256 * cl + un) = some x) (hfault : x.faulted = false)
    (hdrop : x.dropSince = some f) (hdue : f + 8 * max 1 (fieldOf (s.ecePrf cl x.prof 4) 12 8) ≤ x.frame s.now)
    (hst : s.trigStatus (256 * cl + un) x = stOk) : exec (.erleDrop cl un) s =
      .next (s.acceptTrig (256 * cl + un) 1 (fieldOf (s.ecePrf cl x.prof 5) 8 8) x) := by
  show execErleDrop cl un s = _
  rw [execErleDrop, hx, ← State.autoTrig_unit hun hx hst]
  exact congrArg _ (if_pos ⟨by rw [hfault]; rfl, any_start_due hdrop hdue⟩)

theorem exec_dtLong (hun : un < 256) (hx : s.ece_ (256 * cl + un) = some x) (hfault : x.faulted = false)
    (hdt : x.dtSince = some f) (hon : fieldOf (s.ecePrf cl x.prof 2) 8 8 ≠ 0)
    (hdue : f + 64 * fieldOf (s.ecePrf cl x.prof 2) 8 8 ≤ x.frame s.now)
    (hst : s.trigStatus (256 * cl + un) x = stOk) : exec (.dtLong cl un) s =
      .next (s.acceptTrig (256 * cl + un) 2 (fieldOf (s.ecePrf cl x.prof 5) 8 8) x) := by
  show execDtLong cl un s = _
  rw [execDtLong, hx, ← State.autoTrig_unit hun hx hst]
  exact congrArg _ (if_pos ⟨by rw [hfault]; rfl, hon, any_start_due hdt hdue⟩)

/-! ### Replays (R97, R98) -/

/-- The oldest trigger of a cluster with slots free begins its replay. -/
theorem State.replayStart_granted {t : EceTrig} (ht : s.ece.trigs.find? (fun t => t.inst / 256 == cl) = some t)
    (hx : s.ece_ t.inst = some x) (hbg : x.bg = none)
    (hreplays : s.slotsUsed cl true + x.per ≤ s.fld (Reg.ECE_ECE_CFG cl) 0 5) (hslots : s.slotsUsed cl false + x.per ≤ 16) :
    let j := s.journalOn x.ctx
    s.replayStart cl = State.setEce { s with ece := { s.ece with trigs := s.ece.trigs.erase t } } t.inst
      (some { x with bg := some (s.replayBg t.inst x (if j = true then t.r else min t.r 2048) j false) }) := by
  have hfree : ¬(x.bg.isSome || decide (s.fld (Reg.ECE_ECE_CFG cl) 0 5 < s.slotsUsed cl true + x.per) ||
      decide (16 < s.slotsUsed cl false + x.per)) = true := by
    rw [hbg, decide_eq_false (Nat.not_lt.mpr hreplays), decide_eq_false (Nat.not_lt.mpr hslots)]
    decide
  rw [State.replayStart, ht]
  dsimp only
  rw [hx]
  exact if_neg hfree

theorem exec_replayFallback (hx : s.ece_ (256 * cl + un) = some x) (hbg : x.bg = some b) (hfailed : b.failed = true) :
    exec (.replayFallback cl un) s = .next (((s.setEce (256 * cl + un)
      (some { x with bg := some (s.replayBg (256 * cl + un) x 2048 false true) })).bump
        (Reg.ECE_FALLBACK_CNT cl)).irq (ecePage cl) 4) := by
  show execReplayFallback cl un s = _
  rw [execReplayFallback, hx]
  dsimp only
  rw [hbg]
  exact congrArg _ (if_neg (by rw [hfailed]; decide))

theorem exec_replayCatchUp (hx : s.ece_ (256 * cl + un) = some x) (hbg : x.bg = some b) (hphase : b.phase = 1)
    (hretro : b.retro = true) (hcaught : x.cnt ≤ b.pos) : exec (.replayCatchUp cl un) s =
      .next (s.setEce (256 * cl + un) (some { x with bg := some { b with phase := 2 } })) := by
  refine congrArg Host.Outcome.next ((State.onEce_some hx).trans ?_)
  rw [hbg, Option.map_some, if_pos ⟨hphase, hretro, hcaught⟩]

/-! ### Comparisons, swaps and fades (R100, R101) -/

/-- The full comparison window decides for the new filter where the far end was active long enough and the margin is reached. -/
theorem State.comparisonEnd_full (hx : s.ece_ k = some x) (hbg : x.bg = some b) (hphase : b.phase = 2)
    (hfull : 512 * x.per ≤ b.seen) : s.comparisonEnd k =
      if 256 * x.per ≤ b.far ∧ ratioGe b.eLive b.eBg (fieldOf (s.ecePrf (k / 256) x.prof 4) 6 6) = true ∧
          (b.eBg ≠ b.eLive ∨ b.eLive ≠ 0) then
        (s.eceSwapReq k { x with bg := some { b with phase := 3 } }).1
      else (s.reconvDone k x 1 0).setEce k (some { x with bg := none }) := by
  rw [State.comparisonEnd, hx]
  dsimp only
  rw [hbg]
  refine (if_neg (not_or_intro (not_not_intro hphase) (Nat.not_lt.mpr hfull))).trans (if_congr ?_ rfl rfl)
  rw [Bool.and_eq_true, Bool.and_eq_true, decide_eq_true_eq, decide_eq_true_eq, and_assoc]

/-- A swap of an instance that has none pending starts at the next frame, or waits behind the fade that runs or is to start. -/
theorem State.eceSwapReq_free (hpend : x.pend = false) : s.eceSwapReq k x = (s.setEce k (some (
    if x.fade = none ∧ x.ended = none ∧ x.starting = false then { x with starting := true }
    else { x with pend := true })), stOk) := by
  have hfading : (x.fade.isSome || x.ended.isSome || x.starting) = true ↔
      ¬(x.fade = none ∧ x.ended = none ∧ x.starting = false) := by
    rw [Bool.or_eq_true, Bool.or_eq_true, not_and_or, not_and_or, or_assoc, Option.isSome_iff_ne_none,
      Option.isSome_iff_ne_none, Bool.not_eq_false]
  rw [State.eceSwapReq, if_neg (ne_true_of_eq_false hpend), if_congr hfading rfl rfl, ite_not]
  split <;> rfl

/-- A fade that has run its length is counted and reported, and its slot is released unless a swap is pending. -/
theorem State.fadeDone_ended {d : EceFade} (hx : s.ece_ k = some x) (hended : x.ended = some d) (hbg : x.bg = some b) :
    let t := s.bump (Reg.ECE_SWAP_CNT (k / 256))
    s.fadeDone k = (if b.retro = true then t.reconvDone k x 0 0
        else t.eceEvent x 0xA3 [x.ctx, k % 256, b2n d.pending, t.now % 2 ^ 32]).setEce k (some { x with
      ended := none, swaps := x.swaps + 1
      bg := if x.pend = true then some { b with retro := false, phase := 0 } else none }) := by
  rw [State.fadeDone, hx]
  dsimp only
  rw [hended, hbg]

/-- Settles O9, row by row: the instance that the row names is found, and each operation passes the tests of its rule. -/
theorem echoEngineEventsActOnTheirInstance : Obligations.EchoEngineEventsActOnTheirInstance := by
  refine ⟨fun s g v x hx hpacket hfree => congrArg Host.Outcome.next (State.eceSubmit_free hx hpacket hfree),
    fun s cl b x hb hx => congrArg Host.Outcome.next (State.packetDone_oldest hb hx),
    fun s cl un x => exec_focusPlace, fun s cl un x => exec_dtHangEnd, fun s cl un f x => exec_toneReenable,
    fun s cl un f x => exec_erleDrop, fun s cl un f x => exec_dtLong,
    fun s cl t x ht hx hbg hreplays hslots =>
      congrArg Host.Outcome.next (State.replayStart_granted ht hx hbg hreplays hslots),
    fun s cl un x b => exec_replayFallback, fun s cl un x b => exec_replayCatchUp,
    fun s cl un x b hun hx hbg hphase hfull => ?_, fun s cl un x d b hun hx hended hbg => ?_⟩
  · have h := State.comparisonEnd_full hx hbg hphase hfull
    rw [unit_div hun] at h
    exact congrArg Host.Outcome.next h
  · have h := State.fadeDone_ended hx hended hbg
    rw [unit_div hun, unit_mod hun] at h
    exact congrArg Host.Outcome.next h

/-! ### The commands (R103) -/

theorem State.eceCmd_some {h : Nat → Ece → State} (hof : s.eceOf c = some (k, x)) : s.eceCmd r op c h = h k x := by
  rw [State.eceCmd, hof]

/-- The width of the instance that ECE_ATTACH asks for: RATE of a PACKET instance, the line's rate of a LINE instance. -/
def State.attachWide (s : State) (c : Nat) (e : EchoFields) : Bool :=
  if e.kind = 1 then e.rate == 1 else (s.ctx_ c).line.any (fun l => s.wideLine l)

/-- ECE_ATTACH of an open context without an instance is accepted where its fields are legal and a unit is free. -/
theorem State.attachStatus_ok {e : EchoFields} (hopen : (s.ctx_ c).state = 1) (hnone : s.eceOf c = none) (hkind : e.kind ≤ 1)
    (hrate : e.rate ≤ 1) (hlo : 2 ≤ e.tlen) (hhi : e.tlen ≤ 16) (hbulk : e.bulk ≤ 255) (hprof : e.prof ≤ 3)
    (hline : e.kind = 0 → (s.ctx_ c).line ≠ none) (hunit : s.freeUnit (s.ctx_ c).home (s.attachWide c e) = some un) :
    s.attachStatus c e = (stOk, s.attachWide c e, un) := by
  have hfields : ¬(1 < e.kind ∨ 1 < e.rate ∨ e.tlen < 2 ∨ 16 < e.tlen ∨ 255 < e.bulk ∨ 3 < e.prof ∨
      (e.kind = 0 ∧ (s.ctx_ c).line.isNone = true)) := by
    rw [Option.isNone_iff_eq_none]
    rintro (h | h | h | h | h | h | ⟨hzero, hl⟩)
    case inr.inr.inr.inr.inr.inr => exact hline hzero hl
    all_goals omega
  unfold State.attachStatus
  rw [if_neg (not_not_intro hopen), if_neg (by rw [hnone]; decide), if_neg hfields]
  dsimp only
  rw [State.attachWide] at hunit
  rw [hunit]
  rfl

theorem State.cmdEceAttach_ok {e : EchoFields} {wide : Bool} (hst : s.attachStatus c e = (stOk, wide, un)) :
    s.cmdEceAttach r c e =
      ((s.wake (ecePage (s.ctx_ c).home)).eceAttach c e wide un).respond r 0x20 stOk [c, un] := by
  rw [State.cmdEceAttach, hst]
  rfl

/-- ECE_MODIFY's changes are noted beside those that wait; a field noted again takes its new value. -/
def Ece.noting (e : EchoChange) (y : Ece) : Ece :=
  { y with next := some {
      kind := (e.kind.map (· == 1)).orElse (fun _ => (y.next.getD {}).kind)
      tlen := e.tlen.orElse (fun _ => (y.next.getD {}).tlen)
      bulk := e.bulk.orElse (fun _ => (y.next.getD {}).bulk)
      prof := e.prof.orElse (fun _ => (y.next.getD {}).prof)
      freeze := e.freeze.orElse (fun _ => (y.next.getD {}).freeze)
      bypass := e.bypass.orElse (fun _ => (y.next.getD {}).bypass) } }

theorem State.cmdEceModify_legal {e : EchoChange} (hof : s.eceOf c = some (k, x)) (hlegal : s.echoBad x e = false) :
    let t := if (e.kind.isSome || e.tlen.isSome || e.bulk.isSome) = true then s.abandon k (some stBad) else s
    s.cmdEceModify r c e = (t.onEce k (Ece.noting e)).respond r 0x21 stOk [c, k % 256] :=
  (State.eceCmd_some hof).trans (if_neg (ne_true_of_eq_false hlegal))

theorem State.cmdReconverge_ok {n : Nat} (hof : s.eceOf c = some (k, x)) :
    let r10 := if n = 0 then fieldOf (s.ecePrf (k / 256) x.prof 5) 8 8 else n
    25 ≤ r10 → r10 ≤ 200 → s.trigStatus k x = stOk →
    s.cmdReconverge r c n = (s.acceptTrig k 0 r10 x).respond r 0x24 stOk [c, k % 256] := by
  intro r10 hlo hhi hst
  exact (State.eceCmd_some hof).trans ((if_neg (by omega)).trans (if_neg (not_not_intro hst)))

/-- ECE_LOAD of a filter in near memory with a slot free. -/
theorem State.cmdEceLoad_ok (hof : s.eceOf c = some (k, x)) (hbg : x.bg = none)
    (hslots : s.slotsUsed (k / 256) false + x.per ≤ 16) (hnear : inNear a (4 * x.taps) = true) :
    s.cmdEceLoad r c a = (s.setEce k (some { x with
      bg := some { phase := 0, h := (List.range x.taps).map (fun i => signed 24 (s.rdLE (a + 4 * i) 4)),
                   retro := false } })).respond r 0x25 stOk [c, k % 256] := by
  refine (State.eceCmd_some hof).trans ?_
  dsimp only
  rw [if_neg (by rw [hbg]; decide), if_neg (Nat.not_lt.mpr hslots), if_neg (by rw [hnear]; decide)]

/-- ECE_SWAP of a filter that waits, loaded or decided for, asks for the swap. -/
theorem State.cmdEceSwap_waiting (hof : s.eceOf c = some (k, x)) (hbg : x.bg = some b) (hreplay : b.phase ≠ 1)
    (hcompare : b.phase ≠ 2) : s.cmdEceSwap r c = (s.eceSwapReq k x).1.respond r 0x26 (s.eceSwapReq k x).2 [c, k % 256] := by
  have hbusy : ¬x.bg.any (fun b => decide (b.phase = 1 ∨ b.phase = 2)) = true := by
    rw [hbg, Option.any_some, decide_eq_true_eq]
    exact not_or_intro hreplay hcompare
  exact (State.eceCmd_some hof).trans ((if_neg hbusy).trans (if_neg (by rw [hbg]; exact Bool.false_ne_true)))

theorem State.cmdEceRead_ok {back : Bool} {h : List Int} (hof : s.eceOf c = some (k, x))
    (hh : (if back = true then x.bg.map (·.h) else some x.h) = some h) (hnear : inNear a (4 * x.taps) = true) :
    s.cmdEceRead r c a back = (s.wrBytes a (((List.range x.taps).map (fun i => h.getD i 0)).flatMap
      (fun v => leBytes 4 (unsigned 32 v)))).respond r 0x27 stOk [c, k % 256] := by
  refine (State.eceCmd_some hof).trans ?_
  rw [hh]
  exact if_neg (by rw [hnear]; decide)

/-! ### The reset (R104) -/

/-- The registers of a page's common header from 0 to 0x28 read as after reset. -/
theorem State.headerReset_reg {page : Nat} (hlo : page ≤ a) (hhi : a < page + 0x2C) :
    (s.headerReset page).reg a = regReset a := by
  rw [State.headerReset, State.setN, State.reg_setReg_ne (by omega), State.resetRegs, State.reg, Tab.get_drop,
    if_pos (decide_eq_true ⟨hlo, hhi⟩)]

theorem State.eceRst_reg (hlo : ecePage cl ≤ a) (hhi : a < ecePage cl + 0x2C) : (s.eceRst cl).reg a = regReset a :=
  (State.reg_setReg_ne (by omega)).trans (State.headerReset_reg hlo hhi)

theorem exec_eceRst (hopen : s.opens w (ecePage cl + 0x30) true = true) :
    exec (.eceRst w cl) s = .next ((s.seenBy w).eceRst cl) := congrArg Host.Outcome.next (hostGuard_open hopen)

/-- Settles O10, row by row: a due command acts on the state begun, finds the instance of its context and passes the tests of
its rule. -/
theorem echoCommandsCompleteForAttachedInstances : Obligations.EchoCommandsCompleteForAttachedInstances := by
  refine ⟨fun s r c un e hdue hopen hnone hkind hrate hlo hhi hbulk hprof hline hunit => ?_,
    fun s r c k x e hdue hof hlegal => ?_, fun s r c k x hdue hof => ?_, fun s r c k x hdue hof => ?_,
    fun s r c k n x hdue hof hlo hhi hst => ?_, fun s r c k a x hdue hof hbg hslots hnear => ?_,
    fun s r c k x b hdue hof hbg hreplay hcompare hpend => ?_, fun s r c k a x back h hdue hof hh hnear => ?_,
    fun s w cl hopen => ⟨_, exec_eceRst hopen, rfl, rfl, fun a => State.eceRst_reg⟩⟩
  all_goals refine congrArg Host.Outcome.next ((carryOut_due hdue).trans ?_)
  · have hst : (s.begun r 0x20).attachStatus c e = (stOk, (s.begun r 0x20).attachWide c e, un) :=
      State.attachStatus_ok hopen hnone hkind hrate hlo hhi hbulk hprof hline hunit
    exact State.cmdEceAttach_ok hst
  · exact State.cmdEceModify_legal (s := s.begun r 0x21) hof hlegal
  · exact State.eceCmd_some (s := s.begun r 0x22) hof
  · exact State.eceCmd_some (s := s.begun r 0x23) hof
  · exact State.cmdReconverge_ok (s := s.begun r 0x24) hof hlo hhi hst
  · exact State.cmdEceLoad_ok (s := s.begun r 0x25) hof hbg hslots hnear
  · refine (State.cmdEceSwap_waiting (s := s.begun r 0x26) hof hbg hreplay hcompare).trans ?_
    rw [State.eceSwapReq_free hpend]
    rfl
  · exact State.cmdEceRead_ok (s := s.begun r 0x27) hof hh hnear

end Sys2Proof.Machine
end

section
/-! PROOFS of the family 06_sage_tones.md: submitted blocks and their reads, the commands and the reset of a Sage (O11). -/

namespace Sys2Proof.Machine
open Sys2Proof

variable {s : State} {w : Win} {r : CmdRef} {x : SageSlot} {st : Stream} {a c cl d f g i k t v time : Nat}

/-- A value that is left out, or does not exceed its bound, is not above it. -/
theorem any_above_eq_false {o : Option Nat} {b : Nat} (h : ∀ p, o = some p → p ≤ b) :
    o.any (fun p => decide (b < p)) = false := by
  cases o with
  | none => rfl
  | some p => exact decide_eq_false (Nat.not_lt.mpr (h p rfl))

/-! ### Submits of packet blocks (R107) -/

/-- The slot and the stream are in the low ten bits of SAGE_SUBMIT. -/
theorem State.sageSubmit_mod : s.sageSubmit g (v % 1024) time = s.sageSubmit g v time := by
  have hparity : v % 1024 % 2 = v % 2 := Nat.mod_mod_of_dvd v (by decide)
  simp only [State.sageSubmit, Nat.mod_mod, hparity]

theorem exec_sageSubmit {v : Word} : exec (.sageSubmit g v) s =
    .next (s.sageSubmit g v.toNat (Tab.get (fun _ => 0) (s.core_ g).spr 0x20C)) :=
  congrArg Host.Outcome.next State.sageSubmit_mod

theorem State.sageSubmit_none (hx : s.slot_ (512 * (g / 8) + v % 1024 / 2) = none) :
    s.sageSubmit g v time = (s.bump (Reg.SAGE_SUBMIT_OVR (g / 8))).irq (sagePage (g / 8)) 1 := by
  rw [State.sageSubmit, hx]

/-- A block of a packet stream that holds none is held, where it does not begin before the last one's end. -/
theorem State.sageSubmit_free (hx : s.slot_ (512 * (g / 8) + v % 1024 / 2) = some x) (hcore : s.sageCore x = true)
    (hfresh : x.fresh = false) (hst : (if v % 2 = 0 then x.s0 else x.s1) = st) (hblock : st.block = none)
    (hend : ∀ e, st.blockEnd = some e → e ≤ near32 s.now time) :
    s.sageSubmit g v time = s.onStream (512 * (g / 8) + v % 1024 / 2) (v % 2)
      (fun y => { y with block := some (s.now, near32 s.now time) }) := by
  rw [State.sageSubmit, hx]
  dsimp only
  rw [hst, hcore, hfresh, hblock, any_above_eq_false hend]
  exact if_neg (by decide)

/-! ### Reads of submitted blocks (R107, R120) -/

theorem State.blockRead_idle (hx : s.slot_ k = some x) (hblock : (if d = 0 then x.s0 else x.s1).block = none) :
    s.blockRead cl k d = s := by
  rw [State.blockRead, hx]
  dsimp only
  rw [hblock]

/-- A block begins after a gap where the one before it ended earlier. -/
theorem any_lt_iff_getD_lt {o : Option Nat} : o.any (fun e => decide (e < t)) = true ↔ o.getD t < t := by
  cases o with
  | none => exact iff_of_false nofun (lt_irrefl t)
  | some e => exact decide_eq_true_iff

/-- A read in a later frame than the submit frees the block, marks a gap before it as lost and feeds its samples. -/
theorem State.blockRead_due (hx : s.slot_ k = some x) (hst : (if d = 0 then x.s0 else x.s1) = st)
    (hblock : st.block = some (f, t)) (hlater : f < s.now) :
    let u := s.onStream k d (fun y => { y with block := none, blockEnd := some (t + 40) })
    let e := st.blockEnd.getD t
    let per := if x.wide = true then 2 else 1
    s.blockRead cl k d = State.sageFeed
      (if e < t then ((u.bump (Reg.SAGE_GAP_CNT cl)).irq (sagePage cl) 2).sageFeed k d e x.wide
        (List.replicate ((t - e) * per) none) else u) k d t x.wide
      ((List.range (40 * per)).map (fun i => some (signed 16
        (s.rdLE (sramBase cl + s.rn (Reg.SAGE_SB_BASE cl) + (2 * (k % 512) + d) * 0xA0 + 2 * i) 2)))) := by
  intro u e per
  have hcount : (if x.wide = true then 80 else 40) = 40 * per := (apply_ite (40 * ·) _ 2 1).symm
  rw [State.blockRead, hx]
  dsimp only
  rw [hst, hblock]
  dsimp only
  rw [if_neg (Nat.not_le.mpr hlater), if_congr any_lt_iff_getD_lt rfl rfl, hcount]

theorem State.sageRead_even (hv : v % 2 = 0) : s.sageRead cl v = s.blockRead cl (512 * cl + v / 2) 0 := if_pos hv

theorem State.sageRead_odd (hv : v % 2 = 1) (hx : s.slot_ (512 * cl + v / 2) = some x) (hblock : x.s0.block = none) :
    s.sageRead cl v = s.blockRead cl (512 * cl + v / 2) 1 := by
  rw [State.sageRead, if_neg (by omega), State.blockRead_idle (d := 0) hx hblock]

/-! ### The commands (R105, R124) -/

theorem State.sageAttachStatus_ok {e : SageFields} (hopen : (s.ctx_ c).state = 1)
    (hnone : s.sage.slots.any (fun e => e.2.any (fun y => y.ctx == c)) = false) (hprof0 : e.prof0 ≤ 7) (hprof1 : e.prof1 ≤ 7)
    (hrate : e.rate ≤ 1) (hfree : firstFrom (fun i => (s.slot_ (512 * (s.ctx_ c).home + i)).isNone) 512 0 = some i) :
    s.sageAttachStatus c e = (stOk, i) := by
  rw [State.sageAttachStatus, if_neg (not_not_intro hopen), if_neg (ne_true_of_eq_false hnone), if_neg (by omega), hfree]

theorem State.cmdSageAttach_ok {e : SageFields} (hst : s.sageAttachStatus c e = (stOk, i)) : s.cmdSageAttach r c e =
    ((s.wake (sagePage (s.ctx_ c).home)).sageAttach c e i).respond r 0x30 stOk [c, i] := by
  rw [State.cmdSageAttach, hst]
  rfl

theorem State.cmdSageModify_legal {e : SageChange} (hof : s.sageOf c = some (k, x)) (hprof0 : ∀ p, e.prof0 = some p → p ≤ 7)
    (hprof1 : ∀ p, e.prof1 = some p → p ≤ 7) (hmask0 : ∀ m, e.mask0 = some m → m ≤ 0x1FF)
    (hmask1 : ∀ m, e.mask1 = some m → m ≤ 0x1FF) : s.cmdSageModify r c e =
      (s.setSlot k (some { x with next := some (sageNext x.next e) })).respond r 0x31 stOk [c] := by
  rw [State.cmdSageModify, hof]
  simp only [List.any_cons, List.any_nil, any_above_eq_false hprof0, any_above_eq_false hprof1, any_above_eq_false hmask0,
    any_above_eq_false hmask1, Bool.or_self, Bool.false_eq_true, if_false]

theorem State.cmdSageDetach_some (hof : s.sageOf c = some (k, x)) :
    s.cmdSageDetach r c = (s.setSlot k (some { x with leaving := true })).respond r 0x32 stOk [c] := by
  rw [State.cmdSageDetach, hof]

theorem State.cmdSageQuery_some (hof : s.sageOf c = some (k, x)) :
    s.cmdSageQuery r c = s.respond r 0x33 stOk (c :: (x.s0.query ++ x.s1.query)) := by
  rw [State.cmdSageQuery, hof]

/-! ### The reset (R125) -/

theorem State.sageRst_reg (hlo : sagePage cl ≤ a) (hhi : a < sagePage cl + 0x2C) : (s.sageRst cl).reg a = regReset a :=
  (State.reg_setReg_ne (by omega)).trans (State.headerReset_reg hlo hhi)

theorem exec_sageRst (hopen : s.opens w (sagePage cl + 0x30) true = true) :
    exec (.sageRst w cl) s = .next ((s.seenBy w).sageRst cl) := congrArg Host.Outcome.next (hostGuard_open hopen)

/-- Settles O11, row by row: a submit and a read find the slot of their stream, a due command acts on the state begun and passes
the tests of its rule. -/
theorem sageSubmitsCommandsAndResetComplete : Obligations.SageSubmitsCommandsAndResetComplete := by
  refine ⟨fun s g v hx => exec_sageSubmit.trans (congrArg _ (State.sageSubmit_none hx)),
    fun s g v x hx hcore hfresh hblock hend =>
      exec_sageSubmit.trans (congrArg _ (State.sageSubmit_free hx hcore hfresh rfl hblock hend)),
    fun s cl v f t x hv hx hblock hlater =>
      congrArg Host.Outcome.next ((State.sageRead_even hv).trans (State.blockRead_due hx rfl hblock hlater)),
    fun s cl v f t x hv hx hidle hblock hlater =>
      congrArg Host.Outcome.next ((State.sageRead_odd hv hx hidle).trans (State.blockRead_due hx rfl hblock hlater)),
    fun s r c i e hdue hst => ?_, fun s c i e => State.sageAttachStatus_ok,
    fun s r c k x e hdue hof hprof0 hprof1 hmask0 hmask1 => ?_, fun s r c k x hdue hof => ?_, fun s r c k x hdue hof => ?_,
    fun s w cl hopen => ⟨_, exec_sageRst hopen, rfl, rfl, fun a => State.sageRst_reg⟩⟩
  all_goals refine congrArg Host.Outcome.next ((carryOut_due hdue).trans ?_)
  · exact State.cmdSageAttach_ok (s := s.begun r 0x30) hst
  · exact State.cmdSageModify_legal (s := s.begun r 0x31) hof hprof0 hprof1 hmask0 hmask1
  · exact State.cmdSageDetach_some (s := s.begun r 0x32) hof
  · exact State.cmdSageQuery_some (s := s.begun r 0x33) hof

end Sys2Proof.Machine
end

section
/-! PROOFS of the family 07_media_contexts.md: the context commands (O12), and the packets, windows and rings of the jitter buffer
with the transmit items that PRE takes (O13). -/

namespace Sys2Proof.Machine
open Sys2Proof

variable {s t : State} {r : CmdRef} {x y : Ctx} {k : RtpPacket} {e : RxEvent} {h : Word} {w : List Word} {o : Option Win}
  {b c cl i n p mode code vol dur : Nat} {cn : Bool}

/-! ### CTX_OPEN (R128) -/

/-- A context with no echo, Sage or SRTP needs its two classifier entries at most. -/
theorem State.openAttach_plain {f : OpenFields} (hecho : f.echo = none) (hsage : f.sage = none)
    (hsrtp : (t.ctx_ c).srtp = none) (hroom : t.exactUsed + 2 ≤ 32768) :
    t.openAttach c f = (stOk, if (t.ctx_ c).net = true then t.entriesTake c else t) := by
  have hfits : decide (32768 < t.exactUsed + 2) = false := decide_eq_false (Nat.not_lt.mpr hroom)
  have hnofull : ¬(((0 : Nat) == stFull) || ((0 : Nat) == stFull) ||
      ((t.ctx_ c).srtp.isSome && decide (1024 < t.storeUsed (t.ctx_ c).home)) ||
      ((t.ctx_ c).net && decide (32768 < t.exactUsed + 2))) = true := by
    rw [hsrtp, hfits, Bool.and_false]
    exact Bool.false_ne_true
  unfold State.openAttach
  rw [hecho, hsage]
  exact (if_neg Bool.false_ne_true).trans (if_neg hnofull)

/-- The id that CTX_OPEN names, or the lowest free one. -/
def State.openId (s : State) (f : OpenFields) : Nat := if f.id = 0xFFFF then s.freeId else f.id

/-- What CTX_OPEN attaches, with its context entered. -/
def State.openAttached (s : State) (f : OpenFields) : Nat × State :=
  ((s.openWake (s.openCtx (s.openId f) f).home f).setCtx (s.openId f) (s.openCtx (s.openId f) f)).openAttach (s.openId f) f

/-- The state `u`, with all attached, and the context of CTX_OPEN entered with its free TX start values and its line bound. -/
def State.openDone (s u : State) (f : OpenFields) : State :=
  let c := s.openId f
  ((((if f.line = 0xFFFF then u else u.bindLine f.line).drawn.drawn.drawn.setCtx c { s.openCtx c f with
    txTs := (Config.freeValue s.draws).toNat % 2 ^ 32, txSeq := (Config.freeValue (s.draws + 1)).toNat % 2 ^ 16,
    txSsrc := (Config.freeValue (s.draws + 2)).toNat % 2 ^ 32 }).setFlow c
      { held := (s.flow_ c).held, lastCore := none }).showTx c).jnlArm c

/-- CTX_OPEN of legal fields, a free id, a line that can be bound or none, and with room for all it needs. -/
theorem State.tryOpen_ok {f : OpenFields} (htrng : s.trngHalted = false)
    (hlegal : s.openBad f (s.openCtx (s.openId f) f) = false) (hline : f.line = 0xFFFF ∨ s.bindStatus f.line f.codec = stOk)
    (hcnt : s.ctxCnt < 8192) (hfree : (s.ctx_ (s.openId f)).state = 0)
    (hload : s.overLimit 0 (s.openCtx (s.openId f) f).clu = false) (hatt : (s.openAttached f).1 = stOk) :
    s.tryOpen f = (stOk, s.openId f, s.openDone (s.openAttached f).2 f) := by
  have hbind : (if f.line = 0xFFFF then 0 else s.bindStatus f.line f.codec) = stOk :=
    ite_eq_iff'.mpr ⟨fun _ => rfl, fun h => hline.resolve_left h⟩
  unfold State.tryOpen
  extract_lets c x bs obj t att
  have hbs : bs = stOk := hbind
  have hattached : att.1 = stOk := hatt
  have hbad : s.openBad f x = false := hlegal
  rw [if_neg (ne_true_of_eq_false htrng)]
  refine (if_neg ?_).trans ((if_neg (Nat.not_le.mpr hcnt)).trans ((if_neg ?_).trans ((if_neg ?_).trans (if_neg ?_))))
  · rw [hbad, hbs, hattached]
    decide
  · exact not_or_intro (not_not_intro hfree) (by rw [hbs]; decide)
  · exact not_not_intro hbs
  · exact not_or_intro (not_not_intro hattached) (ne_true_of_eq_false hload)

theorem State.cmdOpen_ok {f : OpenFields} (h : s.tryOpen f = (stOk, c, t)) : s.cmdOpen r f = t.respond r 0x01 stOk [c] := by
  rw [State.cmdOpen, h]

/-! ### CTX_MODIFY (R129, R144) -/

/-- A latch value that is left out, or is at most 7 and not of the reserved mode 3, is not refused. -/
theorem any_badLatch_eq_false {o : Option Nat} (h : ∀ l, o = some l → l ≤ 7 ∧ l % 4 ≠ 3) :
    o.any (fun l => decide (7 < l) || l % 4 == 3) = false := by
  refine (Option.any_eq_false _ o).mpr fun l hl => ?_
  obtain ⟨hle, hmode⟩ := h l hl
  exact Bool.or_eq_false_iff.mpr ⟨decide_eq_false (Nat.not_lt.mpr hle), beq_false_of_ne hmode⟩

/-- The context with the changes of CTX_MODIFY held: those of the playout instant, of the phases and of the ring. -/
def State.modified (s : State) (x : Ctx) (f : ModifyFields) : Ctx :=
  let v := x.modShape f
  { x with
    clu := s.charge v.codec v.rxpt v.txpt x.line.isSome
    mod := { codec := f.codec.orElse (fun _ => x.mod.codec), minLead := f.minLead.orElse (fun _ => x.mod.minLead)
             maxLead := f.maxLead.orElse (fun _ => x.mod.maxLead), data := f.data.orElse (fun _ => x.mod.data)
             evtMode := f.evtMode.orElse (fun _ => x.mod.evtMode), latch := f.latch.orElse (fun _ => x.mod.latch) }
    phPend := if (f.pkph.isSome || f.txph.isSome) = true then some (v.pkph, v.txph) else x.phPend
    ringPend := if (f.nslot.isSome || f.rxpt.isSome) = true then some (v.nslot, v.rxpt) else x.ringPend }

theorem State.cmdModify_ok {f : ModifyFields} (hopen : (s.ctx_ c).state = 1)
    (hshape : s.shapeBad ((s.ctx_ c).modShape f) = false)
    (hrate : f.codec.any (fun k => k != 0 && (s.ctx_ c).line.any (fun l => s.codecWide k != s.wideLine l)) = false)
    (hevt : ∀ e, f.evtMode = some e → e ≤ 7) (hlatch : ∀ l, f.latch = some l → l ≤ 7 ∧ l % 4 ≠ 3)
    (hload : s.overLimit (s.ctx_ c).clu (s.modified (s.ctx_ c) f).clu = false) :
    let t := s.setCtx c (s.modified (s.ctx_ c) f)
    s.cmdModify r c f = State.respond
      (if f.flush = true then (t.ringClear c).discard c (t.validSlots c).length else t) r 0x02 stOk [c] := by
  refine (if_neg (not_not_intro hopen)).trans ((if_neg ?_).trans (if_neg (ne_true_of_eq_false hload)))
  rw [hshape, hrate, any_above_eq_false hevt, any_badLatch_eq_false hlatch]
  decide

/-! ### CTX_CLOSE, CTX_QUERY and CTX_STATS (R22, R126, R129) -/

theorem State.cmdClose_open (hopen : (s.ctx_ c).state = 1) :
    s.cmdClose r c = (s.endCtx c 2).respond r 0x03 stOk [c] := if_neg (not_not_intro hopen)

theorem State.cmdQuery_used (hused : (s.ctx_ c).state ≠ 0) : s.cmdQuery r c = s.respond r 0x04 stOk ([c] ++ s.ctxEntry c ++
    [(s.ctx_ c).ppos, (s.ctx_ c).b, (s.ctx_ c).cnt.discard, (s.ctx_ c).cnt.late, (s.ctx_ c).cnt.early, (s.ctx_ c).cnt.dup,
      (s.ctx_ c).cnt.rx]) := if_neg hused

theorem State.cmdStats_used {clear : Bool} (hused : (s.ctx_ c).state ≠ 0) :
    let k := (s.ctx_ c).cnt
    let lost : Int := match k.base with | some b => (k.extSeq : Int) + 1 - b - k.pkts | none => 0
    s.cmdStats r c clear = State.respond (if clear = true then s.setCtx c { s.ctx_ c with cnt := { k with
        pkts := 0, octets := 0, base := none, extSeq := 0, jit := 0, txPkts := 0, txOctets := 0, lastTs := 0, lastTime := 0 } }
      else s) r 0x0B stOk [c, k.pkts, k.octets, k.extSeq, unsigned 32 lost, k.jit / 16, k.txPkts, k.txOctets, k.lastTs,
      k.lastTime % 2 ^ 32, k.lastTime / 2 ^ 32] := if_neg hused

/-! ### CTX_BIND_LINE and CTX_UNBIND_LINE (R129) -/

/-- A line of the home cluster that can be bound is bound to a context that has none and no partner. -/
theorem State.cmdBind_ok (hopen : (s.ctx_ c).state = 1) (hline : (s.ctx_ c).line = none) (hmate : (s.ctx_ c).mate = none)
    (hbind : s.bindStatus i (s.ctx_ c).nextCodec = stOk) (hhome : i / 128 = (s.ctx_ c).home)
    (hload : s.overLimit (s.ctx_ c).clu
      (s.charge (s.ctx_ c).nextCodec (s.ctx_ c).nextRxpt (s.ctx_ c).txpt true) = false) :
    let x := s.ctx_ c
    let u := (s.wake (0x60000 + x.home * 0x1000)).bindLine i
    s.cmdBind r c i = (u.setCtx c { x with
      line := some i, bindDue := some true, clu := s.charge x.nextCodec x.nextRxpt x.txpt true
      wide := x.nextCodec == 0 && u.wideLine i }).respond r 0x05 stOk [c] := by
  refine (if_neg ?_).trans ((if_neg ?_).trans ((if_neg ?_).trans (if_neg (ne_true_of_eq_false hload))))
  · rw [hbind]
    exact not_or_intro (not_not_intro hopen) (by decide)
  · rw [hline, hmate, hbind]
    decide
  · exact not_or_intro (not_not_intro hbind) (not_not_intro hhome)

theorem State.cmdUnbind_ok (hopen : (s.ctx_ c).state = 1) (hline : (s.ctx_ c).line = some i)
    (hhairpin : (s.ctx_ c).hairpin = false) (hjoin : (s.ctx_ c).joinDue.any Prod.snd = false) :
    s.cmdUnbind r c = (s.setCtx c { s.ctx_ c with bindDue := some false }).respond r 0x06 stOk [c] := by
  refine (if_neg ?_).trans (if_neg ?_)
  · rw [hline]
    exact not_or_intro (not_not_intro hopen) Bool.false_ne_true
  · rw [hhairpin, hjoin]
    decide

/-! ### CTX_JOIN and CTX_SPLIT (R134) -/

/-- Two open contexts without partners join where both are packet contexts (mode 0) or both are line contexts (mode 1). -/
theorem State.cmdJoin_ok (hx : s.ctx_ c = x) (hy : s.ctx_ p = y) (hne : c ≠ p) (hxopen : x.state = 1) (hyopen : y.state = 1)
    (hxmate : x.mate = none) (hymate : y.mate = none)
    (hfits : mode = 0 ∧ x.line = none ∧ y.line = none ∧ x.net = true ∧ y.net = true ∨
      mode = 1 ∧ x.line ≠ none ∧ y.line ≠ none ∧ x.net = false ∧ y.net = false) :
    s.cmdJoin r c p mode = ((s.setCtx c { x with joinDue := some (p, mode == 1) }).setCtx p
      { y with joinDue := some (c, mode == 1) }).respond r 0x07 stOk [c] := by
  subst hx hy
  unfold State.cmdJoin
  extract_lets x y fits
  have hfit : fits = true := by
    obtain ⟨rfl, hxl, hyl, hxn, hyn⟩ | ⟨rfl, hxl, hyl, hxn, hyn⟩ := hfits
    · simp only [fits, x, y, hxl, hyl, hxn, hyn, Option.isNone_none, Bool.and_self]
    · simp only [fits, x, y, Option.isSome_iff_ne_none.mpr hxl, Option.isSome_iff_ne_none.mpr hyl, hxn, hyn, Bool.not_false,
        Bool.and_self]
  refine (if_neg ?_).trans ((if_neg ?_).trans (if_neg ?_))
  · exact not_or_intro (not_not_intro hxopen) (not_not_intro hyopen)
  · rw [hxmate, hymate]
    decide
  · rw [hfit]
    exact not_or_intro hne (by decide)

/-- The split of a context is marked; one marked before keeps the mark of its loss. -/
def Ctx.splitting (x : Ctx) : Ctx := { x with splitDue := some (x.splitDue == some true) }

theorem State.cmdSplit_ok (hmate : (s.ctx_ c).mate = some p) (hopen : (s.ctx_ c).state = 1) :
    let u := s.setCtx c (s.ctx_ c).splitting
    s.cmdSplit r c =
      State.respond (if (u.ctx_ p).mate = some c then u.setCtx p (u.ctx_ p).splitting else u) r 0x08 stOk [c] := by
  unfold State.cmdSplit
  extract_lets x
  rw [hmate]
  exact if_neg (not_not_intro hopen)

/-! ### CTX_SET_TEMPLATE and CTX_SEND_EVENT (R140, R145, R247) -/

/-- The template of CTX_SET_TEMPLATE is stored and shown, and the entries take its keys. -/
def State.templated (s : State) (c : Nat) (f : TemplateFields) : State :=
  ((s.setCtx c { s.ctx_ c with
    template := some { mac := f.mac, dstMac := f.dstMac, srcMac := f.srcMac, tags := f.tags, v6 := f.v6,
                       srcAddr := f.srcAddr, dstAddr := f.dstAddr, dscp := f.dscp, ttl := f.ttl, flow := f.flow,
                       srcPort := f.srcPort, dstPort := f.dstPort, ssrc := f.ssrc, txTs := f.txTs, seq := f.seq }
    txTs := f.txTs.getD (s.ctx_ c).txTs, txSeq := f.seq.getD (s.ctx_ c).txSeq }).showTx c).entriesKey c f.v6 f.srcAddr
      f.srcPort f.rtcpMux

/-- A legal template without receive keys, or with keys that the engine can install. -/
theorem State.cmdTemplate_ok {f : TemplateFields} (hopen : (s.ctx_ c).state = 1) (hnet : (s.ctx_ c).net = true)
    (hlegal : s.templateBad c f = false)
    (hkey : f.rxKey = none ∨ f.fault = false ∧ s.bit (Reg.CIPH_ENGINE_STAT (s.ctx_ c).home) 31 = false) :
    s.cmdTemplate r c f = State.respond (match f.rxKey with
      | some k => (s.templated c f).installKey c 0 k
      | none => s.templated c f) r 0x09 stOk [c] := by
  have hinstall : f.rxKey.isSome = true → f.fault = false ∧ s.bit (Reg.CIPH_ENGINE_STAT (s.ctx_ c).home) 31 = false :=
    fun hsome => hkey.resolve_left (Option.isSome_iff_ne_none.mp hsome)
  have hlocked : ¬(f.rxKey.isSome = true ∧ s.bit (Reg.CIPH_ENGINE_STAT (s.ctx_ c).home) 31 = true) :=
    fun ⟨hsome, hbit⟩ => ne_true_of_eq_false (hinstall hsome).2 hbit
  have hfault : ¬(f.rxKey.isSome = true ∧ f.fault = true) :=
    fun ⟨hsome, hf⟩ => ne_true_of_eq_false (hinstall hsome).1 hf
  refine (if_neg ?_).trans ((if_neg (ne_true_of_eq_false hlegal)).trans ((if_neg hlocked).trans ((if_neg hfault).trans ?_)))
  · rw [hnet]
    exact not_or_intro (not_not_intro hopen) (by decide)
  · cases f.rxKey <;> rfl

theorem State.cmdSendEvent_ok (hopen : (s.ctx_ c).state = 1) (hnet : (s.ctx_ c).net = true) (hevt : (s.ctx_ c).evPt ≠ 0)
    (hidle : (s.ctx_ c).sending = none) (hcode : code ≤ 255) (hvol : vol ≤ 63) (hdur : dur ≤ 65535) :
    s.cmdSendEvent r c code vol dur = (s.setCtx c { s.ctx_ c with
      sending := some (code, vol, dur), sentEnds := 0 }).respond r 0x0A stOk [c] := by
  refine (if_neg ?_).trans ((if_neg ?_).trans (if_neg (by omega)))
  · rw [hnet]
    exact not_or_intro (not_not_intro hopen) (not_or_intro (by decide) hevt)
  · rw [hidle]
    decide

/-- Settles O12, row by row: a due command acts on the state begun, and its operands pass the tests of its rule. -/
theorem contextCommandsCompleteForOpenContexts : Obligations.ContextCommandsCompleteForOpenContexts := by
  refine ⟨fun s r f hdue htrng hlegal hline hcnt hfree hload hatt => ?_, fun t c f => State.openAttach_plain,
    fun s r c f hdue hopen hshape hrate hevt hlatch hload => ?_, fun s r c hdue hopen => ?_, fun s r c hdue hused => ?_,
    fun s r c clear hdue hused => ?_, fun s r c i hdue hopen hline hmate hbind hhome hload => ?_,
    fun s r c i hdue hopen hline hhairpin hjoin => ?_,
    fun s r c p mode x y hdue hx hy hne hxopen hyopen hxmate hymate hfits => ?_, fun s r c p hdue hmate hopen => ?_,
    fun s r c f hdue hopen hnet hlegal hkey => ?_,
    fun s r c code vol dur hdue hopen hnet hevt hidle hcode hvol hdur => ?_⟩
  all_goals refine congrArg Host.Outcome.next ((carryOut_due hdue).trans ?_)
  · exact State.cmdOpen_ok (State.tryOpen_ok (s := s.begun r 0x01) htrng hlegal hline hcnt hfree hload hatt)
  · exact State.cmdModify_ok (s := s.begun r 0x02) hopen hshape hrate hevt hlatch hload
  · exact State.cmdClose_open (s := s.begun r 0x03) hopen
  · exact State.cmdQuery_used (s := s.begun r 0x04) hused
  · exact State.cmdStats_used (s := s.begun r 0x0B) hused
  · exact State.cmdBind_ok (s := s.begun r 0x05) hopen hline hmate hbind hhome hload
  · exact State.cmdUnbind_ok (s := s.begun r 0x06) hopen hline hhairpin hjoin
  · exact State.cmdJoin_ok (s := s.begun r 0x07) hx hy hne hxopen hyopen hxmate hymate hfits
  · exact State.cmdSplit_ok (s := s.begun r 0x08) hmate hopen
  · exact State.cmdTemplate_ok (s := s.begun r 0x09) hopen hnet hlegal hkey
  · exact State.cmdSendEvent_ok (s := s.begun r 0x0A) hopen hnet hevt hidle hcode hvol hdur

/-! ### Received packets (R137, R140, R143) -/

/-- The state without the oldest packet that waits for context `c`. -/
def State.inboxPop (s : State) (c : Nat) : State :=
  { s with jbe := { s.jbe with inbox := s.jbe.inbox.eraseP (fun k => k.ctx == c) } }

theorem exec_rxPacketJudge (hk : s.jbe.inbox.find? (fun k => k.ctx == c) = some k) :
    exec (.rxPacketJudge c) s = .next ((s.inboxPop c).judge k) := by
  refine congrArg Host.Outcome.next ?_
  rw [State.judgeOne, hk]
  rfl

theorem State.judge_closed (hclosed : (s.ctx_ k.ctx).state ≠ 1) : s.judge k = s.poolFree k.buf := if_pos hclosed

theorem State.judge_fax (hopen : (s.ctx_ k.ctx).state = 1) (hfax : (s.ctx_ k.ctx).codec = 9) :
    s.judge k = s.post ⟨3, k.ctx, s.now % 2 ^ 32, s.poolAddr k.buf % 2 ^ 32,
      k.payload.length * 2 ^ 16 + k.arrival % 2 ^ 16⟩ .keep :=
  (if_neg (not_not_intro hopen)).trans (if_pos hfax)

theorem State.judge_rtp (hopen : (s.ctx_ k.ctx).state = 1) (hrtp : (s.ctx_ k.ctx).codec ≠ 9) :
    let x := s.ctx_ k.ctx
    let u := ((s.poolFree k.buf).setCtx k.ctx (x.received k)).sourceSeen k.ctx k
    s.judge k = if x.evPt ≠ 0 ∧ k.pt = x.evPt then u.judgeEvent k.ctx k else u.judgeVoice k.ctx k :=
  (if_neg (not_not_intro hopen)).trans (if_neg hrtp)

/-! ### Leads (R137, R138) -/

/-- The lead of a packet: from the context's position to the slot of its instant, in ticks. -/
def State.leadOf (s : State) (x : Ctx) (k : RtpPacket) : Int :=
  ((x.pos : Int) + signed 32 (k.ts + 2 ^ 32 - x.ppos)) / (s.pts x : Int) * s.pts x - x.pos

/-- A packet whose instant is past is late. -/
theorem State.judgePlaced_late (hrun : (s.ctx_ c).run < s.fld Reg.JBE_LATCH_CFG 8 8) (hlate : s.leadOf (s.ctx_ c) k < 0) :
    let x := s.ctx_ c
    s.judgePlaced c k cn = (s.setCtx c { x with
      run := x.run + 1, winLate := true, cnt := { x.cnt with late := x.cnt.late + 1 } }).jbeCount Reg.JBE_LATE_CNT 1 := by
  have hdec : decide (s.leadOf (s.ctx_ c) k < 0) = true := decide_eq_true hlate
  exact (if_pos (Bool.or_eq_true_iff.mpr (.inl hdec))).trans ((if_neg (Nat.not_le.mpr hrun)).trans (if_pos hdec))

/-- A packet beyond the ring is early. -/
theorem State.judgePlaced_early (hrun : (s.ctx_ c).run < s.fld Reg.JBE_LATCH_CFG 8 8) (hlead : 0 ≤ s.leadOf (s.ctx_ c) k)
    (hbeyond : (((s.ctx_ c).nslot - 1) * s.pts (s.ctx_ c) : Nat) ≤ s.leadOf (s.ctx_ c) k) :
    let x := s.ctx_ c
    s.judgePlaced c k cn = (s.setCtx c { x with
      run := x.run + 1, cnt := { x.cnt with early := x.cnt.early + 1 } }).jbeCount Reg.JBE_EARLY_CNT 1 := by
  have hdec : decide (s.leadOf (s.ctx_ c) k < 0) = false := decide_eq_false (Int.not_lt.mpr hlead)
  exact (if_pos (Bool.or_eq_true_iff.mpr (.inr (decide_eq_true hbeyond)))).trans
    ((if_neg (Nat.not_le.mpr hrun)).trans (if_neg (ne_true_of_eq_false hdec)))

/-! ### Windows, events and rings (R139, R140, R144) -/

theorem State.adaptEnd_due (hopen : (s.ctx_ c).state = 1)
    (hdue : (s.ctx_ c).winStart + 80 * s.fld Reg.JBE_ADAPT_CFG 22 10 ≤ s.now) :
    let x := s.ctx_ c
    let y := { x with winStart := x.winStart + 80 * s.fld Reg.JBE_ADAPT_CFG 22 10, leadMin := none, winLate := false, winCount := 0 }
    let t := max (8 * x.minLead) (min (8 * x.maxLead) (ceilDiv (s.fld Reg.JBE_ADAPT_CFG 16 6 * x.cnt.jit) 128))
    let lmin : Int := if x.winLate = true then -1 else x.leadMin.getD 0
    let adj := if x.winCount = 0 then x.adj
      else if (t : Int) + s.fld Reg.JBE_ADAPT_CFG 8 8 < lmin ∨ lmin < t then (lmin - t) * (s.codecClock x.codec : Int) / 8000
      else 0
    s.adaptEnd c = s.setCtx c (if x.data = true then y else { y with target := t, adj := adj }) := by
  intro x y t lmin adj
  refine (if_neg (not_or_intro (not_not_intro hopen) (Nat.not_lt.mpr hdue))).trans ?_
  exact (apply_ite (s.setCtx c) (x.data = true) y { y with target := t, adj := adj }).symm

theorem State.rxEventEnd_active (he : (s.ctx_ c).event = some e) (hactive : e.active = true) :
    s.rxEventEnd c = ((s.setCtx c { s.ctx_ c with event := some { e with active := false } }).showEvent c).rxEventPost c e true := by
  rw [State.rxEventEnd, he]
  exact if_pos hactive

theorem exec_rxEventTimeout (he : (s.ctx_ c).event = some e) (hdue : e.last + 1600 ≤ s.now) :
    exec (.rxEventTimeout c) s = .next (s.rxEventEnd c) := by
  refine congrArg Host.Outcome.next (if_pos ?_)
  rw [he]
  exact decide_eq_true hdue

theorem State.ringApply_empty (hpend : (s.ctx_ c).ringPend = some (n, p)) (hopen : (s.ctx_ c).state = 1)
    (hbound : s.now % 40 = (s.ctx_ c).bph) (hempty : s.validSlots c = []) :
    s.ringApply c = (s.setCtx c { s.ctx_ c with
      nslot := n, rxpt := p, ringPend := none, play := false, b := 0, pos := 0, lostN := none, cn := false }).event
        (s.ctx_ c).evq 0x85 [c, n, p] := by
  rw [State.ringApply]
  dsimp only
  rw [hpend]
  exact if_pos ⟨hopen, hbound, hempty⟩

/-! ### Transmit items (R14, R279) -/

/-- The queue that PRE takes the transmit items of a cluster from. -/
def State.txQ (s : State) (cl : Nat) : Nat := s.fld Reg.PRE_PRE_CFG 16 9 + cl

/-- The item of words `w`, in pool buffer `b`, staged for its slot. -/
def State.txStaged (s : State) (q b : Nat) (w : List Word) : State :=
  let u := s.popItem q
  let fc := s.frontFrame q
  let c := (w.getD 0 0).toNat % 2 ^ 13
  let x := u.ctx_ c
  { u.poolTake b with net := { (u.poolTake b).net with items := (u.poolTake b).net.items ++
    [{ ctx := c, buf := b, marker := bitOf (w.getD 0 0).toNat 31, ptsel := fieldOf (w.getD 0 0).toNat 29 2,
       tsOfs := (w.getD 1 0).toNat, payload := slice (wordsToBytes ((w.drop 3).map (·.toNat))) 0 ((w.getD 2 0).toNat % 2 ^ 16),
       slot := x.slotOf fc, late := decide (x.slotOf fc ≤ fc) || decide (x.slotOf fc ≤ u.now) }] } }

/-- An item that can never be sent is dropped, any other is staged. -/
theorem State.txTake_item (hfree : s.poolPick = some b) (hitem : s.frontItem (s.txQ cl) = some (h, w, o)) :
    let u := s.popItem (s.txQ cl)
    let n := (w.getD 2 0).toNat % 2 ^ 16
    let x := u.ctx_ ((w.getD 0 0).toNat % 2 ^ 13)
    s.txTake cl = if x.state ≠ 1 ∨ x.net = false ∨ (x.codec ≠ 9 ∧ fieldOf (w.getD 0 0).toNat 29 2 = 3) ∨ n = 0 ∨ 480 < n then
      u.bump Reg.JBE_TX_DROP else s.txStaged (s.txQ cl) b w := by
  intro u n x
  rw [State.txQ] at hitem
  rw [State.txTake]
  dsimp only
  rw [hitem, hfree]
  exact if_congr (or_congr_right (or_congr_left (Bool.not_eq_true' _).to_iff)) rfl rfl

/-- Settles O13, row by row: the packet, window, event, ring change or item that the row names is found, and passes the tests of
its rule. -/
theorem jitterBufferEventsAct : Obligations.JitterBufferEventsAct := by
  refine ⟨fun s c k hk hclosed => (exec_rxPacketJudge hk).trans (congrArg _ (State.judge_closed hclosed)),
    fun s c k hk hopen hfax => (exec_rxPacketJudge hk).trans (congrArg _ (State.judge_fax hopen hfax)),
    fun s c k hk hopen hrtp => (exec_rxPacketJudge hk).trans (congrArg _ (State.judge_rtp hopen hrtp)),
    fun s c k cn hrun => ⟨State.judgePlaced_late hrun, State.judgePlaced_early hrun⟩,
    fun s c hopen hdue => congrArg Host.Outcome.next (State.adaptEnd_due hopen hdue),
    fun s c e he hdue hactive => (exec_rxEventTimeout he hdue).trans (congrArg _ (State.rxEventEnd_active he hactive)),
    fun s c n p hpend hopen hbound hempty => congrArg Host.Outcome.next (State.ringApply_empty hpend hopen hbound hempty),
    fun s cl b h w o hfree hitem => congrArg Host.Outcome.next (State.txTake_item hfree hitem)⟩

end Sys2Proof.Machine
end

section
/-! PROOFS of the family 08_thyme_journal.md: submits, blocks, slots, enable, disable and reset of Thyme (O16), and the
journal commands with the coder job (O17). -/

namespace Sys2Proof.Machine
open Sys2Proof

variable {s t : State} {w : Win} {r : CmdRef} {v : Word} {e : Epoch} {x : JSlot} {j : JJob}
  {c g i k blk bph mask first count dest len seq : Nat} {last : Option Nat} {decode : Bool}

/-! ### Submits (R150) -/

theorem State.jnlSubmit_eq : s.jnlSubmit g i =
    if s.thyme.subs.contains (g / 8, i) = false ∧ s.jsGood (s.jsEntry (g / 8) i) = true then
      { s with thyme := { s.thyme with subs := s.thyme.subs ++ [(g / 8, i)] } }
    else (s.bump Reg.THYME_SUBMIT_OVR).irq 0x98000 3 := by
  unfold State.jnlSubmit
  dsimp only
  cases s.thyme.subs.contains (g / 8, i) <;> cases s.jsGood (s.jsEntry (g / 8) i) <;> rfl

/-! ### Blocks become staged slots (R152, R157) -/

/-- What coding a block may leave as it is, but for the slots it stages: slots, copies, time and contexts. -/
def State.staging (s : State) : List JSlot × List JCopy × TimeSt × JbeSt :=
  (s.thyme.slots, s.thyme.copies, s.time, s.jbe)

/-- The slot is one of stream `k` of context `c` for block `blk`, with END as given. -/
def JSlot.Holds (x : JSlot) (c k blk bph : Nat) (end_ : Bool) : Prop :=
  x.ctx = c ∧ x.stream = k ∧ x.block = blk ∧ x.endFrame = 160 * blk + bph + 160 ∧ bitOf (x.bytes.getD 6 0) 4 = end_

/-- END is bit 4 of byte 6 of a slot: the flags below it do not carry into it. -/
theorem slotHeader_end {reduced exact enc kpar end_ fill gap wide : Bool} {shift table crc : Nat} {x1 x2 : Int}
    {body : List Nat} :
    bitOf ((slotHeader seq reduced exact enc kpar end_ fill gap wide shift table x1 x2 crc ++ body).getD 6 0) 4 = end_ := by
  have hb2n (b : Bool) : b2n b ≤ 1 := by cases b <;> decide
  have hreduced := hb2n reduced
  have hexact := hb2n exact
  have henc := hb2n enc
  have hkpar := hb2n kpar
  have hend := hb2n end_
  have hbit : (b2n reduced + 2 * b2n exact + 4 * b2n enc + 8 * b2n kpar + 16 * b2n end_ + 32 * b2n fill + 64 * b2n gap +
      128 * b2n wide) / 2 ^ 4 % 2 = b2n end_ := by omega
  refine (congrArg (· == 1) hbit).trans ?_
  cases end_ <;> rfl

theorem State.stage_staging_congr (h : s.staging = t.staging) : (s.stage x).staging = (t.stage x).staging := by
  simp only [State.staging, Prod.mk.injEq] at h
  obtain ⟨hslots, hcopies, htime, hjbe⟩ := h
  simp only [State.staging, State.stage, hslots, hcopies, htime, hjbe]

theorem State.staging_ite {p : Prop} [Decidable p] (hs : s.staging = t.staging) {u : State} (hu : u.staging = t.staging) :
    (if p then s else u).staging = t.staging := by
  split
  · exact hs
  · exact hu

theorem State.setEpoch_staging {o : Option Epoch} : (s.setEpoch c o).staging = s.staging := by
  unfold State.setEpoch
  split <;> rfl

theorem State.showStream_staging : (s.showStream c k blk e).staging = s.staging := rfl

/-- A rotation of the key on the way stages nothing. -/
theorem State.takeSeq_staging : s.takeSeq.1.staging = s.staging := by
  simp only [State.takeSeq, State.staging]
  split <;> rfl

/-- A gap slot carries END in its header too. -/
theorem State.gapSlot_staging {end_ fill : Bool} : ∃ x : JSlot, x.Holds c k blk e.bph end_ ∧
    (s.gapSlot c k blk e seq end_ fill).staging = (s.stage x).staging := by
  refine ⟨_, ⟨rfl, rfl, rfl, rfl, ?_⟩, State.stage_staging_congr (State.staging_ite rfl rfl)⟩
  exact (congrArg (fun l : List Nat => bitOf (l.getD 6 0) 4) (List.append_nil _)).symm.trans slotHeader_end

/-- Coding a block of a stream stages one slot, a gap slot where the staging buffer is full. -/
theorem State.codeStream_staging {end_ : Bool} : ∃ x : JSlot, x.Holds c k blk e.bph end_ ∧
    (s.codeStream c k blk e end_).1.staging = (s.stage x).staging := by
  unfold State.codeStream
  extract_lets y subs fill xs z t p u r g u' body body'
  have ht : t.staging = s.staging := State.staging_ite rfl rfl
  have hu : u.staging = s.staging := State.takeSeq_staging.trans ht
  split
  · obtain ⟨x, hx, hstaged⟩ := State.gapSlot_staging (s := u) (c := c) (k := k) (blk := blk) (e := e) (seq := p.2)
      (end_ := end_) (fill := fill)
    exact ⟨x, hx, hstaged.trans (State.stage_staging_congr hu)⟩
  · have hu' : u'.staging = s.staging := State.staging_ite hu hu
    exact ⟨_, ⟨rfl, rfl, rfl, rfl, slotHeader_end⟩, State.stage_staging_congr hu'⟩

/-- Coding the next block of an epoch stages one slot of each stream. -/
theorem State.codeBlock_staging {end_ : Bool} (he : s.epoch c = some e) : ∃ x y : JSlot,
    x.Holds c 0 e.next e.bph end_ ∧ y.Holds c 1 e.next e.bph end_ ∧
    (s.codeBlock c end_).staging = ((s.stage x).stage y).staging := by
  obtain ⟨x, hx, ha⟩ := State.codeStream_staging (s := s) (c := c) (k := 0) (blk := e.next) (e := e) (end_ := end_)
  obtain ⟨y, hy, hb⟩ := State.codeStream_staging (s := (s.codeStream c 0 e.next e end_).1) (c := c) (k := 1) (blk := e.next)
    (e := { e with gapRun := e.gapRun || (s.codeStream c 0 e.next e end_).2.2 }) (end_ := end_)
  refine ⟨x, y, hx, hy, ?_⟩
  simp only [State.codeBlock, he, State.showStream_staging, State.setEpoch_staging]
  exact hb.trans (State.stage_staging_congr ha)

theorem exec_thymeBlockCode_ready (hready : s.blockReady c = true) :
    exec (.thymeBlockCode c) s = .next (s.codeBlock c (s.lastBlock c)) := congrArg Host.Outcome.next (if_pos hready)

/-! ### Slots reach far memory (R152, R156) -/

theorem State.setEpoch_jdirBase {o : Option Epoch} : (s.setEpoch c o).jdirBase = s.jdirBase := by
  unfold State.setEpoch
  split <;> rfl

theorem State.wrDev_bump_now {a b : Nat} {l : List Nat} : ((s.wrDev a l).bump b).now = s.now :=
  congrArg TimeSt.ftime State.wrDev_time

/-- The slot lies in far memory and is counted, with the largest delay kept. -/
def State.slotArrived (s : State) (x : JSlot) : State :=
  ((s.wrDev x.addr x.bytes).bump Reg.THYME_BLK_CNT).maxN Reg.THYME_LAT_MAX (min 1023 (s.now - x.endFrame))

theorem State.putSlot_eq : s.putSlot x =
    let u := s.slotArrived x
    match u.epoch x.ctx with
    | none => u
    | some e =>
      if x.stream = 0 ∨ x.block < e.ep then u
      else
        let e := { e with last := some x.block, kgenW := x.kgen, since := e.since + 1 }
        (if e.since < 50 then u.setEpoch x.ctx (some e)
          else (u.setEpoch x.ctx (some { e with since := 0 })).wrDev (u.jdirBase + x.ctx * 64) (e.record 1 0).bytes).copyOn
            x.ctx := by
  unfold State.putSlot
  dsimp only
  rw [State.wrDev_bump_now, ← State.slotArrived]
  cases (s.slotArrived x).epoch x.ctx with
  | none => rfl
  | some e =>
    refine if_congr Iff.rfl rfl (congrArg (State.copyOn · x.ctx) (if_congr Iff.rfl rfl ?_))
    rw [State.writeDir, State.setEpoch_jdirBase]

theorem exec_thymeSlotWrite (hx : s.thyme.slots.find? (fun x => !x.plain) = some x) : exec .thymeSlotWrite s =
    .next (State.putSlot { s with thyme := { s.thyme with slots := s.thyme.slots.erase x } } x) := by
  show execThymeSlotWrite s = _
  rw [execThymeSlotWrite, hx]

/-! ### Enable, disable and reset (R155, R162, R170, R171) -/

/-- Both depths of a value of THYME_CFG are in range. -/
def DepthsLegal (v : Word) : Prop :=
  (1 ≤ fieldOf v.toNat 12 9 ∧ fieldOf v.toNat 12 9 ≤ 300) ∧ 1 ≤ fieldOf v.toNat 0 9 ∧ fieldOf v.toNat 0 9 ≤ 300

/-- A legal value of THYME_CFG is stored, and a change of EN acts; EN = 1 asks for good regions, and a change to it for a
TRNG that runs and for far memory. -/
theorem State.writeThymeCfg_legal (hlegal : DepthsLegal v)
    (hregions : bitOf v.toNat 31 = true → s.regionsOk = true)
    (hstart : bitOf v.toNat 31 = true → s.thymeEn = false → s.trngHalted = false ∧
      s.farReady s.jnlBase (8192 * s.creg) = true ∧ s.farReady s.jdirBase 0x80000 = true) :
    let t := s.setReg Reg.THYME_THYME_CFG (v &&& 0xFF1FF1FF#32)
    s.writeThymeCfg v = if (bitOf v.toNat 31 && !s.thymeEn) = true then t.thymeStart
      else if (s.thymeEn && !bitOf v.toNat 31) = true then t.thymeHalt else t := by
  obtain ⟨⟨hdlo, hdhi⟩, hmlo, hmhi⟩ := hlegal
  unfold State.writeThymeCfg
  dsimp only
  rw [if_neg (by omega)]
  cases hen : bitOf v.toNat 31 with
  | false => rfl
  | true =>
    rw [hregions hen]
    cases hwas : s.thymeEn with
    | true => rfl
    | false =>
      obtain ⟨htrng, hjnl, hdir⟩ := hstart hen hwas
      rw [htrng, hjnl, hdir]
      rfl

theorem bitOf_en_set : bitOf (v ||| 0x80000000#32).toNat 31 = true := by
  rw [bitOf_eq_testBit, BitVec.testBit_toNat, BitVec.getLsbD_or]
  exact Bool.or_true _

theorem bitOf_en_clear : bitOf (v &&& 0x7FFFFFFF#32).toNat 31 = false := by
  rw [bitOf_eq_testBit, BitVec.testBit_toNat, BitVec.getLsbD_and]
  exact Bool.and_false _

section
variable (hopen : s.opens w Reg.THYME_THYME_CFG true = true)
include hopen

/-- A write that keeps EN set only stores the configuration. -/
theorem exec_thymeEnable_again (hlegal : DepthsLegal (v ||| 0x80000000#32)) (hregions : s.regionsOk = true)
    (hen : s.thymeEn = true) :
    exec (.thymeEnable w v) s =
      .next ((s.seenBy w).setReg Reg.THYME_THYME_CFG ((v ||| 0x80000000#32) &&& 0xFF1FF1FF#32)) := by
  have hwas : (s.seenBy w).thymeEn = true := hen
  refine congrArg Host.Outcome.next ((hostGuard_open hopen).trans ((State.writeThymeCfg_legal (s := s.seenBy w) hlegal
    (fun _ => hregions) (fun _ hoff => absurd hwas (ne_true_of_eq_false hoff))).trans ?_))
  rw [bitOf_en_set, hwas]
  rfl

/-- A write that sets EN starts Thyme. -/
theorem exec_thymeEnable_start (hlegal : DepthsLegal (v ||| 0x80000000#32)) (hregions : s.regionsOk = true)
    (hoff : s.thymeEn = false) (htrng : s.trngHalted = false) (hjnl : s.farReady s.jnlBase (8192 * s.creg) = true)
    (hdir : s.farReady s.jdirBase 0x80000 = true) : exec (.thymeEnable w v) s =
      .next ((s.seenBy w).setReg Reg.THYME_THYME_CFG ((v ||| 0x80000000#32) &&& 0xFF1FF1FF#32)).thymeStart := by
  have hwas : (s.seenBy w).thymeEn = false := hoff
  refine congrArg Host.Outcome.next ((hostGuard_open hopen).trans ((State.writeThymeCfg_legal (s := s.seenBy w) hlegal
    (fun _ => hregions) (fun _ _ => ⟨htrng, hjnl, hdir⟩)).trans ?_))
  rw [bitOf_en_set, hwas]
  rfl

/-- A write that clears EN halts Thyme, whatever the regions hold. -/
theorem exec_thymeDisable (hlegal : DepthsLegal (v &&& 0x7FFFFFFF#32)) (hen : s.thymeEn = true) :
    exec (.thymeDisable w v) s =
      .next ((s.seenBy w).setReg Reg.THYME_THYME_CFG ((v &&& 0x7FFFFFFF#32) &&& 0xFF1FF1FF#32)).thymeHalt := by
  have hwas : (s.seenBy w).thymeEn = true := hen
  have hset {p : Prop} (h : bitOf (v &&& 0x7FFFFFFF#32).toNat 31 = true) : p :=
    absurd h (ne_true_of_eq_false bitOf_en_clear)
  refine congrArg Host.Outcome.next ((hostGuard_open hopen).trans ((State.writeThymeCfg_legal (s := s.seenBy w) hlegal
    hset hset).trans ?_))
  rw [bitOf_en_clear, hwas]
  rfl

end

theorem exec_thymeRst (hopen : s.opens w 0x98030 true = true) : exec (.thymeRst w) s = .next (s.seenBy w).thymeRst :=
  congrArg Host.Outcome.next (hostGuard_open hopen)

/-- Settles O16, row by row: a block's slots by `codeBlock_staging`, a slot's way by `putSlot_eq`, and a write of THYME_CFG by
the change of EN that it makes. -/
theorem journalBlocksAreCodedWrittenAndKept : Obligations.JournalBlocksAreCodedWrittenAndKept := by
  refine ⟨fun s g v => congrArg Host.Outcome.next State.jnlSubmit_eq, fun s c e hready he => ?_,
    fun s x hx => (exec_thymeSlotWrite hx).trans (congrArg Host.Outcome.next State.putSlot_eq),
    fun s w v hopen hdlo hdhi hmlo hmhi hregions =>
      ⟨exec_thymeEnable_again hopen ⟨⟨hdlo, hdhi⟩, hmlo, hmhi⟩ hregions,
        exec_thymeEnable_start hopen ⟨⟨hdlo, hdhi⟩, hmlo, hmhi⟩ hregions⟩,
    fun s w v hopen hdlo hdhi hmlo hmhi => exec_thymeDisable hopen ⟨⟨hdlo, hdhi⟩, hmlo, hmhi⟩,
    fun s w => exec_thymeRst⟩
  obtain ⟨x, y, ⟨hxc, hxk, hxb, hxf, hxe⟩, ⟨hyc, hyk, hyb, hyf, hye⟩, hstaging⟩ :=
    State.codeBlock_staging (end_ := s.lastBlock c) he
  simp only [State.staging, Prod.mk.injEq] at hstaging
  obtain ⟨hslots, hcopies, htime, hjbe⟩ := hstaging
  exact ⟨_, x, y, exec_thymeBlockCode_ready hready, hslots.trans (List.append_assoc _ _ _), hxc, hxk, hxb, hxf, hyc, hyk, hyb,
    hyf, hxe, hye, hcopies, htime, hjbe⟩

/-! ### The journal commands (R164 to R166) -/

/-- The journal of context `c` under new settings: its epoch ends, goes on with another table, or begins. -/
def State.journalSet (s : State) (c : Nat) (f : JournalFields) : JCtx :=
  let j := (s.jctx c).getD { cfg := ⟨false, f.preset, f.table, f.depth, f.enc⟩ }
  let g : JCfg := ⟨f.on, f.preset, f.table, f.depth, f.enc⟩
  if f.on = false then { j with cfg := g, begin_ := false, end_ := j.epoch.isSome }
  else if j.cfg = ⟨true, f.preset, j.cfg.table, f.depth, f.enc⟩ ∧ j.epoch.all (fun e => e.wide == s.ctxWide c) = true ∧
    (j.epoch.isSome = true ∨ j.begin_ = true) then { j with cfg := g, table := some f.table }
  else { j with cfg := g, begin_ := true, end_ := false }

theorem State.thymeSet_ok {f : JournalFields} (hst : s.setStatus c f = stOk) :
    s.thymeSet r c f = (s.setJctx c (some (s.journalSet c f))).respond r 0x40 stOk [c] := by
  unfold State.thymeSet
  rw [hst]
  refine congrArg (fun t : State => t.respond r 0x40 stOk [c]) ?_
  unfold State.journalSet
  dsimp only
  rw [if_neg (not_not_intro rfl)]
  cases hon : f.on with
  | false => rfl
  | true =>
    simp only [Bool.and_eq_true, Bool.or_eq_true, decide_eq_true_eq, and_assoc, Bool.not_true, Bool.false_eq_true, if_false,
      Bool.true_eq_false, apply_ite (fun j => s.setJctx c (some j))]

/-- THYME_READ of readable blocks into near memory. -/
theorem State.thymeRead_ok (hst : s.readStatus r.win c mask first count = stOk)
    (hnear : inNear dest ((maskStreams mask).length * count * (if decode then (if (s.jrec c).wide then 640 else 320)
      else (s.jrec c).stride)) = true) :
    let l := (maskStreams mask).flatMap (fun k => (List.range count).map (fun i => s.readSlot c k (first + i) decode))
    s.thymeRead r c mask first count decode dest = (s.wrDev dest (l.flatMap (·.bytes))).respondA r 0x41
      (if l.any (·.poison) then 0x0E else if l.any (·.nokey) then 0x0D else if l.any (·.crc) then 0x0A
       else if l.any (·.reduced) then 0x0B else 0)
      [c, (l.filter (·.gap)).length, (l.filter (·.crc)).length, (l.filter (·.nokey)).length] := by
  unfold State.thymeRead
  dsimp only
  rw [hst, hnear]
  rfl

/-- The state with a THYME_COPY begun. -/
def State.copyBegun (s : State) (x : JCopy) : State :=
  State.copyOn { s with thyme := { s.thyme with copies := s.thyme.copies ++ [x] } } x.ctx

theorem State.thymeCopy_ok (hst : s.copyStatus r.win c mask first last dest len = stOk) :
    let t := (s.respondA r 0x42 stOk [c]).copyBegun
      { ctx := c, mask := mask % 4, next := first, last := last, dest := dest, len := len }
    s.thymeCopy r c mask first last dest len =
      if last.isNone = true ∧ (t.epoch c).isNone = true then
        (match t.thyme.copies.find? (fun y => y.ctx == c) with
          | some y => t.endCopy y 3
          | none => t)
      else t := by
  unfold State.thymeCopy
  rw [hst]
  exact (if_neg (not_not_intro rfl)).trans (if_congr Bool.and_eq_true_iff rfl rfl)

theorem State.thymeStop_right (hright : s.journalRight r.win = true) : s.thymeStop r c =
    match s.thyme.copies.find? (fun x => x.ctx == c) with
    | some x => (s.endCopy x 2).respond r 0x43 stOk [c]
    | none => s.respond r 0x43 stNotReady [c] := by
  unfold State.thymeStop
  rw [hright]
  rfl

theorem State.thymeStop_noRights (hnone : s.journalRight r.win = false) :
    s.thymeStop r c = (s.noRights r.win 0x43).respond r 0x43 stNoRights [c] := by
  rw [State.thymeStop, hnone]
  rfl

theorem State.thymeQuery_right (hright : s.journalRight r.win = true) : s.thymeQuery r c =
    s.respond r 0x44 stOk (c :: (List.range 16).map (fun i => leNat (slice (s.jrec c).bytes (4 * i) 4))) := by
  rw [State.thymeQuery, hright]
  rfl

theorem State.thymeQuery_noRights (hnone : s.journalRight r.win = false) :
    s.thymeQuery r c = (s.noRights r.win 0x44).respond r 0x44 stNoRights [c] := by
  rw [State.thymeQuery, hnone]
  rfl

/-- The key blob goes to the installer, for a generation whose key is held. -/
theorem State.cmdThymeKey_held {kx key : Nat} (hwin : r.win = .installer) (hkx : s.kx = some kx)
    (hkey : s.jkey g = some key) :
    s.cmdThymeKey r g = s.respondA r 0x46 0
      (g :: (List.range 14).map (fun i => leNat (slice (keyBlob kx 2 1 0 g (beBytes 16 key)) (4 * i) 4))) := by
  rw [State.cmdThymeKey, if_neg (not_not_intro hwin), hkx, hkey]

/-! ### The coder job (R167) -/

theorem State.thymeCode_ok {f : CoderFields} (hst : s.codeStatus f = stOk) :
    s.thymeCode r f = { s with thyme := { s.thyme with
      jobs := s.thyme.jobs ++ [⟨r, f.decode, f.rate == 1, f.table, f.inp, f.inLen, f.out, f.outLen, f.state, f.start⟩] } } := by
  rw [State.thymeCode, hst]
  rfl

/-- The state in which the oldest job, `j` before the jobs `l`, finishes: it has left the queue and is counted. -/
def State.jobTaken (s : State) (j : JJob) (l : List JJob) : State :=
  let t : State := { s with thyme := { s.thyme with jobs := l } }
  (if j.start then t.drawn else t).bump Reg.THYME_JOB_CNT

theorem State.jobDone_encode {l : List JJob} (hjobs : s.thyme.jobs = j :: l) (hdecode : j.decode = false) :
    let xs := (List.range (j.inLen / 2)).map (fun i => signed 16 (leNat (slice (s.rdBytes j.inp j.inLen) (2 * i) 2)))
    let x := jobEncode (if j.wide then 320 else 160) j.table j.outLen (3 * xs.length + 3) { sv := s.jobSave j } xs
    s.jobDone = (((s.jobTaken j l).wrDev j.out (bitsBytes x.out)).jobKeep j.state x.sv).respond j.r 0x45 stOk
      [noObject, x.taken, x.out.length / 8, b2n x.more] := by
  rw [State.jobDone, hjobs]
  exact if_neg (ne_true_of_eq_false hdecode)

theorem State.jobDone_decode {l : List JJob} (hjobs : s.thyme.jobs = j :: l) (hdecode : j.decode = true) :
    let v := s.jobSave j
    let bits := v.bits ++ bytesBits (s.rdBytes j.inp j.inLen)
    let p := jobDecode j.outLen (v.al + bits.length) (bits.length + 1) { sv := { v with bits := [] } } bits
    let hold := p.2.length % 32
    s.jobDone = (((s.jobTaken j l).wrDev j.out (pcmBytes p.1.pcm)).jobKeep j.state
      { p.1.sv with bits := p.2.take hold, al := (v.al + bits.length - p.2.length) % 32 }).respond j.r 0x45 stOk
      [noObject, (bits.length - (p.2.length - hold)) / 8 - v.bits.length / 8, 2 * p.1.pcm.length, b2n p.1.more] := by
  rw [State.jobDone, hjobs]
  exact if_pos hdecode

/-- Settles O17, row by row: a due command acts on the state begun, where status and rights are as before. -/
theorem journalCommandsAnswerAndCodeJobsFinish : Obligations.JournalCommandsAnswerAndCodeJobsFinish := by
  refine ⟨fun s r c f hdue hst => ?_, fun s r c mask first count dest decode hdue hst hnear => ?_,
    fun s r c mask first dest len last hdue hst => ?_, fun s r c hdue hright => ?_, fun s r c hdue hright => ?_,
    fun s r c hnone => ⟨fun hdue => ?_, fun hdue => ?_⟩, fun s r f hdue hst => ?_,
    fun s j l hjobs => ⟨fun hdecode => congrArg Host.Outcome.next (State.jobDone_encode hjobs hdecode),
      fun hdecode => congrArg Host.Outcome.next (State.jobDone_decode hjobs hdecode)⟩,
    fun s r g kx key hdue hwin hkx hkey => ?_⟩
  all_goals refine congrArg Host.Outcome.next ((carryOut_due hdue).trans ?_)
  · exact State.thymeSet_ok (s := s.begun r 0x40) hst
  · exact State.thymeRead_ok (s := s.begun r 0x41) hst hnear
  · exact State.thymeCopy_ok (s := s.begun r 0x42) hst
  · exact State.thymeStop_right (s := s.begun r 0x43) hright
  · exact State.thymeQuery_right (s := s.begun r 0x44) hright
  · exact State.thymeStop_noRights (s := s.begun r 0x43) hnone
  · exact State.thymeQuery_noRights (s := s.begun r 0x44) hnone
  · exact State.thymeCode_ok (s := s.begun r 0x45) hst
  · exact State.cmdThymeKey_held (s := s.begun r 0x46) hwin hkx hkey

end Sys2Proof.Machine
end

section
/-! PROOFS of the family 09_yathar_core.md: the words of the MAC unit (O33), the ALU (O34) and the shifter (O35). -/

namespace Sys2Proof.Machine
open Sys2Proof

variable {s t u : State} {c d : Core} {g b w key n lat macLat h2 l2 a k : Nat} {x : Int} {two sub sat fc : Bool}
  {f : Nat → Nat → AluOut} {o : AluOut}

/-! ### Issuing a word (R175) -/

/-- The word that issues next has an effect `u` that is known. -/
theorem State.issue_effect {f : Nat → Nat → State → State} (h : s.toIssue g = some (b, w, t)) (hk : wKey w = key)
    (hf : f b w t = u) : Host.Outcome.next (s.issue g key f) = (.next (s.issued u g) : Res) := by
  rw [State.issue_of_toIssue h hk, hf]

/-- The word that issues next leaves its core as `d`. -/
theorem State.issueC_effect {f : Nat → Core → Core} (h : s.toIssue g = some (b, w, t)) (hk : wKey w = key)
    (hf : f w (t.core_ g) = d) : Host.Outcome.next (s.issueC g key f) = (.next (s.issued (t.setCore g d) g) : Res) := by
  rw [State.issueC_of_toIssue h hk, State.onCore, hf]

/-! ### Signed numbers and bits -/

theorem unsigned_eq {w : Nat} : unsigned w x = (x % 2 ^ w).toNat := by
  rw [unsigned, Nat.cast_pow, Nat.cast_ofNat]

theorem unsigned_lt {w : Nat} : unsigned w x < 2 ^ w := by
  have hpos : (0 : Int) < (2 ^ w : Nat) := mod_cast Nat.two_pow_pos w
  have hlt := Int.emod_lt_of_pos x hpos
  have hnonneg := Int.emod_nonneg x hpos.ne'
  rw [unsigned]
  omega

theorem signed32_bounds : -(2 ^ 31) ≤ signed 32 a ∧ signed 32 a < 2 ^ 31 := by
  unfold signed
  dsimp only
  split <;> omega

theorem b2n_decide_mul {p : Prop} [Decidable p] : b2n (decide p) * k = if p then k else 0 := by
  by_cases h : p
  · rw [decide_eq_true h, if_pos h, b2n, if_pos rfl, Nat.one_mul]
  · rw [decide_eq_false h, if_neg h, b2n, if_neg Bool.false_ne_true, Nat.zero_mul]

/-! ### Accumulator writes (R180, R181) -/

/-- Accumulator `n` written with the 40-bit value `v`, and AV with it. -/
def Core.accWritten (c : Core) (n : Nat) (v : Int) (lat macLat : Nat) : Core :=
  ((c.put (0x08 + n) (2 ^ 32 - 1) (unsigned 40 v % 2 ^ 32) lat macLat).put (0x0C + n) 0xFF (unsigned 40 v / 2 ^ 32) lat macLat).put
    0x2E (2 ^ (8 + n)) (if v < -(2 ^ 31) ∨ 2 ^ 31 - 1 < v then 2 ^ (8 + n) else 0) lat

theorem Core.putAcc_eq : c.putAcc n x lat macLat =
    if x < -(2 ^ 39) ∨ 2 ^ 39 - 1 < x then (c.accWritten n (c.narrow x).1 lat macLat).put 0x2E 0x1000 0x1000 lat
    else c.accWritten n (c.narrow x).1 lat macLat := by
  rw [Core.putAcc, b2n_decide_mul]
  exact if_congr decide_eq_true_iff rfl rfl

/-- An exact result of at most 40 bits leaves AOS. -/
theorem Core.putAcc_fits (h : -(2 ^ 39) ≤ x ∧ x ≤ 2 ^ 39 - 1) :
    c.putAcc n x lat macLat = c.accWritten n (c.narrow x).1 lat macLat := by
  rw [Core.putAcc_eq, if_neg (by omega)]

/-- An exact result that needs more than 40 bits sets AOS. -/
theorem Core.putAcc_overflows (h : x < -(2 ^ 39) ∨ 2 ^ 39 - 1 < x) :
    c.putAcc n x lat macLat = (c.accWritten n (c.narrow x).1 lat macLat).put 0x2E 0x1000 0x1000 lat := by
  rw [Core.putAcc_eq, if_pos h]

/-! ### MAC words (R180) -/

theorem Core.macWord_mpy : c.macWord 0 w = (c.macTerms w).foldl (fun d e => d.putAcc e.1 e.2 2 1) c := by
  simp only [Core.macWord, if_true]

theorem Core.macWord_mac :
    c.macWord 1 w = (c.macTerms w).foldl (fun d e => d.putAcc e.1 (c.acc e.1 true + e.2) 2 1) c := by
  simp only [Core.macWord, one_ne_zero, if_false, if_true]

theorem Core.macWord_msu :
    c.macWord 2 w = (c.macTerms w).foldl (fun d e => d.putAcc e.1 (c.acc e.1 true - e.2) 2 1) c := by
  simp only [Core.macWord, two_ne_zero, OfNat.ofNat_ne_one, if_false]

theorem macProduct_doubled {sgn a b : Nat} : macProduct sgn true a b = 2 * macProduct sgn false a b := rfl

/-- Settles O33: a MAC word issues with its fold over the mode's terms, the six modes are the branches of `Core.macTerms`, and an
accumulator write is `Core.accWritten` with AOS for a result beyond 40 bits. -/
theorem macWordsUpdateTheirAccumulators : Obligations.MacWordsUpdateTheirAccumulators := by
  refine ⟨fun s g b w t h => ⟨fun hk => State.issueC_effect h hk Core.macWord_mpy,
      fun hk => State.issueC_effect h hk Core.macWord_mac, fun hk => State.issueC_effect h hk Core.macWord_msu⟩,
    fun c w => ?_, fun a b => ⟨rfl, rfl, rfl, fun sgn => macProduct_doubled⟩,
    fun c n lat macLat x => ⟨Core.putAcc_fits, Core.putAcc_overflows⟩⟩
  refine ⟨fun hm => ?_, fun hm => ?_, fun hm => ?_, fun hm => ?_, fun hm => ?_, fun hm => ?_⟩ <;>
    simp only [Core.macTerms, hm]

/-! ### Results of the ALU (R182) -/

theorem overflows_32 : overflows 32 x = decide (x < -(2 ^ 31) ∨ 2 ^ 31 ≤ x) := by norm_num [overflows]

theorem overflows_16 : overflows 16 x = decide (x < -32768 ∨ 32768 ≤ x) := by norm_num [overflows]

theorem satW_32 : satW 32 x = satTo (-(2 ^ 31)) (2 ^ 31 - 1) x := by norm_num [satW]

theorem satW_16 : satW 16 x = satTo (-32768) 32767 x := by norm_num [satW]

theorem aluAdd_add : aluAdd false false a k = aluOut (unsigned 32 (signed 32 a + signed 32 k))
    (decide (2 ^ 32 ≤ a % 2 ^ 32 + k % 2 ^ 32))
    (decide (signed 32 a + signed 32 k < -(2 ^ 31) ∨ 2 ^ 31 ≤ signed 32 a + signed 32 k)) := by
  rw [aluAdd, overflows_32]
  rfl

theorem aluAdd_sub : aluAdd true false a k = aluOut (unsigned 32 (signed 32 a - signed 32 k))
    (decide (k % 2 ^ 32 ≤ a % 2 ^ 32))
    (decide (signed 32 a - signed 32 k < -(2 ^ 31) ∨ 2 ^ 31 ≤ signed 32 a - signed 32 k)) := by
  rw [aluAdd, overflows_32]
  rfl

theorem aluAdd_adds : aluAdd false true a k =
    aluOut (unsigned 32 (satTo (-(2 ^ 31)) (2 ^ 31 - 1) (signed 32 a + signed 32 k)))
      (decide (2 ^ 32 ≤ a % 2 ^ 32 + k % 2 ^ 32))
      (decide (signed 32 a + signed 32 k < -(2 ^ 31) ∨ 2 ^ 31 ≤ signed 32 a + signed 32 k)) := by
  rw [aluAdd, overflows_32, satW_32]
  rfl

theorem aluAdd_subs : aluAdd true true a k =
    aluOut (unsigned 32 (satTo (-(2 ^ 31)) (2 ^ 31 - 1) (signed 32 a - signed 32 k)))
      (decide (k % 2 ^ 32 ≤ a % 2 ^ 32))
      (decide (signed 32 a - signed 32 k < -(2 ^ 31) ∨ 2 ^ 31 ≤ signed 32 a - signed 32 k)) := by
  rw [aluAdd, overflows_32, satW_32]
  rfl

/-- The negation of a 32-bit number overflows for the lowest one only, and borrows from 0 for every one but 0. -/
theorem aluNeg_eq : aluNeg a = aluOut (unsigned 32 (satTo (-(2 ^ 31)) (2 ^ 31 - 1) (-signed 32 a)))
    (decide (a % 2 ^ 32 = 0)) (decide (signed 32 a = -(2 ^ 31))) := by
  have hv : (-signed 32 a < -(2 ^ 31) ∨ 2 ^ 31 ≤ -signed 32 a) ↔ signed 32 a = -(2 ^ 31) := by
    have := signed32_bounds (a := a)
    omega
  have h0 : signed 32 0 = 0 := by decide
  rw [aluNeg, aluAdd_subs, h0, zero_sub]
  simp only [hv, Nat.zero_mod, Nat.le_zero]

/-- The magnitude of a 32-bit number overflows for the lowest one only. -/
theorem aluAbs_eq : aluAbs fc a = aluOut (unsigned 32 (satTo (-(2 ^ 31)) (2 ^ 31 - 1) (signed 32 a).natAbs)) fc
    (decide (signed 32 a = -(2 ^ 31))) := by
  have hv : (((signed 32 a).natAbs : Int) < -(2 ^ 31) ∨ 2 ^ 31 ≤ ((signed 32 a).natAbs : Int)) ↔ signed 32 a = -(2 ^ 31) := by
    have := signed32_bounds (a := a)
    omega
  simp only [aluAbs, overflows_32, satW_32, hv]

theorem aluPick_min : aluPick false fc a k = aluOut (if signed 32 a < signed 32 k then a else k) fc false := by
  rw [aluPick]
  by_cases h : signed 32 a < signed 32 k <;> simp only [h, decide_true, decide_false, if_true, if_false, Bool.true_eq_false]

theorem aluPick_max : aluPick true fc a k = aluOut (if signed 32 a < signed 32 k then k else a) fc false := by
  rw [aluPick]
  exact congrArg (aluOut · fc false) (if_congr decide_eq_true_iff rfl rfl)

/-! ### Two-half results (R182) -/

/-- The exact sum or difference of two halves. -/
def halfSum (sub : Bool) (p q : Nat) : Int := if sub then signed 16 p - signed 16 q else signed 16 p + signed 16 q

/-- A half of a two-half result, saturated or wrapped. -/
def halfOut (sat : Bool) (v : Int) : Nat := unsigned 16 (if sat then satTo (-32768) 32767 v else v)

/-- The carry of a two-half result, from its high half. -/
def halfCarry (sub : Bool) (p q : Nat) : Bool :=
  if sub then decide (q % 2 ^ 16 ≤ p % 2 ^ 16) else decide (2 ^ 16 ≤ p % 2 ^ 16 + q % 2 ^ 16)

/-- A half is out of range. -/
abbrev halfBeyond (v : Int) : Prop := v < -32768 ∨ 32768 ≤ v

theorem addSub_16 {p q : Nat} : addSub 16 sub p q = (halfSum sub p q, halfCarry sub p q) := by
  cases sub <;> rfl

theorem halves_lt {v v' : Int} : halfOut sat v * 2 ^ 16 + halfOut sat v' < 2 ^ 32 := by
  have hhi : halfOut sat v < 2 ^ 16 := unsigned_lt
  have hlo : halfOut sat v' < 2 ^ 16 := unsigned_lt
  omega

theorem aluAdd2_halves (hhi : k / 2 ^ 16 = h2) (hlo : k % 2 ^ 16 = l2) : aluAdd2 sub sat a k =
    let x := halfSum sub (a / 2 ^ 16) h2
    let y := halfSum sub (a % 2 ^ 16) l2
    aluOut (halfOut sat x * 2 ^ 16 + halfOut sat y) (halfCarry sub (a / 2 ^ 16) h2)
      (decide (halfBeyond x ∨ halfBeyond y)) := by
  subst hhi hlo
  simp only [aluAdd2, aluOut, addSub_16, satW_16, overflows_16, Bool.decide_or, halfBeyond]
  rw [← halfOut, ← halfOut, Nat.mod_eq_of_lt halves_lt]

/-! ### ALU words (R182) -/

/-- An ALU word with a D destination, once its result is known. -/
theorem Core.aluD_result (h : f (c.reg (fieldOf w 16 3)) (c.aluSrc2 w two) = o) :
    c.aluD f two w = (c.put (fieldOf w 19 3) (2 ^ 32 - 1) o.r 1).aluFlags o := by
  subst h
  rfl

theorem Core.aluSrc2_hi : c.aluSrc2 w true / 2 ^ 16 =
    if bitOf w 15 then unsigned 16 (signed 12 (fieldOf w 0 12)) else c.aluSrc2 w false / 2 ^ 16 := by
  unfold Core.aluSrc2
  split
  · have hlt := unsigned_lt (w := 16) (x := signed 12 (fieldOf w 0 12))
    dsimp only
    rw [if_pos rfl]
    omega
  · rfl

theorem Core.aluSrc2_lo : c.aluSrc2 w true % 2 ^ 16 =
    if bitOf w 15 then unsigned 16 (signed 12 (fieldOf w 0 12)) else c.aluSrc2 w false % 2 ^ 16 := by
  unfold Core.aluSrc2
  split
  · have hlt := unsigned_lt (w := 16) (x := signed 12 (fieldOf w 0 12))
    dsimp only
    rw [if_pos rfl]
    omega
  · rfl

/-- An ALU word whose C is a free value draws it. -/
theorem State.aluD_drawn (h : f ((t.core_ g).reg (fieldOf w 16 3)) ((t.core_ g).aluSrc2 w two) = o) :
    t.drawn.onCore g (Core.aluD f two w) =
      t.drawn.setCore g (((t.core_ g).put (fieldOf w 19 3) (2 ^ 32 - 1) o.r 1).aluFlags o) :=
  congrArg (t.drawn.setCore g) (Core.aluD_result h)

/-- Settles O34, word by word: each result is that of its ALU operation on the word's two sources. -/
theorem aluWordsComputeResultAndFlags : Obligations.AluWordsComputeResultAndFlags := by
  refine ⟨fun s g b w t h => ?_, fun r c v => rfl, fun c o => rfl⟩
  exact ⟨fun hk => State.issueC_effect h hk (Core.aluD_result aluAdd_add),
    fun hk => State.issueC_effect h hk (Core.aluD_result aluAdd_sub),
    fun hk => State.issueC_effect h hk (Core.aluD_result aluAdd_adds),
    fun hk => State.issueC_effect h hk (Core.aluD_result aluAdd_subs),
    fun hk => State.issueC_effect h hk (Core.aluD_result rfl),
    fun hk => State.issueC_effect h hk (Core.aluD_result rfl),
    fun hk => State.issueC_effect h hk (Core.aluD_result rfl),
    fun hk => State.issueC_effect h hk (Core.aluD_result rfl),
    fun hk => State.issueC_effect h hk (Core.aluD_result aluNeg_eq),
    fun hk => State.issueC_effect h hk (congrArg (t.core_ g).aluFlags aluAdd_sub),
    ⟨fun hk => State.issueC_effect h hk (Core.aluD_result (aluAdd2_halves Core.aluSrc2_hi Core.aluSrc2_lo)),
      fun hk => State.issueC_effect h hk (Core.aluD_result (aluAdd2_halves Core.aluSrc2_hi Core.aluSrc2_lo)),
      fun hk => State.issueC_effect h hk (Core.aluD_result (aluAdd2_halves Core.aluSrc2_hi Core.aluSrc2_lo)),
      fun hk => State.issueC_effect h hk (Core.aluD_result (aluAdd2_halves Core.aluSrc2_hi Core.aluSrc2_lo))⟩,
    fun hk => State.issue_effect h hk (State.aluD_drawn aluPick_min),
    fun hk => State.issue_effect h hk (State.aluD_drawn aluPick_max),
    fun hk => State.issue_effect h hk (State.aluD_drawn aluAbs_eq)⟩

/-! ### Shifts, rounding and output forms (R183, R184) -/

theorem natAbs_eq_ite : (x.natAbs : Int) = if x < 0 then -x else x := by
  split <;> omega

theorem shfArith_saturated : shfArith 32 true a x = unsigned 32 (satTo (-(2 ^ 31)) (2 ^ 31 - 1) (shiftA (signed 32 a) x)) :=
  congrArg (unsigned 32) satW_32

theorem Core.rnd_up (h : fieldOf c.mode 2 2 = 0) : c.rnd x = x + 32768 := by
  rw [Core.rnd, h]
  rfl

theorem Core.rnd_even (h : fieldOf c.mode 2 2 = 1) : c.rnd x = x + 32767 + (unsigned 40 x / 2 ^ 16 % 2 : Nat) := by
  rw [Core.rnd, h]
  rfl

theorem Core.rnd_none (h : fieldOf c.mode 2 2 = 2) : c.rnd x = x := by
  rw [Core.rnd, h]
  rfl

/-- Without SATS an output form is the low bits of its value. -/
theorem Core.outForm_wrapped (h : bitOf c.mode 0 = false) : c.outForm 0 x = (unsigned 16 (c.rnd x / 65536), false) ∧
    c.outForm 1 x = (unsigned 32 x, false) ∧ c.outForm 2 x = (unsigned 16 x, false) := by
  refine ⟨?_, ?_, ?_⟩ <;> exact if_neg (ne_true_of_eq_false h)

/-- With SATS an output form is clamped to its bits. -/
theorem Core.outForm_saturated (h : bitOf c.mode 0 = true) :
    c.outForm 0 x = (unsigned 16 (satTo (-32768) 32767 (c.rnd x / 65536)),
      decide (c.rnd x / 65536 < -32768 ∨ 32767 < c.rnd x / 65536)) ∧
    c.outForm 1 x = (unsigned 32 (satTo (-(2 ^ 31)) (2 ^ 31 - 1) x), decide (x < -(2 ^ 31) ∨ 2 ^ 31 - 1 < x)) ∧
    c.outForm 2 x = (unsigned 16 (satTo (-32768) 32767 x), decide (x < -32768 ∨ 32767 < x)) := by
  refine ⟨?_, ?_, ?_⟩ <;> exact if_pos h

theorem form16_iff {form : Nat} : form16 form = true ↔ form = 0 ∨ form = 2 := by
  rw [form16, Bool.or_eq_true, beq_iff_eq, beq_iff_eq]

/-- An ALU word with an accumulator destination, once its exact result is known. -/
theorem Core.aluA_result {f : Int → Int → Nat → Int}
    (h : f (c.acc (fieldOf w 19 2)) (c.acc (fieldOf w 16 2)) (c.reg (fieldOf w 16 3)) = x) :
    c.aluA f w = c.putAcc (fieldOf w 19 2) x 1 1 := by
  subst h
  rfl

/-- A SHF word with an accumulator destination, once its exact result is known. -/
theorem Core.shfA_result {f : Core → Int → Int} (h : f c (c.acc (fieldOf w 16 2)) = x) :
    c.shfA f w = c.putAcc (fieldOf w 19 2) x 1 1 := by
  subst h
  rfl

/-- A SHF word with a D destination, once its result is known. -/
theorem Core.shfD_result {f : Core → Nat → Int → Nat} (h : f c (c.reg (fieldOf w 16 3)) (c.shiftCount w) = k) :
    c.shfD f w = c.put (fieldOf w 19 3) (2 ^ 32 - 1) k 1 := by
  subst h
  rfl

theorem Core.amv_eq : c.amv w =
    let o := c.outForm (fieldOf w 13 2) (c.acc (fieldOf w 16 2))
    let d := c.put (fieldOf w 19 3) (2 ^ 32 - 1)
      (if fieldOf w 13 2 = 0 ∨ fieldOf w 13 2 = 2 then unsigned 32 (signed 16 o.1) else o.1) 1
    if o.2 then d.put 0x2E 0x2000 0x2000 1 else d := by
  simp only [Core.amv, form16_iff]
  rfl

/-- Settles O35, word by word: the exact results, the shifts by the signed count, the exponents and the output forms. -/
theorem accumulatorAndShiftWordsCompute : Obligations.AccumulatorAndShiftWordsCompute := by
  refine ⟨fun s g b w t h => ?_, fun s g b w t h => ?_, fun s g b w t h => ?_, fun c a => ?_,
    fun c w => ⟨fun himm => if_pos himm, fun hreg => if_neg (ne_true_of_eq_false hreg)⟩, ?_⟩
  · exact ⟨fun hk => State.issueC_effect h hk (Core.aluA_result rfl),
      fun hk => State.issueC_effect h hk (Core.aluA_result rfl),
      fun hk => State.issueC_effect h hk (Core.aluA_result rfl),
      fun hk => State.issueC_effect h hk (Core.aluA_result natAbs_eq_ite),
      fun hk => State.issueC_effect h hk (Core.aluA_result rfl),
      fun hk => State.issueC_effect h hk (Core.aluA_result rfl),
      fun hk => State.issueC_effect h hk (Core.aluA_result rfl),
      fun hk => State.issueC_effect h hk (Core.aluA_result rfl),
      fun hk => State.issueC_effect h hk (Core.shfA_result rfl),
      fun hk => State.issueC_effect h hk (Core.shfA_result rfl),
      fun hk => State.issueC_effect h hk (Core.shfA_result rfl)⟩
  · exact ⟨fun hk => State.issueC_effect h hk (Core.shfD_result rfl),
      fun hk => State.issueC_effect h hk (Core.shfD_result rfl),
      fun hk => State.issueC_effect h hk (Core.shfD_result rfl),
      fun hk => State.issueC_effect h hk (Core.shfD_result shfArith_saturated),
      fun hk => State.issueC_effect h hk (Core.shfD_result rfl),
      fun hk => State.issueC_effect h hk (Core.shfD_result rfl),
      fun hk => State.issueC_effect h hk (Core.shfD_result rfl),
      fun hk => State.issueC_effect h hk (Core.shfD_result rfl),
      fun hk => State.issueC_effect h hk rfl,
      fun hk => State.issueC_effect h hk rfl⟩
  · exact ⟨fun hk => State.issueC_effect h hk rfl, fun hk => State.issueC_effect h hk rfl,
      fun hk => State.issueC_effect h hk Core.amv_eq⟩
  · exact ⟨Core.outForm_wrapped, rfl, Core.outForm_saturated, Core.rnd_up, Core.rnd_even, Core.rnd_none⟩
  · decide

end Sys2Proof.Machine
end

section
/-! PROOFS of the family 09_yathar_core.md: the control words and the loop-end action (O37). -/

namespace Sys2Proof.Machine
open Sys2Proof

variable {s t : State} {c d : Core} {g b w v e f x : Nat} {r : Bool} {m : Move}

/-! ### Transfers (R188) -/

/-- A transfer keeps the low 16 bits of its target. -/
theorem Core.transfer_taken : c.transfer (some x) r = { c with branch := some ⟨some (x % 2 ^ 16), 3, r⟩ } := rfl

theorem relTarget_eq : relTarget b w = (((b : Int) + 4 * signed 20 (fieldOf w 0 20)) % 2 ^ 16).toNat := unsigned_eq

theorem Core.transfer_relTarget : c.transfer (some (relTarget b w)) =
    { c with branch := some ⟨some (((b : Int) + 4 * signed 20 (fieldOf w 0 20)) % 2 ^ 16).toNat, 3, false⟩ } := by
  rw [Core.transfer_taken, Nat.mod_eq_of_lt (show relTarget b w < 2 ^ 16 from unsigned_lt), relTarget_eq]

theorem Core.transfer_ptrTarget : c.transfer (some (d.ptrTarget w)) =
    { c with branch := some ⟨some (d.rawReg (0x10 + fieldOf w 17 3) % 2 ^ 16), 3, false⟩ } := by
  rw [Core.transfer_taken, Core.ptrTarget, Nat.mod_mod]

/-- BR issues its delay slots whether or not it is taken. -/
theorem Core.transfer_conditional {p : Prop} [Decidable p] : c.transfer (if p then some (relTarget b w) else none) =
    if p then { c with branch := some ⟨some (((b : Int) + 4 * signed 20 (fieldOf w 0 20)) % 2 ^ 16).toNat, 3, false⟩ }
    else { c with branch := some ⟨none, 3, false⟩ } := by
  split
  · exact Core.transfer_relTarget
  · rfl

/-! ### LOOP (R189) -/

theorem govOf_add {i : Nat} : govOf (i + v) = i + 0x20 + v := by
  rw [govOf, Nat.add_right_comm]

theorem State.loop_eq : t.loop g b w = t.setCore g (
    let c := t.core_ g
    let ret := t.afterBundle g (t.afterBundle g (t.afterBundle g b))
    let v := fieldOf w 23 1
    let le := ret + 4 * fieldOf w 0 6
    let n := if bitOf w 22 then fieldOf w 6 16 else c.rawReg (fieldOf w 19 3) % 2 ^ 16
    let d := (((((c.put (0x2A + v) 0xFFFF ret 1).put (0x4A + v) 0xFFFF ret 1).put (0x2C + v) 0xFFFF le 1).put (0x4C + v)
      0xFFFF le 1).put (0x28 + v) 0xFFFF n 1).put (0x48 + v) 0xFFFF n 1
    if n = 0 then { d with branch := some ⟨some ((le + 4) % 2 ^ 16), 3, false⟩ }
    else { (d.put 0x2E (2 ^ (16 + v)) (2 ^ (16 + v)) 1).put (govLA v) 1 1 1 with branch := some ⟨none, 3, false⟩ }) := by
  simp only [State.loop, govOf_add]
  rfl

/-! ### TAKE (R195, R197) -/

/-- What holds a TAKE back: a move in service, a DONE in its bundle or the one before, or a store to DONE beside it. -/
theorem State.takeHeld_iff : ((t.core_ g).insv.isSome || (t.core_ g).doneAt.any (fun k => decide ((t.core_ g).bundle ≤ k + 1)) ||
      (!wLast (t.pramWord g b) && (t.core_ g).storesDone g (t.pramWord g (b + 4)))) = true ↔
    (t.core_ g).insv.isSome = true ∨ (∃ k, (t.core_ g).doneAt = some k ∧ (t.core_ g).bundle ≤ k + 1) ∨
      (wLast (t.pramWord g b) = false ∧ (t.core_ g).storesDone g (t.pramWord g (b + 4)) = true) := by
  simp only [Bool.or_eq_true, Bool.and_eq_true, Bool.not_eq_true', Option.any_eq_true, decide_eq_true_eq, or_assoc]

theorem State.takeMove_taken (hslot : (t.core_ g).slot = some m) (hfree : (t.core_ g).insv = none)
    (hdone : ∀ k, (t.core_ g).doneAt = some k → k + 1 < (t.core_ g).bundle)
    (hstore : ¬(wLast (t.pramWord g b) = false ∧ (t.core_ g).storesDone g (t.pramWord g (b + 4)) = true)) :
    t.takeMove g b = (t.setCore g { t.core_ g with
      slot := none, insv := some m, mv := t.descriptor m, takenAt := t.time.us, wdog := false }, (t.descriptor m).headD 0) := by
  unfold State.takeMove
  dsimp only
  rw [hslot]
  refine if_neg (State.takeHeld_iff.not.mpr (not_or_intro ?_ (not_or_intro ?_ hstore)))
  · rw [hfree]
    exact Bool.false_ne_true
  · rintro ⟨k, hk, hle⟩
    exact absurd (hdone k hk) (Nat.not_lt.mpr hle)

theorem State.takeMove_held (h : (t.core_ g).slot = none ∨ (t.core_ g).insv.isSome = true ∨
      (∃ k, (t.core_ g).doneAt = some k ∧ (t.core_ g).bundle ≤ k + 1) ∨
      (wLast (t.pramWord g b) = false ∧ (t.core_ g).storesDone g (t.pramWord g (b + 4)) = true)) :
    t.takeMove g b = (t, 0) := by
  unfold State.takeMove
  dsimp only
  cases hslot : (t.core_ g).slot with
  | none => rfl
  | some m => exact if_pos (State.takeHeld_iff.mpr (h.resolve_left (by rw [hslot]; exact Option.some_ne_none m)))

/-! ### The loop-end action (R189) -/

/-- The core with LC of level `v` set to `n`, and as it governs. -/
def Core.countSet (c : Core) (v n : Nat) : Core := (c.put (0x28 + v) 0xFFFF n 1).put (0x48 + v) 0xFFFF n 1

/-- The core with level `v` left: its count and its LA are 0. -/
def Core.levelLeft (c : Core) (v : Nat) : Core :=
  ((c.countSet v 0).put 0x2E (2 ^ (16 + v)) 0 1).put (govLA v) 1 0 1

/-- A level whose count is above 1 redirects. -/
theorem Core.loopAct_redirects (h : 1 < c.reg (0x48 + v)) : c.loopAct v = (c.countSet v (c.reg (0x48 + v) - 1), true) := by
  simp only [Core.loopAct, govOf_add]
  exact if_pos h

/-- A level whose count has run out is left. -/
theorem Core.loopAct_leaves (h : c.reg (0x48 + v) ≤ 1) :
    c.loopAct v = (c.levelLeft v, false) := by
  simp only [Core.loopAct, govOf_add]
  exact if_neg (Nat.not_lt.mpr h)

theorem State.loopEndAction_none (h : (s.core_ g).loopEnd = none) : s.loopEndAction g = s := by
  rw [State.loopEndAction, h]

/-- Level 1 redirects before level 0 is looked at. -/
theorem State.loopEndAction_outer (hend : (s.core_ g).loopEnd = some (e, f)) (hat : (s.core_ g).atLoopEnd 1 e f = true)
    (hcount : 1 < (s.core_ g).reg 0x49) : s.loopEndAction g =
      (s.setCore g ((s.core_ g).countSet 1 ((s.core_ g).reg 0x49 - 1))).finish g ((s.core_ g).loopBegin 1) := by
  simp only [State.loopEndAction, hend, hat, if_true, Core.loopAct_redirects (v := 1) hcount]

/-- Level 0 acts where level 1 does not end here. -/
theorem State.loopEndAction_inner (hend : (s.core_ g).loopEnd = some (e, f)) (hat : (s.core_ g).atLoopEnd 0 e f = true)
    (hother : (s.core_ g).atLoopEnd 1 e f = false) : s.loopEndAction g =
      (s.setCore g ((s.core_ g).loopAct 0).1).finish g
        (if ((s.core_ g).loopAct 0).2 then (s.core_ g).loopBegin 0 else f + 4) := by
  simp only [State.loopEndAction, hend, hat, hother, if_true, Bool.false_eq_true, if_false]

/-- Level 1 is left where level 0 does not end here. -/
theorem State.loopEndAction_left (hend : (s.core_ g).loopEnd = some (e, f)) (hat : (s.core_ g).atLoopEnd 1 e f = true)
    (hother : (s.core_ g).atLoopEnd 0 e f = false) (hcount : (s.core_ g).reg 0x49 ≤ 1) : s.loopEndAction g =
      (s.setCore g ((s.core_ g).levelLeft 1)).finish g (f + 4) := by
  simp only [State.loopEndAction, hend, hat, hother, if_true, Core.loopAct_leaves (v := 1) hcount, Bool.false_eq_true, if_false]

/-- Level 1 is left, and then level 0 acts on the core it leaves. -/
theorem State.loopEndAction_both (hend : (s.core_ g).loopEnd = some (e, f)) (hat : (s.core_ g).atLoopEnd 1 e f = true)
    (hat0 : (s.core_ g).atLoopEnd 0 e f = true) (hcount : (s.core_ g).reg 0x49 ≤ 1) :
    let d := (s.core_ g).levelLeft 1
    s.loopEndAction g =
      if 1 < d.reg 0x48 then (s.setCore g (d.countSet 0 (d.reg 0x48 - 1))).finish g ((s.core_ g).loopBegin 0)
      else (s.setCore g (d.levelLeft 0)).finish g (f + 4) := by
  intro d
  have hact : s.loopEndAction g =
      (s.setCore g (d.loopAct 0).1).finish g (if (d.loopAct 0).2 then (s.core_ g).loopBegin 0 else f + 4) := by
    simp only [State.loopEndAction, hend, hat, hat0, if_true, Core.loopAct_leaves (v := 1) hcount, Bool.false_eq_true,
      if_false, d]
  rw [hact]
  by_cases hleft : 1 < d.reg 0x48
  · rw [Core.loopAct_redirects (v := 0) hleft, if_pos hleft]
    rfl
  · rw [Core.loopAct_leaves (v := 0) (Nat.not_lt.mp hleft), if_neg hleft]
    rfl

/-- A level that alone ends here and has counts left goes back to its LB. -/
theorem State.loopEndAction_redirects (hv : v < 2) (hend : (s.core_ g).loopEnd = some (e, f))
    (hat : (s.core_ g).atLoopEnd v e f = true) (hother : (s.core_ g).atLoopEnd (1 - v) e f = false)
    (hcount : 1 < (s.core_ g).reg (0x48 + v)) : s.loopEndAction g =
      (s.setCore g ((s.core_ g).countSet v ((s.core_ g).reg (0x48 + v) - 1))).finish g ((s.core_ g).loopBegin v) := by
  obtain rfl | rfl : v = 0 ∨ v = 1 := by omega
  · rw [State.loopEndAction_inner hend hat hother, Core.loopAct_redirects hcount]
    rfl
  · exact State.loopEndAction_outer hend hat hcount

/-- A level that alone ends here and has run out is left, and the bundle after its LE follows. -/
theorem State.loopEndAction_fallsThrough (hv : v < 2) (hend : (s.core_ g).loopEnd = some (e, f))
    (hat : (s.core_ g).atLoopEnd v e f = true) (hother : (s.core_ g).atLoopEnd (1 - v) e f = false)
    (hcount : (s.core_ g).reg (0x48 + v) ≤ 1) : s.loopEndAction g =
      (s.setCore g ((s.core_ g).levelLeft v)).finish g (f + 4) := by
  obtain rfl | rfl : v = 0 ∨ v = 1 := by omega
  · rw [State.loopEndAction_inner hend hat hother, Core.loopAct_leaves hcount]
    rfl
  · exact State.loopEndAction_left hend hat hother hcount

/-- Settles O37: each control word has the effect of its rule, and the loop-end action is that of the level that ends here, level 1
before level 0 where both do. -/
theorem controlWordsTransferAndLoop : Obligations.ControlWordsTransferAndLoop := by
  refine ⟨fun s g b w t h => ?_, fun s g hnone => congrArg Host.Outcome.next (State.loopEndAction_none hnone),
    fun s g v e f hv hend hat hother =>
      ⟨fun hcount => congrArg Host.Outcome.next (State.loopEndAction_redirects hv hend hat hother hcount),
        fun hcount => congrArg Host.Outcome.next (State.loopEndAction_fallsThrough hv hend hat hother hcount)⟩,
    fun s g e f hend hat hcount => congrArg Host.Outcome.next (State.loopEndAction_outer hend hat hcount),
    fun s g e f hend hat hat0 hcount => congrArg Host.Outcome.next (State.loopEndAction_both hend hat hat0 hcount),
    fun a => ⟨rfl, rfl, rfl, rfl, rfl, rfl, rfl, rfl, rfl, rfl, rfl, rfl, rfl, rfl⟩⟩
  · refine ⟨fun hk => State.issue_effect h hk (congrArg (t.setCore g) Core.transfer_conditional),
      fun hk => State.issue_effect h hk (congrArg (t.setCore g) Core.transfer_relTarget),
      fun hk => State.issueC_effect h hk Core.transfer_ptrTarget,
      fun hk => State.issueC_effect h hk rfl,
      fun hk => State.issue_effect h hk (congrArg (t.setCore g) Core.transfer_ptrTarget),
      fun hk => State.issueC_effect h hk rfl,
      fun hk => State.issue_effect h hk State.loop_eq,
      fun hk => ⟨fun m hslot hfree hdone hstore => State.issue_effect h hk ?_, fun hheld => State.issue_effect h hk ?_⟩,
      fun hk => State.issueC_effect h hk rfl, fun hk => State.issueC_effect h hk rfl,
      fun hk => State.issueC_effect h hk rfl⟩
    · dsimp only
      rw [State.takeMove_taken hslot hfree hdone hstore]
    · dsimp only
      rw [State.takeMove_held]
      · rfl
      · obtain hslot | hserv | hnow | ⟨k, hk, hprev⟩ | hstore := hheld
        · exact .inl hslot
        · exact .inr (.inl hserv)
        · exact .inr (.inr (.inl ⟨_, hnow, Nat.le_succ _⟩))
        · exact .inr (.inr (.inl ⟨k, hk, hprev.ge⟩))
        · exact .inr (.inr (.inr hstore))

end Sys2Proof.Machine
end

section
/-! PROOFS of the family 09_yathar_core.md: the move and register words, with addresses, post-modification and the latencies of
register writes (O36). -/

namespace Sys2Proof.Machine
open Sys2Proof

variable {t : State} {c : Core} {g w a k n p code load v : Nat} {m : Int} {bus : Bus} {byReg : Bool}

/-! ### The fields of a word (R179) -/

theorem fieldOf_lt {lo : Nat} : fieldOf v lo n < 2 ^ n := Nat.mod_lt _ (Nat.two_pow_pos n)

/-- The key of an SMOV word names its group and its operation. -/
theorem wKey_smov (h : wKey w = 0x400 + k) (hk : k < 8) : wGroup w = 4 ∧ fieldOf w 25 3 = k := by
  have h23 : fieldOf w 23 2 < 2 ^ 2 := fieldOf_lt
  have h22 : fieldOf w 22 6 < 2 ^ 6 := fieldOf_lt
  have h25 : fieldOf w 25 3 < 2 ^ 3 := fieldOf_lt
  have h26 : fieldOf w 26 2 < 2 ^ 2 := fieldOf_lt
  have h24 : fieldOf w 24 4 < 2 ^ 4 := fieldOf_lt
  unfold wKey at h
  split at h
  case h_5 hgroup => exact ⟨hgroup, by omega⟩
  all_goals omega

/-! ### Addresses (R173, R174, R186) -/

theorem Core.smovAccess_push (h : wKey w = 0x404) :
    c.smovAccess w = ⟨.single, (((c.reg 0x17 : Int) - 4) % 2 ^ 24).toNat, 4⟩ := by
  obtain ⟨hgroup, hop⟩ := wKey_smov (k := 4) h (by decide)
  simp only [Core.smovAccess, Core.accesses, hgroup, hop, unsigned_eq]
  rfl

theorem Core.smovAccess_pop (h : wKey w = 0x405) : c.smovAccess w = ⟨.single, c.reg 0x17, 4⟩ := by
  obtain ⟨hgroup, hop⟩ := wKey_smov (k := 5) h (by decide)
  simp only [Core.smovAccess, Core.accesses, hgroup, hop]
  rfl

/-- LD and ST access the pointer, before its post-modify or with the offset. -/
theorem Core.smovAccess_sized (hgroup : wGroup w = 4) (hop : fieldOf w 25 3 < 2) :
    let p := c.reg (0x10 + fieldOf w 17 3)
    c.smovAccess w = ⟨.single, if bitOf w 16 then p else (((p : Int) + signed 16 (fieldOf w 0 16)) % 2 ^ 24).toNat,
      if fieldOf w 23 2 = 2 then 4 else 2⟩ := by
  intro p
  obtain h0 | h1 : fieldOf w 25 3 = 0 ∨ fieldOf w 25 3 = 1 := by omega
  · simp only [Core.smovAccess, Core.accesses, hgroup, h0, unsigned_eq]
    rfl
  · simp only [Core.smovAccess, Core.accesses, hgroup, h1, unsigned_eq]
    rfl

theorem placeOf_unaligned (h : a % n ≠ 0) : placeOf g bus a n = none := if_pos h

theorem placeOf_xram (h0 : a % n = 0) (hhi : a < 0x8000) :
    placeOf g bus a n = if bus = .y then none else some (.mem (xramBase g + a) 2) := by
  rw [placeOf, if_neg (not_not_intro h0), if_pos hhi]

theorem placeOf_yram (h0 : a % n = 0) (hlo : 0x10000 ≤ a) (hhi : a < 0x18000) :
    placeOf g bus a n = if bus = .x then none else some (.mem (xramBase g + a) 2) := by
  rw [placeOf, if_neg (not_not_intro h0), if_neg (by omega), if_pos ⟨hlo, hhi⟩]

theorem placeOf_sram (h0 : a % n = 0) (hlo : 0x100000 ≤ a) (hhi : a < 0x200000) :
    placeOf g bus a n = some (.mem (sramBase (g / 8) + (a - 0x100000)) 5) := by
  rw [placeOf, if_neg (not_not_intro h0), if_neg (by omega), if_neg (by omega), if_pos ⟨hlo, hhi⟩]

theorem placeOf_spr (h0 : a % n = 0) (hlo : 0xFFF000 ≤ a) (hhi : a < 0x1000000) :
    placeOf g bus a n = if bus = .y ∨ n ≠ 4 then none else some (.spr (a - 0xFFF000)) := by
  rw [placeOf, if_neg (not_not_intro h0), if_neg (by omega), if_neg (by omega), if_neg (by omega), if_pos ⟨hlo, hhi⟩]

/-! ### Post-modification (R190, R191) -/

/-- A post-modify that does not reverse carries. -/
theorem not_reverses (h : p ≠ 0 ∨ byReg = false ∨ bitOf c.mode 6 = false) :
    ¬(p = 0 ∧ byReg = true ∧ bitOf c.mode 6 = true) := by
  rintro ⟨hp, hreg, hmode⟩
  simp only [hp, hreg, hmode, ne_eq, not_true_eq_false, Bool.true_eq_false, or_self] at h

theorem Core.postMod_linear (hlen : 4 ≤ p ∨ c.reg (0x24 + p) = 0) (h : p ≠ 0 ∨ byReg = false ∨ bitOf c.mode 6 = false) :
    c.postMod p m byReg = (((c.reg (0x10 + p) : Int) + m) % 2 ^ 24).toNat := by
  have hlinear : ¬(p < 4 ∧ c.reg (0x24 + p) ≠ 0) := fun hc => hlen.elim (Nat.not_le.mpr hc.1) hc.2
  rw [Core.postMod, if_neg (not_reverses h), if_neg hlinear, unsigned_eq]

theorem Core.postMod_circular (hp : p < 4) (hlen : c.reg (0x24 + p) ≠ 0)
    (h : p ≠ 0 ∨ byReg = false ∨ bitOf c.mode 6 = false) : c.postMod p m byReg =
      (c.reg (0x20 + p) + (((c.reg (0x10 + p) : Int) + m - c.reg (0x20 + p)) % c.reg (0x24 + p)).toNat) % 2 ^ 24 := by
  rw [Core.postMod, if_neg (not_reverses h), if_pos ⟨hp, hlen⟩]

theorem Core.postMod_reversed (h : bitOf c.mode 6 = true) :
    let n := fieldOf c.mode 8 4 + 1
    let b := c.reg 0x20
    c.postMod 0 m true =
      (b + revBits n ((revBits n (unsigned n ((c.reg 0x10 : Int) - b)) + revBits n (unsigned n m)) % 2 ^ n)) % 2 ^ 24 :=
  if_pos ⟨rfl, rfl, h⟩

/-! ### Register writes (R176, R187) -/

theorem ite_lt_of_lt {q : Prop} [Decidable q] {x y : Nat} (hx : x < n) (hy : y < n) : (if q then x else y) < n := by
  split <;> assumption

theorem regMask_lt : regMask code < 2 ^ 32 := by
  unfold regMask
  repeat' apply ite_lt_of_lt
  all_goals decide

theorem regMask_and : regMask code &&& (2 ^ 32 - 1) = regMask code := by
  rw [Nat.and_two_pow_sub_one_eq_mod, Nat.mod_eq_of_lt regMask_lt]

/-- The bundles after which a MOV, LDI, LDIH or POP is seen. -/
def seenAfter (load : Nat) : Nat := if load = 0 then 1 else load

/-- The bundles after which a write of a loop register governs the loop-end action. -/
def governsAfter (load : Nat) : Nat := if load = 0 then 4 else load + 3

theorem Core.write_eq {only : Nat} {l : List (Nat × Nat × Nat × Nat)} (h : regWrites code load = l) : c.write code v load only =
    l.foldl (fun c e => c.put e.1 (e.2.1 &&& only / 2 ^ e.2.2.1) (v / 2 ^ e.2.2.1) e.2.2.2) c := by
  rw [Core.write, h]

theorem regWrites_plain (h : code < 0x20 ∨ (0x30 ≤ code ∧ code < 0x40)) :
    regWrites code load = [(code, regMask code, 0, seenAfter load)] := by
  unfold regWrites
  rw [if_neg (show code ≠ 0x2F by omega), if_neg (by omega), if_neg (by omega), if_neg (by omega)]
  rfl

theorem regWrites_circular (hlo : 0x20 ≤ code) (hhi : code < 0x28) :
    regWrites code load = [(code, regMask code, 0, seenAfter load + 1)] := by
  unfold regWrites
  rw [if_neg (show code ≠ 0x2F by omega), if_pos (by omega)]
  rfl

theorem regWrites_loop (hlo : 0x28 ≤ code) (hhi : code < 0x2E) : regWrites code load =
    [(code, 0xFFFF, 0, seenAfter load), (code + 0x20, 0xFFFF, 0, governsAfter load)] := by
  have hmask : regMask code = 0xFFFF := by
    unfold regMask
    rw [if_neg (by omega), if_neg (by omega), if_neg (by omega), if_pos hhi]
  unfold regWrites
  rw [if_neg (show code ≠ 0x2F by omega), if_neg (by omega), if_pos ⟨hlo, hhi⟩, hmask]
  rfl

theorem Core.write_plain (h : code < 0x20 ∨ (0x30 ≤ code ∧ code < 0x40)) :
    c.write code v load = c.put code (regMask code) v (seenAfter load) := by
  rw [Core.write_eq (regWrites_plain h)]
  simp only [List.foldl, pow_zero, Nat.div_one, regMask_and]

theorem Core.write_circular (hlo : 0x20 ≤ code) (hhi : code < 0x28) :
    c.write code v load = c.put code (regMask code) v (seenAfter load + 1) := by
  rw [Core.write_eq (regWrites_circular hlo hhi)]
  simp only [List.foldl, pow_zero, Nat.div_one, regMask_and]

theorem Core.write_loop (hlo : 0x28 ≤ code) (hhi : code < 0x2E) : c.write code v load =
    (c.put code 0xFFFF v (seenAfter load)).put (code + 0x20) 0xFFFF v (governsAfter load) := by
  rw [Core.write_eq (regWrites_loop hlo hhi)]
  simp only [List.foldl, pow_zero, Nat.div_one]
  rfl

theorem Core.write_astat : c.write 0x2E v load =
    ((c.put 0x2E (regMask 0x2E) v (seenAfter load + 1)).put 0x4E 1 (v / 2 ^ 16) (governsAfter load)).put 0x4F 1 (v / 2 ^ 17)
      (governsAfter load) := by
  rw [Core.write_eq (l := [(0x2E, regMask 0x2E, 0, seenAfter load + 1), (0x4E, 1, 16, governsAfter load),
    (0x4F, 1, 17, governsAfter load)]) rfl]
  simp only [List.foldl, pow_zero, Nat.div_one, regMask_and]
  rfl

theorem Core.write_mode : c.write 0x2F v load = c.put 0x2F 0xF5F v (seenAfter load + 1) := by
  rw [Core.write_eq (l := [(0x2F, 0xF5F, 0, seenAfter load + 1)]) rfl]
  simp only [List.foldl, pow_zero, Nat.div_one]
  rfl

/-- A write of the high half of a D register. -/
theorem Core.write_high (h : code < 8) : c.write code v 0 0xFFFF0000 = c.put code 0xFFFF0000 v 1 := by
  have hmask : regMask code = 2 ^ 32 - 1 := if_pos (by omega)
  rw [Core.write_eq (regWrites_plain (.inl (by omega))), hmask]
  simp only [List.foldl, pow_zero, Nat.div_one]
  rfl

/-! ### The words (R185–R187) -/

theorem Core.lea_eq : c.lea w = c.put (0x10 + fieldOf w 20 3) 0xFFFFFF
    (((c.reg (0x10 + fieldOf w 17 3) : Int) + signed 16 (fieldOf w 0 16)) % 2 ^ 24).toNat 1 := by
  rw [Core.lea, unsigned_eq, ofsOf]

theorem State.push_eq (h : wKey w = 0x404) :
    let c := t.core_ g
    let a := (((c.reg 0x17 : Int) - 4) % 2 ^ 24).toNat
    t.push g w = (t.setCore g (c.put 0x17 0xFFFFFF a 1)).storeAt g ⟨.single, a, 4⟩
      (extendReg (fieldOf w 17 6) (c.reg (fieldOf w 17 6))) := by
  rw [State.push]
  dsimp only
  rw [Core.smovAccess_push h]

theorem State.pop_eq (h : wKey w = 0x405) :
    let p := (t.core_ g).reg 0x17
    let r := t.loadAt g ⟨.single, p, 4⟩
    t.pop g w = r.1.onCore g (fun c => (c.put 0x17 0xFFFFFF ((p + 4) % 2 ^ 24) 1).write (fieldOf w 17 6) r.2.1 r.2.2) := by
  rw [State.pop]
  dsimp only
  rw [Core.smovAccess_pop h]

/-- Settles O36: each word has the effect of its rule; addresses, post-modifies and register writes by the lemmas above. -/
theorem moveAndRegisterWordsAct : Obligations.MoveAndRegisterWordsAct := by
  refine ⟨fun s g b w t h => ?_, fun c w hgroup hop => Core.smovAccess_sized hgroup hop,
    fun c p m byReg => ⟨Core.postMod_linear, Core.postMod_circular, Core.postMod_reversed⟩,
    fun g a n h0 => ⟨fun hhi => ⟨placeOf_xram h0 hhi, placeOf_xram h0 hhi⟩,
      fun hlo hhi => ⟨placeOf_yram h0 hlo hhi, placeOf_yram h0 hlo hhi⟩, fun hlo hhi b => placeOf_sram h0 hlo hhi,
      fun hlo hhi hn => (placeOf_spr h0 hlo hhi).trans (if_neg (by simp [hn]))⟩,
    fun g a n b h => placeOf_unaligned h,
    fun c code v load => ⟨Core.write_plain, Core.write_circular, Core.write_loop, Core.write_astat, Core.write_mode⟩,
    fun c d v hd => Core.write_high hd, fun c code mask v lat macLat => rfl, fun c code mac => rfl⟩
  exact ⟨fun hk => State.issue_effect h hk rfl, fun hk => State.issue_effect h hk rfl,
    fun hk => State.issue_effect h hk rfl, fun hk => State.issueC_effect h hk Core.lea_eq,
    fun hk => State.issue_effect h hk (State.push_eq hk), fun hk => State.issue_effect h hk (State.pop_eq hk),
    fun hk => State.issue_effect h hk rfl, fun hk => State.issueC_effect h hk rfl, fun hk => State.issueC_effect h hk rfl,
    fun hk => State.issueC_effect h hk rfl, fun hk => State.issueC_effect h hk rfl⟩

end Sys2Proof.Machine
end

section
/-! PROOFS of the family 09_yathar_core.md: interrupts, exceptions, the watchdog, the timer, doorbells and the end of a bundle
(O38). -/

namespace Sys2Proof.Machine
open Sys2Proof

variable {s : State} {c : Core} {g i v r key cause addr ret next : Nat}

/-! ### Entry to a vector (R178, R192) -/

theorem Core.drain_pend : c.drain.pend = [] := List.filter_false _

theorem Core.enter_pend : (c.enter v r).pend = [] := Core.drain_pend

theorem State.interruptEntry_taken (hat : (s.core_ g).atBoundary = true) (hslots : (s.core_ g).inSlots = false)
    (hie : bitOf ((s.core_ g).reg 0x2F) 4 = true) (hi : s.intPending g = some i) :
    s.interruptEntry g = s.setCore g ((s.core_ g).rtiDone.enter (0x50 + 0x10 * i) (s.core_ g).pc) := by
  rw [State.interruptEntry, hi]
  exact if_neg (by rw [hat, hslots, hie]; decide)

theorem State.interruptEntry_held (h : (s.core_ g).atBoundary = false ∨ (s.core_ g).inSlots = true ∨
    bitOf ((s.core_ g).reg 0x2F) 4 = false ∨ s.intPending g = none) : s.interruptEntry g = s := by
  have hheld (hc : (!(s.core_ g).atBoundary || (s.core_ g).inSlots || !bitOf ((s.core_ g).reg 0x2F) 4) = true) :
      s.interruptEntry g = s := if_pos hc
  obtain hat | hslots | hie | hnone := h
  · exact hheld (by rw [hat]; rfl)
  · exact hheld (by rw [hslots, Bool.or_true, Bool.true_or])
  · exact hheld (by rw [hie, Bool.not_false, Bool.or_true])
  · rw [State.interruptEntry, hnone]
    exact ite_self s

/-! ### Exceptions (R193) -/

theorem Core.atBoundary_inBundle (h : c.atBoundary = true) : c.inBundle = none := by
  simp only [Core.atBoundary, Bool.and_eq_true, Option.isNone_iff_eq_none] at h
  exact h.1.2

/-- A bundle that faults raises its exception under the key of its first word, or under BR's where that names no operation. -/
theorem State.issue_fault {f : Nat → Nat → State → State} (hat : (s.core_ g).atBoundary = true)
    (hwait : (s.core_ g).waiting = false) (hfault : (s.setCore g (s.core_ g).rtiDone).bundleFault g = some (cause, addr))
    (hk : (if keyKnown (wKey (s.pramWord g (s.core_ g).pc)) then wKey (s.pramWord g (s.core_ g).pc) else 0x600) = key) :
    s.issue g key f = (s.setCore g (s.core_ g).rtiDone).precise g cause addr := by
  unfold State.issue
  dsimp only
  rw [Core.atBoundary_inBundle hat]
  dsimp only
  rw [hfault, hat, hwait]
  exact if_pos hk

theorem State.issue_fault_known {f : Nat → Nat → State → State} (hat : (s.core_ g).atBoundary = true)
    (hwait : (s.core_ g).waiting = false) (hfault : (s.setCore g (s.core_ g).rtiDone).bundleFault g = some (cause, addr))
    (hk : wKey (s.pramWord g (s.core_ g).pc) = key) (hknown : keyKnown key = true) :
    Host.Outcome.next (s.issue g key f) = (.next ((s.setCore g (s.core_ g).rtiDone).precise g cause addr) : Res) :=
  congrArg Host.Outcome.next (State.issue_fault hat hwait hfault (by rw [hk, if_pos hknown]))

theorem State.precise_illegal :
    s.precise g 1 addr = (s.setSpr g 0x24 (s.core_ g).pc).exception g 1 (s.core_ g).pc := rfl

theorem State.precise_addr : s.precise g 2 addr =
    ((s.setSpr g 0x24 (s.core_ g).pc).setSpr g 0x28 addr).exception g 2 (s.core_ g).pc := rfl

/-- The state of an exception before its entry: EXC_CAUSE is set, and a TRAP or HALT of the bundle is dropped. -/
def State.raised (s : State) (g cause : Nat) : State :=
  (s.setSpr g 0x20 cause).onCore g (fun c => { c with trap := none, halting := false })

theorem State.exception_nested (h : bitOf (((s.raised g cause).core_ g).rawReg 0x2F) 5 = true) :
    s.exception g cause ret = (s.raised g cause).haltCore g cause := if_pos h

theorem State.exception_first (h : bitOf (((s.raised g cause).core_ g).rawReg 0x2F) 5 = false) :
    s.exception g cause ret = (s.raised g cause).onCore g (fun c =>
      (c.enter (0x10 * cause) ret).force 0x2F (bitSet ((c.enter (0x10 * cause) ret).rawReg 0x2F) 5)) :=
  if_neg (ne_true_of_eq_false h)

/-! ### Watchdog and timer (R198, R199) -/

theorem State.watchdog_raised (hlimit : s.spr g 0x128 ≠ 0) (hserv : (s.core_ g).insv.isSome = true)
    (honce : (s.core_ g).wdog = false) (hat : (s.core_ g).atBoundary = true) (hwait : (s.core_ g).waiting = false) :
    s.watchdog g = (s.setCore g { (s.core_ g).rtiDone with wdog := true }).exception g 3 (s.core_ g).pc := by
  refine if_neg ?_
  rw [honce, hat, hwait, Option.isNone_eq_false_iff.mpr hserv]
  exact not_or_intro hlimit (by decide)

theorem State.watchdog_quiet (h : s.spr g 0x128 = 0 ∨ (s.core_ g).insv = none ∨ (s.core_ g).wdog = true) :
    s.watchdog g = s := by
  refine if_pos ?_
  obtain hlimit | hserv | honce := h
  · exact .inl hlimit
  · exact .inr (.inl (Option.isNone_iff_eq_none.mpr hserv))
  · exact .inr (.inr (.inl honce))

/-! ### The end of a bundle (R177) -/

/-- The core after a bundle without transfer, with `next` to issue and the writes that are due made. -/
def Core.bundleDone (c : Core) (next : Nat) : Core :=
  { c with pc := next % 2 ^ 16, inBundle := none, loopEnd := none, bundle := c.bundle + 1 }.complete
    (fun p => decide (p.due ≤ c.bundle))

theorem State.finish_sequential (hbranch : (s.core_ g).branch = none) (hhalt : (s.core_ g).halting = false)
    (htrap : (s.core_ g).trap = none) : s.finish g next = s.setCore g ((s.core_ g).bundleDone next) := by
  simp only [State.finish, Core.bundleDone, hbranch, hhalt, htrap, Bool.false_eq_true, if_false]

/-- Settles O38, row by row from the lemmas above. -/
theorem coresTakeInterruptsAndExceptions : Obligations.CoresTakeInterruptsAndExceptions := by
  refine ⟨fun c v r => ⟨rfl, Core.enter_pend, rfl, rfl, rfl, rfl⟩,
    fun s g i hat hslots hie hi => congrArg Host.Outcome.next (State.interruptEntry_taken hat hslots hie hi),
    fun s g h => congrArg Host.Outcome.next (State.interruptEntry_held h),
    fun s g cause addr hat hwait hfault => ⟨fun hk => State.issue_fault_known hat hwait hfault hk rfl,
      fun hk => State.issue_fault_known hat hwait hfault hk rfl, fun hk => State.issue_fault_known hat hwait hfault hk rfl,
      fun hk => State.issue_fault_known hat hwait hfault hk rfl,
      fun hk => congrArg Host.Outcome.next (State.issue_fault hat hwait hfault (if_neg (ne_true_of_eq_false hk)))⟩,
    fun s g addr => ⟨State.precise_illegal, State.precise_addr⟩,
    fun s g cause ret => ⟨State.exception_nested, State.exception_first⟩,
    fun s g => ⟨fun hlimit hserv honce hat hwait =>
        congrArg Host.Outcome.next (State.watchdog_raised hlimit hserv honce hat hwait),
      fun h => congrArg Host.Outcome.next (State.watchdog_quiet h)⟩,
    fun s g => ⟨fun hrun => congrArg Host.Outcome.next (if_neg hrun), fun hstop => congrArg Host.Outcome.next (if_pos hstop)⟩,
    fun s g v => rfl, fun s g next hbranch hhalt htrap => State.finish_sequential hbranch hhalt htrap⟩

end Sys2Proof.Machine
end

section
/-! PROOFS of the family 09_yathar_core.md: DONE, the cluster DMA, core control, signed code and the cluster reset (O39). -/

namespace Sys2Proof.Machine
open Sys2Proof

variable {s t : State} {g i v st cl a lo hi : Nat} {w : Win} {m : Move} {d : CDma} {l : List CDma}

/-! ### DONE (R197) -/

theorem State.done_idle (h : (s.core_ g).insv = none) : s.done g st =
    (s.onCore g (fun c => { c with doneAt := some c.bundle })).err (0x60000 + g / 8 * 0x1000) 3 g 0 := by
  rw [State.done]
  dsimp only
  rw [h]
  rfl

theorem State.done_service (h : (s.core_ g).insv = some m) : s.done g st =
    let u := s.onCore g (fun c => { c with doneAt := some c.bundle })
    let x := ((u.drawn.endService g).bump (Reg.CLUS_MOVES (g / 8))).onCore g (fun c => { c with moveCyc := s.free % 2 ^ 32 })
    let y := if st = 0 then x else ((x.bump Reg.TURN_DONE_ERR).irq 0x70000 3).err 0x70000 st m.flow 0
    if (s.core_ g).state = 3 then y.onCore g Core.stopped else y := by
  rw [State.done]
  dsimp only
  rw [h]
  rfl

theorem State.endService_eq (h : (s.core_ g).insv = some m) : s.endService g =
    let u := ((s.setCore g { s.core_ g with insv := none, mv := [] }).release m.flow).addN (Reg.CLUS_CORE_BUSY (g / 8) (g % 8))
      (s.time.us - (s.core_ g).takenAt)
    if m.type = 3 then u.poolFree ((m.d0 + 2 ^ 32 - u.rn Reg.PRE_POOL_BASE * 0x100000 % 2 ^ 32) % 2 ^ 32 / 2048)
    else if m.type = 4 then u.sageFree m.flow (m.d0 % 256) else u := by
  rw [State.endService]
  dsimp only
  rw [h]
  rfl

/-! ### The cluster DMA (R203) -/

theorem State.dmaDone_idle (h : (s.core_ g).dma = []) : s.dmaDone g = s := by
  rw [State.dmaDone, h]

theorem State.dmaDone_waits (h : (s.core_ g).dma = d :: l) (hst : s.dmaStatus (g / 8) d = none) : s.dmaDone g = s := by
  rw [State.dmaDone, h]
  dsimp only
  rw [hst]

/-- The oldest transfer ends with status `st`: the bytes that it moved are written and counted, and DMA_STAT shows it. -/
theorem State.dmaDone_ends (h : (s.core_ g).dma = d :: l) (hst : s.dmaStatus (g / 8) d = some st) : s.dmaDone g =
    let n := if st = 3 then 0 else if st = 0x0C then s.free % (d.len / 4) * 4 else d.len
    let u := if st = 0x0C then s.drawn else s
    let t := (((u.wrDev d.dst (u.cleanBytes d.src n)).add64 (Reg.CLUS_DMA_BYTES_LO (g / 8)) n).onCore g
      (fun c => { c with dma := l })).setSpr g 0x318 (st * 2 ^ 24 + d.tag * 2 ^ 8)
    let x := if d.irq then t.setSpr g 0x18 (bitSet (t.spr g 0x18) 0) else t
    if st = 0 then x else (x.bump (Reg.CLUS_DMA_ERR_CNT (g / 8))).irq (0x60000 + g / 8 * 0x1000) 1 := by
  rw [State.dmaDone, h]
  dsimp only
  rw [hst]
  rfl

/-- Of two ends of a transfer, both must answer OK; a TIMEOUT of either is the transfer's. -/
theorem State.dmaStatus_eq : s.dmaStatus cl d =
    let far := fun a => if inFar a d.len then s.farStatus a d.len else some 0
    if d.src % 4 ≠ 0 ∨ d.dst % 4 ≠ 0 ∨ d.len % 4 ≠ 0 ∨ d.len < 4 ∨ 1048576 < d.len ∨
        s.dmaMapped cl d.src d.len = false ∨ s.dmaMapped cl d.dst d.len = false then some 3
    else if far d.src = some 0 ∧ far d.dst = some 0 then some (if s.poisoned d.src d.len then 0x0E else 0)
    else if far d.src = some 0x0C ∨ far d.dst = some 0x0C then some 0x0C
    else none := by
  unfold State.dmaStatus
  simp only [Bool.not_eq_true']
  refine if_congr Iff.rfl rfl ?_
  split
  next hsrc hdst => exact (if_pos ⟨hsrc, hdst⟩).symm
  next hsrc => exact ((if_neg (fun h => absurd (hsrc.symm.trans h.1) (by decide))).trans (if_pos (.inl hsrc))).symm
  next hdst _ => exact ((if_neg (fun h => absurd (hdst.symm.trans h.2) (by decide))).trans (if_pos (.inr hdst))).symm
  next hsrc hdst hok => exact ((if_neg (fun h => hok h.1 h.2)).trans (if_neg (not_or_intro hsrc hdst))).symm

/-! ### Core control (R204) -/

/-- The value that commands a core has one command bit, and DISP as it stands. -/
theorem ctlValue_bits : ∀ d, d < 2 → ∀ i, i < 3 →
    popCount 3 (d * 256 + 2 ^ i) = 1 ∧ (d * 256 + 2 ^ i) % 8 = 2 ^ i ∧ (d * 256 + 2 ^ i) &&& 0x100 = d * 256 := by decide

theorem State.coreAct_mod : s.coreAct g v = s.coreAct g (v % 8) := by
  unfold State.coreAct
  rw [Nat.mod_mod]

/-- A core command that R204 has a row for acts, and keeps DISP. -/
theorem State.hostCore_acts (hg : g < 128) (hopen : s.opens w (Reg.CLUS_CORE_CTL (g / 8) (g % 8)) true = true) (hi : i < 3)
    (hact : (s.seenBy w).coreAct g (2 ^ i) = some t) : s.hostCore w g i =
      t.setN (Reg.CLUS_CORE_CTL (g / 8) (g % 8)) (s.fld (Reg.CLUS_CORE_CTL (g / 8) (g % 8)) 8 1 * 256) := by
  obtain ⟨hone, hcmd, hdisp⟩ := ctlValue_bits (s.fld (Reg.CLUS_CORE_CTL (g / 8) (g % 8)) 8 1) fieldOf_lt i hi
  rw [← hcmd, ← State.coreAct_mod] at hact
  rw [State.hostCore, if_pos hg, hostGuard_open hopen, State.writeCoreCtl, State.ctlValue, hone, if_neg (lt_irrefl 1), hact,
    hdisp]

/-- A core command that R204 has no row for is refused with BUSY. -/
theorem State.hostCore_refused (hg : g < 128) (hopen : s.opens w (Reg.CLUS_CORE_CTL (g / 8) (g % 8)) true = true) (hi : i < 3)
    (hact : (s.seenBy w).coreAct g (2 ^ i) = none) : s.hostCore w g i = (s.seenBy w).coreRefused g 2 := by
  obtain ⟨hone, hcmd, -⟩ := ctlValue_bits (s.fld (Reg.CLUS_CORE_CTL (g / 8) (g % 8)) 8 1) fieldOf_lt i hi
  rw [← hcmd, ← State.coreAct_mod] at hact
  rw [State.hostCore, if_pos hg, hostGuard_open hopen, State.writeCoreCtl, State.ctlValue, hone, if_neg (lt_irrefl 1), hact]

/-- A core that starts: its special registers, transfers and queue port are kept. -/
def State.coreStarted (s : State) (g : Nat) : State :=
  let c := s.core_ g
  ((s.wake (0x60000 + g / 8 * 0x1000)).setCore g { state := 1, spr := c.spr, dma := c.dma, port := c.port }).setN
    (Reg.CLUS_HALT_INFO (g / 8) (g % 8)) 0

/-- A core that stops: its move is abandoned and its slot returned. -/
def State.coreStopped (s : State) (g : Nat) : State := ((s.abandonMove g).returnSlot g).onCore g Core.stopped

/-- A core that drains: the move in service goes on. -/
def State.coreDrained (s : State) (g : Nat) : State :=
  (s.returnSlot g).onCore g (fun c => if c.insv.isSome then { c with state := 3 } else c.stopped)

theorem State.coreAct_start : s.coreAct g (2 ^ 0) = if (s.core_ g).state = 0 then some (s.coreStarted g) else none := by
  rw [State.coreAct]
  generalize (s.core_ g).state = k
  match k with
  | 0 => rfl
  | n + 1 => rfl

theorem State.coreAct_stop : s.coreAct g (2 ^ 1) =
    if (s.core_ g).state = 1 ∨ (s.core_ g).state = 2 ∨ (s.core_ g).state = 3 then some (s.coreStopped g) else none := by
  rw [State.coreAct]
  generalize (s.core_ g).state = k
  match k with
  | 0 => rfl
  | 1 => rfl
  | 2 => rfl
  | 3 => rfl
  | n + 4 => exact (if_neg (by omega)).symm

theorem State.coreAct_drain : s.coreAct g (2 ^ 2) = if (s.core_ g).state = 1 then some (s.coreDrained g) else none := by
  rw [State.coreAct]
  generalize (s.core_ g).state = k
  match k with
  | 0 => rfl
  | 1 => rfl
  | n + 2 => exact (if_neg (by omega)).symm

/-- A core command acts where R204 has a row for the core's state, and keeps DISP; it is refused otherwise. -/
theorem State.hostCore_eq {p : Prop} [Decidable p] (hg : g < 128)
    (hopen : s.opens w (Reg.CLUS_CORE_CTL (g / 8) (g % 8)) true = true) (hi : i < 3)
    (hact : (s.seenBy w).coreAct g (2 ^ i) = if p then some t else none) : s.hostCore w g i =
      if p then t.setN (Reg.CLUS_CORE_CTL (g / 8) (g % 8)) (s.fld (Reg.CLUS_CORE_CTL (g / 8) (g % 8)) 8 1 * 256)
      else (s.seenBy w).coreRefused g 2 := by
  split
  case isTrue hp => exact State.hostCore_acts hg hopen hi (hact.trans (if_pos hp))
  case isFalse hp => exact State.hostCore_refused hg hopen hi (hact.trans (if_neg hp))

theorem State.returnSlot_full (h : (s.core_ g).slot = some m) : s.returnSlot g =
    let u := (s.setCore g { s.core_ g with slot := none }).release m.flow
    { u with turn := { u.turn with
      ready := insertReady { m with wait := 0, levelAt := u.time.us - m.levelAt } u.turn.ready } } := by
  rw [State.returnSlot]
  dsimp only
  rw [h]

/-! ### Signed code (R200) -/

/-- NO_RIGHTS is one of the statuses that end a load. -/
theorem ite_noRights {α : Type} {x y z : α} : (if st ≠ 0 then if st = 4 then x else y else z) =
    if st = 4 then x else if st ≠ 0 then y else z := by
  by_cases h : st = 4
  · rw [if_pos h, if_pos h, if_pos (by omega)]
  · rw [if_neg h, if_neg h]

/-! ### The cluster reset (R22) -/

/-- The registers at 0x100 and above of the pages named read as after reset. -/
theorem State.pageReset_reg (hlo : lo ≤ a) (hhi : a < hi) (hpage : 0x100 ≤ a % 0x1000) :
    (s.pageReset lo hi).reg a = regReset a := by
  rw [State.pageReset, State.resetRegs, State.reg, Tab.get_drop, if_pos (decide_eq_true ⟨hlo, hhi, hpage⟩)]

/-- Settles O39, row by row: an access let through acts on the state seen, and a due CODE_LOAD on the state begun, where its checks
come in the order of the statement. -/
theorem coreServicesAndControlAct : Obligations.CoreServicesAndControlAct := by
  refine ⟨fun s g v => congrArg Host.Outcome.next ?_, fun s g m h => State.endService_eq h,
    fun s g v => ⟨fun hroom => congrArg Host.Outcome.next (if_neg (Nat.not_le.mpr hroom)),
      fun hfull => congrArg Host.Outcome.next (if_pos hfull)⟩,
    fun s g h => congrArg Host.Outcome.next (State.dmaDone_idle h),
    fun s g d l h => ⟨fun hst => congrArg Host.Outcome.next (State.dmaDone_waits h hst),
      fun st hst => congrArg Host.Outcome.next (State.dmaDone_ends h hst)⟩,
    fun s cl d => State.dmaStatus_eq,
    fun s w g hg hopen => ⟨congrArg Host.Outcome.next (State.hostCore_eq hg hopen (by decide) State.coreAct_start),
      congrArg Host.Outcome.next (State.hostCore_eq hg hopen (by decide) State.coreAct_stop),
      congrArg Host.Outcome.next (State.hostCore_eq hg hopen (by decide) State.coreAct_drain)⟩,
    fun s g => rfl, fun s g m h => State.returnSlot_full h, fun c => rfl, fun s r addr clusters cores hdue => ?_,
    fun s w c hopen => congrArg Host.Outcome.next ((hostGuard_open hopen).trans ?_),
    fun s c a hc hlo hhi hpage => State.pageReset_reg hlo hhi hpage⟩
  · cases h : (s.core_ g).insv with
    | none => exact State.done_idle h
    | some m => exact State.done_service h
  · intro u ans noRight total cls gs b st segs v zero bad written
    refine congrArg Host.Outcome.next ((carryOut_due hdue).trans ?_)
    refine if_congr (Bool.not_eq_true' _).to_iff rfl (if_congr ?_ rfl (if_congr Iff.rfl rfl (ite_noRights.trans ?_)))
    · exact or_congr List.isEmpty_iff (or_congr_right (or_congr_right
        (or_congr (Bool.not_eq_true' _).to_iff (Bool.not_eq_true' _).to_iff)))
    · refine if_congr Iff.rfl rfl (if_congr Iff.rfl rfl (if_congr Iff.rfl rfl (if_congr Iff.rfl ?_ (if_congr Iff.rfl rfl rfl))))
      simp only [State.each, clusPage, noObject, ans, zero, written, bad, v, segs, b, total, cls, u] <;> rfl
  · simp only [State.clusRst, State.each, clusPage]

end Sys2Proof.Machine
end

section
/-! PROOFS of the family 10_turn_scheduler.md: operands become moves (O20). -/

namespace Sys2Proof.Machine
open Sys2Proof

variable {s : State} {o : Operand} {p : Producer} {l : List (Operand × Producer)} {g : Held} {rest : List Held} {sh : Bool}

/-! ### The entries of operands (R208, R215) -/

theorem State.discards_iff : s.discards o = true ↔ s.flowLive o.flow = false ∨ o.boundary = true ∧
    ((s.flow_ o.flow).lastF.any (fun k => notAfter32 o.stamp k) = true ∨ s.lineFlow o.flow = true ∧
      (s.flow_ o.flow).unmatched.any (fun h => h.op.stamp == o.stamp && h.op.type == o.type) = true) := by
  simp only [State.discards, Bool.or_eq_true, Bool.and_eq_true, Bool.not_eq_true']

/-- A boundary operand that R208 keeps is of a later boundary than the flow's last. -/
theorem State.fresh_of_kept (hkept : s.discards o = false) (hb : o.boundary = true) :
    (s.flow_ o.flow).lastF.any (fun k => notAfter32 o.stamp k) = false :=
  Bool.eq_false_iff.mpr fun hstale =>
    Bool.false_ne_true (hkept.symm.trans (State.discards_iff.mpr (.inr ⟨hb, .inl hstale⟩)))

/-- A boundary operand that R208 keeps is no second of the type and stamp that waits. -/
theorem State.type_ne_of_kept (hkept : s.discards o = false) (hb : o.boundary = true) (hline : s.lineFlow o.flow = true)
    (hwait : (s.flow_ o.flow).unmatched = g :: rest) (hstamp : g.op.stamp = o.stamp) : g.op.type ≠ o.type := by
  intro htype
  have htwin : (s.flow_ o.flow).unmatched.any (fun h => h.op.stamp == o.stamp && h.op.type == o.type) = true := by
    rw [hwait, List.any_cons, hstamp, htype, beq_self_eq_true, beq_self_eq_true]
    rfl
  exact Bool.false_ne_true (hkept.symm.trans (State.discards_iff.mpr (.inr ⟨hb, .inr ⟨hline, htwin⟩⟩)))

theorem State.live_of_kept (hkept : s.discards o = false) : s.flowLive o.flow = true :=
  eq_true_of_ne_false fun hdead => Bool.false_ne_true (hkept.symm.trans (State.discards_iff.mpr (.inl hdead)))

/-- Turn refuses an operand that R208 keeps, that needs a shared entry, and for which none is free. -/
theorem State.noEntry_iff : s.noEntry o = true ↔
    s.discards o = false ∧ s.needsShared o = true ∧ 16384 ≤ s.sharedUsed := by
  simp only [State.noEntry, Bool.and_eq_true, Bool.not_eq_true', decide_eq_true_eq, and_assoc]

theorem State.noEntry_free (hfree : s.needsShared o = false ∨ s.sharedUsed < 16384) : s.noEntry o ≠ true := by
  intro hno
  obtain ⟨-, hneed, hfull⟩ := State.noEntry_iff.mp hno
  exact hfree.elim (fun hown => Bool.false_ne_true (hown.symm.trans hneed)) (Nat.not_lt.mpr hfull)

/-! ### Operands outside LINE matching (R207, R208) -/

/-- The test of an operand against the flow's last boundary, where there is one, as Turn's matching writes it. -/
theorem testLast_eq_any {last : Option Nat} {f : Nat → Bool} :
    (match last with | some k => f k | none => false) = last.any f := by
  cases last <;> rfl

theorem State.accept_dead (hdead : s.flowLive o.flow = false) : s.accept o = s.bump Reg.TURN_BADFLOW := by
  rw [State.accept, hdead]
  rfl

theorem State.accept_line (hlive : s.flowLive o.flow = true) (hline : s.lineFlow o.flow = true) (hb : o.boundary = true) :
    s.accept o = s.matchLine ⟨o, s.needsShared o⟩ := by
  rw [State.accept, hlive, hline, hb]
  rfl

theorem State.accept_stale (hlive : s.flowLive o.flow = true) (hline : s.lineFlow o.flow = false) (hb : o.boundary = true)
    (hstale : (s.flow_ o.flow).lastF.any (fun k => notAfter32 o.stamp k) = true) :
    s.accept o = s.bump Reg.TURN_STALE_OP := by
  rw [State.accept, hlive, hline, hb]
  exact if_pos (testLast_eq_any.trans hstale)

/-- Outside LINE matching a kept operand readies a move of its own. -/
theorem State.accept_alone (hkept : s.discards o = false) (hout : s.lineFlow o.flow = false ∨ o.boundary = false) :
    let v := s.readyMove o.type o.flow o.stamp false false (o.d0, o.d1) (0, 0) (1 - b2n (s.needsShared o))
      (b2n (s.needsShared o))
    s.accept o = if o.boundary = true then v.setFlow o.flow { s.flow_ o.flow with lastF := some o.stamp } else v := by
  unfold State.accept
  rw [State.live_of_kept hkept]
  dsimp only
  cases hb : o.boundary with
  | false => rw [Bool.and_false]; rfl
  | true =>
    rw [hout.resolve_right fun h => Bool.false_ne_true (h.symm.trans hb)]
    exact if_neg (ne_true_of_eq_false (testLast_eq_any.trans (State.fresh_of_kept hkept hb)))

/-! ### Matching in a LINE flow (R207, R208) -/

theorem State.matchLine_stale (hstale : (s.flow_ o.flow).lastF.any (fun k => notAfter32 o.stamp k) = true) :
    s.matchLine ⟨o, sh⟩ = s.bump Reg.TURN_STALE_OP := by
  unfold State.matchLine
  dsimp only
  cases (s.flow_ o.flow).unmatched <;> exact if_pos (testLast_eq_any.trans hstale)

theorem State.matchLine_twin (hwait : (s.flow_ o.flow).unmatched = g :: rest) (hstamp : g.op.stamp = o.stamp)
    (htype : g.op.type = o.type) : s.matchLine ⟨o, sh⟩ = s.bump Reg.TURN_STALE_OP := by
  unfold State.matchLine
  dsimp only
  rw [hwait]
  dsimp only
  rw [if_pos hstamp, if_pos htype, ite_self]

/-- What a boundary operand that R208 keeps does in a LINE flow. -/
theorem State.matchLine_kept (hkept : s.discards o = false) (hb : o.boundary = true) (hline : s.lineFlow o.flow = true) :
    s.matchLine ⟨o, sh⟩ = match (s.flow_ o.flow).unmatched with
      | [] => s.setFlow o.flow { s.flow_ o.flow with unmatched := [⟨o, sh⟩] }
      | g :: rest =>
        if g.op.stamp = o.stamp then
          let x := if o.type = 1 then (o, g.op) else (g.op, o)
          (s.readyMove 1 o.flow o.stamp false false (x.1.d0, x.1.d1) (x.2.d0, x.2.d1)
            (2 - (b2n sh + b2n g.shared)) (b2n sh + b2n g.shared)).setFlow o.flow
              { s.flow_ o.flow with unmatched := rest, lastF := some o.stamp }
        else if notAfter32 o.stamp g.op.stamp = true then
          (s.solo ⟨o, sh⟩).setFlow o.flow { s.flow_ o.flow with lastF := some o.stamp }
        else (s.solo g).setFlow o.flow
          { s.flow_ o.flow with unmatched := rest ++ [⟨o, sh⟩], lastF := some g.op.stamp } := by
  have hfresh := State.fresh_of_kept hkept hb
  unfold State.matchLine
  dsimp only
  cases hwait : (s.flow_ o.flow).unmatched with
  | nil => exact if_neg (ne_true_of_eq_false (testLast_eq_any.trans hfresh))
  | cons g rest =>
    refine (if_neg (ne_true_of_eq_false (testLast_eq_any.trans hfresh))).trans ?_
    dsimp only
    by_cases hstamp : g.op.stamp = o.stamp
    · rw [if_pos hstamp, if_pos hstamp, if_neg (State.type_ne_of_kept hkept hb hline hwait hstamp)]
      by_cases htype : o.type = 1
      · rw [if_pos htype, if_pos htype, if_pos htype]
        rfl
      · rw [if_neg htype, if_neg htype, if_neg htype, Nat.add_comm (b2n sh)]
        rfl
    · rw [if_neg hstamp, if_neg hstamp, ← hwait]
      rfl

/-! ### OPERAND_ACCEPT (R207, R208, R215) -/

theorem exec_operandAccept (hpost : s.turn.posted = (o, p) :: l) :
    let u : State := { s with turn := { s.turn with posted := l } }
    exec .operandAccept s = .next (if u.noEntry o = true then u.refuse o p else u.accept o) := by
  refine congrArg Host.Outcome.next ?_
  rw [State.operandAccept, hpost]

/-- Of a FREE flow, stale, or the second of its type and stamp: the operand counts and is gone. -/
theorem State.accept_discarded (hdisc : s.flowLive o.flow = false ∨ o.boundary = true ∧
      ((s.flow_ o.flow).lastF.any (fun k => notAfter32 o.stamp k) = true ∨ s.lineFlow o.flow = true ∧
        (s.flow_ o.flow).unmatched.head?.any (fun h => h.op.stamp == o.stamp && h.op.type == o.type) = true)) :
    s.accept o = s.bump (if s.flowLive o.flow = true then Reg.TURN_STALE_OP else Reg.TURN_BADFLOW) := by
  cases hlive : s.flowLive o.flow with
  | false => exact State.accept_dead hlive
  | true =>
    obtain ⟨hb, hwhy⟩ := hdisc.resolve_left fun h => Bool.false_ne_true (h.symm.trans hlive)
    rw [if_pos rfl]
    cases hline : s.lineFlow o.flow with
    | false => exact State.accept_stale hlive hline hb (hwhy.resolve_right fun h => Bool.false_ne_true (hline.symm.trans h.1))
    | true =>
      rw [State.accept_line hlive hline hb]
      obtain hstale | ⟨-, htwin⟩ := hwhy
      · exact State.matchLine_stale hstale
      · obtain ⟨g, hhead, hg⟩ := (Option.any_eq_true _ _).mp htwin
        obtain ⟨rest, hwait⟩ := List.head?_eq_some_iff.mp hhead
        obtain ⟨hstamp, htype⟩ := Bool.and_eq_true_iff.mp hg
        exact State.matchLine_twin hwait (eq_of_beq hstamp) (eq_of_beq htype)

theorem any_of_head?_any {α : Type} {q : List α} {f : α → Bool} (h : q.head?.any f = true) : q.any f = true := by
  obtain ⟨x, hhead, hx⟩ := (Option.any_eq_true _ _).mp h
  exact List.any_eq_true.mpr ⟨x, List.mem_of_head? hhead, hx⟩

/-- Settles O20: a discarded operand takes no entry, a kept one needs a shared entry or has its own, and is matched only in a
LINE flow. -/
theorem turnMatchesOperandsIntoMoves : Obligations.TurnMatchesOperandsIntoMoves := by
  refine ⟨fun s type flow stamp solo miss a b res shr => rfl, fun s o sh => ⟨fun htype => ?_, fun htype => ?_⟩,
    ?_⟩
  · rw [State.solo, htype]
    rfl
  · rw [State.solo, htype]
    rfl
  intro s o p l hpost u f sh
  have hexec : exec .operandAccept s = .next (if u.noEntry o = true then u.refuse o p else u.accept o) :=
    exec_operandAccept hpost
  have hroom (hfree : u.needsShared o = false ∨ u.sharedUsed < 16384) :
      exec .operandAccept s = .next (u.accept o) :=
    hexec.trans (congrArg Host.Outcome.next (if_neg (State.noEntry_free hfree)))
  refine ⟨fun hdisc => hexec.trans (congrArg Host.Outcome.next ?_), fun hkept hneed hfull =>
    hexec.trans (congrArg Host.Outcome.next ?_), fun hkept hfree hout => (hroom hfree).trans
    (congrArg Host.Outcome.next (State.accept_alone hkept hout)), fun hkept hfree hline hb =>
    (hroom hfree).trans (congrArg Host.Outcome.next ?_)⟩
  · have hd : u.discards o = true := State.discards_iff.mpr
      (hdisc.imp_right (And.imp_right (Or.imp_right (And.imp_right any_of_head?_any))))
    exact (if_neg fun hno => Bool.false_ne_true ((State.noEntry_iff.mp hno).1.symm.trans hd)).trans
      (State.accept_discarded hdisc)
  · rw [if_pos (State.noEntry_iff.mpr ⟨hkept, hneed, hfull⟩)]
    cases p <;> rfl
  · rw [State.accept_line (State.live_of_kept hkept) hline hb]
    exact State.matchLine_kept hkept hb hline

end Sys2Proof.Machine
end

section
/-! PROOFS of the family 10_turn_scheduler.md: dispatch, promotion, timers, requests and the reset of Turn (O21). -/

namespace Sys2Proof.Machine
open Sys2Proof

variable {s : State} {o : Operand} {ow : Option Win} {hdr : Word} {ws : List Word} {mine : Treq → Bool} {t : Treq}
  {type flow id due period user a b q n dus ph : Nat} {m : Move}

/-! ### Dispatch and promotion (R210 to R213) -/

/-- The state in which a dispatch period chooses: the time has moved on, and a move that the cap holds back has counted. -/
def State.dispatching (s : State) (dus : Nat) : State :=
  let x : State := { s with time := { s.time with us := s.time.us + dus } }
  if x.bgBlocked = true then x.bump Reg.TURN_BG_BLOCK else x

theorem State.dispatch_eq : s.dispatch dus = match (s.dispatching dus).choose with
    | none => s.dispatching dus
    | some (m, k) => (s.dispatching dus).place m k := by
  unfold State.dispatch State.dispatching
  dsimp only
  split
  next hchoose => rw [hchoose]
  next hchoose => rw [hchoose]

/-- What a promoted move counts: the counter of the level it leaves; leaving level 1 shows in IRQ_RAW, and in PROMO1_V where
the move was readied at level 0 or 1. -/
def State.countPromotion (s : State) (m : Move) : State :=
  if m.level = 1 then
    let x := (s.bump Reg.TURN_PROMO1).irq 0x70000 0
    if m.rlevel ≤ 1 then x.bump Reg.TURN_PROMO1_V else x
  else if m.level = 3 then s.bump Reg.TURN_PROMO3
  else if m.level = 2 then s.bump Reg.TURN_PROMO2
  else s.bump Reg.TURN_PROMO1

theorem State.promote_eq :
    let u : State := { s with time := { s.time with us := s.time.us + dus } }
    let due := fun (m : Move) => decide (m.level ≠ 0) && decide (u.ageLimit m.level ≤ u.time.us - m.levelAt)
    let up := u.turn.ready.map (fun m => if due m then { m with level := m.level - 1, levelAt := u.time.us } else m)
    s.promote dus = ({ u with turn := { u.turn with ready := up } } : State).each (u.turn.ready.filter due)
      State.countPromotion := by
  refine congrArg (State.each _ _) (funext₂ fun t m => ?_)
  by_cases h1 : m.level = 1
  · rw [State.countPromotion, h1]
    rfl
  · rw [State.countPromotion, if_neg h1]
    dsimp only
    rw [if_pos h1]
    split
    next h3 => rw [h3]; rfl
    next h2 => rw [h2]; rfl
    next h3 h2 => rw [if_neg h3, if_neg h2]

/-! ### Timers (R216, R217) -/

/-- The timers that are due and were not armed in this frame, the longest overdue first, and by id. -/
def State.dueTimers (s : State) : List (Nat × Timer) :=
  let n := s.now % 2 ^ 32
  let late := fun (e : Nat × Timer) => (n + 2 ^ 32 - e.2.due) % 2 ^ 32
  sortBy (fun a b => decide (late b < late a) || (late a == late b && decide (a.1 ≤ b.1)))
    (s.turn.timers.filterMap (fun e => e.2.bind (fun t =>
      if pastDue t.due n = true ∧ t.armed ≠ s.now then some (e.1, t) else none)))

theorem State.hourglass_eq : s.hourglass ph = if s.dueTimers = [] then s
    else (s.each s.dueTimers (fun s e => s.fire e.1 e.2)).maxN Reg.TURN_HG_MAXFIRE ph := by
  change (if s.dueTimers.isEmpty = true then s.each s.dueTimers (fun s e => s.fire e.1 e.2) else _) = _
  by_cases hnone : s.dueTimers = []
  · rw [if_pos hnone, hnone]
    rfl
  · rw [if_neg hnone]
    exact if_neg (mt List.isEmpty_iff.mp hnone)

theorem State.arm_eq : s.arm id flow due period user =
    let v := s.setTimer id (some ⟨flow, due % 2 ^ 32, period, user, s.now⟩)
    if pastDue (due % 2 ^ 32) (s.now % 2 ^ 32) = true then v.bump Reg.TURN_HG_PAST else v := rfl

/-! ### Requests (R215, R218) -/

theorem State.flowLive_popItem : (s.popItem q).flowLive flow = s.flowLive flow := by
  unfold State.popItem
  dsimp only
  split <;> rfl

/-- An operand that is no boundary operand is discarded for its flow alone, and needs a shared entry. -/
theorem State.discards_plain (hb : o.boundary = false) : s.discards o = !s.flowLive o.flow := by
  rw [State.discards, hb, Bool.false_and, Bool.or_false]

theorem State.needsShared_plain (hb : o.boundary = false) : s.needsShared o = true := by
  rw [State.needsShared, hb, Bool.false_and, Bool.false_and, Bool.not_false]

theorem State.noEntry_plain (hb : o.boundary = false) :
    s.noEntry o = true ↔ s.flowLive o.flow = true ∧ 16384 ≤ s.sharedUsed := by
  rw [State.noEntry_iff, State.discards_plain hb, State.needsShared_plain hb, Bool.not_eq_false', eq_self_iff_true, true_and]

theorem State.accept_plain (hb : o.boundary = false) : s.accept o =
    if s.flowLive o.flow = false then s.bump Reg.TURN_BADFLOW
    else s.readyMove o.type o.flow o.stamp false false (o.d0, o.d1) (0, 0) 0 1 := by
  cases hlive : s.flowLive o.flow with
  | false => exact State.accept_dead hlive
  | true =>
    have hkept : s.discards o = false := by rw [State.discards_plain hb, hlive, Bool.not_true]
    refine (State.accept_alone hkept (.inr hb)).trans ?_
    rw [hb, State.needsShared_plain hb]
    rfl

theorem State.readTreq_post (h : s.readTreq hdr ws = .post type flow a b) : type = 0x08 ∨ type = 0x3F := by
  unfold State.readTreq at h
  dsimp only at h
  by_cases hform : hdr.toNat / 2 ^ 24 % 16 ≠ 4
  · rw [if_pos hform] at h
    cases h
  · rw [if_neg hform] at h
    split at h
    · split at h
      case isTrue => cases h
      case isFalse hok =>
        obtain ⟨rfl, -⟩ := Treq.post.inj h
        omega
    · split at h <;> cases h
    · split at h <;> cases h
    · cases h

theorem State.now_popItem : (s.popItem q).now = s.now := by simp only [State.now, State.popItem_time]

/-- What Turn does with the front request `t`: all but a refused POST leave the queue. -/
def State.frontTreq (s : State) : Treq → State
  | .bad w1 => (s.popItem s.treqQ).treqErr w1
  | .set id f due p x => (s.popItem s.treqQ).arm id f due p x
  | .cancel id => (s.popItem s.treqQ).setTimer id none
  | .post ty f a b =>
    if s.noEntry ⟨ty, f, s.now % 2 ^ 32, a, b⟩ = true then
      (({ s with turn := { s.turn with reqHeld := true } } : State).bump Reg.TURN_REFUSED).irq 0x70000 1
    else (s.popItem s.treqQ).accept ⟨ty, f, s.now % 2 ^ 32, a, b⟩

/-- A row that takes the front request's kind acts on it. -/
theorem State.takeTreq_mine (hfront : s.frontItem s.treqQ = some (hdr, ws, ow)) (hfree : s.turn.reqHeld = false)
    (hread : s.readTreq hdr ws = t) (hmine : mine t = true) : s.takeTreq mine = s.frontTreq t := by
  unfold State.takeTreq
  rw [hfront]
  dsimp only
  rw [hread, hmine, hfree]
  cases t <;> rfl

/-- A POST is refused where no shared entry is free, discarded where its flow does not exist, and readies a move otherwise. -/
theorem State.takeTreq_post (hfront : s.frontItem s.treqQ = some (hdr, ws, ow)) (hfree : s.turn.reqHeld = false)
    (hread : s.readTreq hdr ws = .post type flow a b) (hmine : mine (.post type flow a b) = true) :
    s.takeTreq mine =
      if s.flowLive flow = true ∧ 16384 ≤ s.sharedUsed then
        (({ s with turn := { s.turn with reqHeld := true } } : State).bump Reg.TURN_REFUSED).irq 0x70000 1
      else if s.flowLive flow = false then (s.popItem s.treqQ).bump Reg.TURN_BADFLOW
      else (s.popItem s.treqQ).readyMove type flow (s.now % 2 ^ 32) false false (a, b) (0, 0) 0 1 := by
  have hb : (⟨type, flow, s.now % 2 ^ 32, a, b⟩ : Operand).boundary = false := by
    obtain rfl | rfl := State.readTreq_post hread <;> rfl
  refine (State.takeTreq_mine hfront hfree hread hmine).trans (if_congr (State.noEntry_plain hb) rfl ?_)
  rw [State.accept_plain hb, State.flowLive_popItem]

theorem State.takeTreq_set (hfront : s.frontItem s.treqQ = some (hdr, ws, ow)) (hfree : s.turn.reqHeld = false)
    (hread : s.readTreq hdr ws = .set id flow due period user) (hmine : mine (.set id flow due period user) = true) :
    let v := (s.popItem s.treqQ).setTimer id (some ⟨flow, due % 2 ^ 32, period, user, s.now⟩)
    s.takeTreq mine = if pastDue (due % 2 ^ 32) (s.now % 2 ^ 32) = true then v.bump Reg.TURN_HG_PAST else v := by
  refine (State.takeTreq_mine hfront hfree hread hmine).trans ?_
  rw [State.frontTreq, State.arm_eq, State.now_popItem]

/-! ### System flows and the reset (R219) -/

theorem State.sysPost_eq : s.sysPost n =
    if s.flowLive (8192 + n % 64) = false then s.bump Reg.TURN_BADFLOW
    else if 16384 ≤ s.sharedUsed then ((s.bump Reg.TURN_REFUSED).irq 0x70000 1).setN Reg.TURN_SYS_POST_STAT 1
    else s.readyMove 0x3F (8192 + n % 64) (s.now % 2 ^ 32) false false
      (s.rn Reg.TURN_SYS_POST_D0, s.rn Reg.TURN_SYS_POST_D1) (0, 0) 0 1 := by
  rw [State.sysPost, State.accept_plain rfl, if_congr (State.noEntry_plain rfl) rfl rfl]
  cases hlive : s.flowLive (8192 + n % 64) with
  | false => exact (if_neg fun h => Bool.false_ne_true h.1).trans ((if_pos rfl).trans (if_pos rfl).symm)
  | true =>
    by_cases hfull : 16384 ≤ s.sharedUsed
    · rw [if_pos ⟨rfl, hfull⟩, if_pos hfull]
      rfl
    · rw [if_neg fun h => hfull h.2, if_neg hfull]

theorem bitOf_and_0x7FFFFFFF (v : Word) : bitOf (v &&& 0x7FFFFFFF#32).toNat 31 = false := by
  rw [bitOf_eq_testBit, BitVec.toNat_and, Nat.testBit_and, show (0x7FFFFFFF#32).toNat.testBit 31 = false by decide,
    Bool.and_false]

theorem State.writeSysflow_off {v : Word} (hoff : bitOf v.toNat 31 = false) : s.writeSysflow n v =
    let u := s.setReg (Reg.TURN_SYSFLOW_CFG n) (v &&& 0x800F0000#32)
    if s.bit (Reg.TURN_SYSFLOW_CFG n) 31 = true then u.dropFlow (8192 + n) (some Reg.TURN_BADFLOW) else u := by
  rw [State.writeSysflow, hoff]
  dsimp only
  rw [Bool.not_false, Bool.and_true]
  rfl

theorem State.turnRst_idle (hctx : s.anyCtx = false) (hstop : s.allStopped = true) :
    s.turnRst = { (s.headerReset turnPage).pageReset turnPage 0x74000 with turn := {} } := by
  rw [State.turnRst, hctx, hstop]
  rfl

/-- Settles O21, row by row: an access let through acts on the state seen, and a request is taken by the row of its kind. -/
theorem turnPlacesPromotesTimesAndTakesRequests : Obligations.TurnPlacesPromotesTimesAndTakesRequests := by
  refine ⟨fun s dus => ?_, fun s dus => congrArg Host.Outcome.next State.promote_eq,
    fun s ph => congrArg Host.Outcome.next State.hourglass_eq, fun s id t => rfl, fun s hdr ws ow hfront hfree => ?_,
    fun s w i hopen => congrArg Host.Outcome.next ((hostGuard_open hopen).trans State.sysPost_eq),
    fun s w n hopen => congrArg Host.Outcome.next ((hostGuard_open hopen).trans ?_),
    fun s w hopen hctx hstop => congrArg Host.Outcome.next ((hostGuard_open hopen).trans
      (State.turnRst_idle (s := s.seenBy w) hctx hstop)),
    fun s a => State.pageReset_reg⟩
  · intro x u
    have hu : s.dispatching dus = u := rfl
    refine congrArg Host.Outcome.next (State.dispatch_eq.trans ?_)
    rw [hu]
    cases u.choose <;> rfl
  · exact ⟨fun w1 hread => congrArg Host.Outcome.next (State.takeTreq_mine hfront hfree hread rfl),
      fun ty f a b hread => congrArg Host.Outcome.next (State.takeTreq_post hfront hfree hread rfl),
      fun id f due p x hread => congrArg Host.Outcome.next (State.takeTreq_set hfront hfree hread rfl),
      fun id hread => congrArg Host.Outcome.next (State.takeTreq_mine hfront hfree hread rfl)⟩
  · exact State.writeSysflow_off (bitOf_and_0x7FFFFFFF _)

end Sys2Proof.Machine
end

section
/-! PROOFS of the families 00_scope.md, 16_rook_security.md and 17_host_startup.md: the order of the queue (O43, O51), the OTP bits
that stay programmed (O53), and THERMTRIP_L until PORST_L (O54). -/

namespace Sys2Proof.Machine
open Sys2Proof

variable {s t : State} {c : Instr} {a i : Nat} {l r : List Instr}

/-! ### The queue of waiting commands -/

theorem step_front : step { s with pending := c :: l } = exec c { s with pending := l } := rfl

theorem step_idle (h : s.pending = []) : step s = .next s := by
  unfold step
  rw [h]

theorem step_of_pending (h : s.pending = c :: l) : step s = exec c { s with pending := l } := by
  unfold step
  rw [h]

/-- Settles O43: the two branches of `step`. -/
theorem stepRunsTheFrontCommand : Obligations.StepRunsTheFrontCommand :=
  ⟨fun _ _ _ => step_front, fun _ => step_idle, fun _ _ _ => step_of_pending⟩

/-- Every command answers a next state, and leaves the waiting commands. -/
theorem exec_next_pending (s : State) (c : Instr) : ∃ t, exec c s = .next t ∧ t.pending = s.pending := by
  obtain ⟨t, hexec, hgood⟩ := exec_good (c := c) (k := Keep.untripped s) nofun Good.untripped
  exact ⟨t, hexec, hgood.pending⟩

/-- A step from a queue of one or more commands answers, and leaves the rest of the queue. -/
theorem step_next_pending (h : s.pending = c :: l) : ∃ t, step s = .next t ∧ t.pending = l := by
  rw [step_of_pending h]
  exact exec_next_pending { s with pending := l } c

theorem step_pending (h : s.pending = c :: l) (hstep : step s = .next t) : t.pending = l := by
  obtain ⟨u, hu, hrest⟩ := step_next_pending h
  cases hu.symm.trans hstep
  exact hrest

theorem run_succ {M : Host.Core} {s t : M.State} {n : Nat} (h : M.step s = .next t) : M.run (n + 1) s = M.run n t := by
  rw [Host.Core.run, h]

/-- A run of one step for each command of `l` leaves what stood behind `l`. -/
theorem run_pending (l r : List Instr) (s : State) (h : s.pending = l ++ r) :
    ∃ t : State, Sys2Proof.core.run l.length s = .next t ∧ t.pending = r := by
  induction l generalizing s with
  | nil => exact ⟨s, rfl, h⟩
  | cons c l ih =>
    obtain ⟨u, hstep, hu⟩ := step_next_pending h
    obtain ⟨t, hrun, ht⟩ := ih u hu
    exact ⟨t, (run_succ hstep).trans hrun, ht⟩

/-- Settles O51: `Good` keeps the queue through every command, and a run is one step after another. -/
theorem everyCommandTakesEffectAndTheQueueIsInOrder : Obligations.EveryCommandTakesEffectAndTheQueueIsInOrder :=
  ⟨exec_next_pending, fun _ _ _ _ => step_pending, fun s l r => run_pending l r s⟩

/-! ### Programmed OTP bits (R327) -/

theorem exec_otpBit (hs : s.canonical = true) (h : exec c s = .next t) (hbit : s.otpBit a i = true) : t.otpBit a i = true :=
  (exec_keeps h).otp hs a i hbit

/-- The OTP does not depend on the queue that a step takes its command from. -/
theorem step_otpBit (hs : s.canonical = true) (h : step s = .next t) (hbit : s.otpBit a i = true) : t.otpBit a i = true := by
  obtain ⟨-, rfl⟩ | ⟨c, rest, -, hexec⟩ := step_cases h
  · exact hbit
  · have hrest : ({ s with pending := rest } : State).canonical = true := hs
    exact exec_otpBit hrest hexec hbit

/-- Settles O53: `Good` keeps the programmed bits through every command, a cold and a warm reset among them. -/
theorem programmedBitsStaySet : Obligations.ProgrammedBitsStaySet :=
  ⟨fun _ _ _ _ _ => exec_otpBit, fun _ _ _ _ => step_otpBit⟩

/-! ### THERMTRIP_L (R371) -/

/-- Every command but a cold reset keeps THERMTRIP_L low. -/
theorem exec_trip (hc : c ≠ .coldReset) (hs : s.host.trip = true) (h : exec c s = .next t) : t.host.trip = true := by
  obtain ⟨u, hu, hgood⟩ := exec_good (c := c) (k := Keep.of s) (fun _ => hc) Good.refl
  cases hu.symm.trans h
  exact hgood.trip hs

theorem step_trip (hc : s.pending.head? ≠ some .coldReset) (hs : s.host.trip = true) (h : step s = .next t) :
    t.host.trip = true := by
  obtain ⟨-, rfl⟩ | ⟨c, rest, hpending, hexec⟩ := step_cases h
  · exact hs
  · have hfront : c ≠ .coldReset := by
      rintro rfl
      exact hc (by rw [hpending, List.head?_cons])
    have hrest : ({ s with pending := rest } : State).host.trip = true := hs
    exact exec_trip hfront hrest hexec

/-- Settles O54: `Good` keeps THERMTRIP_L low through every command but a cold reset, whose next state is that of reset. -/
theorem thermtripStaysLowUntilPorst : Obligations.ThermtripStaysLowUntilPorst :=
  ⟨fun _ => rfl, fun _ _ _ => exec_trip, fun s => ⟨s.restart, rfl, rfl⟩, fun _ _ => step_trip⟩

end Sys2Proof.Machine
end

section
/-! PROOFS of the family 11_queues.md: reservations, commits and reads of the host (O22), and the configuration of queues (O23). -/

namespace Sys2Proof.Machine
open Sys2Proof

variable {s : State} {w : Win} {q st size base n : Nat} {v : Word}

/-! ### Reservations and commits of the host (R223, R224) -/

theorem hdrFits_eq_false : (!(hdrOk v && decide (hdrLen v = n))) = true ↔ ¬(hdrOk v = true ∧ v.toNat % 2 ^ 16 = n) := by
  rw [Bool.not_eq_true', ← Bool.not_eq_true, Bool.and_eq_true, decide_eq_true_eq]
  rfl

theorem hdrFits_iff : (hdrOk v && decide (hdrLen v = n)) = true ↔ hdrOk v = true ∧ v.toNat % 2 ^ 16 = n := by
  rw [Bool.and_eq_true, decide_eq_true_eq]
  rfl

/-! ### Reads of the host (R227) -/

theorem Queue.idle_iff {x : Queue} : (!x.en || decide (x.rd = x.wr)) = true ↔ x.en = false ∨ x.rd = x.wr := by
  rw [Bool.or_eq_true, Bool.not_eq_true', decide_eq_true_eq]

theorem State.dataRead_idle (h : (s.que q).en = false ∨ (s.que q).rd = (s.que q).wr) :
    s.dataRead q = { s with rdata := w32 (0xD1CE0000 + q) } := by
  have hidle := Queue.idle_iff.mpr h
  unfold State.dataRead State.queueHead
  dsimp only
  rw [hidle, Bool.true_or]
  rfl

/-- A DATA read that meets the header of a reservation shows 0. -/
theorem State.dataRead_reserved (h : ¬((s.que q).en = false ∨ (s.que q).rd = (s.que q).wr))
    (hresv : (s.que q).resv.any (fun r => r.at_ == (s.que q).rd) = true) : s.dataRead q = { s with rdata := 0 } := by
  have hbusy := eq_false_of_ne_true (mt Queue.idle_iff.mp h)
  unfold State.dataRead State.queueHead
  dsimp only
  rw [hbusy, hresv]
  rfl

/-- A DATA read of a whole item moves RD on: a header begins an item of its length, any other word leaves one fewer. -/
theorem State.dataRead_word (h : ¬((s.que q).en = false ∨ (s.que q).rd = (s.que q).wr))
    (hresv : ¬(s.que q).resv.any (fun r => r.at_ == (s.que q).rd) = true) :
    let x := s.que q
    let v := s.sram (x.word x.rd)
    s.dataRead q = ({ s with rdata := v } : State).setQue q (if x.left = 0
      then { x with rd := (x.rd + 1) % (2 * x.S), left := v.toNat % 2 ^ 16, items := x.items.tail }
      else { x with rd := (x.rd + 1) % (2 * x.S), left := x.left - 1 }) := by
  have hbusy := eq_false_of_ne_true (mt Queue.idle_iff.mp h)
  have hwhole := eq_false_of_ne_true hresv
  unfold State.dataRead State.queueHead
  dsimp only
  rw [hbusy, hwhole]
  by_cases hleft : (s.que q).left = 0
  · rw [if_pos hleft, if_pos hleft]
    rfl
  · rw [if_neg hleft, if_neg hleft]
    rfl

/-- Settles O22, row by row: an access let through acts on the state seen, and a commit or a read is one of the cases of R223 and
R227. -/
theorem queueReservationsWriteAndCommitItems : Obligations.QueueReservationsWriteAndCommitItems := by
  refine ⟨fun s w q v hopen => ?_, fun s q st => rfl, fun s w q v hopen => ?_, fun s w q v hopen => ?_, fun s q => rfl,
    fun s w q hopen => ?_⟩
  · refine congrArg Host.Outcome.next ((hostGuard_open hopen).trans ?_)
    simp only [State.dataWrite, Bool.not_eq_true']
    rfl
  · intro u x report
    refine congrArg Host.Outcome.next ((hostGuard_open hopen).trans ?_)
    change u.commitWrite w q v = _
    have hque : u.que q = x := rfl
    unfold State.commitWrite
    dsimp only
    rw [hque]
    refine if_congr (Bool.not_eq_true' _).to_iff rfl ?_
    generalize (x.winQ w).drop = d
    cases d with
    | some st => rfl
    | none =>
      cases x.resv with
      | some r => exact if_congr Iff.rfl rfl (if_congr hdrFits_iff rfl rfl)
      | none => exact if_congr hdrFits_eq_false rfl rfl
  · refine congrArg Host.Outcome.next ((hostGuard_open hopen).trans ?_)
    simp only [Bool.not_eq_true']
    rfl
  · refine congrArg Host.Outcome.next ((hostGuard_open hopen).trans ?_)
    by_cases hidle : (s.que q).en = false ∨ (s.que q).rd = (s.que q).wr
    · exact (State.dataRead_idle (s := s.seenBy w) hidle).trans (if_pos hidle).symm
    · by_cases hresv : (s.que q).resv.any (fun r => r.at_ == (s.que q).rd) = true
      · exact (State.dataRead_reserved (s := s.seenBy w) hidle hresv).trans ((if_neg hidle).trans (if_pos hresv)).symm
      · exact (State.dataRead_word (s := s.seenBy w) hidle hresv).trans ((if_neg hidle).trans (if_neg hresv)).symm

/-! ### QCFG (R220, R231, R232) -/

/-- The bits of a QCFG value lie where R220 has EN, SIZE and BASE. -/
theorem qcfg_mask (hsize : size < 16) (hbase : base < 2048) :
    w32 (2 ^ 31 + size * 2 ^ 16 + base) &&& 0x800F07FF#32 = w32 (2 ^ 31 + size * 2 ^ 16 + base) := by
  refine BitVec.eq_of_getLsbD_eq fun i hi => ?_
  rw [BitVec.getLsbD_and, w32, BitVec.getLsbD_ofNat, decide_eq_true hi, Bool.true_and, Bool.and_eq_left_iff_imp]
  have e : 2 ^ 31 + size * 2 ^ 16 + base = 2 ^ 16 * (2 ^ 4 * 2 ^ 11 + size) + base := by ring
  rw [e, Nat.testBit_two_pow_mul_add _ (by omega), Nat.testBit_two_pow_mul_add _ hsize]
  have hlow : ∀ j, j < 11 → (0x800F07FF#32).getLsbD j = true := by decide
  have hmid : ∀ j, j < 4 → (0x800F07FF#32).getLsbD (16 + j) = true := by decide
  split
  case isTrue => exact fun h => hlow i (bitOf_lt hbase (bitOf_eq_testBit.trans h))
  case isFalse hi16 =>
    obtain ⟨j, rfl⟩ := Nat.exists_eq_add_of_le (Nat.not_lt.mp hi16)
    rw [Nat.add_sub_cancel_left]
    split
    case isTrue hj => exact fun _ => hmid j hj
    case isFalse =>
      rw [Nat.testBit_two_pow, decide_eq_true_eq]
      intro h
      rw [show 16 + j = 31 by omega]
      rfl

theorem qcfg_toNat (hsize : size < 16) (hbase : base < 2048) :
    (w32 (2 ^ 31 + size * 2 ^ 16 + base)).toNat = 2 ^ 31 + size * 2 ^ 16 + base :=
  Nat.mod_eq_of_lt (by omega)

theorem fieldOf_qcfg_size (hsize : size < 16) (hbase : base < 2048) : fieldOf (2 ^ 31 + size * 2 ^ 16 + base) 16 4 = size := by
  unfold fieldOf
  omega

theorem fieldOf_qcfg_base (hbase : base < 2048) : fieldOf (2 ^ 31 + size * 2 ^ 16 + base) 0 11 = base := by
  unfold fieldOf
  omega

/-- QCFG `n` with the fields SIZE and BASE replaced. -/
def qcfgResized (n size base : Nat) : Nat := putField (putField n 16 4 size) 0 11 base

theorem qcfgResized_lt (hn : n < 2 ^ 32) : qcfgResized n size base < 2 ^ 32 := by
  unfold qcfgResized putField
  omega

theorem qcfgResized_en (hn : n < 2 ^ 32) (hen : bitOf n 31 = true) : bitOf (qcfgResized n size base) 31 = true := by
  unfold qcfgResized putField bitOf at *
  rw [beq_iff_eq] at *
  omega

theorem qcfgResized_size (hsize : size < 16) : fieldOf (qcfgResized n size base) 16 4 = size := by
  unfold qcfgResized putField fieldOf
  omega

theorem qcfgResized_base (hbase : base < 2048) : fieldOf (qcfgResized n size base) 0 11 = base := by
  unfold qcfgResized putField fieldOf
  omega

theorem bitOf_qcfg (hsize : size < 16) (hbase : base < 2048) : bitOf (2 ^ 31 + size * 2 ^ 16 + base) 31 = true := by
  unfold bitOf
  rw [beq_iff_eq]
  omega

/-- A write of QCFG with EN set enables the queue, or keeps the new size or base pending. -/
theorem State.writeQcfg_on (hen : bitOf v.toNat 31 = true) (hsize : fieldOf v.toNat 16 4 = size)
    (hbase : fieldOf v.toNat 0 11 = base) :
    let t := s.setReg (Reg.QM_QCFG q) (v &&& 0x800F07FF#32)
    let x := s.que q
    s.writeQcfg q v =
      if s.qcfgBad q size base true = true then (s.err 0x78000 3 q (Reg.QM_QCFG q)).irq 0x78000 2
      else if x.en = false then
        t.setQue q { x with en := true, size := size, base := base, rd := 0, wr := 0, items := [], left := 0, pend := none }
      else t.setQue q { x with pend := if size = x.size ∧ base = x.base then none else some (size, base) } := by
  intro t x
  unfold State.writeQcfg
  rw [hen, hsize, hbase]
  have hque : t.que q = x := rfl
  refine if_congr Iff.rfl rfl ?_
  change (if (!(t.que q).en) = true then _ else _) = _
  rw [hque]
  exact if_congr (Bool.not_eq_true' _).to_iff rfl rfl

/-- A queue that is to be disabled needs no region. -/
theorem State.qcfgBad_off : s.qcfgBad q size base false = true ↔ 8 < size := by
  unfold State.qcfgBad
  rw [Bool.false_and, Bool.false_and, Bool.false_and, Bool.false_and, Bool.or_false, Bool.or_false, decide_eq_true_eq]

/-- A write of QCFG with EN clear flushes the queue and disables it. -/
theorem State.writeQcfg_off (hen : bitOf v.toNat 31 = false) :
    let t := (s.setReg (Reg.QM_QCFG q) (v &&& 0x800F07FF#32)).flush q
    let y := { t.que q with
      en := false, size := fieldOf v.toNat 16 4, base := fieldOf v.toNat 0 11, rsv := 0, pend := none, left := 0 }
    s.writeQcfg q v =
      if 8 < fieldOf v.toNat 16 4 then (s.err 0x78000 3 q (Reg.QM_QCFG q)).irq 0x78000 2 else (t.setQue q y).orphans q := by
  unfold State.writeQcfg
  rw [hen]
  exact if_congr State.qcfgBad_off rfl rfl

/-! ### The reset (R235) -/

theorem State.busy_iff : (s.anyCtx || !s.allStopped) = true ↔ s.anyCtx = true ∨ s.allStopped = false := by
  rw [Bool.or_eq_true, Bool.not_eq_true']

/-- Settles O23, row by row: an access let through acts on the state seen, and a value of QCFG has its fields where R220 puts
them. -/
theorem queuesAreConfiguredFlushedAndReset : Obligations.QueuesAreConfiguredFlushedAndReset := by
  refine ⟨fun s w q size base hopen hsize hbase => ?_, fun s w q size base hopen hen hsize hbase => ?_, fun s w q v hopen => ?_,
    fun s q => rfl, fun s q => rfl, fun s w q hopen => congrArg Host.Outcome.next (hostGuard_open hopen), fun s q => rfl,
    fun s w hopen => congrArg Host.Outcome.next ((hostGuard_open hopen).trans (if_congr State.busy_iff rfl rfl)),
    fun s a => State.pageReset_reg⟩
  · have hvalue := qcfg_toNat hsize hbase
    have hon := State.writeQcfg_on (s := s.seenBy w) (q := q) (v := w32 (2 ^ 31 + size * 2 ^ 16 + base))
      (by rw [hvalue, bitOf_qcfg hsize hbase]) (by rw [hvalue, fieldOf_qcfg_size hsize hbase])
      (by rw [hvalue, fieldOf_qcfg_base hbase])
    rw [qcfg_mask hsize hbase] at hon
    refine congrArg Host.Outcome.next ((hostGuard_open hopen).trans ?_)
    rw [Nat.mod_eq_of_lt hsize, Nat.mod_eq_of_lt hbase]
    exact hon
  · have hrn : s.rn (Reg.QM_QCFG q) < 2 ^ 32 := State.rn_lt
    have hvalue : (w32 (qcfgResized (s.rn (Reg.QM_QCFG q)) size base)).toNat = qcfgResized (s.rn (Reg.QM_QCFG q)) size base :=
      Nat.mod_eq_of_lt (qcfgResized_lt hrn)
    refine congrArg Host.Outcome.next ((hostGuard_open hopen).trans (State.writeQcfg_on (s := s.seenBy w) ?_ ?_ ?_))
    · exact (congrArg (bitOf · 31) hvalue).trans (qcfgResized_en hrn hen)
    · exact (congrArg (fieldOf · 16 4) hvalue).trans (qcfgResized_size hsize)
    · exact (congrArg (fieldOf · 0 11) hvalue).trans (qcfgResized_base hbase)
  · exact congrArg Host.Outcome.next ((hostGuard_open hopen).trans (State.writeQcfg_off (bitOf_and_0x7FFFFFFF v)))

end Sys2Proof.Machine
end

section
/-! PROOFS of the family 11_queues.md: core commits and pops, the taking of commands, responses and events (O24). -/

namespace Sys2Proof.Machine
open Sys2Proof

variable {s : State} {q g op tag : Nat} {hdr : Word} {l ws : List Word} {win : Option Win}

/-! ### Atomic commits and the core queue port (R225, R234) -/

theorem State.qpCommit_ready {v : Word} (h : (s.core_ g).port.txBusy = false) :
    let ws := (List.range (min (v.toNat % 2 ^ 16) 128)).map (fun i => Tab.get (fun _ => 0) (s.core_ g).port.txbuf i)
    let t := s.setCore g { s.core_ g with port := { (s.core_ g).port with txBusy := true } }
    s.qpCommit g v =
      { t with qm := { s.qm with commits := s.qm.commits ++ [⟨(s.core_ g).port.txq, .core g, v.toNat, ws⟩] } } :=
  if_neg (ne_true_of_eq_false h)

theorem Queue.commitStatus_eq {x : Queue} {n : Nat} : x.commitStatus hdr n =
    if x.en = false then 13
    else if hdrOk hdr = false ∨ hdr.toNat % 2 ^ 16 ≠ n ∨ min 1023 (x.S / 4 - 1) < n then 3
    else if x.free < n + 1 then 1 else 0 := by
  refine if_congr (Bool.not_eq_true' _).to_iff rfl (if_congr ?_ rfl rfl)
  rw [Bool.or_eq_true, Bool.or_eq_true, Bool.not_eq_true', decide_eq_true_eq, decide_eq_true_eq, or_assoc]
  rfl

theorem State.commitAccept_oldest {c : Commit} (hfind : s.qm.commits.find? (fun c => c.q == q) = some c)
    (hresv : (s.que q).resv = none) :
    let u : State := { s with qm := { s.qm with commits := s.qm.commits.eraseP (fun c => c.q == q) } }
    let st := (s.que q).commitStatus (w32 c.hdr) c.words.length
    let t := if st = 0 then u.putItem q (w32 c.hdr) c.words none
      else if st = 13 then u.bump (Reg.QM_QDROP q)
      else if st = 3 then u.bump Reg.QM_BAD_COMMIT
      else u
    s.commitAccept q = t.commitDone c.by_ st := by
  unfold State.commitAccept
  rw [hfind]
  dsimp only
  rw [hresv]
  rfl

theorem State.qpPop_item {o : Option Win} (h : s.frontItem (s.core_ g).port.rxq = some (hdr, ws, o)) :
    let p := (s.core_ g).port
    let u := s.popItem p.rxq
    let buf := ((ws.take 64).zip (List.range 64)).foldl (fun t e => Tab.put (fun _ => 0) t e.2 e.1) []
    s.qpPop g = u.setCore g { u.core_ g with port := { p with
      rxbuf := buf, rxHdr := hdr.toNat, rxTrunc := decide (64 < ws.length), rxStat := if 64 < ws.length then 10 else 0 } } := by
  unfold State.qpPop
  dsimp only
  rw [h]
  dsimp only
  rw [if_congr decide_eq_true_iff rfl rfl]

/-! ### Taking commands (R20, R226, R227) -/

/-- The form of an item that is judged as a command: its type, its opcode and its length. -/
def CommandFormed (hdr : Word) (l : List Word) : Prop :=
  let op := (l.headD 0).toNat / 2 ^ 24
  hdr.toNat / 2 ^ 24 % 16 = 1 ∧ opcodes.contains op = true ∧ opMinLen op ≤ l.length

theorem commandFormed_iff (hl : l ≠ []) :
    (!l.isEmpty && decide (hdr.toNat / 2 ^ 24 % 16 = 1) && opcodes.contains ((l.headD 0).toNat / 2 ^ 24) &&
      decide (opMinLen ((l.headD 0).toNat / 2 ^ 24) ≤ l.length)) = true ↔ CommandFormed hdr l := by
  rw [List.isEmpty_eq_false_iff.mpr hl, Bool.not_false, Bool.true_and, Bool.and_eq_true, Bool.and_eq_true,
    decide_eq_true_eq, decide_eq_true_eq, and_assoc]
  rfl

/-- The state in which the item at the head of queue `q` has been taken: the space of its response is reserved. -/
def State.itemTaken (s : State) (q op : Nat) : State :=
  let v := (s.popItem q).setQue (q + 16) { s.que (q + 16) with rsv := (s.que (q + 16)).rsv + respLen op }
  { v with qm := { v.qm with served := q } }

/-- The state in which a command that has been taken goes on to its block. -/
def State.commandPassed (s : State) (q op tag : Nat) (win : Option Win) (ws : List Word) : State :=
  let u := s.itemTaken q op
  { u with qm := { u.qm with taken := u.qm.taken ++ [⟨q, tag, op, win, ws, false, false⟩] } }

theorem State.commandTake_idle (h : s.nextQueue ≠ some q) : s.commandTake q = s := by
  unfold State.commandTake
  split
  · rfl
  · exact if_pos h

section
variable (hfront : s.frontItem q = some (hdr, l, win)) (hnext : s.nextQueue = some q)
include hfront hnext

theorem State.commandTake_empty (hl : l = []) : 
    s.commandTake q = (s.itemTaken q 0).answer ⟨q, 0, win.getD .operator⟩ 0 3 [0xFFFFFFFF] := by
  subst hl
  unfold State.commandTake
  rw [hfront]
  exact if_neg (not_not_intro hnext)

theorem State.commandTake_malformed (hl : l ≠ []) (hform : ¬CommandFormed hdr l) :
    let op := (l.headD 0).toNat / 2 ^ 24
    s.commandTake q = (s.itemTaken q op).answer ⟨q, (l.headD 0).toNat % 2 ^ 16, win.getD .operator⟩ op 3
      [objectOf op (l.drop 1)] := by
  have hbad := eq_false_of_ne_true (mt (commandFormed_iff hl).mp hform)
  unfold State.commandTake
  rw [hfront]
  dsimp only
  rw [if_neg (not_not_intro hnext), hbad, List.isEmpty_eq_false_iff.mpr hl]
  rfl

theorem State.commandTake_noRight (hl : l ≠ []) (hform : CommandFormed hdr l)
    (hright : ¬win.any (fun w => s.commandRight w ((l.headD 0).toNat / 2 ^ 24)) = true) :
    let op := (l.headD 0).toNat / 2 ^ 24
    s.commandTake q = ((s.itemTaken q op).audit (match win with
        | some w => winNum w + 1
        | none => 0) 4 0x0D [op]).answer ⟨q, (l.headD 0).toNat % 2 ^ 16, win.getD .operator⟩ op 4
      [objectOf op (l.drop 1)] := by
  unfold State.commandTake
  rw [hfront]
  dsimp only
  rw [if_neg (not_not_intro hnext), (commandFormed_iff hl).mpr hform, List.isEmpty_eq_false_iff.mpr hl,
    eq_false_of_ne_true hright]
  cases win <;> rfl

theorem State.commandTake_passed (hl : l ≠ []) (hform : CommandFormed hdr l)
    (hright : win.any (fun w => s.commandRight w ((l.headD 0).toNat / 2 ^ 24)) = true)
    (hblock : (l.headD 0).toNat / 2 ^ 24 ≠ 0x0A ∨ 8192 ≤ ((l.drop 1).headD 0).toNat) :
    s.commandTake q = s.commandPassed q ((l.headD 0).toNat / 2 ^ 24) ((l.headD 0).toNat % 2 ^ 16) win (l.drop 1) := by
  have hpost : s.hostCmd ((l.headD 0).toNat / 2 ^ 24) q ((l.headD 0).toNat % 2 ^ 16) (l.drop 1) = none :=
    if_neg fun h => hblock.elim (· h.1) (Nat.not_le.mpr h.2)
  unfold State.commandTake
  rw [hfront]
  dsimp only
  rw [if_neg (not_not_intro hnext), (commandFormed_iff hl).mpr hform, List.isEmpty_eq_false_iff.mpr hl, hright, hpost]
  rfl

/-- CTX_SEND_EVENT posts its operand to the flow of its context. -/
theorem State.commandTake_posted (hl : l ≠ []) (hform : CommandFormed hdr l)
    (hright : win.any (fun w => s.commandRight w ((l.headD 0).toNat / 2 ^ 24)) = true)
    (hop : (l.headD 0).toNat / 2 ^ 24 = 0x0A) (hflow : ((l.drop 1).headD 0).toNat < 8192) :
    let op := (l.headD 0).toNat / 2 ^ 24
    let tag := (l.headD 0).toNat % 2 ^ 16
    let cmd : Operand := ⟨5, ((l.drop 1).headD 0).toNat, s.now % 2 ^ 32, s.free % 2 ^ 32, op * 2 ^ 24 + q * 2 ^ 16 + tag⟩
    s.commandTake q = if s.noEntry cmd = true then
        (({ s with qm := { s.qm with stalled := q :: s.qm.stalled } } : State).bump Reg.TURN_REFUSED).irq 0x70000 1
      else (s.commandPassed q op tag win (l.drop 1)).drawn.accept cmd := by
  intro op tag cmd
  have hpost : s.hostCmd op q tag (l.drop 1) = some cmd := if_pos ⟨hop, hflow⟩
  unfold State.commandTake
  rw [hfront]
  dsimp only
  rw [if_neg (not_not_intro hnext), (commandFormed_iff hl).mpr hform, List.isEmpty_eq_false_iff.mpr hl, hright, hpost]
  rfl

end

/-! ### Responses and events (R20, R21, R226) -/

section
variable {ev code st : Nat} {lost : Bool} (hresv : (s.que q).resv = none)
include hresv

theorem State.responseWrite_oldest
    (hfind : s.qm.outbox.find? (fun o => o.q == q) = some ⟨some (st, tag), ev, op, ws, lost⟩) :
    let x := s.que q
    let u : State := { s with qm := { s.qm with outbox := s.qm.outbox.eraseP (fun o => o.q == q) } }
    let body := w32 (op * 2 ^ 24 + st * 2 ^ 16 + tag % 2 ^ 16) :: ws
    s.responseWrite q = if lost = true then u.bump (Reg.QM_QDROP q)
      else (u.setQue q { x with rsv := x.rsv - respLen op }).putItem q (w32 (0xA2000000 + body.length)) body none := by
  unfold State.responseWrite
  rw [hfind]
  dsimp only
  rw [hresv]
  rfl

/-- An event takes the next number, and is dropped where it does not fit. -/
theorem State.eventPost_oldest (hfind : s.qm.outbox.find? (fun o => o.q == q) = some ⟨none, ev, code, ws, lost⟩) :
    let x := s.que q
    let u : State := { s with qm := { s.qm with outbox := s.qm.outbox.eraseP (fun o => o.q == q) } }
    let v := u.setQue q { x with evseq := (x.evseq + 1) % 2 ^ 16 }
    let body := w32 (code * 2 ^ 24 + x.evseq) :: ws
    s.eventPost q = if x.en = true ∧ body.length + 1 ≤ x.free then v.putItem q (w32 (0xA3000000 + body.length)) body none
      else ((v.bump (Reg.QM_QDROP q)).setFld (Reg.QM_QSTAT q) 30 1 1).irq 0x78000 0 := by
  intro x u v body
  have hdrop : (!x.en || decide (x.free < body.length + 1)) = true ↔ ¬(x.en = true ∧ body.length + 1 ≤ x.free) := by
    rw [Bool.or_eq_true, Bool.not_eq_true', decide_eq_true_eq, not_and_or, Bool.not_eq_true, Nat.not_le]
  have hdropped : s.eventPost q = if (!x.en || decide (x.free < body.length + 1)) = true then
      ((v.bump (Reg.QM_QDROP q)).setFld (Reg.QM_QSTAT q) 30 1 1).irq 0x78000 0
      else v.putItem q (w32 (0xA3000000 + body.length)) body none := by
    unfold State.eventPost
    rw [hfind]
    exact if_neg (by rw [hresv]; exact Bool.false_ne_true)
  rw [hdropped, if_congr hdrop rfl rfl, ite_not]

end

/-- Settles O24, row by row: the item, commit or record that the row names is found, and a command is judged in the order of
R20. -/
theorem commandsAreTakenAndAnswered : Obligations.CommandsAreTakenAndAnswered := by
  refine ⟨fun s g v hready => congrArg Host.Outcome.next (State.qpCommit_ready hready), fun s q c hfind hresv => ?_,
    fun s q hdr ws w => rfl, fun s g st => rfl, fun s g hdr ws o hfront => congrArg Host.Outcome.next (State.qpPop_item hfront),
    fun s q hidle => congrArg Host.Outcome.next (State.commandTake_idle hidle), fun s => rfl, fun s q hdr l win hfront hnext => ?_,
    fun s q st tag q' op ws lost hfind hresv => congrArg Host.Outcome.next (State.responseWrite_oldest hresv hfind),
    fun s q q' code ws lost hfind hresv => congrArg Host.Outcome.next (State.eventPost_oldest hresv hfind)⟩
  · intro x u st
    have hst : x.commitStatus (w32 c.hdr) c.words.length = st := Queue.commitStatus_eq
    have haccept := State.commitAccept_oldest hfind hresv
    dsimp only at haccept
    rw [hst] at haccept
    exact congrArg Host.Outcome.next haccept
  · exact ⟨fun hl => congrArg Host.Outcome.next ((State.commandTake_empty hfront hnext hl).trans (by rw [hl]; rfl)),
      fun hl hform => congrArg Host.Outcome.next (State.commandTake_malformed hfront hnext hl hform),
      fun hl hform hright => congrArg Host.Outcome.next (State.commandTake_noRight hfront hnext hl hform hright),
      fun hl hform hright hblock => congrArg Host.Outcome.next (State.commandTake_passed hfront hnext hl hform hright hblock),
      fun hl hform hright hop hflow =>
        congrArg Host.Outcome.next (State.commandTake_posted hfront hnext hl hform hright hop hflow)⟩

end Sys2Proof.Machine
end

section
/-! PROOFS of the family 12_cipher.md: in-line packets, journal slots and jobs (O25). -/

namespace Sys2Proof.Machine
open Sys2Proof

variable {s : State} {c out iv st : Nat} {fault : Bool} {hdr : Word} {ws : List Word} {o : Option Win}

/-! ### In-line packets (R243, R246) -/

section
variable {p : CiphRx} {l : List CiphRx} (hrx : (s.eng c).rx = p :: l)
include hrx

theorem State.srtpRx_down (hdown : s.cipherDown c = true) :
    s.srtpRx c fault = (s.setEng c { s.eng c with rx := l }).rxGone p (Reg.CIPH_DROP_CNT c) := by
  unfold State.srtpRx
  rw [hrx]
  exact if_pos hdown

theorem State.srtpRx_noKey (hup : s.cipherDown c = false) (hkey : s.skey p.ctx 0 = none ∨ (s.srec p.ctx 0).state ≠ 1) :
    s.srtpRx c fault = (s.setEng c { s.eng c with rx := l }).rxGone p (Reg.CIPH_NOKEY_CNT c) := by
  unfold State.srtpRx
  rw [hrx]
  refine (if_neg (ne_true_of_eq_false hup)).trans ?_
  cases hstore : s.skey p.ctx 0 with
  | none =>
    have hstore' : (s.setEng c { s.eng c with rx := l }).skey p.ctx 0 = none := hstore
    dsimp only
    rw [hstore']
  | some k =>
    have hstore' : (s.setEng c { s.eng c with rx := l }).skey p.ctx 0 = some k := hstore
    dsimp only
    rw [hstore']
    exact if_pos (hkey.resolve_left (by rw [hstore]; exact Option.some_ne_none k))

/-- A packet with a key is checked for its length and its MKI before the steps 4 to 6 of R243. -/
theorem State.srtpRx_key {k : SKey} (hup : s.cipherDown c = false) (hkey : s.skey p.ctx 0 = some k)
    (hstate : (s.srec p.ctx 0).state = 1) :
    let u := s.setEng c { s.eng c with rx := l }
    let r := s.srec p.ctx 0
    let b := s.rdBytes (s.poolAddr p.buf) p.len
    let t := suiteTag k.suite
    let mki := if suiteGcm k.suite then slice b (b.length - r.mkiLen) r.mkiLen else slice b (b.length - t - r.mkiLen) r.mkiLen
    s.srtpRx c fault =
      if b.length < 12 + r.mkiLen + t ∨ 2048 < b.length then u.rxGone p (Reg.CIPH_MALFORMED c)
      else if mki ≠ r.mki.take r.mkiLen then
        ((u.setSrec p.ctx 0 { r with tagf := (r.tagf + 1) % 2 ^ 32 }).poolFree p.buf).tagFail c p.ctx
      else u.srtpVerify c p b r k fault := by
  have hkey' : (s.setEng c { s.eng c with rx := l }).skey p.ctx 0 = some k := hkey
  unfold State.srtpRx
  rw [hrx]
  refine (if_neg (ne_true_of_eq_false hup)).trans ?_
  dsimp only
  rw [hkey']
  exact if_neg (not_not_intro hstate)

end

section
variable {p : CiphTx} {l : List CiphTx} (hrx : (s.eng c).rx = []) (htx : (s.eng c).tx = p :: l)
include hrx htx

theorem State.srtpTx_down (hdown : s.cipherDown c = true) :
    s.srtpTx c fault = (s.setEng c { s.eng c with tx := l }).bump (Reg.CIPH_DROP_CNT c) := by
  unfold State.srtpTx
  rw [htx]
  dsimp only
  rw [hrx]
  exact if_pos hdown

theorem State.srtpTx_noKey (hup : s.cipherDown c = false) (hkey : s.skey p.ctx 1 = none ∨ (s.srec p.ctx 1).state ≠ 1) :
    s.srtpTx c fault = (s.setEng c { s.eng c with tx := l }).bump (Reg.CIPH_NOKEY_CNT c) := by
  unfold State.srtpTx
  rw [htx]
  dsimp only
  refine (if_neg (by rw [hrx]; decide)).trans ((if_neg (ne_true_of_eq_false hup)).trans ?_)
  cases hstore : s.skey p.ctx 1 with
  | none =>
    have hstore' : (s.setEng c { s.eng c with tx := l }).skey p.ctx 1 = none := hstore
    rw [hstore']
  | some k =>
    have hstore' : (s.setEng c { s.eng c with tx := l }).skey p.ctx 1 = some k := hstore
    rw [hstore']
    exact if_pos (hkey.resolve_left (by rw [hstore]; exact Option.some_ne_none k))

/-- A packet with a key is protected, unless the index is used up or the fault check fails. -/
theorem State.srtpTx_key {k : SKey} (hup : s.cipherDown c = false) (hkey : s.skey p.ctx 1 = some k)
    (hstate : (s.srec p.ctx 1).state = 1) :
    let u := s.setEng c { s.eng c with tx := l }
    let r := s.srec p.ctx 1
    let seq := beNat (slice p.rtp 2 2)
    let wrap := bitOf r.flags 2 && decide (seq ≤ r.seq)
    let roc := if wrap then r.roc + 1 else r.roc
    let i := roc * 65536 + seq
    let ssrc := beNat (slice p.rtp 8 4)
    let n := rtpHeadLen p.rtp
    let out := k.crypt ssrc i (p.rtp.take n) (p.rtp.drop n)
    let tag := k.tag ssrc i (out.take n) (out.drop n)
    let mki := r.mki.take r.mkiLen
    s.srtpTx c fault =
      if wrap = true ∧ r.roc = 2 ^ 32 - 1 then
        ((u.setSrec p.ctx 1 { r with state := 2 }).bump (Reg.CIPH_EXH_CNT c)).keyExhausted c p.ctx 1
      else if fault = true then (u.bump (Reg.CIPH_DROP_CNT c)).cipherFault c
      else ((u.setSrec p.ctx 1 { r with roc := roc, seq := seq, flags := bitSet r.flags 2, pkts := (r.pkts + 1) % 2 ^ 32 }).bump
        (Reg.CIPH_TX_PKTS c)).voicePut p.tmpl p.slot (out ++ (if suiteGcm k.suite then tag ++ mki else mki ++ tag)) := by
  have hkey' : (s.setEng c { s.eng c with tx := l }).skey p.ctx 1 = some k := hkey
  unfold State.srtpTx
  rw [htx]
  dsimp only
  refine (if_neg (by rw [hrx]; decide)).trans ((if_neg (ne_true_of_eq_false hup)).trans ?_)
  rw [hkey']
  refine (if_neg (not_not_intro hstate)).trans (if_congr ?_ rfl rfl)
  rw [Bool.and_eq_true, decide_eq_true_eq]
  rfl

end

/-! ### Journal slots (R163) -/

/-- The slot `y` takes the place of `x` among the slots on their way. -/
def State.putSlotFor (p : State × JSlot) (x : JSlot) : State :=
  { p.1 with thyme := { p.1.thyme with slots := p.1.thyme.slots.map (fun y => if y = x then p.2 else y) } }

theorem State.journalSlot_oldest {x : JSlot} (hinline : s.inlineWaits c = false)
    (hfind : s.thyme.slots.find? (fun x => x.plain && (s.ctx_ x.ctx).home == c) = some x) :
    s.journalSlot c fault =
      if s.cipherDown c = true then State.putSlotFor (s.slotRefused x) x
      else if fault = true then (State.putSlotFor (s.slotRefused x) x).cipherFault c
      else match s.jkey x.kgen with
        | some k => State.putSlotFor
            (s.bump (Reg.CIPH_JNL_CNT c), { x with bytes := slotCrypt k x.kgen x.bytes, plain := false }) x
        | none => State.putSlotFor (s.slotRefused x) x := by
  have hhome : (s.ctx_ x.ctx).home = c := by
    have hx := List.find?_some hfind
    rw [Bool.and_eq_true] at hx
    exact eq_of_beq hx.2
  have hslot : s.journalSlot c fault = if (fault && !s.cipherDown c) = true then
      (State.putSlotFor (s.slotRefused x) x).cipherFault c else State.putSlotFor (s.slotCipher x) x := by
    unfold State.journalSlot
    rw [hinline, hfind]
    rfl
  rw [hslot, State.slotCipher, hhome]
  cases s.cipherDown c with
  | true =>
    rw [Bool.not_true, Bool.and_false]
    cases s.jkey x.kgen <;> rfl
  | false =>
    cases fault with
    | true => rfl
    | false => cases s.jkey x.kgen <;> rfl

/-! ### Jobs (R239, R253 to R258) -/

theorem State.jobTake_front (hrebuild : s.bit (Reg.CIPH_ENGINE_STAT c) 30 = false) (hroom : (s.eng c).jobs.length < 16)
    (hfront : s.frontItem (s.fld (Reg.CIPH_CIPH_CFG c) 0 9) = some (hdr, ws, o)) :
    let u := s.popItem (s.fld (Reg.CIPH_CIPH_CFG c) 0 9)
    let x := u.eng c
    let st := if hdr.toNat / 2 ^ 24 % 16 ≠ 6 ∨ ws.length ≠ 13 then 3 else u.jobCheck c (jobF ws)
    s.jobTake c = (u.setEng c { x with
      jobs := x.jobs ++ [{ id := x.taken, w := ws, st := st }], taken := x.taken + 1 }).jobBegin c := by
  unfold State.jobTake
  refine (if_neg ?_).trans ?_
  · rw [hrebuild]
    exact not_or_intro Bool.false_ne_true (Nat.not_le.mpr hroom)
  · rw [hfront]

theorem ciphPage_irq_ne_evq : Reg.CIPH_EVQ c ≠ 0x50000 + c * 0x1000 + 0x10 := by
  unfold Reg.CIPH_EVQ
  omega

/-- The lock of a slot whose counter is used up posts its event to the queue that CIPH_EVQ names, which no cause writes. -/
theorem State.countIv_eq {j : JobF} :
    let k := s.keySlot c j.slot
    let t := ((s.setKeySlot c j.slot { k with state := 3 }).bump (Reg.CIPH_EXH_CNT c)).irq (0x50000 + c * 0x1000) 1
    s.countIv c j =
      if k.counter = 2 ^ 64 - 1 then (t.event (t.rn (Reg.CIPH_EVQ c)) 0xD0 [0xFFFF, j.slot, t.free, c, t.now]).drawn
      else s.setKeySlot c j.slot { k with counter := k.counter + 1 } := by
  intro k t
  have hevq : t.rn (Reg.CIPH_EVQ c) = ((s.setKeySlot c j.slot { k with state := 3 }).bump (Reg.CIPH_EXH_CNT c)).rn
      (Reg.CIPH_EVQ c) := State.rn_irq_ne ciphPage_irq_ne_evq
  rw [hevq]
  rfl

section
variable {x : CiphJob} (hrun : (s.eng c).running = some x)
include hrun

theorem State.jobBegin_running :
    let j := jobF x.w
    let st := s.jobCheck c j
    let t := s.setJob c { x with st := st, key := if st = 0 then some (s.keySlot c j.slot) else none }
    s.jobBegin c = if x.st ≠ 0 ∨ x.key.isSome = true then s else if st = 0 ∧ j.gen = true then t.countIv c j else t := by
  unfold State.jobBegin
  rw [hrun]

section
variable (hinline : s.inlineWaits c = false) (hslot : s.slotWaits c = false) (hkeys : s.keyWaits c = false)
include hinline hslot hkeys

theorem State.jobDoneC_refused (hkey : x.key = none) :
    s.jobDoneC c fault = s.jobEnd c x (if x.st = 0 then 8 else x.st) 0 0 := by
  unfold State.jobDoneC
  rw [hinline, hslot, hkeys, hrun]
  dsimp only
  rw [hkey]
  rfl

theorem State.jobDoneC_key {k : KeySlot} (hkey : x.key = some k) :
    s.jobDoneC c fault =
      if s.bit (Reg.CIPH_ENGINE_STAT c) 31 = true then
        (if (jobF x.w).streams then s.streamFail (jobF x.w) x.released 8 false else s).jobEnd c x 8 0 0
      else s.jobRun c x k fault := by
  unfold State.jobDoneC
  rw [hinline, hslot, hkeys, hrun]
  dsimp only
  rw [hkey]
  rfl

end
end

section
variable {x : CiphJob} {k : KeySlot}

/-- The job `x` ends with status `st` and no bytes kept; what a streaming open has released is zeroed. -/
def State.jobCut (s : State) (c : Nat) (x : CiphJob) (st : Nat) : State :=
  (if (jobF x.w).streams = true then s.streamFail (jobF x.w) x.released st false else s).jobEnd c x st 0 0

/-- A far memory range of the job's is lost. -/
def State.jobDown (s : State) (x : CiphJob) : Bool :=
  s.farDown (jobF x.w).src (jobF x.w).srcLen || s.farDown (jobF x.w).dst (jobF x.w).outLen

theorem State.jobRun_down (hdown : s.jobDown x = true) : s.jobRun c x k fault = s.jobCut c x 12 := by
  unfold State.jobDown at hdown
  unfold State.jobRun
  dsimp only
  rw [hdown, if_pos (.inl rfl)]
  rfl

theorem State.jobRun_poisoned (hdown : s.jobDown x = false) (hpoison : s.poisoned (jobF x.w).src (jobF x.w).srcLen = true) :
    s.jobRun c x k fault = s.jobCut c x 14 := by
  unfold State.jobDown at hdown
  unfold State.jobRun
  dsimp only
  rw [hdown, hpoison, if_pos (.inr (.inl rfl))]
  rfl

theorem State.jobRun_fault (hdown : s.jobDown x = false) (hpoison : s.poisoned (jobF x.w).src (jobF x.w).srcLen = false) :
    s.jobRun c x k true = (s.jobCut c x 8).cipherFault c := by
  unfold State.jobDown at hdown
  unfold State.jobRun
  dsimp only
  rw [hdown, hpoison, if_pos (.inr (.inr rfl))]
  rfl

end

/-- Settles O25, row by row: the packet, slot or job that the row names is found, and the checks of its rule come in their
order. -/
theorem cipherPacketsAndJobsRunToTheirVerdict : Obligations.CipherPacketsAndJobsRunToTheirVerdict := by
  refine ⟨fun s c fault p l hrx => ⟨fun hdown => congrArg Host.Outcome.next (State.srtpRx_down hrx hdown),
      fun hup hkey => congrArg Host.Outcome.next (State.srtpRx_noKey hrx hup hkey),
      fun k hup hkey hstate => congrArg Host.Outcome.next (State.srtpRx_key hrx hup hkey hstate)⟩,
    fun s c fault p l hrx htx => ⟨fun hdown => congrArg Host.Outcome.next (State.srtpTx_down hrx htx hdown),
      fun hup hkey => congrArg Host.Outcome.next (State.srtpTx_noKey hrx htx hup hkey),
      fun k hup hkey hstate => congrArg Host.Outcome.next (State.srtpTx_key hrx htx hup hkey hstate)⟩,
    fun s c fault x hinline hfind => congrArg Host.Outcome.next (State.journalSlot_oldest hinline hfind),
    fun s c hdr ws o hrebuild hroom hfront => congrArg Host.Outcome.next (State.jobTake_front hrebuild hroom hfront),
    fun s c x hrun => State.jobBegin_running hrun, fun s c j => State.countIv_eq, fun s c st out iv x => rfl,
    fun s c fault x hinline hslot hkeys hrun => ⟨fun hkey => congrArg Host.Outcome.next
      (State.jobDoneC_refused hrun hinline hslot hkeys hkey), fun k hkey hlock => congrArg Host.Outcome.next
      ((State.jobDoneC_key hrun hinline hslot hkeys hkey).trans (if_pos hlock)), fun k hkey hlock =>
      congrArg Host.Outcome.next ((State.jobDoneC_key hrun hinline hslot hkeys hkey).trans
        ((if_neg (ne_true_of_eq_false hlock)).trans ?_))⟩⟩
  by_cases hdown : s.jobDown x = true
  · exact (State.jobRun_down hdown).trans (if_pos hdown).symm
  have hnear : s.jobDown x = false := eq_false_of_ne_true hdown
  by_cases hpoison : s.poisoned (jobF x.w).src (jobF x.w).srcLen = true
  · exact (State.jobRun_poisoned hnear hpoison).trans ((if_neg hdown).trans (if_pos hpoison)).symm
  have hclean : s.poisoned (jobF x.w).src (jobF x.w).srcLen = false := eq_false_of_ne_true hpoison
  refine Eq.trans ?_ ((if_neg hdown).trans (if_neg hpoison)).symm
  cases fault with
  | true => exact State.jobRun_fault hnear hclean
  | false => exact if_neg (by rintro (h | h | h); exacts [hdown h, hpoison h, Bool.false_ne_true h])

end Sys2Proof.Machine
end

section
/-! PROOFS of the family 12_cipher.md: SRTP keys, key slots, the lock, the reset and the rebuild of an engine (O26). -/

namespace Sys2Proof.Machine
open Sys2Proof

variable {s : State} {r : CmdRef} {c d i op addr alg usage fixed ctx a b : Nat} {fault bad : Bool} {k : SrtpKey}

/-- A host key operation acts when no in-line packet and no journal slot waits and its command is due (R238). -/
theorem State.keyTurn_due {f : State → State} (hinline : s.inlineWaits c = false) (hslot : s.slotWaits c = false)
    (hdue : s.cmdDue r op = true) : s.keyTurn c (fun s => s.carryOut r op f) = f (s.begun r op) := by
  unfold State.keyTurn
  rw [hinline, hslot]
  exact carryOut_due hdue

/-! ### SRTP keys (R247, R262) -/

theorem State.cmdKeySrtp_eq : s.cmdKeySrtp r c d k fault =
    if r.win = .maker then (s.audit 3 4 0x0D [0x50]).respond r 0x50 4 [c]
    else if 8191 < c ∨ 1 < d ∨ srtpKeyBad k = true then s.respond r 0x50 3 [c]
    else if s.srtpOpen c = false then s.respond r 0x50 13 [c]
    else if s.bit (Reg.CIPH_ENGINE_STAT (s.ctx_ c).home) 31 = true then s.respond r 0x50 8 [c]
    else if fault = true then (s.cipherFault (s.ctx_ c).home).respond r 0x50 8 [c]
    else (s.installKey c d k).respond r 0x50 0 [c] :=
  ite_congr rfl (fun h => by rw [h]; rfl) (fun _ => if_congr Iff.rfl rfl (if_congr (Bool.not_eq_true' _).to_iff rfl rfl))

theorem State.cmdKeySrtpClear_eq : s.cmdKeySrtpClear r c d =
    if r.win = .maker then (s.audit 3 4 0x0D [0x51]).respond r 0x51 4 [c]
    else if 8191 < c ∨ 1 < d then s.respond r 0x51 3 [c]
    else if s.srtpOpen c = false then s.respond r 0x51 13 [c]
    else if s.bit (Reg.CIPH_ENGINE_STAT (s.ctx_ c).home) 31 = true then s.respond r 0x51 8 [c]
    else (((s.setSkey c d none).wr8 (srtpAddr c d) 0).wrBytes (srtpAddr c d + 64) (List.replicate 56 0)).respond r 0x51 0
      [c] :=
  ite_congr rfl (fun h => by rw [h]; rfl) (fun _ => if_congr Iff.rfl rfl (if_congr (Bool.not_eq_true' _).to_iff rfl rfl))

/-! ### Key slots (R251 to R253) -/

/-- What KEY_SLOT_LOAD and KEY_SLOT_GEN share once the TRNG serves them: the refusals in the order of R262, the fault check, and
then the operation `f` with KX. -/
theorem State.slotCmd_eq {P : Prop} [Decidable P] {f : State → Nat → State} (hbad : bad = true ↔ P)
    (htrng : ¬(op = 0x53 ∧ s.trngHalted = true)) : s.slotCmd r op c i bad f =
    if r.win ≠ .installer then (s.audit (winNum r.win + 1) 4 0x0D [op]).respondA r op 4 [c, i]
    else if 15 < c ∨ 31 < i ∨ P then s.respondA r op 3 [c, i]
    else if s.bit (Reg.CIPH_ENGINE_STAT c) 31 = true then s.respondA r op 8 [c, i]
    else match s.kx with
      | none => s.respondA r op 13 [c, i]
      | some x => if s.slotBusy c i = true then s.respondA r op 2 [c, i]
        else if s.free % 2 = 1 then (s.drawn.cipherFault c).respondA r op 8 [c, i] else f s.drawn x :=
  (if_neg htrng).trans (if_congr Iff.rfl rfl (if_congr (or_congr_right (or_congr_right hbad)) rfl rfl))

theorem genBad_iff {n : Nat} : (alg == 0 || decide (3 < alg) || decide (15 < usage) || decide (2 ^ 32 ≤ fixed) ||
      (bitOf usage 2 && alg == 3) || !inNear addr n) = true ↔
    alg = 0 ∨ 3 < alg ∨ 15 < usage ∨ 2 ^ 32 ≤ fixed ∨ (bitOf usage 2 = true ∧ alg = 3) ∨ inNear addr n = false := by
  simp only [Bool.or_eq_true, Bool.and_eq_true, beq_iff_eq, decide_eq_true_eq, Bool.not_eq_true', or_assoc]

/-! ### Reset and rebuild (R240, R261) -/

/-- The keys of both directions of a context homed in the cluster are gone. -/
theorem State.zeroStore_skey (hd : d ≤ 1) : (s.zeroStore (s.ctx_ ctx).home).skey ctx d = none := by
  have hctx : (2 * ctx + d) / 2 = ctx := by omega
  unfold State.zeroStore State.skey
  dsimp only
  rw [Tab.get_drop, hctx, beq_self_eq_true]
  rfl

theorem State.rebuildKey_eq :
    let r := s.srec ctx d
    let kl := suiteBits r.suite / 8
    State.rebuildKey (s, a, b) ctx d = if r.state = 1 ∨ r.state = 2 then
      (match kwpUnwrap s.ck (s.rdBytes (srtpAddr ctx d + 64) (wkeyLen r.suite)) with
        | some u => (s.setSkey ctx d (some (sessionKeys r.suite (u.take kl) (u.drop kl))), a + 1, b)
        | none => (s.wr8 (srtpAddr ctx d) 0, a, b + 1))
      else (s, a, b) := by
  have hempty : ((s.srec ctx d).state ≠ 1 ∧ (s.srec ctx d).state ≠ 2) ↔
      ¬((s.srec ctx d).state = 1 ∨ (s.srec ctx d).state = 2) := not_or.symm
  exact (if_congr hempty rfl rfl).trans (ite_not _ _ _)

theorem State.ciphRebuilt_eq (h : s.bit (Reg.CIPH_ENGINE_STAT c) 30 = true) :
    let l := (s.jbe.ctxs.filter (fun e => e.2.state == 1 && e.2.srtp.isSome && e.2.home == c)).map Prod.fst
    let p := l.foldl (fun p ctx => State.rebuildKey (State.rebuildKey p ctx 0) ctx 1) (s, 0, 0)
    let t := (p.1.setFld (Reg.CIPH_ENGINE_STAT c) 30 1 0).irq (ciphPage c) 5
    s.ciphRebuilt c = (t.event (t.rn (Reg.CIPH_EVQ c)) 0xD3 [c, p.2.1, p.2.2]).setN (ciphPage c + 0x34) 1 :=
  if_neg (by rw [h]; decide)

/-- Settles O26, row by row: a due command acts on the state begun, and its refusals come in the order of R262. -/
theorem keyCommandsAndEngineResetAct : Obligations.KeyCommandsAndEngineResetAct := by
  refine ⟨fun s r c d k fault hinline hslot hdue => congrArg Host.Outcome.next
      ((State.keyTurn_due hinline hslot hdue).trans State.cmdKeySrtp_eq),
    fun s r c d hinline hslot hdue => congrArg Host.Outcome.next
      ((State.keyTurn_due hinline hslot hdue).trans State.cmdKeySrtpClear_eq),
    fun s r c d hdue => congrArg Host.Outcome.next ((carryOut_due hdue).trans
      (ite_congr rfl (fun h => by rw [h]; rfl) (fun _ => rfl))),
    fun s r c i hdue => congrArg Host.Outcome.next ((carryOut_due hdue).trans
      (ite_congr rfl (fun h => by rw [h]; rfl) (fun _ => rfl))),
    fun s r c i hinline hslot hdue => congrArg Host.Outcome.next (State.keyTurn_due hinline hslot hdue),
    fun s r c i o hinline hslot hdue => ?_, fun s r c i alg usage fixed o hinline hslot hdue => ?_,
    fun s w c hopen => congrArg Host.Outcome.next (hostGuard_open hopen),
    fun s w c hopen => congrArg Host.Outcome.next (hostGuard_open hopen), fun s ctx d => State.zeroStore_skey,
    fun s c hbusy => congrArg Host.Outcome.next (State.ciphRebuilt_eq hbusy), fun s a b ctx d => State.rebuildKey_eq⟩
  · refine congrArg Host.Outcome.next ((State.keyTurn_due hinline hslot hdue).trans ?_)
    unfold State.cmdSlotLoad
    rw [State.slotCmd_eq (Bool.not_eq_true' _).to_iff (fun h => absurd h.1 (by decide))]
    rfl
  · refine congrArg Host.Outcome.next ((State.keyTurn_due hinline hslot hdue).trans ?_)
    by_cases htrng : s.trngHalted = true
    · exact (if_pos ⟨rfl, htrng⟩).trans (if_pos htrng).symm
    · have hserved : ¬(0x53 = 0x53 ∧ (s.begun r 0x53).trngHalted = true) := fun h => htrng h.2
      refine Eq.trans ?_ (if_neg htrng).symm
      unfold State.cmdSlotGen
      rw [State.slotCmd_eq genBad_iff hserved]
      rfl

end Sys2Proof.Machine
end

section
/-! PROOFS of the family 13_ethernet.md: reception, pause, rings, transmission, links and the reset of a MAC (O27), the
classifier and its exact table (O28). -/

namespace Sys2Proof.Machine
open Sys2Proof

variable {s t : State} {w : Win} {m q r a k : Nat} {v : Word}

/-! ### Reception (R266, R267) -/

theorem State.rn_add64_ne (hlo : a ≠ r) (hhi : a ≠ r + 4) : (s.add64 r k).rn a = s.rn a :=
  (State.rn_setN_ne hhi).trans (State.rn_setN_ne hlo)

section
variable {f : WireFrame}

/-- FEC is on: it counts what it corrects at 25 Gb/s. -/
def State.fecOn (s : State) (m : Nat) : Bool := s.bit (Reg.MAC_MAC_CFG m) 3 && s.fld (Reg.MAC_MAC_CFG m) 0 2 == 2

theorem State.fecOn_iff : s.fecOn m = true ↔ s.bit (Reg.MAC_MAC_CFG m) 3 = true ∧ s.fld (Reg.MAC_MAC_CFG m) 0 2 = 2 := by
  rw [State.fecOn, Bool.and_eq_true, beq_iff_eq]

/-- The codewords of a received frame are counted. -/
def State.fecCounted (s : State) (m : Nat) (f : WireFrame) : State :=
  if s.fecOn m then (s.add64 (Reg.MAC_RX_FEC_CORR m) f.corr).add64 (Reg.MAC_RX_FEC_UNCORR m) f.uncorr else s

/-- Counting codewords leaves every register but the counters of FEC. -/
theorem State.rn_fecCounted (h : a % 0x1000 < 0x448) : (s.fecCounted m f).rn a = s.rn a := by
  have hcorr : a ≠ Reg.MAC_RX_FEC_CORR m ∧ a ≠ Reg.MAC_RX_FEC_CORR m + 4 := by unfold Reg.MAC_RX_FEC_CORR; omega
  have hbad : a ≠ Reg.MAC_RX_FEC_UNCORR m ∧ a ≠ Reg.MAC_RX_FEC_UNCORR m + 4 := by unfold Reg.MAC_RX_FEC_UNCORR; omega
  unfold State.fecCounted
  split
  · rw [State.rn_add64_ne hbad.1 hbad.2, State.rn_add64_ne hcorr.1 hcorr.2]
  · rfl

/-- A register of a MAC below its counters. -/
theorem macReg_mod (k : Nat) (h : k < 0x448) : (0x90000 + k + m * 0x1000) % 0x1000 < 0x448 := by omega

theorem State.ptpAt_fecCounted {n : Nat} {at_ : Int} : (s.fecCounted m f).ptpAt n at_ = s.ptpAt n at_ := by
  unfold State.ptpAt
  rw [State.rn_fecCounted (by decide), State.rn_fecCounted (by decide), State.rn_fecCounted (by decide)]

/-- The time stamp of a received frame. -/
def State.rxTime (s : State) (m : Nat) (f : WireFrame) : Nat × Nat :=
  s.ptpAt s.now (f.at_ + signed 10 (s.rn (Reg.MAC_TS_RX_ADJ m)))

theorem State.now_fecCounted : (s.fecCounted m f).now = s.now := by
  unfold State.fecCounted
  split <;> rfl

theorem State.rxTime_fecCounted : (s.fecCounted m f).rxTime m f = s.rxTime m f := by
  unfold State.rxTime
  have hadj : (s.fecCounted m f).rn (Reg.MAC_TS_RX_ADJ m) = s.rn (Reg.MAC_TS_RX_ADJ m) :=
    State.rn_fecCounted (macReg_mod 0x120 (by decide))
  rw [State.ptpAt_fecCounted, State.now_fecCounted, hadj]

/-- A whole frame on a MAC that is UP is checked in the order of R266, after its codewords have been counted. -/
theorem State.macRx_up (hup : s.macUp m = true) :
    let n := f.bytes.length
    let body := f.bytes.take (n - 4)
    let ty := beNat (slice f.bytes 12 2)
    let own := s.rn (Reg.MAC_MAC_ADDR_HI m) % 2 ^ 16 * 2 ^ 32 + s.rn (Reg.MAC_MAC_ADDR_LO m)
    let v := s.fecCounted m f
    let p := v.add64 (Reg.MAC_RX_PAUSE m) 1
    s.macRx m f =
      if ((s.bit (Reg.MAC_MAC_CFG m) 3 = true ∧ s.fld (Reg.MAC_MAC_CFG m) 0 2 = 2) ∧ f.uncorr ≠ 0) ∨
        fcs body ≠ leNat (slice f.bytes (n - 4) 4) then v.add64 (Reg.MAC_RX_FCS_ERR m) 1
      else if n < 64 then v.add64 (Reg.MAC_RX_RUNT m) 1
      else if s.rn (Reg.MAC_MAX_LEN m) < n then v.add64 (Reg.MAC_RX_OVERSIZE m) 1
      else if ty = 0x8808 ∧ beNat (slice f.bytes 14 2) ≠ 1 then v.add64 (Reg.MAC_RX_CTRL_DROP m) 1
      else if ty = 0x8808 then
        (if s.bit (Reg.MAC_MAC_CFG m) 7 = true then p.pauseReceived m (beNat (slice f.bytes 16 2)) else p)
      else if beNat (slice f.bytes 0 6) ≠ own ∧ bitOf (f.bytes.headD 0) 0 = false ∧ s.bit (Reg.MAC_MAC_CFG m) 9 = false then
        v.add64 (Reg.MAC_RX_FILTERED m) 1
      else ((v.add64 (Reg.MAC_RX_FRAMES m) 1).add64 (Reg.MAC_RX_OCTETS m) n).inputPut m
        ⟨body, s.now, (s.rxTime m f).1, (s.rxTime m f).2⟩ := by
  intro n body ty own v p
  have hlen : v.rn (Reg.MAC_MAX_LEN m) = s.rn (Reg.MAC_MAX_LEN m) := State.rn_fecCounted (macReg_mod 0x108 (by decide))
  have hcfg : v.rn (Reg.MAC_MAC_CFG m) = s.rn (Reg.MAC_MAC_CFG m) := State.rn_fecCounted (macReg_mod 0x100 (by decide))
  have hpause : p.rn (Reg.MAC_MAC_CFG m) = s.rn (Reg.MAC_MAC_CFG m) :=
    (State.rn_add64_ne (by unfold Reg.MAC_MAC_CFG Reg.MAC_RX_PAUSE; omega)
      (by unfold Reg.MAC_MAC_CFG Reg.MAC_RX_PAUSE; omega)).trans hcfg
  have hnow : v.now = s.now := State.now_fecCounted
  have htime : v.rxTime m f = s.rxTime m f := State.rxTime_fecCounted
  refine (if_neg (by rw [hup]; decide)).trans ?_
  change (if ((s.fecOn m && f.uncorr != 0) || fcs body != leNat (slice f.bytes (n - 4) 4)) = true then _
    else if n < 64 then _ else if v.rn (Reg.MAC_MAX_LEN m) < n then _ else if ty = 0x8808 then
      if beNat (slice f.bytes 14 2) = 1 then if bitOf (p.rn (Reg.MAC_MAC_CFG m)) 7 = true then _ else _ else _
      else if beNat (slice f.bytes 0 6) ≠ own ∧ (!bitOf (f.bytes.headD 0) 0) = true ∧
        (!bitOf (v.rn (Reg.MAC_MAC_CFG m)) 9) = true then _
      else State.inputPut _ m ⟨body, v.now, (v.rxTime m f).1, (v.rxTime m f).2⟩) = _
  rw [hlen, hcfg, hpause, hnow, htime]
  refine if_congr ?_ rfl (if_congr Iff.rfl rfl (if_congr Iff.rfl rfl ?_))
  · rw [Bool.or_eq_true, Bool.and_eq_true, bne_iff_ne, bne_iff_ne, State.fecOn_iff]
  · by_cases hctrl : ty = 0x8808
    · rw [if_pos hctrl, if_pos hctrl]
      by_cases hop : beNat (slice f.bytes 14 2) = 1
      · exact (if_pos hop).trans (if_neg fun h => h.2 hop).symm
      · exact (if_neg hop).trans (if_pos ⟨hctrl, hop⟩).symm
    · refine (if_neg hctrl).trans (Eq.trans ?_ ((if_neg fun h => hctrl h.1).trans (if_neg hctrl)).symm)
      exact if_congr (and_congr_right' (and_congr (Bool.not_eq_true' _).to_iff (Bool.not_eq_true' _).to_iff)) rfl rfl

end

section
variable {f : RxFrame} {c : TxCur}

/-- A frame that the input part has no room for is dropped and counted, with an event once in 8,000 frames at most. -/
theorem State.inputPut_eq :
    let x := s.mac_ m
    let u := (s.add64 (Reg.MAC_RX_FIFO_DROP m) 1).irq (0x90000 + m * 0x1000) 8
    s.inputPut m f =
      if x.inFill + f.bytes.length ≤ 262144 then s.setMac m { x with inp := x.inp ++ [f] }
      else if x.dropAt.all (fun t => decide (t + 8000 ≤ s.now)) = true then
        (u.setMac m { x with drops := 0, dropAt := some s.now }).event (u.rn (Reg.MAC_EVQ m)) 0xF2 [m, x.drops + 1, s.now]
      else u.setMac m { x with drops := x.drops + 1 } := by
  refine if_congr Iff.rfl rfl ?_
  cases hdrop : (s.mac_ m).dropAt <;> rfl

/-! ### Pause (R268, R269) -/

theorem State.pauseEnd_due (hpause : (s.mac_ m).pause = some q)
    (hdue : (s.mac_ m).pauseAt + s.quantaFrames m q ≤ s.now) : s.pauseEnd m = s.setPause m none := by
  unfold State.pauseEnd
  dsimp only
  rw [hpause]
  exact if_pos hdue

/-! ### The end of a frame (R268, R278) -/

/-- The state in which the frame `c` has been sent: it is counted, and descriptors of a ring return. -/
def State.txEnded (s : State) (m : Nat) (c : TxCur) : State :=
  let u := s.setMac m { s.mac_ m with cur := none }
  let count := fun (s : State) n => (s.add64 (Reg.MAC_TX_FRAMES m) 1).add64 (Reg.MAC_TX_OCTETS m) (n + 4)
  match c with
  | .pause _ => u
  | .voice b => count u b.length
  | .ring t n ts sec ns tft b => count (u.txReturn m t n 0 ts sec ns tft) b.length

/-- A pause that was received meanwhile takes force. -/
theorem State.macTxDone_sent (hcur : (s.mac_ m).cur = some c) :
    let v := s.txEnded m c
    s.macTxDone m = match (v.mac_ m).pauseNext with
      | none => v
      | some q => (v.setMac m { v.mac_ m with pauseNext := none }).setPause m (some q) := by
  intro v
  have hsent : s.macTxDone m = match (v.mac_ m).pauseNext with
      | some q => (v.setMac m { v.mac_ m with pauseNext := none }).setPause m (some q)
      | none => v := by
    unfold State.macTxDone
    dsimp only
    rw [hcur]
    cases c <;> rfl
  rw [hsent]
  cases (v.mac_ m).pauseNext <;> rfl

end

/-- Settles O27, row by row: the checks of a received frame come in the order of R266, and counting its codewords leaves every
register they read. -/
theorem macsReceivePauseTransmitAndReset : Obligations.MacsReceivePauseTransmitAndReset := by
  refine ⟨fun s m f => ?_, fun s m q => rfl, fun s m q => rfl, fun s m f => State.inputPut_eq,
    fun s m q hpause hdue => congrArg Host.Outcome.next (State.pauseEnd_due hpause hdue), fun s m => ⟨?_, rfl⟩,
    fun s m r h hfind => ?_, fun s w m r v => ⟨fun hopen => congrArg Host.Outcome.next (hostGuard_open hopen),
      fun hopen => congrArg Host.Outcome.next (hostGuard_open hopen),
      fun hopen => congrArg Host.Outcome.next (hostGuard_open hopen)⟩,
    fun s m at_ => ⟨rfl, rfl⟩, fun s m c hcur => congrArg Host.Outcome.next (State.macTxDone_sent hcur), fun s m fault up hchange hen => ?_,
    fun s w m hopen => congrArg Host.Outcome.next (hostGuard_open hopen)⟩
  · intro n body ty own fec v time p
    refine congrArg Host.Outcome.next ?_
    by_cases hup : s.macUp m = true
    · refine (State.macRx_up hup).trans (Eq.trans ?_ (if_neg (by rw [hup]; decide)).symm)
      have hv : v = s.fecCounted m f := if_congr State.fecOn_iff.symm rfl rfl
      rw [← hv]
      rfl
    · have hdown := eq_false_of_ne_true hup
      exact (if_pos (by rw [hdown]; rfl)).trans (if_pos hdown).symm
  · refine congrArg Host.Outcome.next ?_
    simp only [State.pauseSend, Bool.not_eq_true']
  · refine congrArg Host.Outcome.next ?_
    unfold State.rxDma
    dsimp only
    rw [hfind]
    rfl
  · refine congrArg Host.Outcome.next (if_neg (not_or_intro hchange ?_))
    rintro ⟨hup, hoff⟩
    obtain rfl | hon := hen
    · exact Bool.false_ne_true hup
    · rw [macPage, hon] at hoff
      exact Bool.false_ne_true hoff

/-! ### Classification (R270 to R272) -/

section
variable {f : RxFrame} {d : List Nat} {e : NetEntry} {l : List RxFrame}

theorem State.preClassify_head (hinp : (s.mac_ m).inp = f :: l) : s.preClassify m = match s.classify m f with
    | some t => t.setMac m { t.mac_ m with inp := (t.mac_ m).inp.tail }
    | none => s := by
  unfold State.preClassify
  rw [hinp] <;> rfl

theorem isPtp_etype {p : Parsed} (h : p.etype = 0x88F7) : isPtp p = true := by
  rw [isPtp, h]
  rfl

theorem isPtp_udp {p : Parsed} (het : p.etype ≠ 0x88F7) (hudp : p.udp = some d) (h319 : udpPort d ≠ 319)
    (h320 : udpPort d ≠ 320) : isPtp p = false := by
  rw [isPtp, hudp, beq_eq_false_iff_ne.mpr het, Bool.false_or]
  dsimp only
  rw [beq_eq_false_iff_ne.mpr h319, beq_eq_false_iff_ne.mpr h320]
  rfl

theorem State.classify_csum (h : (parseFrame f.bytes).csumBad = true) : s.classify m f = some (s.bump Reg.PRE_IP_CSUM_ERR) :=
  if_pos h

/-- A PTP frame goes to the ring of PTP, which setting 4 turns off. -/
theorem State.classify_ptp (hcsum : (parseFrame f.bytes).csumBad = false) (het : (parseFrame f.bytes).etype = 0x88F7)
    (hring : s.fld Reg.PRE_PRE_CFG 12 3 ≠ 4) : s.classify m f = s.toRing m ⟨s.fld Reg.PRE_PRE_CFG 12 3, f, 3, 0⟩ :=
  (if_neg (ne_true_of_eq_false hcsum)).trans (if_pos ⟨isPtp_etype het, hring⟩)

/-- A unicast UDP frame without a reason goes to the entry of its key. -/
theorem State.classify_entry (hcsum : (parseFrame f.bytes).csumBad = false) (het : (parseFrame f.bytes).etype ≠ 0x88F7)
    (hreasons : (parseFrame f.bytes).reasons = []) (hunicast : bitOf (f.bytes.headD 0) 0 = false)
    (hudp : (parseFrame f.bytes).udp = some d) (h319 : udpPort d ≠ 319) (h320 : udpPort d ≠ 320)
    (hentry : s.entryOf ((parseFrame f.bytes).family == 2) (parseFrame f.bytes).dst (udpPort d) = some e) :
    s.classify m f = s.byEntry m f (parseFrame f.bytes) d e := by
  have hptp := isPtp_udp het hudp h319 h320
  unfold State.classify
  refine (if_neg (ne_true_of_eq_false hcsum)).trans ((if_neg fun h => Bool.false_ne_true (hptp.symm.trans h.1)).trans ?_)
  rw [hudp]
  dsimp only
  rw [hreasons, hunicast, hentry]
  rfl

end

/-! ### The exact table (R272, R286) -/

section
variable {c : CmdRef} {f : EntryFields}

theorem State.cmdEntryAdd_eq : s.cmdEntryAdd c f =
    if 32768 ≤ s.net.entries.length then s.respond c 0x70 1 [0xFFFFFFFF]
    else if 2 ^ (if f.v6 then 128 else 32) ≤ f.addr ∨ 65535 < f.port ∨ f.ring.any (fun k => decide (3 < k)) = true ∨
      (s.entryOf f.v6 f.addr f.port).isSome = true then s.respond c 0x70 3 [0xFFFFFFFF]
    else (s.entryPut { key := some (f.v6, f.addr, f.port), act := match f.ring with
      | some k => EntryAct.host k
      | none => .drop }).respond c 0x70 0 [0xFFFFFFFF] := by
  refine if_congr Iff.rfl rfl (if_congr ?_ rfl ?_)
  · rw [Bool.or_eq_true, Bool.or_eq_true, Bool.or_eq_true, decide_eq_true_eq, decide_eq_true_eq, or_assoc, or_assoc]
  · cases f.ring <;> rfl

end

/-- Settles O28, row by row: a frame goes where the first step of R271 that takes it sends it, and a due command acts on the
state begun. -/
theorem framesAreClassifiedAndEntriesKept : Obligations.FramesAreClassifiedAndEntriesKept := by
  refine ⟨fun s m f l hinp => ?_, fun s m f => ⟨State.classify_csum, State.classify_ptp,
      fun d e hcsum het hreasons hunicast hudp h319 h320 hentry => ?_⟩,
    fun s r f hdue => congrArg Host.Outcome.next ((carryOut_due hdue).trans State.cmdEntryAdd_eq),
    fun s r v6 a p hdue => ?_, fun s r hdue => congrArg Host.Outcome.next (carryOut_due hdue),
    fun s w hopen => congrArg Host.Outcome.next (hostGuard_open hopen), fun s a => State.pageReset_reg⟩
  · refine congrArg Host.Outcome.next ((State.preClassify_head hinp).trans ?_)
    cases s.classify m f <;> rfl
  · refine (State.classify_entry hcsum het hreasons hunicast hudp h319 h320 hentry).trans ?_
    unfold State.byEntry
    cases e.act <;> rfl
  · refine congrArg Host.Outcome.next ((carryOut_due hdue).trans ?_)
    have hentry : (s.begun r 0x71).entryOf v6 a p = s.entryOf v6 a p := rfl
    unfold State.cmdEntryDel
    rw [hentry]
    cases s.entryOf v6 a p <;> rfl

end Sys2Proof.Machine
end

section
/-! PROOFS of the family 14_near_memory.md: requests, command slots, refresh, self-refresh and the reset of the controller (O29). -/

namespace Sys2Proof.Machine
open Sys2Proof

/-! ### What a command slot finds (R293) -/

section
variable {s : State} {ch t : Nat} {e : LineErr} {r : NmReq}

theorem State.commandSlot_off (hoff : s.bit Reg.NMC_NMC_CFG 31 = false) : s.commandSlot ch t e = s := by
  rw [State.commandSlot, hoff]; rfl

theorem State.commandSlot_refresh {i : Nat} (hon : s.bit Reg.NMC_NMC_CFG 31 = true)
    (hdue : ((s.nmClock t).ageAll ch t).refreshDue ch t = some i) :
    s.commandSlot ch t e = ((s.nmClock t).ageAll ch t).setDebt i
      (Tab.get (fun _ => 0) ((s.nmClock t).ageAll ch t).nmc.debt i - 1) := by
  simp only [State.commandSlot, hon, hdue]; rfl

/-- No request is there to age. -/
theorem State.ageAll_nil (hreqs : s.nmc.reqs = []) : s.ageAll ch t = s := by
  rw [State.ageAll, hreqs]; rfl

/-- R298 holds no request whose row is open. -/
theorem State.throttled_open (hopen : s.rowOpen r.line = true) : s.throttled r t = false := by
  rw [State.throttled, hopen]; rfl

/-- A lone request below urgency 3 whose row is open counts nowhere. -/
theorem State.ageAll_quiet (hreqs : s.nmc.reqs = [r]) (hurgency : s.urgency r t ≠ 3) (hopen : s.rowOpen r.line = true) :
    s.ageAll ch t = s := by
  rw [State.ageAll, hreqs]
  change (if s.chanAt r.line ≠ ch then s else _) = s
  split
  · rfl
  · simp [State.throttled_open hopen, beq_eq_false_iff_ne.2 hurgency]

/-- The channel's write queue drains, or not. -/
def State.drains (s : State) (ch : Nat) (b : Bool) : State :=
  { s with nmc := { s.nmc with drain := Tab.put (fun _ => false) s.nmc.drain ch b } }

/-- The reads that wait for the channel. -/
def State.readsOf (s : State) (ch : Nat) : List NmReq := s.nmc.reqs.filter (fun r => !r.write && s.chanAt r.line == ch)

/-- The write queue drains from 48 entries, or with no read waiting, down to 16 (R294). -/
def State.drainNow (s : State) (ch : Nat) : Bool :=
  if (s.wq ch).length ≤ 16 then false
  else if 48 ≤ (s.wq ch).length ∨ (s.readsOf ch).isEmpty then true else Tab.get (fun _ => false) s.nmc.drain ch

/-- The slot's choice when no refresh is owed, with the write queue empty. -/
theorem State.commandSlot_wq_nil (hon : s.bit Reg.NMC_NMC_CFG 31 = true) (hage : (s.nmClock t).ageAll ch t = s.nmClock t)
    (hdue : s.refreshDue ch t = none) (hwq : s.wq ch = []) :
    s.commandSlot ch t e =
      if (s.nmc.reqs.filter (s.eligible ch t)).isEmpty then ((s.nmClock t).drains ch false).pullIn ch
      else ((s.nmClock t).drains ch false).chooseReq (s.nmc.reqs.filter (s.eligible ch t)) ch t e := by
  have hdue' : (s.nmClock t).refreshDue ch t = none := hdue
  have hwq' : (s.nmClock t).wq ch = [] := hwq
  unfold State.commandSlot
  rw [hon, hage]
  simp only [hdue', hwq']
  rfl

/-- The slot's choice when no refresh is owed, with a write queued. -/
theorem State.commandSlot_wq_cons {x : NmEntry} {q : List NmEntry} (hon : s.bit Reg.NMC_NMC_CFG 31 = true)
    (hage : (s.nmClock t).ageAll ch t = s.nmClock t) (hdue : s.refreshDue ch t = none) (hwq : s.wq ch = x :: q) :
    s.commandSlot ch t e =
      if s.drainNow ch && !(s.readsOf ch).any (fun r => decide (2 ≤ s.urgency r t)) then
        ((s.nmClock t).drains ch (s.drainNow ch)).entryOut ch x t e
      else ((s.nmClock t).drains ch (s.drainNow ch)).chooseReq (s.nmc.reqs.filter (s.eligible ch t)) ch t e := by
  have hdue' : (s.nmClock t).refreshDue ch t = none := hdue
  have hwq' : (s.nmClock t).wq ch = x :: q := hwq
  unfold State.commandSlot State.drainNow
  rw [hon, hage, hwq]
  simp only [hdue', hwq']
  rfl

/-- With no read waiting the write queue drains above 16 entries. -/
theorem State.drainNow_of_no_read (hreads : s.readsOf ch = []) : s.drainNow ch = decide (16 < (s.wq ch).length) := by
  rw [State.drainNow, hreads, if_pos (Or.inr rfl : _ ∨ ([] : List NmReq).isEmpty = true)]
  by_cases hlen : (s.wq ch).length ≤ 16
  · rw [if_pos hlen, decide_eq_false (Nat.not_lt.2 hlen)]
  · rw [if_neg hlen, decide_eq_true (Nat.not_le.1 hlen)]

/-- With no request and no refresh owed the slot drains the write queue above its low mark, or may refresh ahead. -/
theorem State.commandSlot_idle (hon : s.bit Reg.NMC_NMC_CFG 31 = true) (hreqs : s.nmc.reqs = [])
    (hdue : s.refreshDue ch t = none) :
    let u := { s with nmc := { s.nmc with clock := max s.nmc.clock t
                                          drain := Tab.put (fun _ => false) s.nmc.drain ch (decide (16 < (s.wq ch).length)) } }
    s.commandSlot ch t e = (match s.wq ch with
      | x :: _ => if 16 < (s.wq ch).length then u.entryOut ch x t e else u
      | [] => u.pullIn ch) := by
  have hage : (s.nmClock t).ageAll ch t = s.nmClock t := State.ageAll_nil hreqs
  have hreads : s.readsOf ch = [] := by rw [State.readsOf, hreqs]; rfl
  cases hwq : s.wq ch with
  | nil =>
    rw [State.commandSlot_wq_nil hon hage hdue hwq, hreqs]
    rfl
  | cons x q =>
    rw [State.commandSlot_wq_cons hon hage hdue hwq, State.drainNow_of_no_read hreads, hreads, hreqs, hwq]
    refine if_congr ?_ rfl rfl
    rw [List.any_nil, Bool.not_false, Bool.and_true, decide_eq_true_eq]

/-- A lone request of the channel with its row open is eligible. -/
theorem State.eligible_lone (hreqs : s.nmc.reqs = [r]) (hch : s.chanAt r.line = ch) (hopen : s.rowOpen r.line = true) :
    s.eligible ch t r = true := by
  simp [State.eligible, hreqs, hch, State.throttled_open hopen]

/-- The only eligible request is chosen whatever its urgency. -/
theorem State.chooseReq_one (hwq : s.wq ch = []) :
    s.chooseReq [r] ch t e = if r.write then s.serveWrite ch r t else s.serveRead ch r t e := by
  have hfit : (s.wq ch).length < 64 := by rw [hwq]; exact Nat.zero_lt_succ 63
  have hserve : ∀ q : State, (if r.write then
      if (s.wq ch).length < 64 ∨ (s.wq ch).any (fun x => x.line == r.line) then s.serveWrite ch r t else q
    else s.serveRead ch r t e) = if r.write then s.serveWrite ch r t else s.serveRead ch r t e :=
    fun q => if_congr Iff.rfl (if_pos (Or.inl hfit)) rfl
  unfold State.chooseReq
  rw [List.find?_singleton, List.find?_singleton]
  cases s.urgency r t == 3
  · cases s.rowOpen r.line
    · exact hserve _
    · exact hserve _
  · exact hserve _

/-- A lone request of the channel with its row open is the one that is served. -/
theorem State.commandSlot_lone (hon : s.bit Reg.NMC_NMC_CFG 31 = true) (hreqs : s.nmc.reqs = [r]) (hch : s.chanAt r.line = ch)
    (hdue : s.refreshDue ch t = none) (hwq : s.wq ch = []) (hurgency : s.urgency r t ≠ 3) (hopen : s.rowOpen r.line = true) :
    s.commandSlot ch t e = if r.write then ((s.nmClock t).drains ch false).serveWrite ch r t
      else ((s.nmClock t).drains ch false).serveRead ch r t e := by
  have hage : (s.nmClock t).ageAll ch t = s.nmClock t := State.ageAll_quiet hreqs hurgency hopen
  rw [State.commandSlot_wq_nil hon hage hdue hwq, hreqs,
    List.filter_cons_of_pos (State.eligible_lone hreqs hch hopen), List.filter_nil]
  exact State.chooseReq_one hwq

/-- A read that no queued write holds back, with its row open, is answered at once (R299, R300). -/
theorem State.serveRead_free (hwq : s.wq ch = []) (hopen : s.rowOpen r.line = true) :
    s.serveRead ch r t e =
      if s.poisoned (64 * r.line) 64 then (s.bump Reg.NMC_POISON_RD).answered r 0x0E (s.rdBytes (64 * r.line + r.off) r.n) t
      else (s.lineErr r.line r.port 0 e).answered r (if e.ue then 0x0E else 0) (s.rdBytes (64 * r.line + r.off) r.n) t := by
  have htouch : s.touch r.line r.port t = s := by rw [State.touch, hopen]; rfl
  rw [State.serveRead, hwq, List.find?_nil]
  change s.dieRead r t e _ = _
  rw [State.dieRead, htouch]

/-- The first write of a line makes an entry of its own. -/
theorem State.serveWrite_first (hwq : s.wq ch = []) :
    s.serveWrite ch r t = ({ s.setWq ch [⟨r.line, maskOf r.off r.n, s.rdBytes (64 * r.line) 64, r.port, [(r.port, r.off, r.data)]⟩]
      with mem := wrList s.mem (64 * r.line + r.off) r.data } : State).reqDone r t := by
  rw [State.serveWrite, hwq]
  rfl
end

/-- A recorded error leaves the near memory controller. -/
theorem State.err_nmc {s : State} {page st detail addr : Nat} : (s.err page st detail addr).nmc = s.nmc := by
  by_cases hfirst : s.rn (page + 0x20) = 0
  · rw [State.err_empty hfirst, State.errCount]
    split <;> rfl
  · rw [State.err_held hfirst, State.errCount]
    split <;> rfl

/-- Settles O29, row by row. -/
theorem nearMemoryServesRequestsAndRefreshes : Obligations.NearMemoryServesRequestsAndRefreshes := by
  refine ⟨fun s p a n t write d => congrArg Host.Outcome.next ?_, fun s t => rfl, fun p a n t i write d hi => ?_, fun s ch => ?_,
    fun s ch t e hoff => congrArg Host.Outcome.next (State.commandSlot_off hoff),
    fun s ch t i e hon hdue => congrArg Host.Outcome.next (State.commandSlot_refresh hon hdue),
    fun s ch t e hon hreqs hdue => congrArg Host.Outcome.next (State.commandSlot_idle hon hreqs hdue),
    fun s ch t x e => rfl, fun s ch => ?_,
    fun s ch t r e hon hreqs hch hdue hwq hurgency hopen => ?_, fun s i => rfl, fun s i rate => rfl, fun s ch => ?_,
    fun s w hopen => ?_, fun s p a hp => ?_⟩
  · have hnmc : (s.err 0xA0000 3 (p * 256) a).nmc = s.nmc := State.err_nmc
    rw [← hnmc]
    rfl
  · have hlt : i < (List.range (ceilDiv (a % 64 + n) 64)).length := by rwa [List.length_range]
    rw [nmSplit, List.getElem?_map, List.getElem?_eq_getElem hlt, List.getElem_range]
    rfl
  · rfl
  · rfl
  · have hlone := State.commandSlot_lone (e := e) hon hreqs hch hdue hwq hurgency hopen
    refine ⟨fun hread => congrArg Host.Outcome.next (hlone.trans ?_), fun hwrite => congrArg Host.Outcome.next (hlone.trans ?_)⟩
    · rw [hread]
      exact State.serveRead_free hwq hopen
    · rw [hwrite]
      exact State.serveWrite_first hwq
  · refine congrArg Host.Outcome.next (if_congr ?_ rfl (if_congr Iff.rfl rfl rfl))
    rw [Bool.not_eq_true', Option.any_eq_true]
    simp only [State.tooSoon, decide_eq_true_eq]
    rfl
  · refine congrArg Host.Outcome.next ((hostGuard_open hopen).trans (if_congr ?_ rfl rfl))
    simp [or_assoc]
  · rw [State.resetRegs, State.reg, Tab.get_drop, if_pos hp]

end Sys2Proof.Machine
end

section
/-! PROOFS of the family 15_far_memory.md: the states of the ports (O18), decoders, configuration accesses and reads (O19). -/

namespace Sys2Proof.Machine
open Sys2Proof

variable {s : State} {p d : Nat} {v : Word}

/-! ### Port states (R313, R318 to R320, R323) -/

theorem State.portEnable_eq : s.portEnable p =
    if s.bit (Reg.CXL_PORT_CTL p) 0 = true then s
    else if p = 1 ∧ s.bit Reg.CXL_CXL_CFG 0 = false then
      (s.err 0xB0000 3 (Reg.CXL_PORT_CTL p - 0xB0000) (Reg.CXL_PORT_CTL p)).irq 0xB0000 4
    else (s.setFld (Reg.CXL_PORT_CTL p) 0 1 1).cxlGo p 1 0 := by
  refine if_congr Iff.rfl rfl (if_congr ?_ rfl rfl)
  rw [Bool.not_eq_true']

theorem State.portDisable_of_enabled {lost : Nat} (hen : s.bit (Reg.CXL_PORT_CTL p) 0 = true) :
    s.portDisable p lost =
      if (s.setFld (Reg.CXL_PORT_CTL p) 0 1 0).cxlState p = 4 ∨ (s.setFld (Reg.CXL_PORT_CTL p) 0 1 0).cxlState p = 5 then
        (s.setFld (Reg.CXL_PORT_CTL p) 0 1 0).portLost p 4 lost
      else (s.setFld (Reg.CXL_PORT_CTL p) 0 1 0).cxlGo p 0 0 := by
  rw [State.portDisable, hen]; rfl

theorem State.trainDone_of_training {width speed cause : Nat} (hst : s.cxlState p = 1) :
    s.trainDone p width speed cause =
      if cause = 0 then ((s.setFld (Reg.CXL_PORT_STAT p) 8 4 width).setFld (Reg.CXL_PORT_STAT p) 0 6 speed).cxlGo p 3 0
      else s.cxlGo p 2 cause :=
  if_neg (not_not.2 hst)

theorem State.portActivate_of_linkup {active : Bool} (hst : s.cxlState p = 3) :
    s.portActivate p active = if active then (s.setFld (Reg.CXL_PORT_STAT p) 23 1 0).cxlGo p 4 0
      else s.setFld (Reg.CXL_PORT_STAT p) 23 1 1 :=
  if_neg (not_not.2 hst)

theorem State.cxlRecover_of_up (hst : s.cxlState p = 3 ∨ s.cxlState p = 4) :
    s.cxlRecover p = (({ s with cxl := { s.cxl with
      prior := Tab.put (fun _ => 0) s.cxl.prior p (s.cxlState p)
      recovAt := Tab.put (fun _ => 0) s.cxl.recovAt p s.now } } : State).cxlGo p 5 0) :=
  if_neg (by omega)

theorem State.l0Return_in_time (hst : s.cxlState p = 5)
    (hsoon : s.now < Tab.get (fun _ => 0) s.cxl.recovAt p + 8 * s.fld Reg.CXL_CXL_CFG 16 8) :
    s.l0Return p = (s.bump (Reg.CXL_LINK_RECOV p)).cxlGo p (Tab.get (fun _ => 0) s.cxl.prior p) 0 :=
  if_neg (by omega)

theorem State.cxlRst_of_down (hdown : ∀ p, p ≤ 1 → s.cxlState p < 3 ∨ 5 < s.cxlState p) :
    s.cxlRst = { (s.headerReset 0xB0000).pageReset 0xB0000 0xB4000 with cxl := {} } := by
  have hup : ∀ p, p ≤ 1 → (s.cxlState p == 3 || s.cxlState p == 4 || s.cxlState p == 5) = false := by
    intro p hp
    have hst := hdown p hp
    simp only [Bool.or_eq_false_iff, beq_eq_false_iff_ne]
    omega
  refine if_neg ?_
  simp only [hup 0 (by omega), hup 1 (by omega)]
  decide

/-- Settles O18, row by row. -/
theorem cxlPortsGoThroughTheirStates : Obligations.CxlPortsGoThroughTheirStates := by
  refine ⟨fun s p st cause => rfl,
    fun s w p hopen => congrArg Host.Outcome.next ((hostGuard_open hopen).trans State.portEnable_eq),
    fun s w p lost hopen hen => congrArg Host.Outcome.next ((hostGuard_open hopen).trans (State.portDisable_of_enabled hen)),
    fun s p width speed cause hst => congrArg Host.Outcome.next (State.trainDone_of_training hst),
    fun s w p active hopen hst => congrArg Host.Outcome.next ((hostGuard_open hopen).trans (State.portActivate_of_linkup hst)),
    fun s p hst => congrArg Host.Outcome.next (State.cxlRecover_of_up hst),
    fun s p hst hsoon => congrArg Host.Outcome.next (State.l0Return_in_time hst hsoon),
    fun s p lost hst => congrArg Host.Outcome.next (if_pos hst),
    fun s p lost hst => congrArg Host.Outcome.next (if_pos hst),
    fun s p lost hlo hhi => congrArg Host.Outcome.next (if_pos (by omega)),
    fun s w hopen hdown => congrArg Host.Outcome.next ((hostGuard_open hopen).trans (State.cxlRst_of_down hdown)),
    fun s a => State.pageReset_reg⟩

/-! ### Decoders, configuration accesses and reads (R314 to R316, R319) -/

theorem State.cfgErr_cxl {st a : Nat} : s.cfgErr cxlPage (some 4) st a = (s.err 0xB0000 st (a - 0xB0000) a).irq 0xB0000 4 := by
  rw [cxlPage]; rfl

theorem State.decCommit_of_legal (hoff : s.decOn d = false) (hgran : fieldOf v.toNat 8 4 ≤ 6) :
    let u := s.setReg (Reg.CXL_DEC_CTL d) (v &&& 0xF11#32)
    s.decCommit d v =
      if u.commitBad d = false then (u.setFld (Reg.CXL_DEC_CTL d) 30 2 3).setFld (Reg.CXL_DEC_CTL d) 29 1 0
      else ((u.setFld (Reg.CXL_DEC_CTL d) 29 1 1).err 0xB0000 3 (Reg.CXL_DEC_CTL d - 0xB0000) (Reg.CXL_DEC_CTL d)).irq
        0xB0000 4 := by
  intro u
  simp only [State.decCommit, hoff, Bool.false_eq_true, if_false, if_neg (Nat.not_lt.2 hgran), State.cfgErr_cxl]
  change (if u.commitBad d = true then _ else _) = _
  cases u.commitBad d
  · rw [if_neg Bool.false_ne_true, if_pos rfl]
  · rw [if_pos rfl, if_neg (by decide)]

theorem State.decUncommit_of_committed (hon : s.decOn d = true) : s.decUncommit d =
    if s.decNeeded d = false then s.setFld (Reg.CXL_DEC_CTL d) 30 2 0
    else (s.err 0xB0000 2 (Reg.CXL_DEC_CTL d - 0xB0000) (Reg.CXL_DEC_CTL d)).irq 0xB0000 4 := by
  simp only [State.decUncommit, hon, Bool.not_true, Bool.false_eq_true, if_false, State.cfgErr_cxl]
  cases s.decNeeded d
  · rw [if_neg Bool.false_ne_true, if_pos rfl]
  · rw [if_pos rfl, if_neg (by decide)]

theorem State.xioGo_of_idle (hidle : s.bit Reg.CXL_XIO_STAT 31 = false) :
    let u := s.setReg Reg.CXL_XIO_CTL (v &&& 0x3100000F#32)
    s.xioGo v =
      if u.cxlState (u.fld Reg.CXL_XIO_CTL 24 1) ≠ 3 ∧ u.cxlState (u.fld Reg.CXL_XIO_CTL 24 1) ≠ 4 then u.setN Reg.CXL_XIO_STAT 13
      else if u.bit Reg.CXL_XIO_CTL 29 = true ∧ u.xioHits = true then u.setN Reg.CXL_XIO_STAT 3
      else { u.setN Reg.CXL_XIO_STAT 0x80000000 with
        cxl := { u.cxl with xioAt := u.now, xioWr := (u.setN Reg.CXL_XIO_STAT 0x80000000).bit Reg.CXL_XIO_CTL 28 } } := by
  intro u
  have hwr : (u.setN Reg.CXL_XIO_STAT 0x80000000).bit Reg.CXL_XIO_CTL 28 = u.bit Reg.CXL_XIO_CTL 28 :=
    State.bit_setN_ne (by decide)
  rw [hwr, State.xioGo, hidle]
  rfl

/-- Settles O19, row by row. -/
theorem cxlDecodersAndConfigurationAccessesAct : Obligations.CxlDecodersAndConfigurationAccessesAct := by
  refine ⟨fun s w d v hopen hoff hgran => congrArg Host.Outcome.next ((hostGuard_open hopen).trans
      (State.decCommit_of_legal hoff hgran)),
    fun s w d hopen hon => congrArg Host.Outcome.next ((hostGuard_open hopen).trans (State.decUncommit_of_committed hon)),
    fun s w v hopen hidle => congrArg Host.Outcome.next ((hostGuard_open hopen).trans (State.xioGo_of_idle hidle)),
    fun s e hbusy => ?_, fun s p a poison hst => ?_⟩
  · refine congrArg Host.Outcome.next ((if_neg (by rw [hbusy]; decide)).trans ?_)
    cases e <;> rfl
  · refine congrArg Host.Outcome.next ((if_neg (not_not.2 hst)).trans ?_)
    refine if_congr (Bool.not_eq_true' _).to_iff rfl ?_
    have hcxl : (((s.setPoison a poison).add64 (Reg.CXL_RD_BYTES_LO p) 64).bump (Reg.CXL_POISON_RD p)).cxl = s.cxl := rfl
    simp only [hcxl]
    cases Tab.get (fun _ => none) s.cxl.poison p <;> rfl

end Sys2Proof.Machine
end

section
/-! PROOFS of the family 16_rook_security.md: the rollback step (O46), the commands of Rook (O31). -/

namespace Sys2Proof.Machine
open Sys2Proof

variable {s t : State} {a b e i k n v x : Nat} {l : List Nat}

/-! ### Bytes and bits of numbers -/

/-- Byte `i` of a number. -/
def byteOf (v i : Nat) : Nat := v / 256 ^ i % 256

theorem leBytes_getD (h : i < n) : (leBytes n v).getD i 0 = byteOf v i := by
  induction n generalizing v i with
  | zero => omega
  | succ n ih =>
    cases i with
    | zero => simp [leBytes, byteOf]
    | succ i =>
      rw [leBytes, List.getD_cons_succ, ih (by omega), byteOf, byteOf, Nat.div_div_eq_div_mul, Nat.pow_succ']

theorem byteOf_lt : byteOf v i < 256 := Nat.mod_lt _ (by decide)

theorem byteOf_or : byteOf (a ||| b) i = byteOf a i ||| byteOf b i := by
  have hbase : 256 ^ i = 2 ^ (8 * i) := by rw [Nat.pow_mul]
  rw [byteOf, byteOf, byteOf, hbase, Nat.or_div_two_pow]
  exact Nat.or_mod_two_pow (n := 8)

/-- A longer thermometer code covers a shorter one. -/
theorem thermometer_or (h : k ≤ n) : (2 ^ k - 1) ||| (2 ^ n - 1) = 2 ^ n - 1 := by
  refine Nat.eq_of_testBit_eq fun i => ?_
  rw [Nat.testBit_or, Nat.testBit_two_pow_sub_one, Nat.testBit_two_pow_sub_one]
  by_cases hi : i < k
  · rw [decide_eq_true (lt_of_lt_of_le hi h), Bool.or_true]
  · rw [decide_eq_false hi, Bool.false_or]

theorem popCount_thermometer (h : n ≤ k) : popCount k (2 ^ n - 1) = n := by
  have hbits : ∀ i, bitOf (2 ^ n - 1) i = decide (i < n) := fun i => by
    rw [bitOf_eq_testBit, Nat.testBit_two_pow_sub_one]
  rw [popCount, funext hbits, ← List.countP_eq_length_filter]
  obtain ⟨d, rfl⟩ := Nat.exists_eq_add_of_le h
  rw [List.range_add, List.countP_append, List.countP_map]
  have hlow : List.countP (fun i => decide (i < n)) (List.range n) = n := by
    rw [List.countP_eq_length.2 (fun i hi => decide_eq_true (List.mem_range.1 hi)), List.length_range]
  have hhigh : List.countP ((fun i => decide (i < n)) ∘ fun i => n + i) (List.range d) = 0 := by
    refine List.countP_eq_zero.2 fun i _ => ?_
    simp
  rw [hlow, hhigh, Nat.add_zero]

theorem bitOf_byteOf (h : i < 8) : bitOf (byteOf v k) i = bitOf v (8 * k + i) := by
  have hbase : 256 ^ k = 2 ^ (8 * k) := by rw [Nat.pow_mul]
  rw [byteOf, bitOf_mod256 h, bitOf, bitOf, hbase, Nat.div_div_eq_div_mul, Nat.pow_add]

/-- The bits set in the bytes of a number are those set in the number. -/
theorem sum_popCount_byteOf : ((List.range k).map (fun i => popCount 8 (byteOf v i))).sum = popCount (8 * k) v := by
  induction k with
  | zero => rfl
  | succ k ih =>
    have hlast : popCount 8 (byteOf v k) = ((List.range 8).countP fun i => bitOf v (8 * k + i)) := by
      rw [popCount, ← List.countP_eq_length_filter]
      exact List.countP_congr fun i hi => by rw [bitOf_byteOf (List.mem_range.1 hi)]
    rw [List.range_succ, List.map_append, List.sum_append, ih, List.map_singleton, List.sum_singleton, hlast, Nat.mul_succ,
      popCount, popCount, List.range_add, List.filter_append, List.length_append, ← List.countP_eq_length_filter (l := List.map _ _),
      List.countP_map]
    rfl

theorem popCount_mono (h : ∀ i, i < k → bitOf a i = true → bitOf b i = true) : popCount k a ≤ popCount k b := by
  rw [popCount, popCount, ← List.countP_eq_length_filter, ← List.countP_eq_length_filter]
  exact List.countP_mono_left fun i hi => h i (List.mem_range.1 hi)

/-! ### Programming the OTP (R327) -/

/-- One byte is programmed. -/
def State.burnByte (s : State) (a x : Nat) : State :=
  { s with rook := { s.rook with otp := Tab.put byte0 s.rook.otp a (BitVec.ofNat 8 (s.otpB a ||| x)) } }

theorem State.burn_nil : s.burn a [] = s := rfl

theorem State.burn_cons : s.burn a (x :: l) = (s.burnByte a x).burn (a + 1) l := by
  have hshift : (x :: l).zip (List.range (x :: l).length) =
      (x, 0) :: (l.zip (List.range l.length)).map (fun e => (e.1, e.2 + 1)) := by
    rw [List.length_cons, List.range_succ_eq_map, List.zip_cons_cons, List.zip_map_right]
    rfl
  rw [State.burn, hshift, State.each, List.foldl_cons, List.foldl_map]
  simp only [Nat.add_comm _ 1, ← Nat.add_assoc]
  rfl

theorem State.burnByte_wf (hw : Memory.wf s.rook.otp = true) : Memory.wf (s.burnByte a x).rook.otp = true := Tab.put_wf hw

theorem State.otpB_lt : s.otpB b < 256 := BitVec.isLt _

theorem State.otpB_burnByte (hw : Memory.wf s.rook.otp = true) :
    (s.burnByte a x).otpB b = s.otpB b ||| (if b = a then x else 0) % 256 := by
  by_cases hb : b = a
  · subst hb
    rw [if_pos rfl]
    refine (congrArg BitVec.toNat (Tab.get_put_self hw)).trans ?_
    rw [BitVec.toNat_ofNat, Nat.or_mod_two_pow, Nat.mod_eq_of_lt (State.otpB_lt : s.otpB b < 2 ^ 8)]
  · rw [if_neg hb, Nat.zero_mod, Nat.or_zero]
    exact congrArg BitVec.toNat (Tab.get_put_ne hb)

/-- A programmed byte reads as the bits of before and the new ones. -/
theorem State.otpB_burn (hw : Memory.wf s.rook.otp = true) :
    (s.burn a l).otpB b = s.otpB b ||| (if a ≤ b then l.getD (b - a) 0 else 0) % 256 := by
  induction l generalizing s a with
  | nil => simp [State.burn_nil]
  | cons x l ih =>
    rw [State.burn_cons, ih (State.burnByte_wf hw), State.otpB_burnByte hw, Nat.or_assoc]
    obtain hlt | rfl | hgt := Nat.lt_trichotomy b a
    · simp [Nat.not_le.2 hlt, Nat.ne_of_lt hlt, Nat.not_le.2 (Nat.lt_succ_of_lt hlt)]
    · simp
    · have hne : b ≠ a := Nat.ne_of_gt hgt
      have hidx : b - a = b - (a + 1) + 1 := by omega
      rw [if_neg hne, if_pos (Nat.succ_le_of_lt hgt), if_pos (Nat.le_of_lt hgt), Nat.zero_mod, Nat.zero_or, hidx,
        List.getD_cons_succ]

/-- No bit is lost, so no count of bits falls. -/
theorem State.otpOnes_burn_le (hw : Memory.wf s.rook.otp = true) : s.otpOnes b n ≤ (s.burn a l).otpOnes b n := by
  rw [State.otpOnes, State.otpOnes, State.otpBytes, State.otpBytes, List.map_map, List.map_map]
  refine List.sum_le_sum fun i _ => popCount_mono fun j _ hj => ?_
  change bitOf ((s.burn a l).otpB (b + i)) j = true
  rw [State.otpB_burn hw]
  exact bitOf_or hj

theorem State.otpOnes_congr (h : t.rook.otp = s.rook.otp) : t.otpOnes b n = s.otpOnes b n := by
  rw [State.otpOnes, State.otpOnes, State.otpBytes, State.otpBytes]
  unfold State.otpB
  rw [h]

/-! ### The audit log leaves the OTP (R345 to R347) -/

theorem State.farWrote_rook : (s.farWrote a n).rook = s.rook := by
  unfold State.farWrote
  split
  · rfl
  · split
    · rfl
    · split <;> rfl

theorem State.wrDev_rook : (s.wrDev a l).rook = s.rook := State.farWrote_rook

theorem State.mirrorCheck_otp : s.mirrorCheck.rook.otp = s.rook.otp := by
  unfold State.mirrorCheck
  split
  · split <;> rfl
  · rfl

theorem State.toMirror_otp {r : AuditRec} : (s.toMirror r).rook.otp = s.rook.otp := by
  unfold State.toMirror
  dsimp only
  split
  · exact (congrArg RookSt.otp (State.wrDev_rook.trans State.wrDev_rook)).trans State.mirrorCheck_otp
  · exact State.mirrorCheck_otp

theorem State.trimLog_otp : s.trimLog.rook.otp = s.rook.otp := by
  unfold State.trimLog
  split
  · rfl
  · dsimp only
    split <;> rfl

section
variable {role st action : Nat} {d : List Nat}

/-- A record before it has a number. -/
def State.rawRec (s : State) (role st action : Nat) (d : List Nat) : AuditRec :=
  { seq := none, ftime := s.now % 2 ^ 48, role := role, status := st, action := action, detail := slice d 0 14, chain := [] }

/-- A record joins the log. -/
def State.logged (s : State) (r : AuditRec) : State := { s with rook := { s.rook with log := r :: s.rook.log } }

/-- With the base fixed a record is numbered, chained and mirrored. -/
theorem State.audit_based (hbase : s.rook.base = true) :
    s.audit role st action d = (((s.numbered (s.rawRec role st action d)).1.logged
      (s.numbered (s.rawRec role st action d)).2).toMirror (s.numbered (s.rawRec role st action d)).2).trimLog := by
  unfold State.audit
  dsimp only
  rw [if_pos hbase]
  exact congrArg State.trimLog (if_pos hbase)

theorem State.audit_unbased (hbase : s.rook.base = false) :
    s.audit role st action d = (s.logged (s.rawRec role st action d)).trimLog := by
  unfold State.audit
  dsimp only
  have hnot : ¬ s.rook.base = true := by rw [hbase]; exact Bool.false_ne_true
  rw [if_neg hnot]
  exact congrArg State.trimLog (if_neg hnot)

theorem State.audit_otp : (s.audit role st action d).rook.otp = s.rook.otp := by
  cases hbase : s.rook.base
  · rw [State.audit_unbased hbase, State.trimLog_otp]
    rfl
  · rw [State.audit_based hbase, State.trimLog_otp, State.toMirror_otp]
    rfl
end

theorem State.respondA_otp {r : CmdRef} {op st : Nat} {d : List Nat} : (s.respondA r op st d).rook.otp = s.rook.otp := by
  unfold State.respondA
  rw [State.respond_rook]
  split
  · split
    · rfl
    · exact State.audit_otp
  · rfl

/-! ### ROLLBACK_SET (R334) -/

/-- Who may set the rollback step, and when (R339). -/
theorem State.roleRight_rollback {w : Win} : s.roleRight w 0xF3 = true ↔
    (w = .installer ∧ (s.rook.lc = 2 ∨ s.rook.lc = 3)) ∨ (w = .maker ∧ s.rook.lc = 1) := by
  have hright : s.roleRight w 0xF3 =
      ((w == .installer) && (s.rook.lc == 2 || s.rook.lc == 3) || (w == .maker) && s.rook.lc == 1) := rfl
  simp only [hright, Bool.or_eq_true, Bool.and_eq_true, beq_iff_eq]

section
variable {r : CmdRef} {vdd : Bool}

theorem State.cmdRollback_no_right (h : s.roleRight r.win 0xF3 = false) :
    s.cmdRollback r n vdd = (s.noRights r.win 0xF3).respondA r 0xF3 4 [0xFFFFFFFF] := by
  rw [State.cmdRollback, h]; rfl

theorem State.cmdRollback_of_right (h : s.roleRight r.win 0xF3 = true) : s.cmdRollback r n vdd =
    if 128 < n ∨ n < s.rollback then s.respondA r 0xF3 3 [0xFFFFFFFF]
    else if vdd = false then s.respondA r 0xF3 13 [0xFFFFFFFF]
    else (s.burn 0x10 (leBytes 16 (2 ^ n - 1))).respondA r 0xF3 0 [0xFFFFFFFF] := by
  rw [State.cmdRollback, h]
  cases vdd <;> rfl

theorem State.rollback_le_cmdRollback (hw : Memory.wf s.rook.otp = true) : s.rollback ≤ (s.cmdRollback r n vdd).rollback := by
  have hsame : ∀ t : State, t.rook.otp = s.rook.otp → s.rollback ≤ t.rollback :=
    fun t ht => Nat.le_of_eq (State.otpOnes_congr ht).symm
  cases hright : s.roleRight r.win 0xF3
  · rw [State.cmdRollback_no_right hright]
    exact hsame _ (State.respondA_otp.trans State.audit_otp)
  · rw [State.cmdRollback_of_right hright]
    split
    · exact hsame _ State.respondA_otp
    · split
      · exact hsame _ State.respondA_otp
      · exact le_of_le_of_eq (State.otpOnes_burn_le hw) (State.otpOnes_congr State.respondA_otp).symm
end

/-- A longer thermometer code programmed over a shorter one leaves the longer one. -/
theorem State.rollback_burn (hw : Memory.wf s.rook.otp = true) (hcode : s.otpBytes 0x10 16 = leBytes 16 (2 ^ s.rollback - 1))
    (hn : n ≤ 128) (hle : s.rollback ≤ n) : (s.burn 0x10 (leBytes 16 (2 ^ n - 1))).rollback = n := by
  have hbyte : ∀ i, i < 16 → (s.burn 0x10 (leBytes 16 (2 ^ n - 1))).otpB (0x10 + i) = byteOf (2 ^ n - 1) i := by
    intro i hi
    have hold : s.otpB (0x10 + i) = byteOf (2 ^ s.rollback - 1) i := by
      rw [← leBytes_getD hi, ← hcode, State.otpBytes, List.getD_eq_getElem _ _ (by simpa using hi), List.getElem_map,
        List.getElem_range]
    rw [State.otpB_burn hw, if_pos (Nat.le_add_right _ _), Nat.add_sub_cancel_left, leBytes_getD hi, hold,
      Nat.mod_eq_of_lt byteOf_lt, ← byteOf_or, thermometer_or hle]
  rw [State.rollback, State.otpOnes, State.otpBytes, List.map_map]
  calc ((List.range 16).map (popCount 8 ∘ fun i => (s.burn 0x10 (leBytes 16 (2 ^ n - 1))).otpB (0x10 + i))).sum
      = ((List.range 16).map (fun i => popCount 8 (byteOf (2 ^ n - 1) i))).sum :=
        congrArg List.sum (List.map_congr_left fun i hi => congrArg (popCount 8) (hbyte i (List.mem_range.1 hi)))
    _ = popCount (8 * 16) (2 ^ n - 1) := sum_popCount_byteOf
    _ = n := popCount_thermometer hn

/-- Settles O46: programming only sets bits, so the step, a count of bits, never falls. -/
theorem rollbackSetNeverLowersTheStep : Obligations.RollbackSetNeverLowersTheStep := by
  refine ⟨fun s r n vdd hdue hwho => ?_, fun s r n vdd hdue hwho => ?_, fun s n => State.rollback_burn, fun s t r n vdd hw hexec => ?_⟩
  · have hright : (s.begun r 0xF3).roleRight r.win 0xF3 = true := State.roleRight_rollback.2 hwho
    have hcmd : s.carryOut r 0xF3 (·.cmdRollback r n vdd) = _ := (carryOut_due hdue).trans (State.cmdRollback_of_right hright)
    have hrange (hmax : n ≤ 128) (hmin : s.rollback ≤ n) : ¬ (128 < n ∨ n < (s.begun r 0xF3).rollback) :=
      not_or.2 ⟨Nat.not_lt.2 hmax, Nat.not_lt.2 hmin⟩
    exact ⟨fun hout => congrArg Host.Outcome.next (hcmd.trans (if_pos hout)),
      fun hmax hmin hvdd => congrArg Host.Outcome.next
        (hcmd.trans ((if_neg (hrange hmax hmin)).trans (if_neg (by rw [hvdd]; decide)))),
      fun hmax hmin hvdd => congrArg Host.Outcome.next (hcmd.trans ((if_neg (hrange hmax hmin)).trans (if_pos hvdd)))⟩
  · have hright : (s.begun r 0xF3).roleRight r.win 0xF3 = false :=
      Bool.eq_false_iff.2 fun h => hwho (State.roleRight_rollback.1 h)
    exact congrArg Host.Outcome.next ((carryOut_due hdue).trans (State.cmdRollback_no_right hright))
  · cases hdue : s.cmdDue r 0xF3
    · obtain rfl : s = t := Host.Outcome.next.inj ((congrArg Host.Outcome.next (by rw [State.carryOut, hdue]; rfl)).symm.trans hexec)
      exact Nat.le_refl _
    · obtain rfl := Host.Outcome.next.inj ((congrArg Host.Outcome.next (carryOut_due hdue)).symm.trans hexec)
      exact State.rollback_le_cmdRollback (s := s.begun r 0xF3) hw

/-! ### The commands of Rook (R325 to R330, R334, R339, R340, R345 to R350) -/

theorem actionOf_audited {op act : Nat} (h : (op, act) ∈ [(0x41, 0x0F), (0x42, 0x0F), (0x46, 0x0C), (0x52, 0x0B), (0x53, 0x0B),
    (0x54, 0x0B), (0xF0, 0x06), (0xF1, 0x10), (0xF2, 0x07), (0xF3, 0x08), (0xF4, 0x09), (0xF7, 0x07), (0xF8, 0x0A), (0xF9, 0x07)]) :
    actionOf op = some act := by
  have hall : ∀ p ∈ [(0x41, 0x0F), (0x42, 0x0F), (0x46, 0x0C), (0x52, 0x0B), (0x53, 0x0B), (0x54, 0x0B), (0xF0, 0x06), (0xF1, 0x10),
      (0xF2, 0x07), (0xF3, 0x08), (0xF4, 0x09), (0xF7, 0x07), (0xF8, 0x0A), (0xF9, 0x07)], actionOf p.1 = some p.2 := by decide
  exact hall _ h

section
variable {r : CmdRef} {op act st target : Nat} {vdd : Bool} {w : Win}

theorem State.respondA_audited (h : actionOf op = some act) :
    s.respondA r op st l = ((if st = 4 then s else s.audit (winNum r.win + 1) st act [op, st]).respond r op st l) := by
  rw [State.respondA, h]; rfl

/-! The transitions of the lifecycle (R325). -/

theorem State.lcStep_manufacture :
    s.lcStep .maker 1 = if s.rook.lc = 0 ∧ s.idSealed = true then some 0 else none := by
  unfold State.lcStep
  split <;> simp_all

theorem State.lcStep_provisioned :
    s.lcStep .maker 2 = if s.rook.lc = 1 ∧ s.rootSealed = true then some 1 else none := by
  unfold State.lcStep
  split <;> simp_all

theorem State.lcStep_deployed :
    s.lcStep .installer 3 = if s.rook.lc = 2 ∧ s.rook.gen.isSome = true then some 2 else none := by
  unfold State.lcStep
  split <;> simp_all

theorem State.lcStep_retired : s.lcStep .installer 4 = if s.rook.lc = 3 then some 3 else none := by
  unfold State.lcStep
  split <;> simp_all

theorem State.lcStep_rma :
    s.lcStep .maker 5 = if s.rook.lc = 3 ∧ s.consentOpen = true then some 4 else none := by
  unfold State.lcStep
  split <;> simp_all

theorem State.lcStep_rma_retired : s.lcStep .maker 4 = if s.rook.lc = 5 then some 5 else none := by
  unfold State.lcStep
  split <;> simp_all

theorem State.lcStep_operator : s.lcStep .operator target = none := by
  unfold State.lcStep
  split <;> simp_all

theorem State.consentHour_open {t : Nat} (h : s.rook.consent = some t) :
    s.consentHour = if s.now < t + 28800000 then s else s.consentEnd := by
  have hopen : s.consentOpen = decide (s.now < t + 28800000) := by rw [State.consentOpen, h, Option.any_some]
  rw [State.consentHour, hopen, h, Option.isSome_some]
  by_cases hnow : s.now < t + 28800000
  · rw [decide_eq_true hnow, if_pos hnow, if_neg (fun hclosed => Bool.false_ne_true hclosed.2)]
  · rw [decide_eq_false hnow, if_neg hnow, if_pos ⟨rfl, rfl⟩]

end

theorem State.auditEvent_on : s.auditEvent true = (s.irq 0x4000 1).event ((s.irq 0x4000 1).rn Reg.ROOK_EVQ) 0x80
    [0x52, 1, (s.irq 0x4000 1).rn Reg.AUDIT_AUDIT_LOST, (s.irq 0x4000 1).headSeq % 2 ^ 32, (s.irq 0x4000 1).headSeq / 2 ^ 32] := by
  have hevq : (s.irq 0x4000 1).rn Reg.ROOK_EVQ = s.rn Reg.ROOK_EVQ := State.rn_irq_ne (by decide)
  have hlost : (s.irq 0x4000 1).rn Reg.AUDIT_AUDIT_LOST = s.rn Reg.AUDIT_AUDIT_LOST := State.rn_irq_ne (by decide)
  rw [hevq, hlost]
  rfl

/-- A generation is unused while none of its bits is programmed. -/
theorem State.not_genUsed : (fun g => !s.genUsed g) = fun g => decide (s.otpOnes (0x100 + 0x160 * g) 0x160 = 0) := by
  funext g
  rw [State.genUsed, decide_not, Bool.not_not]

/-- Settles O31, row by row: a due command acts on the state begun. -/
theorem rookCommandsBurnGrantAndAttest : Obligations.RookCommandsBurnGrantAndAttest := by
  refine ⟨fun s role st action d => ?_, fun s r st op act l hact => State.respondA_audited (actionOf_audited hact),
    fun s r target vdd hdue => congrArg Host.Outcome.next ((carryOut_due hdue).trans ?_),
    fun s => ⟨State.lcStep_manufacture, State.lcStep_provisioned, State.lcStep_deployed, State.lcStep_retired, State.lcStep_rma,
      State.lcStep_rma_retired, fun _ => State.lcStep_operator⟩,
    fun s r hdue => congrArg Host.Outcome.next (carryOut_due hdue),
    fun s t h => congrArg Host.Outcome.next (State.consentHour_open h),
    fun s r a vdd hdue => congrArg Host.Outcome.next ((carryOut_due hdue).trans ?_),
    fun s r n vdd hdue => congrArg Host.Outcome.next ((carryOut_due hdue).trans ?_),
    fun s r on hdue => congrArg Host.Outcome.next ((carryOut_due hdue).trans ?_),
    fun s r serial part root vdd hdue => congrArg Host.Outcome.next ((carryOut_due hdue).trans ?_),
    fun s r hash vdd hdue => congrArg Host.Outcome.next ((carryOut_due hdue).trans ?_),
    fun s r a k hdue => congrArg Host.Outcome.next ((carryOut_due hdue).trans ?_),
    fun s r ch dest hdue => congrArg Host.Outcome.next ((carryOut_due hdue).trans ?_)⟩
  · cases hbase : s.rook.base
    · exact State.audit_unbased hbase
    · exact State.audit_based hbase
  · refine if_congr Iff.rfl rfl (if_congr (Bool.not_eq_true' _).to_iff rfl ?_)
    cases (s.begun r 0xF0).lcStep r.win target with
    | none => rfl
    | some g => cases vdd <;> rfl
  · refine if_congr Iff.rfl rfl (if_congr ?_ rfl ?_)
    · rw [Bool.not_eq_true', Bool.not_eq_true']
    · rw [State.not_genUsed]
      cases [0, 1, 2, 3].find? (fun g => decide ((s.begun r 0xF2).otpOnes (0x100 + 0x160 * g) 0x160 = 0)) with
      | none => rfl
      | some g => cases vdd <;> rfl
  · rw [State.cmdRollback]
    refine if_congr (Bool.not_eq_true' _).to_iff rfl (if_congr Iff.rfl rfl ?_)
    cases vdd <;> rfl
  · exact ite_not _ _ _
  · refine if_congr Iff.rfl rfl (if_congr Iff.rfl rfl (if_congr Iff.rfl rfl ?_))
    cases vdd <;> rfl
  · refine if_congr Iff.rfl rfl (if_congr Iff.rfl rfl ?_)
    cases vdd <;> rfl
  · refine if_congr Iff.rfl rfl (if_congr ?_ rfl (if_congr (Bool.not_eq_true' _).to_iff rfl ?_))
    · rw [Bool.not_eq_true']
    · exact congrArg (fun t => State.respond t r 0xF6 0 [0xFFFFFFFF]) State.auditEvent_on
  · exact if_congr (Bool.not_eq_true' _).to_iff rfl rfl

end Sys2Proof.Machine
end

section
/-! PROOFS of the family 16_rook_security.md: sessions, the protection table, the TRNG, boot and reset release (O32). -/

namespace Sys2Proof.Machine
open Sys2Proof

variable {s : State} {w : Win} {l : List Bool} {b : List Nat}

theorem State.sessClose_eq {cause : Nat} :
    let u := ((s.setSess w { s.sess_ w with open_ := false, key := 0 }).audit (winNum w + 1) 0 4 [(s.sess_ w).key, cause]).irq 0x1000 0
    s.sessClose w cause = if (s.sess_ w).open_ = true then
      u.event (u.rn Reg.ROOK_EVQ) 0x80 [0x50, winNum w, 1, (s.sess_ w).key, 0, cause] else s := by
  intro u
  by_cases hopen : (s.sess_ w).open_ = true
  · rw [if_pos hopen]
    exact if_neg (by rw [hopen]; decide)
  · rw [if_neg hopen]
    exact if_pos (by rw [Bool.eq_false_iff.2 hopen]; rfl)

/-- Verification of a session opens it, or counts the failure (R336, R337). -/
theorem State.sessVerify_eq {key pre : Nat} {locked : Bool} (hpend : (s.sess_ w).pend = some (key, pre, locked)) :
    let x := s.sess_ w
    let st := if pre = 0 ∧ s.rolePermitted w = false then 4 else pre
    let f := if locked then x.fails else x.fails + 1
    s.sessVerify w = if st = 0 then
        ((s.setSess w { x with pend := none, open_ := true, key := key, fails := 0, status := 0, seen := s.now }).audit
          (winNum w + 1) 0 2 [key]).sessEvent w 0 key 0 0
      else (((s.setSess w { x with
        pend := none, status := st, fails := if 4 ≤ f then 0 else f, lockAt := if 4 ≤ f then some s.now else x.lockAt
        fresh := if 4 ≤ f then none else x.fresh }).bump Reg.ROOK_AUTH_FAIL).audit (winNum w + 1) st 3 [key]).sessEvent w 2 key st 0 := by
  intro x st f
  have hst : (if (decide (pre = 0) && !s.rolePermitted w) = true then 4 else pre) = st :=
    if_congr (by rw [Bool.and_eq_true, decide_eq_true_eq, Bool.not_eq_true']) rfl rfl
  unfold State.sessVerify
  simp only [hpend, hst]
  rfl

/-- The checks of an image, in order (R333). -/
theorem State.checkImage_eq {kind : Nat} : s.checkImage b kind =
    if containerOk b kind = false then 0x0A
    else if enrolled (slice b 0x160 1952) (s.signerHash (b.getD 7 0)) = false ∨ (kind = 1 ∧ b.getD 7 0 ≠ 0) then 4
    else if b.getD 8 0 < s.otpOnes 0x10 16 then 4
    else if Config.mldsaVerify (slice b 0x160 1952) (b.take 0x160) (slice b 0x900 3309) = false then 7
    else if containerDigest b ≠ slice b 0x140 32 then 7 else 0 := by
  have hsigned : s.checkSigned b kind =
      if containerOk b kind = false then 0x0A
      else if enrolled (slice b 0x160 1952) (s.signerHash (b.getD 7 0)) = false ∨ (kind = 1 ∧ b.getD 7 0 ≠ 0) then 4
      else if b.getD 8 0 < s.otpOnes 0x10 16 then 4
      else if Config.mldsaVerify (slice b 0x160 1952) (b.take 0x160) (slice b 0x900 3309) = false then 7 else 0 :=
    if_congr (Bool.not_eq_true' _).to_iff rfl (if_congr (or_congr (Bool.not_eq_true' _).to_iff Iff.rfl) rfl
      (if_congr Iff.rfl rfl (if_congr (Bool.not_eq_true' _).to_iff rfl rfl)))
  change (if s.checkSigned b kind ≠ 0 then s.checkSigned b kind else if containerDigest b ≠ slice b 0x140 32 then 7 else 0) = _
  rw [hsigned]
  by_cases hform : containerOk b kind = false
  · rw [if_pos hform, if_pos hform, if_pos (by decide)]
  rw [if_neg hform, if_neg hform]
  by_cases hsigner : enrolled (slice b 0x160 1952) (s.signerHash (b.getD 7 0)) = false ∨ (kind = 1 ∧ b.getD 7 0 ≠ 0)
  · rw [if_pos hsigner, if_pos hsigner, if_pos (by decide)]
  rw [if_neg hsigner, if_neg hsigner]
  by_cases hold : b.getD 8 0 < s.otpOnes 0x10 16
  · rw [if_pos hold, if_pos hold, if_pos (by decide)]
  rw [if_neg hold, if_neg hold]
  by_cases hverify : Config.mldsaVerify (slice b 0x160 1952) (b.take 0x160) (slice b 0x900 3309) = false
  · rw [if_pos hverify, if_pos hverify, if_pos (by decide)]
  rw [if_neg hverify, if_neg hverify, if_neg (by decide)]

theorem windowFails_iff {p : Bool × Nat} : (!windowFails l p) = true ↔
    (runOf l p).1 < 41 ∧ (l.filter (· == l.headD false)).length < 710 := by
  rw [windowFails, Bool.not_eq_true', Bool.or_eq_false_iff, decide_eq_false_iff_not, decide_eq_false_iff_not, Nat.not_le,
    Nat.not_le]

/-! ### Reset release (R331) -/

section
variable {k : Nat} {a : List Nat}

/-- The start-up test passes, or not. -/
def State.tested (s : State) (l : List Bool) : State := if startTest l then s.setFld Reg.ROOK_TRNG_STAT 30 1 1 else s

/-- What a generation in force sets. -/
def State.genTaken (s : State) (g : Option Nat) : State :=
  match g with
  | some _ => (s.setN Reg.ROOK_SESS_IDLE (leNat (s.genBytes 2 2))).setFld Reg.ROOK_ROLE_CFG 0 1 ((s.genBytes 1 1).headD 0)
  | none => s

/-- The OTP is read and CK made. -/
def State.otpTaken (s : State) (k : Nat) : State :=
  { s with
    rook := { s.rook with lc := s.otpState, gen := s.otpGen, bootsel := k, bootAt := s.now, testAt := s.now, otpRead := true
                          waiting := false, dl := [] }
    ciph := { s.ciph with ckGen := s.ciph.ckGen + 1 } }

/-- Rook just before it takes an image. -/
def State.beforeImage (s : State) (k : Nat) (l : List Bool) : State :=
  ((((s.otpTaken k).setN Reg.ROOK_LC_STAT s.otpState).tested l).genTaken s.otpGen).setFld Reg.ROOK_BOOT_STAT 0 2 k

theorem State.tested_rook : (s.tested l).rook = s.rook := by
  unfold State.tested
  split <;> rfl

theorem State.genTaken_rook {g : Option Nat} : (s.genTaken g).rook = s.rook := by cases g <;> rfl

theorem State.beforeImage_lc : (s.beforeImage k l).rook.lc = s.otpState :=
  congrArg RookSt.lc (State.genTaken_rook.trans State.tested_rook)

/-- Rook takes the image that BOOTSEL names. -/
def State.takeImage (z : State) (k : Nat) (a b : List Nat) : State :=
  if z.rook.lc = 0 then z
  else if k = 1 ∨ k = 3 then { z with rook := { z.rook with waiting := true } }
  else if z.checkImage a 1 = 0 then z.runImage a 0
  else if z.checkImage b 1 = 0 then z.runImage b 1
  else if k = 2 then
    { z.setN Reg.ROOK_BOOT_STAT (z.checkImage b 1 * 256 + 4 + k) with rook := { z.rook with waiting := true } }
  else z.bootFail (z.checkImage b 1) 1

theorem State.resetRelease_eq (hrelease : s.rook.otpRead = false) :
    s.resetRelease k a b l = (s.beforeImage (k % 4) l).takeImage (k % 4) a b := by
  have hgen : (((s.otpTaken (k % 4)).setN Reg.ROOK_LC_STAT s.otpState).tested l).rook.gen = s.otpGen :=
    congrArg RookSt.gen State.tested_rook
  rw [State.beforeImage, ← hgen]
  refine (if_neg (by rw [hrelease]; exact Bool.false_ne_true)).trans ?_
  rfl
end

/-- Settles O32, row by row. -/
theorem rookSessionsProtectionAndBootAct : Obligations.RookSessionsProtectionAndBootAct := by
  refine ⟨fun s w key hopen => ⟨congrArg Host.Outcome.next (hostGuard_open hopen), congrArg Host.Outcome.next (hostGuard_open hopen),
      congrArg Host.Outcome.next (hostGuard_open hopen), congrArg Host.Outcome.next (hostGuard_open hopen)⟩,
    fun s w cause => State.sessClose_eq,
    fun s w v hopen => congrArg Host.Outcome.next (hostGuard_open hopen),
    fun s w key pre locked hpend => congrArg Host.Outcome.next ?_,
    fun s w => rfl,
    fun s w hopen => ⟨congrArg Host.Outcome.next (hostGuard_open hopen), congrArg Host.Outcome.next (hostGuard_open hopen)⟩,
    fun s => rfl,
    fun s l hrun => congrArg Host.Outcome.next ?_,
    fun s l => congrArg Host.Outcome.next ?_,
    fun s w v hopen => congrArg Host.Outcome.next (hostGuard_open hopen),
    fun s w hopen => congrArg Host.Outcome.next ((hostGuard_open hopen).trans ?_),
    fun s b source => rfl, fun s st source => rfl, fun s fails => congrArg Host.Outcome.next ?_,
    fun s w p hopen => congrArg Host.Outcome.next (hostGuard_open hopen),
    fun s k a b l hrelease => ?_,
    fun s b kind => ?_⟩
  · exact State.sessVerify_eq hpend
  · exact (if_neg (by rw [hrun]; exact Bool.false_ne_true)).trans (if_congr windowFails_iff rfl rfl)
  · exact if_congr Iff.rfl rfl (if_congr (Bool.not_eq_true' _).to_iff rfl (if_congr (Bool.not_eq_true' _).to_iff rfl rfl))
  · exact if_congr (Bool.not_eq_true' _).to_iff rfl rfl
  · exact if_congr (or_congr List.isEmpty_iff Iff.rfl) rfl rfl
  · intro u v x y z last z'
    refine congrArg Host.Outcome.next ?_
    have hz : s.beforeImage (k % 4) l = z := rfl
    have hlc : z.rook.lc = s.otpState := State.beforeImage_lc
    rw [State.resetRelease_eq hrelease, hz, State.takeImage, hlc]
    rfl
  · exact State.checkImage_eq

end Sys2Proof.Machine
end

section
/-! PROOFS of the family 18_register_pages.md: the SPI, UART, I²C and GPIO controllers (O42). -/

namespace Sys2Proof.Machine
open Sys2Proof

variable {s : State} {v : Word} {n op i : Nat} {rd : Bool}

/-! ### SPI (R379) -/

theorem spiWord_toNat (hop : op < 4) : (spiWord v op).toNat = bitSet (putField v.toNat 0 2 op) 31 := by
  have hv := v.isLt
  rw [spiWord, w32, BitVec.toNat_ofNat, Nat.mod_eq_of_lt]
  unfold bitSet bitOf putField
  simp only [beq_iff_eq]
  split <;> omega

theorem spiWord_go (hop : op < 4) : bitOf (spiWord v op).toNat 31 = true := by
  rw [spiWord_toNat hop, bitOf_bitSet_self]

theorem spiWord_op (hop : op < 4) : (spiWord v op).toNat % 4 = op := by
  rw [spiWord_toNat hop]
  unfold bitSet putField
  split <;> omega

theorem spiWord_cmd (hop : op < 4) : fieldOf (spiWord v op).toNat 16 8 = fieldOf v.toNat 16 8 := by
  rw [spiWord_toNat hop]
  unfold bitSet putField fieldOf
  split <;> omega

/-- A row's write of SPI_CMD starts its operation, or says why not. -/
theorem State.writeSpiCmd_go (hop : op < 4) : s.writeSpiCmd (spiWord v op) =
    if s.bit Reg.ROOK_BOOT_STAT 31 = false then s.err 0xE0000 2 (Reg.MISC_SPI_CMD - 0xE0000) Reg.MISC_SPI_CMD
    else if s.host.spi.isSome = true then s.setN Reg.MISC_SPI_STAT 2
    else if op ≠ 2 ∧ (s.fld Reg.MISC_SPI_LEN 0 9 = 0 ∨ 256 < s.fld Reg.MISC_SPI_LEN 0 9) then s.setN Reg.MISC_SPI_STAT 3
    else { s with host := { s.host with spi := some (op, fieldOf v.toNat 16 8) } } := by
  rw [State.writeSpiCmd, State.spiOwned]
  cases s.bit Reg.ROOK_BOOT_STAT 31
  · rfl
  · simp only [spiWord_go hop, if_true, State.spiGo, spiWord_op hop, spiWord_cmd hop]
    rfl

theorem State.spiEnd_running {x st : Nat} {d : List Nat} (hrun : s.host.spi = some (op, x)) :
    let t := if st = 0 ∧ (op = 0 ∨ op = 3) then s.bufPut (Reg.MISC_SPI_BUF 0) (slice d 0 (s.fld Reg.MISC_SPI_LEN 0 9)) else s
    s.spiEnd st d = (({ t with host := { t.host with spi := none } } : State).setN Reg.MISC_SPI_STAT
      (if st = 0 then 0 else 0x0C)).irq 0xE0000 0 := by
  have hst : (if st = 0 then 0 else 0x0C) = 0 ↔ st = 0 := by
    split <;> simp_all
  unfold State.spiEnd
  simp only [hrun, hst]
  rfl

/-! ### UART (R379) -/

theorem State.uartArrive_eq {b : Nat} {framing : Bool} : s.uartArrive b framing =
    if s.bit Reg.MISC_UART_CFG 31 = false then s
    else if framing = true then { s with host := { s.host with uartFrm := true } }
    else if 16 ≤ s.host.uartRx.length then { s with host := { s.host with uartOvr := true } }
    else ({ s with host := { s.host with uartRx := s.host.uartRx ++ [b % 256] } } : State).irq 0xE0000 1 :=
  if_congr (Bool.not_eq_true' _).to_iff rfl rfl

theorem State.uartSent_on {b : Nat} {r : List Nat} (hon : s.bit Reg.MISC_UART_CFG 31 = true) (hq : s.host.uartTx = b :: r) :
    let t := { s with host := { s.host with uartTx := r } }
    s.uartSent = if r = [] then t.irq 0xE0000 2 else t := by
  unfold State.uartSent
  simp only [hq, State.uartOn, hon, if_true, List.isEmpty_iff]
  rfl

theorem State.uartSent_idle (h : s.bit Reg.MISC_UART_CFG 31 = false ∨ s.host.uartTx = []) : s.uartSent = s := by
  unfold State.uartSent
  split
  case h_1 b r hq =>
    refine if_neg ?_
    obtain hoff | hempty := h
    · rw [State.uartOn, hoff]; exact Bool.false_ne_true
    · rw [hempty] at hq; cases hq
  case h_2 => rfl

/-! ### I²C (R379) -/

/-- A row's write of I2C_CMD starts a transfer, or says why not. -/
theorem State.writeI2cCmd_go (hi : i < 2) : s.writeI2cCmd i (i2cWord v rd) =
    if s.bit (Reg.MISC_I2C_CFG i) 31 = false then s
    else if (s.i2c_ i).isSome = true then s.setFld (Reg.MISC_I2C_STAT i) 8 8 2
    else if v.toNat % 64 = 0 ∨ 32 < v.toNat % 64 then s.setFld (Reg.MISC_I2C_STAT i) 8 8 3
    else (s.setN (Reg.MISC_I2C_STAT i) 0).setI2c i (some (rd, fieldOf v.toNat 8 7, v.toNat % 64)) := by
  simp only [State.writeI2cCmd, i2cWord_go, i2cWord_read, i2cWord_len, i2cWord_addr]
  refine if_congr ?_ rfl rfl
  rw [Bool.not_true, Bool.not_eq_true']
  constructor
  · rintro (hbig | hgo | hoff)
    · omega
    · cases hgo
    · exact hoff
  · exact fun hoff => Or.inr (Or.inr hoff)

theorem State.i2cEnd_running {st len a : Nat} {d : List Nat} (hrun : s.i2c_ i = some (rd, a, len)) :
    let m := if st = 0 then len else min n len
    let t := if rd then s.bufPut (Reg.MISC_I2C_BUF i 0) (slice d 0 m) else s
    s.i2cEnd i st n d = ((t.setI2c i none).setN (Reg.MISC_I2C_STAT i) (m + (if st = 0 then 0
      else if st = 0x0A then 0x0A else 0x0C) * 256)).irq 0xE0000 (3 + i) := by
  have hst : (if st = 0 then 0 else if st = 0x0A then 0x0A else 0x0C) = 0 ↔ st = 0 := by
    split
    · simp_all
    · split <;> simp_all
  unfold State.i2cEnd
  simp only [hrun, hst]
  rfl

/-- Settles O42, row by row. -/
theorem miscControllersAct : Obligations.MiscControllersAct := by
  refine ⟨fun s w v hopen => ⟨congrArg Host.Outcome.next ((hostGuard_open hopen).trans (State.writeSpiCmd_go (by decide))),
      congrArg Host.Outcome.next ((hostGuard_open hopen).trans (State.writeSpiCmd_go (by decide))),
      congrArg Host.Outcome.next ((hostGuard_open hopen).trans (State.writeSpiCmd_go (by decide))),
      congrArg Host.Outcome.next ((hostGuard_open hopen).trans (State.writeSpiCmd_go (by decide)))⟩,
    fun s op x st data hrun => congrArg Host.Outcome.next (State.spiEnd_running hrun),
    fun s w v hopen => congrArg Host.Outcome.next (hostGuard_open hopen),
    fun s w hopen => congrArg Host.Outcome.next (hostGuard_open hopen),
    fun s b framing => congrArg Host.Outcome.next State.uartArrive_eq,
    fun s b r hon hq => congrArg Host.Outcome.next (State.uartSent_on hon hq),
    fun s h => congrArg Host.Outcome.next (State.uartSent_idle h),
    fun s w i v hi hopen => ⟨congrArg Host.Outcome.next ((if_pos hi).trans ((hostGuard_open hopen).trans (State.writeI2cCmd_go hi))),
      congrArg Host.Outcome.next ((if_pos hi).trans ((hostGuard_open hopen).trans (State.writeI2cCmd_go hi)))⟩,
    fun s i st n len a rd data hrun => congrArg Host.Outcome.next (State.i2cEnd_running hrun),
    fun s a l => rfl, fun s levels => rfl, fun s => rfl⟩

end Sys2Proof.Machine
end

section
/-! PROOFS of the family 17_host_startup.md: host DMA, interrupt vectors and configuration space (O40), resets, power and
temperature (O41). -/

namespace Sys2Proof.Machine
open Sys2Proof

variable {s : State} {k st n m v : Nat} {bad : List (Nat × Nat)}

/-! ### Host DMA (R357 to R359) -/

theorem State.hostDma_idle (h : 8 ≤ k ∨ s.dmaActive k = false ∨ s.linkUp = false) : s.hostDma k st n bad = s := by
  refine if_pos ?_
  rw [Bool.not_eq_true', Bool.not_eq_true']
  exact h

theorem State.descBad_iff {d : HostDesc} : s.descBad d = true ↔ (d.host % 4 ≠ 0 ∨ d.dev % 4 ≠ 0 ∨ d.len % 4 ≠ 0 ∨ d.len = 0 ∨
    4194304 < d.len ∨ 3 < d.ctl ∨ s.devMapped d.dev d.len = false) := by
  simp only [State.descBad, Bool.or_eq_true, bne_iff_ne, beq_iff_eq, decide_eq_true_eq, Bool.not_eq_true', or_assoc]

theorem State.descEnd_eq {irq : Bool} :
    let t := s.ringWrite k (s.descAddr k + 24) [st, 1]
    let u := ((t.setN (Reg.HOST_HEAD k) ((t.rn (Reg.HOST_HEAD k) + 1) % t.hostRingN k)).add64 (Reg.HOST_BYTES_LO k) m).setFld
      (Reg.HOST_STAT k) 0 8 st
    let v := if irq = true ∨ st ≠ 0 then u.setFld (Reg.HOST_STAT k) 8 1 1 else u
    s.descEnd k st m irq = if st = 0 then v else v.bump (Reg.HOST_ERR_CNT k) := by
  have hcond : (irq || st != 0) = true ↔ irq = true ∨ st ≠ 0 := by rw [Bool.or_eq_true, bne_iff_ne]
  unfold State.descEnd
  simp only [hcond]

/-- The bytes of a descriptor go to host memory or to the device, poisoned completions as zeros. -/
def State.descMoved (s : State) (d : HostDesc) (m : Nat) (bad : List (Nat × Nat)) : State :=
  if bitOf d.ctl 0 then { s with hostMem := wrList s.hostMem d.host (s.cleanBytes d.dev m) }
  else s.wrDev d.dev (((rdList s.hostMem d.host m).zip (List.range (rdList s.hostMem d.host m).length)).map
    (fun e => if bad.any (fun b => decide (b.1 ≤ e.2 ∧ e.2 < b.1 + b.2)) then 0 else e.1))

/-- A line of the source or a completion was poisoned. -/
def State.descPoison (s : State) (d : HostDesc) (m : Nat) (bad : List (Nat × Nat)) : Bool :=
  if bitOf d.ctl 0 then s.poisoned d.dev m else bad.any (fun b => decide (b.1 < m) && decide (0 < b.2))

theorem State.descMove_eq {d : HostDesc} : s.descMove d m bad = (s.descMoved d m bad, s.descPoison d m bad) := by
  unfold State.descMove State.descMoved State.descPoison
  cases bitOf d.ctl 0 <;> rfl

/-- A descriptor whose far memory, if any, is there runs to its end. -/
def State.descRun (s : State) (k st n : Nat) (bad : List (Nat × Nat)) (d : HostDesc) : State :=
  let m := if st = 0x0A ∨ st = 0x0C then min n d.len else d.len
  let told := (if st = 0x0A then (s.descMoved d m bad).bump Reg.HOST_UR_CNT
    else if st = 0x0C then (s.descMoved d m bad).bump Reg.HOST_CPL_TO_CNT else s.descMoved d m bad).addN
      Reg.HOST_POISON_CNT bad.length
  told.descEnd k (if st = 0x0A ∨ st = 0x0C then st else if s.descPoison d m bad then 0x0E else 0) m (bitOf d.ctl 1)

theorem State.hostDma_active (hk : k < 8) (hact : s.dmaActive k = true) (hup : s.linkUp = true) :
    let d := HostDesc.ofBytes (s.ringRead k (s.descAddr k) 32)
    s.hostDma k st n bad =
      if s.descBad d = true then s.descEnd k 3 0 (bitOf d.ctl 1)
      else match (if inFar d.dev d.len then s.farStatus d.dev d.len else some 0) with
        | none => s
        | some 0 => s.descRun k st n bad d
        | some f => s.descEnd k f 0 (bitOf d.ctl 1) := by
  intro d
  have hgo : ¬ (7 < k ∨ (!s.dmaActive k) = true ∨ (!s.linkUp) = true) := by
    rw [hact, hup]
    simp only [Bool.not_true, Bool.false_eq_true, or_false]
    omega
  refine (if_neg hgo).trans (if_congr Iff.rfl rfl ?_)
  generalize (if inFar d.dev d.len then s.farStatus d.dev d.len else some 0) = f
  match f with
  | none => rfl
  | some (f + 1) => rfl
  | some 0 =>
    simp only [State.descMove_eq]
    by_cases hfail : st = 0x0A ∨ st = 0x0C
    · have hne : st ≠ 0 := by omega
      simp only [State.descRun, if_pos hfail, hne, if_false, ne_eq, not_false_eq_true, if_true]
      rfl
    · have hother : st ≠ 0x0A ∧ st ≠ 0x0C := not_or.1 hfail
      simp only [State.descRun, hother.1, hother.2, or_self, if_false, if_true]
      rfl

theorem State.cfgErr_host {b st a : Nat} :
    s.cfgErr hostPage (some b) st a = (s.err 0xC0000 st (a - 0xC0000) a).irq 0xC0000 b := by
  rw [hostPage]; rfl

theorem State.writeHostTail_eq {w : Word} : s.writeHostTail k w =
    if w.toNat % 4096 < s.hostRingN k then s.setN (Reg.HOST_TAIL k) (w.toNat % 4096)
    else (s.err 0xC0000 3 (Reg.HOST_TAIL k - 0xC0000) (Reg.HOST_TAIL k)).irq 0xC0000 1 := by
  rw [State.writeHostTail, ← State.cfgErr_host]
  by_cases hfit : w.toNat % 4096 < s.hostRingN k
  · rw [if_pos hfit]
    exact if_neg (Nat.not_le.2 hfit)
  · rw [if_neg hfit]
    exact if_pos (Nat.not_lt.1 hfit)

/-- A write of RING_CFG with EN = 1. -/
theorem State.writeRingCfg_en {c : Word} (hen : bitOf c.toNat 31 = true) :
    let bad := fun st a => (s.err 0xC0000 st (a - 0xC0000) a).irq 0xC0000 1
    s.writeRingCfg k c =
      if s.bit (Reg.HOST_RING_CFG k) 31 = true then bad 2 (Reg.HOST_RING_CFG k)
      else if 8 < fieldOf c.toNat 16 4 then bad 3 (Reg.HOST_RING_CFG k)
      else ((s.setReg (Reg.HOST_RING_CFG k) (c &&& 0xC00F0000#32)).setN (Reg.HOST_HEAD k) 0).setN (Reg.HOST_TAIL k) 0 := by
  simp only [State.writeRingCfg, hen, if_true, State.cfgErr_host]

theorem State.hostStat_eq : s.hostStat k = s.rn (Reg.HOST_STAT k) + (if s.dmaActive k then 2 ^ 31 else 0) := by
  rw [State.hostStat]
  cases s.dmaActive k <;> rfl

/-! ### Vectors (R355, R356) -/

theorem State.vecTry_eq :
    let t := { s with host := { s.host with fired := bitSet s.host.fired v } }
    s.vecTry v = (
      if 64 ≤ v ∨ bitOf s.host.fired v = true ∨ s.vecOn v = false ∨ s.holdoffOk v = false then s
      else if t.vecHeld v = true then { t with host := { t.host with pba := bitSet t.host.pba v } }
      else t.vecSend v) := by
  refine if_congr ?_ rfl rfl
  rw [Bool.not_eq_true', Bool.not_eq_true', Nat.lt_iff_add_one_le]

theorem State.vecOn_iff : s.vecOn v = true ↔
    ∃ k, k < 44 ∧ s.srcEn k = true ∧ s.fld (Reg.HOST_SRC_MAP k) 0 6 = v ∧ s.srcOn k = true := by
  simp only [State.vecOn, List.any_eq_true, List.mem_range, Bool.and_eq_true, beq_iff_eq, and_assoc]

theorem State.vecHeld_iff : s.vecHeld v = true ↔
    s.host.msixEn = false ∨ s.host.msixMask = true ∨ s.bit (Reg.HOST_MSIX_TABLE (4 * v + 3)) 0 = true := by
  rw [State.vecHeld, Bool.or_eq_true, Bool.or_eq_true, Bool.not_eq_true', or_assoc]

/-- Settles O40, row by row. -/
theorem hostDmaAndVectorsAct : Obligations.HostDmaAndVectorsAct := by
  refine ⟨fun s k st n bad hk hact hup => congrArg Host.Outcome.next (State.hostDma_active hk hact hup),
    fun s k st n bad h => congrArg Host.Outcome.next (State.hostDma_idle h),
    fun s d => State.descBad_iff, fun s k st m irq => State.descEnd_eq,
    fun s w k v hk => ⟨fun hopen => congrArg Host.Outcome.next ((if_pos hk).trans ((hostGuard_open hopen).trans State.writeHostTail_eq)),
      fun hopen => congrArg Host.Outcome.next ((if_pos hk).trans ((hostGuard_open hopen).trans
        (State.writeRingCfg_en bitOf_en_set))),
      fun hopen => congrArg Host.Outcome.next ((if_pos hk).trans ((hostGuard_open hopen).trans ?_))⟩,
    fun s v dus => rfl, fun s v => State.vecTry_eq, fun s v => rfl, fun s v => ⟨State.vecOn_iff, State.vecHeld_iff⟩,
    fun s w v hopen => congrArg Host.Outcome.next (hostGuard_open hopen),
    fun s w a v en mask d3 => ⟨fun hopen => congrArg Host.Outcome.next (hostGuard_open hopen), rfl⟩,
    fun s gen width hlo hhi hw hw' => congrArg Host.Outcome.next (if_pos ⟨hlo, hhi, hw, hw'⟩)⟩
  rw [State.readHostStat, State.hostStat_eq]

/-! ### Resets, power and temperature (R362 to R371) -/

theorem State.resetRegs_reg {p : Nat → Bool} {a : Nat} (h : p a = true) : (s.resetRegs p).reg a = regReset a := by
  rw [State.resetRegs, State.reg, Tab.get_drop, if_pos h]

/-- Waking a page that is not off leaves the memories. -/
theorem State.wake_on {page : Nat} (hon : s.power page ≠ 3) : s.wake page = s.setFld (page + 0x0C) 4 2 0 := by
  have hoff : (s.fld (page + 0x0C) 4 2 == 3) = false := beq_eq_false_iff_ne.2 hon
  refine if_neg fun h => ?_
  rw [hoff] at h
  exact Bool.false_ne_true h.1

/-- The PWR_ALARM event: EVQ and the reading are those of after the cause is set. -/
theorem State.pwrEvent_eq {on : Bool} {i : Nat} :
    let u := s.irq 0xD0000 (if on then 0 else 1)
    s.pwrEvent on i = u.event (u.rn Reg.PWR_EVQ) 0x80 [0x60, b2n on, i, unsigned 32 (u.temp i)] := by
  intro u
  have hevq : u.rn Reg.PWR_EVQ = s.rn Reg.PWR_EVQ := State.rn_irq_ne (by decide)
  have htemp : u.temp i = s.temp i := congrArg (signed 9) (State.rn_irq_ne (by unfold Reg.PWR_TEMP; omega))
  rw [hevq, htemp]
  rfl

/-- The readings are stored. -/
def State.tempsStored (s : State) (l : List Int) : State :=
  ((List.range 8).zip l).foldl (fun s e => s.setN (Reg.PWR_TEMP e.1) (unsigned 9 e.2)) s

/-- The hottest sensor. -/
def State.hottest (s : State) : Nat := (List.range 8).foldl (fun b i => if s.temp b < s.temp i then i else b) 0

/-- The maximum and the peak are kept. -/
def State.peakKept (s : State) : State :=
  let x := s.setN Reg.PWR_TEMP_MAX (unsigned 9 (s.temp s.hottest))
  { x with host := { x.host with peak := some (match x.host.peak with
    | some p => max p (s.temp s.hottest)
    | none => s.temp s.hottest) } }

theorem State.tempSample_eq {l : List Int} :
    let t := s.tempsStored l
    let u := t.peakKept
    s.tempSample l =
      if u.host.alarm = false ∧ (u.fld Reg.PWR_PWR_CFG 16 8 : Int) ≤ t.temp t.hottest then
        ({ u with host := { u.host with alarm := true } } : State).pwrEvent true t.hottest
      else if u.host.alarm = true ∧ t.temp t.hottest < (u.fld Reg.PWR_PWR_CFG 16 8 : Int) - u.fld Reg.PWR_PWR_CFG 24 4 then
        ({ u with host := { u.host with alarm := false } } : State).pwrEvent false t.hottest
      else u := by
  intro t u
  refine if_congr ?_ rfl rfl
  rw [Bool.not_eq_true']
  rfl

/-- Settles O41, row by row. -/
theorem resetsPowerAndTemperatureAct : Obligations.ResetsPowerAndTemperatureAct := by
  refine ⟨fun s => rfl, fun s cause => ⟨rfl, rfl⟩,
    fun s w v hopen => congrArg Host.Outcome.next (hostGuard_open hopen),
    fun s => congrArg Host.Outcome.next ?_,
    fun s w hopen => congrArg Host.Outcome.next (hostGuard_open hopen),
    fun s w hopen => congrArg Host.Outcome.next (hostGuard_open hopen),
    fun s w hopen => congrArg Host.Outcome.next (hostGuard_open hopen),
    fun s w hopen => congrArg Host.Outcome.next (hostGuard_open hopen),
    fun s w hopen => congrArg Host.Outcome.next (hostGuard_open hopen),
    fun s p page a => ⟨State.resetRegs_reg, rfl⟩,
    fun s page st => rfl,
    fun s page => rfl,
    fun s page => State.wake_on,
    fun s l => ?_,
    fun s => rfl⟩
  · unfold State.hotReset State.sysEvent State.dmaOff State.each hostPage wrap32
    rfl
  · intro t hot m x u thr hyst on off
    exact congrArg Host.Outcome.next
      (State.tempSample_eq.trans (if_congr Iff.rfl State.pwrEvent_eq (if_congr Iff.rfl State.pwrEvent_eq rfl)))

end Sys2Proof.Machine
end

section
/-! PROOFS of the families 18_register_pages.md and 19_electrical.md: the state after reset (O49) and the output pins (O55). -/

namespace Sys2Proof.Machine
open Sys2Proof

variable {s : State} {a i j p : Nat}

/-! ### The state after reset -/

/-- The live and the staged protection table have the same reset values (R344). -/
theorem regReset_prot (hj : j < 128) : regReset (Reg.PROT_PROT_LIVE j) = regReset (Reg.PROT_PROT_STAGE j) := by
  have hlive : regResetN (Reg.PROT_PROT_LIVE j) = protWord ((Reg.PROT_PROT_LIVE j - 0x3400) / 4) :=
    (if_neg (by unfold Reg.PROT_PROT_LIVE; omega)).trans (if_pos (by unfold Reg.PROT_PROT_LIVE; omega))
  have hstage : regResetN (Reg.PROT_PROT_STAGE j) = protWord ((Reg.PROT_PROT_STAGE j - 0x3200) / 4) :=
    if_pos (by unfold Reg.PROT_PROT_STAGE; omega)
  have hidx : (Reg.PROT_PROT_LIVE j - 0x3400) / 4 = (Reg.PROT_PROT_STAGE j - 0x3200) / 4 := by
    unfold Reg.PROT_PROT_LIVE Reg.PROT_PROT_STAGE; omega
  rw [regReset, regReset, hlive, hstage, hidx]

/-- Settles O49: the state after reset lists nothing, so every read gives a reset value. -/
theorem resetHoldsTheSpecValues : Obligations.ResetHoldsTheSpecValues :=
  ⟨fun _ => rfl, rfl, rfl, fun _ => rfl, fun _ => rfl, fun _ => rfl, rfl, rfl, fun _ => rfl, fun _ => rfl, rfl,
    by decide +kernel, by decide +kernel, by decide +kernel, by decide +kernel, by decide +kernel, fun _ => regReset_prot,
    by decide +kernel, by decide +kernel, by decide +kernel, by decide +kernel, by decide +kernel, by decide +kernel,
    fun _ => ⟨rfl, rfl⟩⟩

/-! ### Output pins (R386) -/

theorem State.pinLocko_iff : s.pinLocko = true ↔ s.fld Reg.TIME_DPLL_STAT 0 2 = 2 := beq_iff_eq

theorem State.pinSpiRst_iff : s.pinSpiRst = true ↔ s.rook.otpRead = true ∧ s.rook.bootAt + 8 ≤ s.now := by
  rw [State.pinSpiRst, Bool.and_eq_true, decide_eq_true_eq]

theorem State.pinXperst_iff : s.pinXperst p = false ↔ s.cxlState (if s.bit Reg.CXL_CXL_CFG 0 then p else 0) = 0 := by
  rw [State.pinXperst, bne_eq_false_iff_eq]

theorem State.pinLdo_iff {l : Nat} : s.pinLdo l = false ↔ s.linkState l = 0 := by
  rw [State.pinLdo, bne_eq_false_iff_eq]

/-- A field read off the low 16 bits has the register's bits. -/
theorem bitOf_fld_low (hi : i < 16) : bitOf (s.fld a 0 16) i = s.bit a i := by
  rw [State.bit, State.fld, fieldOf, Nat.pow_zero, Nat.div_one, bitOf_eq_testBit, bitOf_eq_testBit, Nat.testBit_mod_two_pow,
    decide_eq_true hi, Bool.true_and]

theorem bitOf_and {x y : Nat} : bitOf (x &&& y) i = (bitOf x i && bitOf y i) := by
  rw [bitOf_eq_testBit, bitOf_eq_testBit, bitOf_eq_testBit, Nat.testBit_and]

theorem bitOf_xor_0xFFFF {x : Nat} (hi : i < 16) : bitOf (x ^^^ 0xFFFF) i = !bitOf x i := by
  have hones : (0xFFFF : Nat).testBit i = true := by
    rw [show (0xFFFF : Nat) = 2 ^ 16 - 1 from rfl, Nat.testBit_two_pow_sub_one, decide_eq_true hi]
  rw [bitOf_eq_testBit, bitOf_eq_testBit, Nat.testBit_xor, hones, Bool.xor_true]

/-- A pin has the level of GPIO_OUT where it is an output, and the board's where it is an input. -/
theorem State.pinGpio_eq (hi : i < 16) :
    s.pinGpio i = if s.bit Reg.MISC_GPIO_DIR i then s.bit Reg.MISC_GPIO_OUT i else bitOf s.host.gpioIn i := by
  have hor (x y : Nat) : bitOf (x ||| y) i = (bitOf x i || bitOf y i) := by
    rw [bitOf_eq_testBit, bitOf_eq_testBit, bitOf_eq_testBit, Nat.testBit_or]
  rw [State.pinGpio, State.gpioPins, hor, bitOf_and, bitOf_and, bitOf_xor_0xFFFF hi, bitOf_fld_low hi, bitOf_fld_low hi]
  cases s.bit Reg.MISC_GPIO_DIR i <;> simp

/-! ### Pins after a warm reset (R363) -/

/-- Disabling the DMA channels leaves the registers outside HOST. -/
theorem State.reg_dmaOff (hhost : a < 0xC0000) : s.dmaOff.reg a = s.reg a := by
  have hfold : ∀ (l : List Nat) (t : State),
      (l.foldl (fun s k => s.setFld (Reg.HOST_RING_CFG k) 31 1 0) t).reg a = t.reg a := by
    intro l
    induction l with
    | nil => exact fun t => rfl
    | cons k l ih =>
      intro t
      exact (ih _).trans (State.reg_setReg_ne (by unfold Reg.HOST_RING_CFG; omega))
  exact hfold _ s

/-- A warm reset returns the registers outside HOST and RST_CAUSE to their reset values. -/
theorem State.rn_warmReset {cause : Nat} (hcause : a ≠ Reg.TOP_RST_CAUSE) (hhost : a < 0xC0000) :
    (s.warmReset cause).rn a = State.reset.rn a := by
  have hdrop : warmKept a = false := by
    rw [warmKept, Bool.or_eq_false_iff, decide_eq_false_iff_not, beq_eq_false_iff_ne]
    exact ⟨by omega, hcause⟩
  refine congrArg BitVec.toNat ((State.reg_setReg_ne hcause).trans ((State.reg_dmaOff hhost).trans ?_))
  have hget : Tab.get regReset (Tab.drop (fun a => !warmKept a) s.regs) a = regReset a := by
    rw [Tab.get_drop, hdrop]; rfl
  exact hget

theorem State.pinLocko_warmReset : (s.warmReset 1).pinLocko = State.reset.pinLocko := by
  unfold State.pinLocko State.dpllState State.fld
  rw [State.rn_warmReset (by decide) (by decide)]

theorem State.pinBootdone_warmReset : (s.warmReset 1).pinBootdone = State.reset.pinBootdone := by
  unfold State.pinBootdone State.bit
  rw [State.rn_warmReset (by decide) (by decide)]

theorem State.pinXperst_warmReset (hp : p < 2) : (s.warmReset 1).pinXperst p = State.reset.pinXperst p := by
  have hport (q : Nat) (hq : q < 2) : (s.warmReset 1).cxlState q = State.reset.cxlState q := by
    unfold State.cxlState State.fld
    rw [State.rn_warmReset (by unfold Reg.CXL_PORT_STAT Reg.TOP_RST_CAUSE; omega) (by unfold Reg.CXL_PORT_STAT; omega)]
  have hmode : (s.warmReset 1).bit Reg.CXL_CXL_CFG 0 = State.reset.bit Reg.CXL_CXL_CFG 0 := by
    unfold State.bit
    rw [State.rn_warmReset (by decide) (by decide)]
  unfold State.pinXperst
  rw [hmode, hport _ (by split <;> omega)]

/-- The pins of a state in reset. -/
theorem State.pins_reset : State.reset.pinLocko = false ∧ State.reset.pinBootdone = false ∧ State.reset.pinXperst 0 = false ∧
    State.reset.pinXperst 1 = false := by decide +kernel

/-- Settles O55. -/
theorem outputPinsFollowTheState : Obligations.OutputPinsFollowTheState := by
  obtain ⟨hlocko, hboot, hperst0, hperst1⟩ := State.pins_reset
  refine ⟨⟨hlocko, rfl, hboot, rfl, hperst0, hperst1, rfl, rfl, by decide +kernel, by decide +kernel, by decide +kernel⟩,
    fun s => ⟨State.pinLocko_iff, rfl, State.pinSpiRst_iff, fun p hx8 => ?_, fun p hx8 => ?_, fun l => State.pinLdo_iff⟩,
    fun s i hi => ⟨fun hdir => ?_, fun hdir => ?_⟩,
    fun s => ⟨s.restart, s.warmReset 1, rfl, rfl, ?_⟩⟩
  · rw [State.pinXperst_iff, if_pos hx8]
  · rw [State.pinXperst_iff, hx8, if_neg Bool.false_ne_true]
  · rw [State.pinGpio_eq hi, if_pos hdir]
  · rw [State.pinGpio_eq hi, hdir, if_neg Bool.false_ne_true]
  · exact ⟨hlocko, rfl, hboot, hperst0, hperst1, State.pinLocko_warmReset.trans hlocko, rfl, State.pinBootdone_warmReset.trans hboot,
      (State.pinXperst_warmReset (by decide)).trans hperst0, (State.pinXperst_warmReset (by decide)).trans hperst1, rfl, rfl⟩

end Sys2Proof.Machine
end
